-- ==== Sys2Proof/Word.lean ====
section
/-!
DEFINITION. The word and byte types of the QM9640's registers, and the plainest arithmetic on them (R5, R6, R11).
-/

namespace Sys2Proof

/-- A register word: every register access is an aligned 32-bit access (R15). -/
abbrev Word := BitVec 32

/-- One byte of record space. -/
abbrev Byte := BitVec 8

/-- A saturating sum: the count fields that "saturate" stay at `2^w - 1`. -/
def satAdd (w a b : Nat) : Nat := min (a + b) (2 ^ w - 1)

/-- The value of a `w`-bit two's complement field (R6). -/
def toSigned (w n : Nat) : Int := if n % 2 ^ w < 2 ^ (w - 1) then (n % 2 ^ w : Nat) else (n % 2 ^ w : Nat) - (2 ^ w : Nat)

/-- The `w`-bit two's complement field of an integer (R6). -/
def ofSigned (w : Nat) (i : Int) : Nat := (i % (2 ^ w : Nat)).toNat

/-- A value held at the nearer of two limits. -/
def clampNat (lo hi v : Nat) : Nat := max lo (min hi v)

/-- A signed value held at the nearer of two limits. -/
def clampInt (lo hi v : Int) : Int := max lo (min hi v)

/-- The field of `w` bits of `n` whose least significant bit is `l`, written [l+w-1:l] in the manual (R6). -/
def bitField (n l w : Nat) : Nat := n / 2 ^ l % 2 ^ w

/-- Bit `i` of a number. -/
def bitAt (n i : Nat) : Bool := n.testBit i

/-- 1 for true, 0 for false: a flag as a one-bit field. -/
def Bool.bit (b : Bool) : Nat := if b then 1 else 0

/-- Round to nearest of `a / b` for a positive `b`, halves upward. -/
def roundDiv (a : Int) (b : Nat) : Int := (2 * a + b).fdiv (2 * b)

/-- Round to nearest of `a / b` for a positive `b`, halves away from zero. -/
def roundDivAway (a : Int) (b : Nat) : Int :=
  if a < 0 then - ((2 * (-a) + b).fdiv (2 * b)) else (2 * a + b).fdiv (2 * b)

end Sys2Proof
end

