-- ==== Sys2Proof/Types.lean ====
section
/-!
DEFINITION. The kinds of operand that commands carry: requesters, supplies, clock sources, images, frames and measured
results. Every quantity that comes from outside the model (a measured temperature, a firmware image's verdict, a frame's
contents) reaches the machine as an operand of one of these types.
-/

namespace Sys2Proof

/-- The three requesters of register accesses (R23). -/
inductive Requester where
  | host | foreman | smbus
  deriving DecidableEq, Repr

/-- The requester code of Table 17.4: 0 host, 1 Foreman, 2 SMBus. -/
def Requester.code : Requester → Nat
  | .host => 0
  | .foreman => 1
  | .smbus => 2

/-- The supplies, each with its monitor (R495, R496). -/
inductive Supply where
  | core | sram | ana | anaH | clk | sds | sdsH | hbm | hbmQ | hbmPp | io
  deriving DecidableEq, Repr

/-- The bit of a supply in the monitors' state. -/
def Supply.bit : Supply → Nat
  | .core => 0 | .sram => 1 | .ana => 2 | .anaH => 3 | .clk => 4 | .sds => 5 | .sdsH => 6 | .hbm => 7 | .hbmQ => 8
  | .hbmPp => 9 | .io => 10

/-- The three sources of the island reference in their order (R52). -/
inductive IslSource where
  | refIn | uplink | pcieRefclk
  deriving DecidableEq, Repr

/-- The ISLREF_SRC code of a source (Table 02.5). -/
def IslSource.code : IslSource → Nat
  | .refIn => 0
  | .uplink => 1
  | .pcieRefclk => 2

/-- A page error record's CODE and two details (Table 17.4). -/
structure ErrRecord where
  code : Nat
  detail0 : Nat
  detail1 : Nat
  injected : Bool
  deriving DecidableEq, Repr

/-- A firmware image as the ROM or FW_ACTIVATE finds it in a slot: the outcome of the checks of R452 that rest on the flash and on
cryptography, the header's key slot and SVN, and the digest of its bytes 0 to 127. -/
structure FwImage where
  /-- MAGIC, HDR_VERSION and every reserved field are as Table 19.5 gives. -/
  headerOk : Bool
  keySlot : BitVec 2
  /-- The key slot is programmed and its digest equals SHA-256 of PUBKEY. -/
  keyOk : Bool
  /-- SIG verifies. -/
  sigOk : Bool
  /-- The body has BODY_DIGEST. -/
  bodyOk : Bool
  svn : BitVec 6
  digest : List Word
  deriving DecidableEq, Repr

/-- The coefficients that a run of one slice found (R99, R105). -/
structure SliceCoeffs where
  offset : Int
  gain : Int
  trim : Int
  fir : List Int
  deriving DecidableEq, Repr

/-- The residuals of a slice after correction that a run's end finds (Table 04.3): offset in µV, gain in 0.1 ppm, skew in attoseconds. -/
structure QualityFigures where
  offsetResid : Int
  gainResid : Int
  skewResid : Int
  deriving DecidableEq, Repr

/-- A spill write that failed again on its reissue (R218): of a spill stream with the samples it carried, of the segment copy
in progress, or of a segment's Ledger copy. -/
inductive SpillError where
  | stream (ring : Fin 12) (count : Nat)
  | segment
  | ledger (seg : Nat)
  deriving DecidableEq, Repr

/-- A signed request (Table 19.2), with what its signature check says and the SHA-256 of its PAYLOAD. -/
structure LcRequest where
  kind : BitVec 8
  signer : BitVec 8
  uid : BitVec 64
  nonce : BitVec 64
  target : Word
  payload : List Word
  digest : List Word
  /-- The signature verifies against the key that SIGNER names, under a set of Table 19.4. -/
  sigOk : Bool
  /-- Power fails, or the Foreman restarts, after PREPARE: what then stands in the OTP entry, if it was being programmed (R449). -/
  cut : Option (Option (BitVec 8)) := none
  deriving DecidableEq, Repr

/-- What a command takes from outside when it starts: words read from host memory, or made by the device's random source, signer or
certificate store; a signed request; a firmware image. -/
structure HostData where
  words : List Word := []
  req : Option LcRequest := none
  image : Option FwImage := none
  deriving DecidableEq, Repr

/-- A byte lane's eyes in ps and their centres, as a sweep measures them (R333, R353). -/
structure LaneEye where
  rd : Nat
  wr : Nat
  rdCode : Nat
  wrCode : Nat
  deriving DecidableEq, Repr

/-- A page hint (R331). -/
inductive PageHint where
  | auto | opened | closed
  deriving DecidableEq, Repr

/-- Where an HBM request comes from (Tables 13.1 and 13.2): a source whose hint the tables do not fix carries it; a Till island and a
bench carry their numbers; rebuild traffic says whether it is within MEMS.REBUILD_RATE. -/
inductive HbmSource where
  | capture
  /-- A catch-up or targeted refresh. -/
  | refresh
  | replay
  | decimator
  | ledger
  | tillFeed (island : Nat)
  | spill
  /-- Another read for host delivery. -/
  | egress (hint : PageHint)
  /-- The erasure of a life-cycle transition. -/
  | erase (hint : PageHint)
  | rebuild (within : Bool)
  /-- LOAD_WIN, LOAD_REC or LOAD_AUX of a journeyman. -/
  | load (bench : Nat) (hint : PageHint)
  /-- Other traffic of a journeyman, scratch among it. -/
  | bench (bench : Nat)
  | tillExt (island : Nat)
  | bar6
  | recipe
  deriving DecidableEq, Repr

/-- A request in the scheduler of a pseudo-channel: its bank, row and 64-byte line there (R330). -/
structure HbmReq where
  source : HbmSource
  bank : Nat
  row : Nat
  line : Nat
  deriving DecidableEq, Repr

/-- The training result of one pseudo-channel (R333): whether its command training passed, its four byte lanes as swept first,
the spare lane's sweep in the place of each, and the lanes of a spare region trained in its place. -/
structure TrainResult where
  pc : Nat
  cmdOk : Bool
  lanes : List LaneEye
  spare : List LaneEye
  region : List LaneEye
  deriving DecidableEq, Repr

/-- What a MGMT frame says (R377, R381): its sender, whether that is a root, its hops to the root, that root, the other root it has
learnt of, HOPS_MAX and the horizon of the root; and of the devices below the sender: each with its hops below, the largest number
of hops between two of them, and whether any device has an alternate uplink. -/
structure MgmtFrame where
  devId : Nat
  root : Bool
  depth : Option Nat
  rootId : Nat
  otherRoot : Option Nat
  hopsMax : Nat
  horizon : Nat
  below : List (Nat × Nat)
  hops : Nat
  alternates : Bool
  deriving DecidableEq, Repr

/-- A frame's SEQ, and whether its CRC checks (R373, R374). -/
structure FrameCheck where
  seq : Nat
  crcOk : Bool
  deriving DecidableEq, Repr

/-- The four times of a SYNC exchange in 2^-16 nominal ticks (R378): the parent's departure, the child's arrival, the child's
departure, the parent's arrival. -/
structure SyncTimes where
  t1 : Nat
  t2 : Nat
  t3 : Nat
  t4 : Nat
  deriving DecidableEq, Repr

/-- A trigger message (Table 15.3). -/
structure TrigMessage where
  typ : BitVec 2
  origin : BitVec 10
  seqT : BitVec 12
  frac : BitVec 16
  tickLo : BitVec 24
  deriving DecidableEq, Repr

/-- What a DATA frame carries: a piece of a Till image with its header, from 32-bit word `first` on (R387); bytes of a copy as words,
`at` bytes from its start, with the destination and the length of the whole copy (R389); the destination's answer to either. -/
inductive DataPart where
  | image (part first : Nat) (words : List Nat)
  | imageRefused (part : Nat)
  | copy (dst len at_ : Nat) (words : List Nat)
  | copyDone (ok : Bool)
  deriving DecidableEq, Repr

/-- A DATA frame: source and destination device, content (R388). -/
structure DataFrame where
  src : Nat
  dst : Nat
  part : DataPart
  deriving DecidableEq, Repr

/-- The attributes that an occurrence of a counted event carries: privilege class; master (kind 1 queue, 2 journeyman, and its number);
record-space line (R465); of an instruction, its journeyman and operation index (R467). -/
structure TallyAttr where
  priv : Option Nat := none
  master : Option (Nat × Nat) := none
  line : Option Nat := none
  instr : Nat × Nat := (0, 0)
  deriving DecidableEq, Repr

/-- Occurrences of a counter's event since the last group tick (R462). -/
structure TallyEvent where
  counter : Fin 1536
  count : Nat
  attr : TallyAttr := {}
  deriving DecidableEq, Repr

/-- An urgent trigger's source (R396). -/
inductive UrgentSource where
  | main
  | trigIn (k : Fin 4)
  | alarm
  deriving DecidableEq, Repr
/-- What a margin plan measures for itself (R431): the shortest retention in each stack in µs, the narrowest eyes in ps of
pseudo-channels, and whether its copy is stored. -/
structure PlanData where
  tRet0 : Nat
  tRet1 : Nat
  eyes : List (Fin 64 × Nat)
  stored : Bool
  deriving DecidableEq, Repr

/-- An instruction that reaches Update-DR on the TAP (R444, R456). -/
inductive TapInstr where
  | bypass
  /-- An IEEE 1149.1 or 1149.6 boundary-scan instruction. -/
  | boundaryScan (ir : Nat)
  /-- A debug instruction, with its data register. -/
  | debug (ir dr : Nat)
  deriving DecidableEq, Repr

end Sys2Proof
end

