-- ==== Sys2Proof/Syntax.lean ====
section
/-!
DEFINITION. The commands of the QM9640: one constructor per row of the table of operations and events, with the operands
that the row needs. The docstring of each constructor gives the rule that the table names for it.
-/

namespace Sys2Proof

/-- A command (spec/opcode_table.json). -/
inductive Instr where
  /-- REGISTER_WRITE (R11). -/
  | registerWrite (who : Requester) (off : Nat) (be : BitVec 4) (val : Word)
  /-- RC_READ (R12). -/
  | rcRead (who : Requester) (off : Nat) (inc : Nat)
  /-- MULTIWORD_W0_READ (R18). -/
  | multiwordW0Read (who : Requester) (off : Nat)
  /-- STAGED_HIGH_WORD_WRITE (R21). -/
  | stagedHighWordWrite (who : Requester) (off : Nat) (val : Word)
  /-- MULTIWORD_W0_WRITE (R21). -/
  | multiwordW0Write (who : Requester) (off : Nat) (val : Word)
  /-- EVENT_CLEAR (R410). -/
  | eventClear (who : Requester) (page : Fin 128) (val : Word) (hw : Word) (injected : Bool)
  /-- ERR_LOG_READ (R414). -/
  | errLogRead (who : Requester) (page : Fin 128) (same : Option ErrRecord)
  /-- SOFT_RESET (R472). -/
  | softReset (who : Requester) (page : Fin 128)
  /-- COLD_RESET (R13). -/
  | coldReset
  /-- SUPPLY_MONITOR_BAD (R496). -/
  | supplyMonitorBad (rail : Supply)
  /-- SUPPLY_MONITOR_GOOD (R496). -/
  | supplyMonitorGood (rail : Supply)
  /-- PWR_OK_FALL (R496). -/
  | pwrOkFall
  /-- PERST_N_ASSERT (R362). -/
  | perstNAssert
  /-- PERST_N_DEASSERT (R359). -/
  | perstNDeassert
  /-- FUNCTION_LEVEL_RESET (R362). -/
  | functionLevelReset
  /-- CONFIG_SPACE_READY (R359). -/
  | configSpaceReady
  /-- WATCHDOG (R417). -/
  | watchdog (atMs : Nat)
  /-- LOCKSTEP (R417). -/
  | lockstep (atMs : Nat)
  /-- FIRMWARE_IMAGE_READ_DONE (R452). -/
  | firmwareImageReadDone (img : FwImage)
  /-- HANDSHAKE_TRANSFER (R27). -/
  | handshakeTransfer (ch : Nat) (seq : Bool) (payload : Nat) (acked : Bool)
  /-- HANDSHAKE_TIMEOUT (R28). -/
  | handshakeTimeout (ch : Nat) (page : Fin 128)
  /-- CLKS_LOST (R2). -/
  | clksLost
  /-- CLKS_RANGE (R2). -/
  | clksRange
  /-- CLKS_RETURN (R66). -/
  | clksReturn (gap : Nat) (phase : Int)
  /-- DLL_BAND_SEARCH (R45). -/
  | dllBandSearch (g : Fin 4)
  /-- DLL_BAND_TRIAL_END (R45). -/
  | dllBandTrialEnd (g : Fin 4) (found : Bool)
  /-- DLL_LOCK (R45). -/
  | dllLock (g : Fin 4) (fine : BitVec 16)
  /-- DLL_UNLOCK (R48). -/
  | dllUnlock (g : Fin 4)
  /-- DLL_HANDOVER (R47). -/
  | dllHandover (g : Fin 4) (up : Bool)
  /-- DLL_LOCK_TIMEOUT (R49). -/
  | dllLockTimeout (g : Fin 4)
  /-- DLL_RETRY_TIMER (R49). -/
  | dllRetryTimer (g : Fin 4)
  /-- RELOCK (R49). -/
  | relock (who : Requester)
  /-- RESEED (R50). -/
  | reseed (who : Requester)
  /-- ISL_PLL_LOCK (R26). -/
  | islPllLock (island : Fin 44)
  /-- ISL_CLK_FALLBACK (R53). -/
  | islClkFallback (island : Fin 44)
  /-- ISL_PLL_RETRY (R53). -/
  | islPllRetry (island : Fin 44)
  /-- ISLREF_LOST (R52). -/
  | islrefLost (src : IslSource)
  /-- ISLREF_SOURCE_VALID (R52). -/
  | islrefSourceValid (src : IslSource)
  /-- ISLREF_RESUME (R52). -/
  | islrefResume
  /-- FREQ_GATE_END (R55). -/
  | freqGateEnd (khz : Nat)
  /-- DISCIPLINE_SOURCE_VALID (R61), with the rate found as an INC and the phase error. -/
  | disciplineSourceValid (inRange : Bool) (found : Nat × Int)
  /-- REF_LOST (R62). -/
  | refLost
  /-- REF_RETURN (R63). -/
  | refReturn (phaseErr : Int)
  /-- SLEW_DONE (R63). -/
  | slewDone
  /-- PPS_ARM (R64). -/
  | ppsArm (who : Requester)
  /-- PPS_IN_EDGE (R64). -/
  | ppsInEdge
  /-- PPS_MISSING (R64). -/
  | ppsMissing
  /-- SET_COMMIT (R68). -/
  | setCommit (who : Requester)
  /-- NOMINAL_FREQ_WRITE (R66). -/
  | nominalFreqWrite (who : Requester) (val : Word)
  /-- MODE_WRITE (R72). -/
  | modeWrite (who : Requester) (val : Word)
  /-- MODE_READY (R72). -/
  | modeReady
  /-- PATH_DELAY_WRITE (R74). -/
  | pathDelayWrite (who : Requester) (x : Fin 4) (val : Word)
  /-- WEFT_EMIT (R86). -/
  | weftEmit (raw : List (BitVec 12))
  /-- RETIRE (R78). -/
  | retire (who : Requester) (slice : BitVec 8)
  /-- SUBSTITUTION_BOUNDARY (R77). -/
  | substitutionBoundary (g : Fin 4)
  /-- SLICE_FAIL (R79). -/
  | sliceFail (slice : Fin 136)
  /-- SPARE_SETTLED (R80). -/
  | spareSettled (g : Fin 4) (pos : Fin 32)
  /-- IDLE_SPARE_FAIL (R512). -/
  | idleSpareFail (slice : Fin 136)
  /-- QUIET_CHECK_START (R91). -/
  | quietCheckStart (who : Requester) (x : Fin 4)
  /-- QUIET_DONE (R90). -/
  | quietDone (x : Fin 4)
  /-- SLICE_TEMP_SAMPLE (R97). -/
  | sliceTempSample (temps : List Int)
  /-- ASSAY_RUN_START (R99). -/
  | assayRunStart (g : Fin 4)
  /-- DC_PHASE_END (R99), with the mean codes at the four DAC levels below 0 and at the five from 0 up. -/
  | dcPhaseEnd (g : Fin 4) (below above : List Int)
  /-- LIVE_PHASE_END (R100), with the estimated standard error of the skew and the trim that removes it. -/
  | livePhaseEnd (g : Fin 4) (skew : Nat × Int) (fir : List Int) (neighbours : Option (Int × Int))
  /-- ASSAY_RUN_RETURN (R99). -/
  | assayRunReturn (g : Fin 4) (fig : QualityFigures)
  /-- RUN_ABANDONED (R102). -/
  | runAbandoned (g : Fin 4)
  /-- LIVE_PHASE_RESTART (R102). -/
  | livePhaseRestart (g : Fin 4)
  /-- DLL_TAP_MEASURE (R103). -/
  | dllTapMeasure (g : Fin 4) (trims : List Int) (bandMap : List Nat)
  /-- VERN_CAL_WINDOW_END (R104). -/
  | vernCalWindowEnd (u : Fin 64) (periodA : Nat) (periodB : Nat) (err : Int)
  /-- VERN_STALE (R104). -/
  | vernStale (u : Fin 64)
  /-- FG_START (R105). -/
  | fgStart (who : Requester) (groups : BitVec 4)
  /-- FG_SLICE_DONE (R105). -/
  | fgSliceDone (g : Fin 4) (coeffs : SliceCoeffs) (fig : QualityFigures)
  /-- QUIET_RETRY_TIMER (R107). -/
  | quietRetryTimer
  /-- CANCEL (R107). -/
  | cancel (who : Requester)
  /-- COMMIT_NOW (R113). -/
  | commitNow (who : Requester)
  /-- BANK_COMMIT_START (R112). -/
  | bankCommitStart
  /-- MRAM_BLOCK_WRITE_DONE (R112). -/
  | mramBlockWriteDone
  /-- MRAM_RETRY (R115). -/
  | mramRetry
  /-- COMPARATOR_EDGE (R123). -/
  | comparatorEdge (x : Fin 4) (rising : Bool) (tu : Fin 128)
  /-- TRIG_IN_EDGE (R125). -/
  | trigInEdge (k : Fin 4) (rising : Bool) (tu : Fin 128)
  /-- VERNIER_CONVERSION_DONE (R158). -/
  | vernierConversionDone (u : Fin 64) (code : Nat)
  /-- CONV_TIMEOUT (R162). -/
  | convTimeout (u : Fin 64)
  /-- LEVEL_CHANGE_APPLY (R124). -/
  | levelChangeApply (src : Fin 8) (input : Option Bool)
  /-- COND_CFG_WRITE (R135). -/
  | condCfgWrite (who : Requester) (n : Fin 16) (val : Word)
  /-- AUTO_LEVEL_WINDOW_END (R139). -/
  | autoLevelWindowEnd (tgt : Fin 20)
  /-- AUTO_EN_WRITE (R141). -/
  | autoEnWrite (who : Requester) (tgt : Fin 20) (val : Word)
  /-- STATE_TIMEOUT (R146). -/
  | stateTimeout
  /-- BUCKET_REFILL (R150). -/
  | bucketRefill
  /-- TSEQ_RESTART (R174). -/
  | tseqRestart (who : Requester)
  /-- QUAL_EXPIRED (R167). -/
  | qualExpired (seg : Nat)
  /-- TRIG_OUT_PULSE (R171). -/
  | trigOutPulse (n : Fin 2)
  /-- TRIG_OUT_PULSE_END (R171). -/
  | trigOutPulseEnd (n : Fin 2)
  /-- TIC_ARM (R187). -/
  | ticArm (who : Requester) (mask : BitVec 8)
  /-- TIC_STOP (R187). -/
  | ticStop (who : Requester) (mask : BitVec 8)
  /-- TIC_EVENT_RECEIVED (R179). -/
  | ticEventReceived (n : Fin 8)
  /-- TIC_GATE_END (R186). -/
  | ticGateEnd (n : Fin 8)
  /-- TIC_NO_SIGNAL (R186). -/
  | ticNoSignal (n : Fin 8)
  /-- TIC_WINDOW_EXPIRY (R185). -/
  | ticWindowExpiry (n : Fin 8)
  /-- TIC_RESULT_READ (R189). -/
  | ticResultRead (who : Requester) (n : Fin 8)
  /-- CTRL_ARM (R199). -/
  | ctrlArm (who : Requester)
  /-- ARM_BOUNDARY (R36). -/
  | armBoundary
  /-- CTRL_STOP (R202). -/
  | ctrlStop (who : Requester)
  /-- STOP_BOUNDARY (R515). -/
  | stopBoundary
  /-- STOP_DONE (R202). -/
  | stopDone
  /-- CAPTURE_BLOCK_STORED (R198). -/
  | captureBlockStored (r : Fin 12)
  /-- LEDGER_ENTRY_WRITE (R208). -/
  | ledgerEntryWrite (seg : Nat)
  /-- LEDG_RELEASE (R211). -/
  | ledgRelease (who : Requester) (val : Word)
  /-- RELEASE_UPTO (R211). -/
  | releaseUpto (who : Requester) (val : Word)
  /-- AUTO_RELEASE (R212). -/
  | autoRelease (seg : Nat)
  /-- SEGMENT_SPILL_START (R221). -/
  | segmentSpillStart
  /-- SEGMENT_SPILL_DONE (R221). -/
  | segmentSpillDone
  /-- SPILL_STREAM_WRITE (R222). -/
  | spillStreamWrite (r : Fin 12) (count : Nat)
  /-- SPILL_ERR (R218). -/
  | spillErr (err : SpillError)
  /-- RING_CONFIG_WRITE (R201). -/
  | ringConfigWrite (who : Requester) (off : Nat) (val : Word)
  /-- CHAIN_CONFIG_WRITE (R227). -/
  | chainConfigWrite (who : Requester) (off : Nat) (val : Word)
  /-- PART_RUN_SET (R270). -/
  | partRunSet (who : Requester) (k : Fin 16) (val : Word)
  /-- PART_RUN_CLEAR (R271). -/
  | partRunClear (who : Requester) (k : Fin 16) (val : Word)
  /-- TILL_RECORD_READ (R253). -/
  | tillRecordRead (k : Fin 16) (count : Nat)
  /-- CLEAR (R265). -/
  | clear (who : Requester) (k : Fin 16)
  /-- CLEAR_DONE (R265). -/
  | clearDone (k : Fin 16)
  /-- SNAP (R267). -/
  | snap (who : Requester) (k : Fin 16) (clear : Bool)
  /-- DUMP_SWEEP_START (R266). -/
  | dumpSweepStart (k : Fin 16)
  /-- DUMP_DONE (R268). -/
  | dumpDone (k : Fin 16)
  /-- LOAD (R269). -/
  | load (who : Requester) (k : Fin 16) (slot : BitVec 8)
  /-- ABORT (R271). -/
  | abort (who : Requester) (k : Fin 16)
  /-- ECC_FIX (R272). -/
  | eccFix (island : Fin 4) (bank : Nat)
  /-- ECC_LOST (R272). -/
  | eccLost (k : Fin 16) (point : Nat)
  /-- TICKET (R311). -/
  | ticket (q : Nat) (entry : List Word)
  /-- TICKET_ADMIT (R280). -/
  | ticketAdmit
  /-- TICKET_DISPATCH (R299). -/
  | ticketDispatch
  /-- ATTEMPT_START (R293). -/
  | attemptStart (jm : Fin 512)
  /-- TICKET_STEAL (R300). -/
  | ticketSteal (jm : Fin 512)
  /-- COMMIT_REQUEST (R294). -/
  | commitRequest (jm : Fin 512) (ticket : Nat) (attempt : Nat)
  /-- TICKET_TIMEOUT (R290). -/
  | ticketTimeout (jm : Fin 512) (atMs : Nat)
  /-- ISL_RESET_DONE (R290). -/
  | islResetDone (b : Fin 32)
  /-- BENCH_HEARTBEAT (R292). -/
  | benchHeartbeat (b : Fin 32)
  /-- BENCH_ISOLATED (R292). -/
  | benchIsolated (b : Fin 32)
  /-- BENCH_SELF_TEST_DONE (R292). -/
  | benchSelfTestDone (b : Fin 32) (pass : Bool)
  /-- TICKET_COMMIT (R295). -/
  | ticketCommit (ticket : Nat)
  /-- RECIPE_VALIDATION_DONE (R286). -/
  | recipeValidationDone (slot : Fin 1024)
  /-- DOORBELL_WRITE (R309). -/
  | doorbellWrite (q : BitVec 16) (low : Option Word) (high : Option Word)
  /-- SUBMIT_CONSUME (R312). -/
  | submitConsume (q : BitVec 16) (entry : List Word) (data : HostData)
  /-- CREATE_QUEUE (R314). -/
  | createQueue (sq : BitVec 16) (entry : List Word)
  /-- DELETE_QUEUE (R315). -/
  | deleteQueue (sq : BitVec 16) (entry : List Word)
  /-- RESET_QUEUE (R314). -/
  | resetQueue (sq : BitVec 16) (entry : List Word)
  /-- ARM (R199). -/
  | arm (sq : BitVec 16) (entry : List Word)
  /-- STOP (R202). -/
  | stop (sq : BitVec 16) (entry : List Word)
  /-- RELEASE (R211). -/
  | release (sq : BitVec 16) (entry : List Word)
  /-- CALIBRATE (R108). -/
  | calibrate (sq : BitVec 16) (entry : List Word)
  /-- CAL_COMMIT (R113). -/
  | calCommit (sq : BitVec 16) (entry : List Word)
  /-- TABLE_LOAD (R487). -/
  | tableLoad (sq : BitVec 16) (entry : List Word) (image : List Word)
  /-- TABLE_LOAD_SECTIONS_DONE (R488). -/
  | tableLoadSectionsDone
  /-- RECIPE_LOAD (R285). -/
  | recipeLoad (sq : BitVec 16) (entry : List Word) (image : List Word)
  /-- GET_LOG (R416). -/
  | getLog (sq : BitVec 16) (entry : List Word)
  /-- RESYNC (R367). -/
  | resync (sq : BitVec 16) (entry : List Word)
  /-- COMPLETION_POST (R319). -/
  | completionPost
  /-- STREAM_RECORD_WRITE (R317). -/
  | streamRecordWrite (q : BitVec 16)
  /-- COALESCE_TIMER (R321). -/
  | coalesceTimer (q : BitVec 16)
  /-- ADMIN_ENABLE (R324). -/
  | adminEnable (who : Requester) (val : Word)
  /-- QUEUE_ERR (R325). -/
  | queueErr (q : BitVec 16)
  /-- CPL_TIMEOUT (R325). -/
  | cplTimeout (q : BitVec 16)
  /-- HBM_TRAINING_DONE (R333). -/
  | hbmTrainingDone (results : List TrainResult)
  /-- RATE_WRITE (R336). -/
  | rateWrite (who : Requester) (val : Word)
  /-- RETRAIN_START (R335). -/
  | retrainStart (pc : Fin 64)
  /-- RETRAIN_SWEEP_DONE (R335). -/
  | retrainSweepDone (pc : Fin 64) (eyes : List LaneEye)
  /-- RETRAIN_DONE (R335). -/
  | retrainDone (pc : Fin 64)
  /-- REFRESH_DUE (R340), with the requests that came since and how many were served. -/
  | refreshDue (pc : Fin 64) (bank : Fin 48) (traffic : List HbmReq × Nat)
  /-- TIER_CHANGE (R338). -/
  | tierChange (m : Fin 2) (temp : Int) (tj : Int) (parts : List (Nat × Nat))
  /-- ACT_WINDOW_END (R342), with how many requests each pseudo-channel serves as the throttled ones resume. -/
  | actWindowEnd (m : Fin 2) (resumed : List (Fin 64 × Nat))
  /-- HAMMER (R343). -/
  | hammer (pc : Fin 64) (reqs : List HbmReq) (served : Nat)
  /-- PD_ENTRY (R344). -/
  | pdEntry (pc : Fin 64)
  /-- PD_ADAPT_TICK (R344). -/
  | pdAdaptTick (m : Fin 2) (hits : Nat) (total : Nat)
  /-- HBM_ECC_CORRECTED (R345). -/
  | hbmEccCorrected (pc : Fin 64) (bank : Fin 48) (row : Nat)
  /-- PARITY_ALERT (R346). -/
  | parityAlert (pc : Fin 64)
  /-- HBM_TRANSACTION_TIMEOUT (R347). -/
  | hbmTransactionTimeout (pc : Fin 64) (again : Bool)
  /-- REBUILD_DONE (R349). -/
  | rebuildDone (m : Fin 2)
  /-- BAR6_READ (R358). -/
  | bar6Read (off : Nat) (len : Nat)
  /-- BAR6_WRITE (R358). -/
  | bar6Write (off : Nat) (bytes : List Byte)
  /-- LINK_DOWN (R364). -/
  | linkDown
  /-- LINK_UP (R366). -/
  | linkUp (speed : Fin 6) (width : Fin 32) (refclk : Fin 3)
  /-- BUS_MASTER_ENABLE (R366). -/
  | busMasterEnable (ptmEn : Bool)
  /-- DISCARD (R368). -/
  | discard (who : Requester)
  /-- PTM_TRIGGER (R360). -/
  | ptmTrigger (who : Requester)
  /-- PTM_DONE (R360). -/
  | ptmDone (ok : Bool) (hostNs : Nat) (devTs : Nat)
  /-- L1_ENTRY (R369). -/
  | l1Entry (d3hot : Bool)
  /-- MARGIN_SCAN_START (R370). -/
  | marginScanStart
  /-- MARGIN_DONE (R370). -/
  | marginDone (results : List (Fin 16 × Word))
  /-- HOST_MARGIN_COMMAND (R370). -/
  | hostMarginCommand (lane : Fin 16)
  /-- PORT_PRESENT (R390). -/
  | portPresent (n : Fin 4)
  /-- PORT_TRAINED (R390). -/
  | portTrained (n : Fin 4)
  /-- PORT_UP (R390). -/
  | portUp (n : Fin 4)
  /-- PORT_DOWN (R390). -/
  | portDown (n : Fin 4) (present : Bool)
  /-- MGMT_FRAME (R377). -/
  | mgmtFrame (n : Fin 4) (check : FrameCheck) (frame : MgmtFrame)
  /-- SYNC_SEND (R373). -/
  | syncSend (departs : List Nat)
  /-- SYNC_FRAME (R378). -/
  | syncFrame (n : Fin 4) (check : FrameCheck) (frame : SyncTimes)
  /-- FAILOVER (R379). -/
  | failover
  /-- PRIMARY_RETURN (R379). -/
  | primaryReturn
  /-- TRIG_FRAME (R385). -/
  | trigFrame (n : Fin 4) (check : FrameCheck) (frame : TrigMessage)
  /-- TRIG_FORWARD (R375). -/
  | trigForward
  /-- FRAME_ACK_TIMEOUT (R374). -/
  | frameAckTimeout (n : Fin 4) (cls : Nat) (seq : Nat)
  /-- DATA_FRAME (R388). -/
  | dataFrame (n : Fin 4) (check : FrameCheck) (frame : DataFrame)
  /-- MERGE_POINT (R386). -/
  | mergePoint
  /-- REMOTE_QUAL_EXPIRED (R385). -/
  | remoteQualExpired (origin : Nat) (seqT : Nat)
  /-- XACC_IMAGE (R387). -/
  | xaccImage (k : Fin 16) (src : Nat)
  /-- XFER_GO (R389). -/
  | xferGo (who : Requester) (val : Word)
  /-- XFER_DONE (R389). -/
  | xferDone (ok : Bool)
  /-- AUX_ENABLE (R397). -/
  | auxEnable (who : Requester) (c : Fin 4) (val : Word)
  /-- AUX_CONVERSION_DONE (R394). -/
  | auxConversionDone (c : Fin 4) (code : Nat)
  /-- REG_PERIOD_TIMER (R395). -/
  | regPeriodTimer (c : Fin 4)
  /-- URGENT_TRIGGER (R396). -/
  | urgentTrigger (src : UrgentSource)
  /-- AUX_CONV_TIMEOUT (R398). -/
  | auxConvTimeout (c : Fin 4)
  /-- RESULT_NUMBERED (R399). -/
  | resultNumbered
  /-- AUX_FLUSH_TIMER (R402). -/
  | auxFlushTimer
  /-- FILTER_ENABLE (R403). -/
  | filterEnable (who : Requester) (c : Fin 4) (val : Word)
  /-- FILTER_CONVERSION (R403). -/
  | filterConversion (c : Fin 4) (code : Int)
  /-- EVENT_INJECT (R421). -/
  | eventInject (who : Requester) (page : Fin 128) (val : Word) (atMs : Nat)
  /-- INJ_ARM (R426). -/
  | injArm (who : Requester)
  /-- INJ_DISARM (R426). -/
  | injDisarm (who : Requester)
  /-- ARM_WINDOW_EXPIRY (R426). -/
  | armWindowExpiry
  /-- LOG_COLLECT (R415). -/
  | logCollect (page : Fin 128)
  /-- AGEING_MEASURE (R428). -/
  | ageingMeasure (counts : List (Nat × Nat))
  /-- TREND_SUMMARY (R429). -/
  | trendSummary (values : List (Nat × Nat × Int))
  /-- RECOMPUTE (R430). -/
  | recompute (who : Requester)
  /-- PLAN_START (R430). -/
  | planStart
  /-- PLAN_DONE (R432). -/
  | planDone (plan : PlanData)
  /-- AVS_TRANSACTION (R433). -/
  | avsTransaction (sram : Bool) (cpm : Nat) (ma : Nat)
  /-- AVS_FAIL (R435). -/
  | avsFail (sram : Bool)
  /-- AVS_RETRY (R435). -/
  | avsRetry (ok : Bool)
  /-- THERMAL_READ (R437). -/
  | thermalRead (temps : List Int)
  /-- THROTTLE_STEP (R438). -/
  | throttleStep
  /-- THERMAL_TRIP (R440). -/
  | thermalTrip (sensor : Fin 12)
  /-- LC_STATUS (R455). -/
  | lcStatus (sq : BitVec 16) (entry : List Word)
  /-- LC_REQUEST (R447). -/
  | lcRequest (sq : BitVec 16) (entry : List Word) (req : LcRequest)
  /-- GET_NONCE (R446). -/
  | getNonce (sq : BitVec 16) (entry : List Word) (nonce : BitVec 64)
  /-- NONCE_EXPIRY (R446). -/
  | nonceExpiry
  /-- ATTEST (R459). -/
  | attest (sq : BitVec 16) (entry : List Word) (sig : List Word)
  /-- GET_CERT (R455). -/
  | getCert (sq : BitVec 16) (entry : List Word) (cert : List Word)
  /-- DEBUG_LOCK (R456). -/
  | debugLock (sq : BitVec 16) (entry : List Word)
  /-- TAP_LOCKED (R456). -/
  | tapLocked
  /-- FW_WRITE (R499). -/
  | fwWrite (sq : BitVec 16) (entry : List Word)
  /-- FW_ACTIVATE (R453). -/
  | fwActivate (sq : BitVec 16) (entry : List Word) (image : FwImage)
  /-- FW_COMMIT (R454). -/
  | fwCommit (sq : BitVec 16) (entry : List Word)
  /-- BOTTOM_TREE_READY (R458). -/
  | bottomTreeReady (tree : BitVec 15)
  /-- EXPERT_GATE_WRITE (R478). -/
  | expertGateWrite (who : Requester) (val : Word)
  /-- SMBUS_WRITE (R500). -/
  | smbusWrite (off : Nat) (val : Word)
  /-- SMBUS_READ (R500). -/
  | smbusRead (off : Nat)
  /-- SMBUS_ALERT_RESPONSE (R500). -/
  | smbusAlertResponse
  /-- GROUP_TICK (R466). -/
  | groupTick (counts : List TallyEvent)
  /-- TABLE_SEL_WRITE (R481). -/
  | tableSelWrite (who : Requester) (page : Fin 128) (val : Word)
  /-- TABLE_DATA_ACCESS (R481). -/
  | tableDataAccess (who : Requester) (page : Fin 128) (write : Option Word)
  /-- TABLE_APERTURE_ACCESS (R483). -/
  | tableApertureAccess (page : Fin 128) (w : Fin 8192) (write : Option Word)
  /-- SWAP (R484). -/
  | swap (who : Requester) (page : Fin 128)
  /-- SWAP_TAKE_EFFECT (R484). -/
  | swapTakeEffect (page : Fin 128)
  /-- CRC_CHECK (R485). -/
  | crcCheck (who : Requester) (page : Fin 128)
  /-- CRC_DONE (R485). -/
  | crcDone (page : Fin 128)
  /-- COPY (R482). -/
  | copy (who : Requester) (page : Fin 128)
  /-- UNCORRECTABLE_DATA_ERROR (R347). -/
  | uncorrectableDataError (pc : Fin 64) (line : Nat)
  /-- FRAME_ACKNOWLEDGED (R374). -/
  | frameAcknowledged (n : Fin 4) (cls : Nat) (seq : Nat)
  /-- TAP_INSTRUCTION (R444). -/
  | tapInstruction (ir : TapInstr)
  /-- LINK_SPEED_CHANGE (R371). -/
  | linkSpeedChange (speed : Fin 6) (width : Fin 32)
  deriving DecidableEq, Repr

end Sys2Proof
end

