-- ==== Sys2Proof/Decode.lean ====
section
/-!
DEFINITION. Reading a command from a word of the table of operations and events. No row of that table gives bits, so no
word spells a command.
-/

namespace Sys2Proof

/-- The command that a word spells by the table's bits: none, because the table gives no row any bits (log entry 1). -/
def decodeTableWord (_nbits _w : Nat) : Option Instr := none

end Sys2Proof
end

