-- ==== Sys2Proof/Machine/Crc.lean ====
section
/-!
DEFINITION. CRC-32C, which the EPOCH table, Ledger entries, dump headers, tables, images and logs carry
(R67, R207, R415, R485, R486). The manual names the code by its standard name only.
-/

namespace Sys2Proof.Machine

/-- One bit step of the reflected CRC-32C register (polynomial 0x1EDC_6F41, reflected 0x82F6_3B78). PRESUMED: the
parameters are those of the standard code the manual names (log entry 21). -/
def crcBit (c : Nat) : Nat := if c % 2 = 1 then (c / 2) ^^^ 0x82F63B78 else c / 2

/-- `n` bit steps. -/
def crcBits : Nat → Nat → Nat
  | 0, c => c
  | n + 1, c => crcBits n (crcBit c)

/-- Fold words into the register, each little-endian (R485). -/
def crcFold (c : Nat) : List Nat → Nat
  | [] => c
  | w :: ws => crcFold (crcBits 32 (c ^^^ w % 2 ^ 32)) ws

/-- CRC-32C of a list of words, each little-endian. -/
def crc32c (ws : List Nat) : Nat := crcFold 0xFFFFFFFF ws ^^^ 0xFFFFFFFF

/-- Fold bytes into the register. -/
def crcFoldBytes (c : Nat) : List Nat → Nat
  | [] => c
  | b :: bs => crcFoldBytes (crcBits 8 (c ^^^ b % 256)) bs

/-- CRC-32C of a list of bytes. -/
def crc32cBytes (bs : List Nat) : Nat := crcFoldBytes 0xFFFFFFFF bs ^^^ 0xFFFFFFFF

end Sys2Proof.Machine
end

