-- ==== Sys2Proof/Config.lean ====
section
/-!
DEFINITION. What one QM9640 fixes and the manual does not give (factory values, the part), and the values the manual leaves
open: opaque constants, so that no proof can use a value of theirs.
-/

namespace Sys2Proof.Config

/-- The part: false for a QM9640-AE, true for a QM9640-BE (Table 00.1). Safe: both are possible. -/
opaque partBE : Bool

/-- The factory value of a register field, by the field's bit address (Reset column "Factory"; log entry 3). -/
opaque factory : Nat → Nat

/-- The byte that a never-written or lost location of record space reads as, by address and use (R195 leaves it
undefined; log entry 4). -/
opaque undefinedByte : Nat → Nat → Byte

/-- A value the manual leaves open, by the number of the use (log entry 5). -/
opaque freeValue : Nat → Nat

/-- A word of the factory calibration bank FCAL (R111, R517; log entry 3). -/
opaque fcalWord : Nat → Nat

/-- A word of the factory interpolation kernels of the VERN page, by table and word (R164; log entry 3). -/
opaque kernelWord : Nat → Nat → Nat

/-- The word of the counter directory for a counter, other than the fixed counters of Table 20.3 (R462, R463; log entry 7). -/
opaque directory : Nat → Nat

/-- Which counter of the CLK group of the Tally, beside TICKS, counts band handovers (R47; R463 leaves it to the directory; log entry
7). -/
opaque handoverCounter : Nat

/-- What the second-order discipline loop makes of INC: from LOOP_BW, the phase error in fraction LSBs, the rate measured and INC itself
(R61 gives the loop's order and bandwidth, not its coefficients; log entry 39). -/
opaque loopInc : Nat → Int → Nat → Nat → Nat

/-- Words of the factory trim table of the auxiliary converters, and their number (R407; log entry 3). -/
opaque auxTrimWord : Nat → Nat
opaque auxTrimLen : Nat

end Sys2Proof.Config
end

