-- ==== Sys2Proof/Machine/KMap.lean ====
section
/-!
DEFINITION. A finite map from numbers to values, kept as a list in rising key order: the one container of the machine's
registers, tables and engine arrays. What a key that is not listed stands for is the reader's default.
-/

namespace Sys2Proof.Machine

/-- Key and value pairs, keys rising. -/
abbrev KMap (α : Type) := List (Nat × α)

/-- The value listed at a key, if any. -/
def KMap.find {α : Type} (m : KMap α) (k : Nat) : Option α :=
  match m with
  | [] => none
  | (a, b) :: t => if k = a then some b else KMap.find t k

/-- The value at a key, or the default of an unlisted key. -/
def KMap.at {α : Type} (m : KMap α) (dflt : α) (k : Nat) : α := (KMap.find m k).getD dflt

/-- List a value at a key, replacing the value already there. -/
def KMap.put {α : Type} (m : KMap α) (k : Nat) (v : α) : KMap α :=
  match m with
  | [] => [(k, v)]
  | (a, b) :: t => if k < a then (k, v) :: (a, b) :: t else if k = a then (k, v) :: t else (a, b) :: KMap.put t k v

/-- Unlist a key. -/
def KMap.del {α : Type} (m : KMap α) (k : Nat) : KMap α := m.filter fun p => p.1 != k

/-- The keys listed. -/
def KMap.keys {α : Type} (m : KMap α) : List Nat := m.map Prod.fst

end Sys2Proof.Machine
end

