-- ==== Sys2Proof/Machine/Field.lean ====
section
/-!
DEFINITION. What a register field is: its place in BAR0, its access code, its reset value and its level (R5 to R16, R471).
-/

namespace Sys2Proof.Machine

/-- The access codes of Table 00.3 (R11). -/
inductive Access where
  | rw | ro | w1c | w1s | wo | rc | rws | rwl
  deriving DecidableEq, Repr

/-- Basic or expert level (R16). -/
inductive Level where
  | b | e
  deriving DecidableEq, Repr

/-- What a field's Reset column gives. -/
inductive Reset where
  /-- One value for every instance. -/
  | val (n : Nat)
  /-- One value per part (QM9640-AE, QM9640-BE). -/
  | byPart (ae be : Nat)
  /-- A factory value: fixed per device, not given by the manual (log entry 3). -/
  | factory
  /-- SLICE.STATE_s.ROLE under R75. -/
  | sliceRole
  /-- SLICE.STATE_s.LOGICAL_POS: the physical index in the group. -/
  | slicePos
  /-- The instance's own number. -/
  | index
  /-- The page's TYPE of Table 21.2. -/
  | pageType
  /-- Page index minus TYPE. -/
  | pageInstance
  deriving DecidableEq, Repr

/-- One field of a register, or of an array of like registers. -/
structure Field where
  /-- BAR0 byte offset of the register of instance 0. -/
  base : Nat
  /-- Bytes from one instance to the next. -/
  stride : Nat
  /-- Instances; where `blk` is not 0, the number of blocks of instances. -/
  count : Nat
  /-- 0, or the instances in each block of an array that repeats (by page, or by counter group). -/
  blk : Nat
  /-- Least significant bit. -/
  lsb : Nat
  /-- Width in bits. -/
  width : Nat
  acc : Access
  reset : Reset
  level : Level
  deriving DecidableEq, Repr

/-- The number that names an instance of a field in the register file: its bit address in BAR0. -/
def Field.key (f : Field) (i : Nat) : Nat := (f.base + f.stride * i) * 32 + f.lsb

/-- The TYPE of each page index: the index of its page type's first instance (Table 21.2, R476). -/
def pageType (p : Nat) : Nat :=
  if 8 ≤ p ∧ p < 12 then 8
  else if 12 ≤ p ∧ p < 16 then 12
  else if 32 ≤ p ∧ p < 64 then 32
  else if p = 65 then 64
  else p

/-- ROLE of slice s at cold reset (R75): physical index 32 is the calibration spare (1), 33 the standby (3), others
active (0). -/
def sliceRoleReset (s : Nat) : Nat := if s % 34 = 32 then 1 else if s % 34 = 33 then 3 else 0

/-- The value an instance of a field has after cold reset. -/
def Field.rstAt (f : Field) (i : Nat) : Nat :=
  match f.reset with
  | .val n => n
  | .byPart a b => if Config.partBE then b else a
  | .factory => Config.factory (f.key i) % 2 ^ f.width
  | .sliceRole => sliceRoleReset i
  | .slicePos => i % 34 % 32
  | .index => i
  | .pageType => pageType i
  | .pageInstance => i - pageType i

/-- Instances in a row before the array skips to its next block. -/
def Field.period (f : Field) : Nat := if f.stride = 8 then 128 else 256

/-- Whether an instance number exists. -/
def Field.has (f : Field) (i : Nat) : Bool :=
  if f.blk = 0 then decide (i < f.count) else decide (i % f.period < f.blk) && decide (i / f.period < f.count)

/-- The instance whose register stands at a BAR0 offset, if any. -/
def Field.instAt (f : Field) (off : Nat) : Option Nat :=
  if off < f.base then none
  else if f.stride = 0 then (if off = f.base then some 0 else none)
  else if (off - f.base) % f.stride = 0 && f.has ((off - f.base) / f.stride) then some ((off - f.base) / f.stride)
  else none

end Sys2Proof.Machine
end

