-- ==== Sys2Proof/Machine/RegMap.lean ====
section
/-!
DEFINITION. The register fields of the QM9640: one definition per field, transcribed from the register tables of the
owning chapters (place, width, access code, reset value and level), and the EVENT bit numbers of every page. The comment
over each group names the rule that gives it.
-/

namespace Sys2Proof.Machine.Reg

open Sys2Proof.Machine (Field)


/-! Common header: chapter 21, R471. -/

def hdr_TYPE : Field := ⟨0x0, 0x1000, 78, 0, 0, 8, .ro, .pageType, .b⟩
def hdr_INSTANCE : Field := ⟨0x0, 0x1000, 78, 0, 8, 8, .ro, .pageInstance, .b⟩
def hdr_LAYOUT : Field := ⟨0x0, 0x1000, 78, 0, 16, 8, .ro, .val 1, .b⟩
def hdr_HAS_TABLES : Field := ⟨0x4, 0x1000, 78, 0, 0, 1, .ro, .val 0, .b⟩
def hdr_HAS_EXPERT : Field := ⟨0x4, 0x1000, 78, 0, 1, 1, .ro, .val 0, .b⟩
def hdr_HAS_INJECT : Field := ⟨0x4, 0x1000, 78, 0, 2, 1, .ro, .val 0, .b⟩
def hdr_TABLE_COUNT : Field := ⟨0x4, 0x1000, 78, 0, 4, 5, .ro, .val 0, .b⟩
def hdr_ENABLE : Field := ⟨0x8, 0x1000, 78, 0, 0, 1, .ro, .val 1, .b⟩
def hdr_SOFT_RESET : Field := ⟨0x8, 0x1000, 78, 0, 1, 1, .wo, .val 0, .b⟩
def hdr_EXPERT : Field := ⟨0x8, 0x1000, 78, 0, 2, 1, .rw, .val 0, .b⟩
def hdr_FREEZE : Field := ⟨0x8, 0x1000, 78, 0, 3, 1, .rw, .val 0, .b⟩
def hdr_READY : Field := ⟨0xC, 0x1000, 78, 0, 0, 1, .ro, .val 0, .b⟩
def hdr_BUSY : Field := ⟨0xC, 0x1000, 78, 0, 1, 1, .ro, .val 0, .b⟩
def hdr_DEGRADED : Field := ⟨0xC, 0x1000, 78, 0, 2, 1, .ro, .val 0, .b⟩
def hdr_FAULT_CONTAINED : Field := ⟨0xC, 0x1000, 78, 0, 3, 1, .ro, .val 0, .b⟩
def hdr_PSTATE : Field := ⟨0xC, 0x1000, 78, 0, 4, 4, .ro, .val 0, .b⟩

/-! Common header: chapter 17, R409. -/

def hdr_EVENT : Field := ⟨0x10, 0x1000, 78, 0, 0, 32, .w1c, .val 0, .b⟩
def hdr_EVENT_MASK : Field := ⟨0x14, 0x1000, 78, 0, 0, 32, .rw, .val 0xFFFFFFFF, .b⟩
def hdr_EVENT_INJECT : Field := ⟨0x18, 0x1000, 78, 0, 0, 32, .wo, .val 0, .b⟩

/-! Common header: chapter 17, R412. -/

def hdr_FIRST_BIT : Field := ⟨0x1C, 0x1000, 78, 0, 0, 5, .ro, .val 0, .b⟩
def hdr_FIRST_MULTI : Field := ⟨0x1C, 0x1000, 78, 0, 5, 1, .ro, .val 0, .b⟩
def hdr_FIRST_INJECTED : Field := ⟨0x1C, 0x1000, 78, 0, 6, 1, .ro, .val 0, .b⟩
def hdr_FIRST_VALID : Field := ⟨0x1C, 0x1000, 78, 0, 7, 1, .ro, .val 0, .b⟩

/-! Common header: chapter 17, R413. -/

def hdr_SCALE : Field := ⟨0x20, 0x1000, 78, 0, 0, 2, .rw, .val 0, .e⟩

/-! Common header: chapter 17, R412. -/

def hdr_TIMEOUT_COUNT : Field := ⟨0x24, 0x1000, 78, 0, 0, 32, .rc, .val 0, .b⟩
def hdr_RECOVERY_COUNT : Field := ⟨0x28, 0x1000, 78, 0, 0, 32, .rc, .val 0, .b⟩

/-! Common header: chapter 21, R471. -/

def hdr_CFG_EPOCH : Field := ⟨0x2C, 0x1000, 78, 0, 0, 32, .ro, .val 0, .b⟩

/-! Common header: chapter 17, R414. -/

def hdr_ERR_CODE : Field := ⟨0x30, 0x1000, 78, 0, 0, 8, .ro, .val 0, .b⟩
def hdr_ERR_INJECTED : Field := ⟨0x30, 0x1000, 78, 0, 8, 1, .ro, .val 0, .b⟩
def hdr_ERR_OVERWRITTEN : Field := ⟨0x30, 0x1000, 78, 0, 9, 1, .rc, .val 0, .b⟩
def hdr_ERR_VALID : Field := ⟨0x30, 0x1000, 78, 0, 10, 1, .rc, .val 0, .b⟩
def hdr_ERR_COUNT : Field := ⟨0x30, 0x1000, 78, 0, 16, 16, .rc, .val 0, .b⟩
def hdr_ERR_DETAIL0 : Field := ⟨0x34, 0x1000, 78, 0, 0, 32, .ro, .val 0, .b⟩
def hdr_ERR_DETAIL1 : Field := ⟨0x38, 0x1000, 78, 0, 0, 32, .ro, .val 0, .b⟩
def hdr_ERR_TIME : Field := ⟨0x3C, 0x1000, 78, 0, 0, 32, .ro, .val 0, .b⟩

/-! TOP: chapter 01, R33. -/

def top_ROM_DONE : Field := ⟨0x40, 0x0, 1, 0, 0, 1, .ro, .val 0, .b⟩

/-! TOP: chapter 21, R479. -/

def top_START_STATE : Field := ⟨0x40, 0x0, 1, 0, 0, 32, .ro, .val 0, .b⟩

/-! TOP: chapter 01, R33. -/

def top_FW_VALID : Field := ⟨0x40, 0x0, 1, 0, 1, 1, .ro, .val 0, .b⟩
def top_FW_IMAGE : Field := ⟨0x40, 0x0, 1, 0, 2, 1, .ro, .val 0, .b⟩
def top_ISL_PLL_LOCK : Field := ⟨0x40, 0x0, 1, 0, 3, 1, .ro, .val 0, .b⟩
def top_DLL_LOCK : Field := ⟨0x40, 0x0, 1, 0, 4, 1, .ro, .val 0, .b⟩
def top_HBM_TRAINED : Field := ⟨0x40, 0x0, 1, 0, 5, 1, .ro, .val 0, .b⟩
def top_CAL_LOADED : Field := ⟨0x40, 0x0, 1, 0, 6, 1, .ro, .val 0, .b⟩
def top_CAL_DONE : Field := ⟨0x40, 0x0, 1, 0, 7, 1, .ro, .val 0, .b⟩
def top_CAL_BACKGROUND_ONLY : Field := ⟨0x40, 0x0, 1, 0, 8, 1, .ro, .val 0, .b⟩
def top_CAL_BANK_SRC : Field := ⟨0x40, 0x0, 1, 0, 12, 2, .ro, .val 0, .b⟩
def top_READY : Field := ⟨0x40, 0x0, 1, 0, 16, 1, .ro, .val 0, .b⟩
def top_FAILED : Field := ⟨0x40, 0x0, 1, 0, 17, 1, .ro, .val 0, .b⟩
def top_FAIL_CAUSE : Field := ⟨0x40, 0x0, 1, 0, 20, 4, .ro, .val 0, .b⟩

/-! TOP: chapter 21, R479. -/

def top_PART : Field := ⟨0x44, 0x0, 1, 0, 0, 8, .ro, .factory, .b⟩
def top_STEPPING : Field := ⟨0x44, 0x0, 1, 0, 8, 8, .ro, .factory, .b⟩
def top_ROM_VERSION : Field := ⟨0x44, 0x0, 1, 0, 16, 16, .ro, .factory, .b⟩
def top_REQ : Field := ⟨0x48, 0x0, 1, 0, 0, 1, .wo, .val 0, .b⟩
def top_OPEN : Field := ⟨0x48, 0x0, 1, 0, 1, 1, .ro, .val 0, .b⟩
def top_OPENED_BY : Field := ⟨0x48, 0x0, 1, 0, 2, 2, .ro, .val 0, .b⟩
def top_KEY : Field := ⟨0x48, 0x0, 1, 0, 16, 16, .wo, .val 0, .b⟩
def top_FLR_STOPS_ACQ : Field := ⟨0x4C, 0x0, 1, 0, 0, 1, .rws, .val 0, .b⟩

/-! LIFE: chapter 19, R460. -/

def life_STATE : Field := ⟨0x1040, 0x0, 1, 0, 0, 4, .ro, .val 0, .b⟩
def life_ENTRIES_USED : Field := ⟨0x1040, 0x0, 1, 0, 4, 5, .ro, .val 0, .b⟩
def life_JOURNAL_BUSY : Field := ⟨0x1040, 0x0, 1, 0, 9, 1, .ro, .val 0, .b⟩
def life_ATT_READY : Field := ⟨0x1040, 0x0, 1, 0, 10, 1, .ro, .val 0, .b⟩
def life_ROM_RECOVERY : Field := ⟨0x1040, 0x0, 1, 0, 11, 1, .ro, .val 0, .b⟩
def life_POLICY : Field := ⟨0x1044, 0x0, 1, 0, 0, 3, .ro, .val 0, .b⟩
def life_TAP_OPEN : Field := ⟨0x1048, 0x0, 1, 0, 0, 1, .ro, .val 0, .b⟩
def life_MDIAG_OPEN : Field := ⟨0x1048, 0x0, 1, 0, 1, 1, .ro, .val 0, .b⟩
def life_RWL_OPEN : Field := ⟨0x1048, 0x0, 1, 0, 2, 1, .ro, .val 0, .b⟩
def life_EXPERT_PERMIT : Field := ⟨0x1048, 0x0, 1, 0, 3, 1, .ro, .val 0, .b⟩
def life_INJECT_PERMIT : Field := ⟨0x1048, 0x0, 1, 0, 4, 1, .ro, .val 0, .b⟩
def life_TAP_REMAIN : Field := ⟨0x104C, 0x0, 1, 0, 0, 12, .ro, .val 0, .b⟩
def life_UID_W0 : Field := ⟨0x1050, 0x0, 1, 0, 0, 32, .ro, .factory, .b⟩
def life_UID_W1 : Field := ⟨0x1054, 0x0, 1, 0, 0, 32, .ro, .factory, .b⟩
def life_OTP_SVN : Field := ⟨0x1058, 0x0, 1, 0, 0, 6, .ro, .val 0, .b⟩
def life_MRAM_SVN : Field := ⟨0x1058, 0x0, 1, 0, 8, 6, .ro, .val 0, .b⟩
def life_FW_SVN : Field := ⟨0x1058, 0x0, 1, 0, 16, 6, .ro, .val 0, .b⟩
def life_ATT_NEXT : Field := ⟨0x105C, 0x0, 1, 0, 0, 30, .ro, .val 0, .b⟩
def life_ATT_RESERVED : Field := ⟨0x1060, 0x0, 1, 0, 0, 31, .ro, .val 0, .b⟩
def life_BOOT_PREF : Field := ⟨0x1064, 0x0, 1, 0, 0, 1, .ro, .val 0, .b⟩
def life_FW_IMAGE : Field := ⟨0x1064, 0x0, 1, 0, 1, 1, .ro, .val 0, .b⟩
def life_KEY_REVOKED : Field := ⟨0x1064, 0x0, 1, 0, 2, 4, .ro, .val 0, .b⟩

/-! PWR: chapter 18, R442. -/

def pwr_VCORE_POL_MIN : Field := ⟨0x3040, 0x0, 1, 0, 0, 16, .rw, .val 700, .b⟩
def pwr_VCORE_POL_MAX : Field := ⟨0x3040, 0x0, 1, 0, 16, 16, .rw, .val 850, .b⟩
def pwr_VSRAM_POL_MIN : Field := ⟨0x3044, 0x0, 1, 0, 0, 16, .rw, .val 780, .b⟩
def pwr_VSRAM_POL_MAX : Field := ⟨0x3044, 0x0, 1, 0, 16, 16, .rw, .val 860, .b⟩
def pwr_VCORE_NOW : Field := ⟨0x3048, 0x0, 1, 0, 0, 16, .ro, .val 800, .b⟩
def pwr_VSRAM_NOW : Field := ⟨0x3048, 0x0, 1, 0, 16, 16, .ro, .val 800, .b⟩
def pwr_V_CPM_CORE : Field := ⟨0x304C, 0x0, 1, 0, 0, 16, .ro, .val 0, .b⟩
def pwr_V_CPM_SRAM : Field := ⟨0x304C, 0x0, 1, 0, 16, 16, .ro, .val 0, .b⟩
def pwr_OVERRIDDEN_CORE : Field := ⟨0x3050, 0x0, 1, 0, 0, 1, .ro, .val 0, .b⟩
def pwr_OVERRIDDEN_SRAM : Field := ⟨0x3050, 0x0, 1, 0, 1, 1, .ro, .val 0, .b⟩
def pwr_AVS_HOLD : Field := ⟨0x3050, 0x0, 1, 0, 2, 1, .ro, .val 0, .b⟩
def pwr_EXHAUSTED : Field := ⟨0x3050, 0x0, 1, 0, 3, 1, .ro, .val 0, .b⟩
def pwr_THROTTLE_TJ : Field := ⟨0x3054, 0x0, 1, 0, 0, 8, .rw, .val 125, .b⟩
def pwr_TJ_MAX : Field := ⟨0x3058, 0x0, 1, 0, 0, 16, .ro, .val 0, .b⟩
def pwr_STAGE : Field := ⟨0x3058, 0x0, 1, 0, 16, 2, .ro, .val 0, .b⟩
def pwr_TS_VALID : Field := ⟨0x3058, 0x0, 1, 0, 18, 12, .ro, .val 0xFFF, .b⟩
def pwr_JM_MHZ : Field := ⟨0x305C, 0x0, 1, 0, 0, 16, .ro, .val 1600, .b⟩
def pwr_TILL_MHZ : Field := ⟨0x305C, 0x0, 1, 0, 16, 16, .ro, .val 1600, .b⟩
def pwr_TEMP : Field := ⟨0x3060, 0x4, 12, 0, 0, 16, .ro, .val 0, .b⟩
def pwr_P_CORE : Field := ⟨0x3090, 0x0, 1, 0, 0, 16, .ro, .val 0, .b⟩
def pwr_P_SRAM : Field := ⟨0x3090, 0x0, 1, 0, 16, 16, .ro, .val 0, .b⟩
def pwr_LAST_TRIP : Field := ⟨0x3094, 0x0, 1, 0, 0, 1, .ro, .val 0, .b⟩
def pwr_TRIP_SENSOR : Field := ⟨0x3094, 0x0, 1, 0, 8, 4, .ro, .val 0, .b⟩

/-! AGE: chapter 18, R443. -/

def age_RECOMPUTE : Field := ⟨0x4040, 0x0, 1, 0, 0, 1, .wo, .val 0, .b⟩
def age_PLAN_PERIOD : Field := ⟨0x4040, 0x0, 1, 0, 8, 8, .rw, .val 24, .b⟩
def age_VALID : Field := ⟨0x4044, 0x0, 1, 0, 0, 1, .ro, .val 0, .b⟩
def age_DEFAULT : Field := ⟨0x4044, 0x0, 1, 0, 1, 1, .ro, .val 0, .b⟩
def age_COMPUTING : Field := ⟨0x4044, 0x0, 1, 0, 2, 1, .ro, .val 0, .b⟩
def age_PLAN_SEQ : Field := ⟨0x4044, 0x0, 1, 0, 16, 16, .ro, .val 0, .b⟩
def age_PROJECTED_YEARS : Field := ⟨0x4048, 0x0, 1, 0, 0, 16, .ro, .val 0, .b⟩
def age_LIMITER : Field := ⟨0x4048, 0x0, 1, 0, 16, 8, .ro, .val 0, .b⟩
def age_GUARD_CORE : Field := ⟨0x404C, 0x0, 1, 0, 0, 8, .ro, .val 40, .b⟩
def age_GUARD_SRAM : Field := ⟨0x404C, 0x0, 1, 0, 8, 8, .ro, .val 30, .b⟩
def age_REF_FLOOR_0 : Field := ⟨0x404C, 0x0, 1, 0, 16, 2, .ro, .val 0, .b⟩
def age_REF_FLOOR_1 : Field := ⟨0x404C, 0x0, 1, 0, 18, 2, .ro, .val 0, .b⟩
def age_RETRAIN_DAYS : Field := ⟨0x404C, 0x0, 1, 0, 24, 8, .ro, .val 30, .b⟩
def age_DEG_MAX_CORE : Field := ⟨0x4050, 0x0, 1, 0, 0, 16, .ro, .val 0, .b⟩
def age_DEG_MAX_SRAM : Field := ⟨0x4050, 0x0, 1, 0, 16, 16, .ro, .val 0, .b⟩
def age_HOURS : Field := ⟨0x4054, 0x0, 1, 0, 0, 32, .ro, .val 0, .b⟩
def age_WARN_YEARS : Field := ⟨0x4058, 0x0, 1, 0, 0, 16, .rw, .val 20, .b⟩
def age_RETIRE_HORIZON : Field := ⟨0x4400, 0x0, 1, 0, 0, 16, .rw, .val 90, .e⟩

/-! CLK: chapter 02, R57. -/

def clk_DLL_STATE : Field := ⟨0x5040, 0x0, 1, 0, 0, 8, .ro, .val 0, .b⟩
def clk_ALL_LOCKED : Field := ⟨0x5040, 0x0, 1, 0, 8, 1, .ro, .val 0, .b⟩
def clk_CLKS_PRESENT : Field := ⟨0x5040, 0x0, 1, 0, 9, 1, .ro, .val 0, .b⟩
def clk_CLKS_RANGE_ERR : Field := ⟨0x5040, 0x0, 1, 0, 10, 1, .ro, .val 0, .b⟩
def clk_STEADY : Field := ⟨0x5040, 0x0, 1, 0, 11, 1, .ro, .val 0, .b⟩
def clk_ISLREF_SRC : Field := ⟨0x5040, 0x0, 1, 0, 12, 2, .ro, .val 3, .b⟩
def clk_ISLREF_HOLDOVER : Field := ⟨0x5040, 0x0, 1, 0, 14, 1, .ro, .val 1, .b⟩
def clk_ISLREF_CLKS : Field := ⟨0x5040, 0x0, 1, 0, 15, 1, .ro, .val 0, .b⟩
def clk_DITHER_EN : Field := ⟨0x5044, 0x0, 1, 0, 0, 1, .rw, .val 1, .b⟩
def clk_RESEED : Field := ⟨0x5044, 0x0, 1, 0, 1, 1, .wo, .val 0, .b⟩
def clk_RELOCK : Field := ⟨0x5044, 0x0, 1, 0, 2, 1, .wo, .val 0, .b⟩
def clk_FINE : Field := ⟨0x5050, 0x4, 4, 0, 0, 16, .ro, .val 0, .b⟩
def clk_BAND : Field := ⟨0x5050, 0x4, 4, 0, 16, 3, .ro, .val 0, .b⟩
def clk_GOOD : Field := ⟨0x5050, 0x4, 4, 0, 19, 1, .ro, .val 0, .b⟩
def clk_KHZ : Field := ⟨0x5060, 0x0, 1, 0, 0, 32, .ro, .val 0, .b⟩

/-! CLK: chapter 02, R54. -/

def clk_ISL_LOCK_W0 : Field := ⟨0x5070, 0x0, 1, 0, 0, 32, .ro, .val 0, .b⟩
def clk_ISL_LOCK_W1 : Field := ⟨0x5074, 0x0, 1, 0, 0, 12, .ro, .val 0, .b⟩
def clk_ISL_FALLBACK_W0 : Field := ⟨0x5078, 0x0, 1, 0, 0, 32, .ro, .val 0xFFFFFFFF, .b⟩
def clk_ISL_FALLBACK_W1 : Field := ⟨0x507C, 0x0, 1, 0, 0, 12, .ro, .val 0xFFF, .b⟩

/-! CLK: chapter 02, R52. -/

def clk_FORCE : Field := ⟨0x5080, 0x0, 1, 0, 0, 2, .rw, .val 0, .b⟩

/-! CLK: chapter 02, R57. -/

def clk_DITHER_SEED : Field := ⟨0x5400, 0x0, 1, 0, 0, 32, .rw, .val 0x5A3C96E1, .e⟩

/-! TBASE: chapter 02, R68. -/

def tbase_REF_SEL : Field := ⟨0x6040, 0x0, 1, 0, 0, 2, .rw, .val 0, .b⟩
def tbase_PPS_ARM : Field := ⟨0x6040, 0x0, 1, 0, 2, 1, .w1s, .val 0, .b⟩
def tbase_SET_COMMIT : Field := ⟨0x6040, 0x0, 1, 0, 3, 1, .wo, .val 0, .e⟩
def tbase_REF_VALID : Field := ⟨0x6044, 0x0, 1, 0, 0, 1, .ro, .val 0, .b⟩
def tbase_COASTING : Field := ⟨0x6044, 0x0, 1, 0, 1, 1, .ro, .val 0, .b⟩
def tbase_SLEWING : Field := ⟨0x6044, 0x0, 1, 0, 2, 1, .ro, .val 0, .b⟩
def tbase_REF_MISMATCH : Field := ⟨0x6044, 0x0, 1, 0, 3, 1, .ro, .val 0, .b⟩
def tbase_EPOCH : Field := ⟨0x6044, 0x0, 1, 0, 16, 16, .ro, .val 0, .b⟩
def tbase_NOMINAL_FREQ : Field := ⟨0x6048, 0x0, 1, 0, 0, 32, .rw, .byPart 0x009C4000 0x007D0000, .b⟩
def tbase_NOW_W0 : Field := ⟨0x6050, 0x0, 1, 0, 0, 32, .ro, .val 0, .b⟩
def tbase_NOW_W1 : Field := ⟨0x6054, 0x0, 1, 0, 0, 32, .ro, .val 0, .b⟩
def tbase_NOW_W2 : Field := ⟨0x6058, 0x0, 1, 0, 0, 32, .ro, .val 0, .b⟩
def tbase_RATIO : Field := ⟨0x6060, 0x0, 1, 0, 0, 32, .ro, .val 0, .b⟩
def tbase_PHASE_ERR : Field := ⟨0x6064, 0x0, 1, 0, 0, 32, .ro, .val 0, .b⟩
def tbase_COAST_TIME : Field := ⟨0x6068, 0x0, 1, 0, 0, 32, .ro, .val 0, .b⟩
def tbase_PPS_LOAD_W0 : Field := ⟨0x6070, 0x0, 1, 0, 0, 32, .rw, .val 0, .b⟩
def tbase_PPS_LOAD_W1 : Field := ⟨0x6074, 0x0, 1, 0, 0, 32, .rw, .val 0, .b⟩
def tbase_PPS_STAMP_W0 : Field := ⟨0x6078, 0x0, 1, 0, 0, 32, .ro, .val 0, .b⟩
def tbase_PPS_STAMP_W1 : Field := ⟨0x607C, 0x0, 1, 0, 0, 32, .ro, .val 0, .b⟩
def tbase_PPS_STAMP_W2 : Field := ⟨0x6080, 0x0, 1, 0, 0, 32, .ro, .val 0, .b⟩
def tbase_LOOP_BW : Field := ⟨0x6400, 0x0, 1, 0, 0, 32, .rw, .val 10, .e⟩
def tbase_SET_W0 : Field := ⟨0x6410, 0x0, 1, 0, 0, 32, .rw, .val 0, .e⟩
def tbase_SET_W1 : Field := ⟨0x6414, 0x0, 1, 0, 0, 32, .rw, .val 0, .e⟩
def tbase_SET_W2 : Field := ⟨0x6418, 0x0, 1, 0, 0, 32, .rw, .val 0, .e⟩

/-! INJ: chapter 17, R427. -/

def inj_ARM : Field := ⟨0x7040, 0x0, 1, 0, 0, 1, .wo, .val 0, .b⟩
def inj_DISARM : Field := ⟨0x7040, 0x0, 1, 0, 1, 1, .wo, .val 0, .b⟩
def inj_FORCE : Field := ⟨0x7040, 0x0, 1, 0, 2, 1, .rw, .val 0, .e⟩
def inj_ARMED : Field := ⟨0x7044, 0x0, 1, 0, 0, 1, .ro, .val 0, .b⟩
def inj_ARM_WINDOW : Field := ⟨0x7048, 0x0, 1, 0, 0, 16, .rw, .val 600, .b⟩
def inj_ELEMENT : Field := ⟨0x704C, 0x0, 1, 0, 0, 16, .rw, .val 0, .b⟩
def inj_PAGE : Field := ⟨0x704C, 0x0, 1, 0, 16, 7, .rw, .val 0, .b⟩
def inj_INJECTIONS : Field := ⟨0x7050, 0x0, 1, 0, 0, 32, .rc, .val 0, .b⟩
def inj_REFUSED : Field := ⟨0x7054, 0x0, 1, 0, 0, 32, .rc, .val 0, .b⟩
def inj_LAST_PAGE : Field := ⟨0x7058, 0x0, 1, 0, 0, 7, .ro, .val 0, .b⟩
def inj_LAST_BIT : Field := ⟨0x7058, 0x0, 1, 0, 8, 5, .ro, .val 0, .b⟩
def inj_ON_DEGRADED : Field := ⟨0x7060, 0x0, 1, 0, 0, 1, .rw, .val 0, .b⟩
def inj_FORCE_FAULT : Field := ⟨0x7060, 0x0, 1, 0, 1, 1, .rw, .val 0, .b⟩
def inj_FAULT_PAGES_W0 : Field := ⟨0x7064, 0x0, 1, 0, 0, 32, .rw, .val 0xFFFFFFFF, .b⟩
def inj_FAULT_PAGES_W1 : Field := ⟨0x7068, 0x0, 1, 0, 0, 32, .rw, .val 0xFFFFFFFF, .b⟩
def inj_FAULT_PAGES_W2 : Field := ⟨0x706C, 0x0, 1, 0, 0, 32, .rw, .val 0xFFFFFFFF, .b⟩
def inj_FAULT_PAGES_W3 : Field := ⟨0x7070, 0x0, 1, 0, 0, 32, .rw, .val 0xFFFFFFFF, .b⟩

/-! FE: chapter 03, R92. -/

def fe_FS_TRIM : Field := ⟨0x8040, 0x1000, 4, 0, 0, 8, .rw, .val 0, .b⟩
def fe_BUF_FORCE_ON : Field := ⟨0x8040, 0x1000, 4, 0, 16, 1, .rw, .val 0, .e⟩
def fe_SAMPLED : Field := ⟨0x8044, 0x1000, 4, 0, 0, 1, .ro, .val 0, .b⟩
def fe_BUF_ON : Field := ⟨0x8044, 0x1000, 4, 0, 1, 1, .ro, .val 0, .b⟩
def fe_START : Field := ⟨0x8048, 0x1000, 4, 0, 0, 1, .wo, .val 0, .b⟩
def fe_BUSY : Field := ⟨0x8048, 0x1000, 4, 0, 1, 1, .ro, .val 0, .b⟩
def fe_VALID : Field := ⟨0x804C, 0x1000, 4, 0, 0, 1, .ro, .val 0, .b⟩
def fe_QUIET : Field := ⟨0x804C, 0x1000, 4, 0, 1, 1, .ro, .val 0, .b⟩
def fe_MEAN_OK : Field := ⟨0x804C, 0x1000, 4, 0, 2, 1, .ro, .val 0, .b⟩
def fe_NOISE_OK : Field := ⟨0x804C, 0x1000, 4, 0, 3, 1, .ro, .val 0, .b⟩
def fe_CLIPPED : Field := ⟨0x804C, 0x1000, 4, 0, 4, 1, .ro, .val 0, .b⟩
def fe_QUIET_MEAN : Field := ⟨0x8050, 0x1000, 4, 0, 0, 32, .ro, .val 0, .b⟩
def fe_QUIET_RMS : Field := ⟨0x8054, 0x1000, 4, 0, 0, 32, .ro, .val 0, .b⟩
def fe_PATH_DELAY : Field := ⟨0x8058, 0x1000, 4, 0, 0, 32, .rwl, .factory, .b⟩
def fe_MEAN_LIMIT : Field := ⟨0x8400, 0x1000, 4, 0, 0, 16, .rw, .val 5000, .e⟩
def fe_RMS_LIMIT : Field := ⟨0x8400, 0x1000, 4, 0, 16, 16, .rw, .val 2000, .e⟩

/-! LOOM: chapter 03, R93. -/

def loom_MODE : Field := ⟨0xC040, 0x1000, 4, 0, 0, 2, .rw, .val 0, .b⟩
def loom_FIR_BYPASS : Field := ⟨0xC040, 0x1000, 4, 0, 8, 1, .rw, .val 0, .e⟩
def loom_CORR_BYPASS : Field := ⟨0xC040, 0x1000, 4, 0, 9, 1, .rw, .val 0, .e⟩
def loom_MODE_READY : Field := ⟨0xC044, 0x1000, 4, 0, 0, 1, .ro, .val 0, .b⟩
def loom_SPARES_LEFT : Field := ⟨0xC044, 0x1000, 4, 0, 1, 2, .ro, .val 2, .b⟩
def loom_CAL_SPARE_BUSY : Field := ⟨0xC044, 0x1000, 4, 0, 3, 1, .ro, .val 0, .b⟩
def loom_CAL_SPARE_POS : Field := ⟨0xC044, 0x1000, 4, 0, 4, 5, .ro, .val 0, .b⟩
def loom_BORROW_STOPPED : Field := ⟨0xC044, 0x1000, 4, 0, 9, 1, .ro, .val 0, .b⟩
def loom_PATCH_ACTIVE : Field := ⟨0xC044, 0x1000, 4, 0, 10, 1, .ro, .val 0, .b⟩
def loom_PATCH_POS : Field := ⟨0xC044, 0x1000, 4, 0, 11, 5, .ro, .val 0, .b⟩
def loom_LATENCY : Field := ⟨0xC048, 0x1000, 4, 0, 0, 32, .ro, .val 48, .b⟩
def loom_PATCH_COUNT : Field := ⟨0xC04C, 0x1000, 4, 0, 0, 32, .rc, .val 0, .b⟩

/-! SLICE: chapter 03, R94. -/

def slice_PENDING : Field := ⟨0x10040, 0x0, 1, 0, 0, 1, .ro, .val 0, .b⟩
def slice_REFUSED : Field := ⟨0x10040, 0x0, 1, 0, 1, 1, .ro, .val 0, .b⟩
def slice_INDEX : Field := ⟨0x10040, 0x0, 1, 0, 8, 8, .ro, .val 0, .b⟩
def slice_ROLE : Field := ⟨0x10100, 0x4, 136, 0, 0, 3, .ro, .sliceRole, .b⟩
def slice_LOGICAL_POS : Field := ⟨0x10100, 0x4, 136, 0, 8, 5, .ro, .slicePos, .b⟩
def slice_TAP : Field := ⟨0x10100, 0x4, 136, 0, 16, 4, .ro, .val 0, .b⟩
def slice_CYCLE : Field := ⟨0x10100, 0x4, 136, 0, 20, 3, .ro, .val 0, .b⟩
def slice_RETIRE : Field := ⟨0x10400, 0x0, 1, 0, 0, 8, .wo, .val 0, .e⟩

/-! ASSAY: chapter 04, R117. -/

def assay_BLACKOUT : Field := ⟨0x11040, 0x0, 1, 0, 0, 4, .rw, .val 0, .b⟩
def assay_MANUAL : Field := ⟨0x11040, 0x0, 1, 0, 4, 4, .rw, .val 0, .e⟩
def assay_COMMIT_NOW : Field := ⟨0x11040, 0x0, 1, 0, 8, 1, .wo, .val 0, .b⟩
def assay_DELTA_T : Field := ⟨0x11044, 0x0, 1, 0, 0, 10, .rw, .val 150, .b⟩
def assay_MAX_INTERVAL : Field := ⟨0x11048, 0x0, 1, 0, 0, 32, .rw, .val 3600, .b⟩
def assay_COMMIT_MIN_GAP : Field := ⟨0x1104C, 0x0, 1, 0, 0, 16, .rw, .val 1000, .e⟩
def assay_GROUPS : Field := ⟨0x11050, 0x0, 1, 0, 0, 4, .rw, .val 0, .b⟩
def assay_START : Field := ⟨0x11050, 0x0, 1, 0, 4, 1, .wo, .val 0, .b⟩
def assay_CANCEL : Field := ⟨0x11050, 0x0, 1, 0, 5, 1, .wo, .val 0, .b⟩
def assay_PENDING : Field := ⟨0x11050, 0x0, 1, 0, 8, 4, .ro, .val 0, .b⟩
def assay_FG_BUSY : Field := ⟨0x11050, 0x0, 1, 0, 12, 4, .ro, .val 0, .b⟩
def assay_QUIET_RETRY : Field := ⟨0x11054, 0x0, 1, 0, 0, 16, .rw, .val 100, .b⟩
def assay_METHOD : Field := ⟨0x11060, 0x4, 4, 0, 0, 2, .ro, .val 0, .b⟩
def assay_RUN_ACTIVE : Field := ⟨0x11060, 0x4, 4, 0, 2, 1, .ro, .val 0, .b⟩
def assay_RUN_INDEX : Field := ⟨0x11060, 0x4, 4, 0, 3, 6, .ro, .val 0, .b⟩
def assay_WAIT_STEADY : Field := ⟨0x11060, 0x4, 4, 0, 9, 1, .ro, .val 0, .b⟩
def assay_OUT_OF_LIMIT : Field := ⟨0x11060, 0x4, 4, 0, 10, 1, .ro, .val 0, .b⟩
def assay_OVERRIDDEN : Field := ⟨0x11060, 0x4, 4, 0, 11, 1, .ro, .val 0, .b⟩
def assay_DUE_COUNT : Field := ⟨0x11060, 0x4, 4, 0, 16, 6, .ro, .val 0, .b⟩
def assay_BLACKOUT_HELD : Field := ⟨0x11060, 0x4, 4, 0, 22, 6, .ro, .val 0, .b⟩
def assay_SPUR : Field := ⟨0x11070, 0x4, 4, 0, 0, 16, .ro, .val 0, .b⟩
def assay_SKEW_RMS : Field := ⟨0x11070, 0x4, 4, 0, 16, 16, .ro, .val 0, .b⟩
def assay_VERN_RESID : Field := ⟨0x11080, 0x0, 1, 0, 0, 16, .ro, .val 0, .b⟩
def assay_STALE_ANY : Field := ⟨0x11080, 0x0, 1, 0, 16, 1, .ro, .val 0, .b⟩
def assay_CALB0_VALID : Field := ⟨0x11084, 0x0, 1, 0, 0, 1, .ro, .val 0, .b⟩
def assay_CALB1_VALID : Field := ⟨0x11084, 0x0, 1, 0, 1, 1, .ro, .val 0, .b⟩
def assay_FCAL_VALID : Field := ⟨0x11084, 0x0, 1, 0, 2, 1, .ro, .val 0, .b⟩
def assay_ACTIVE : Field := ⟨0x11084, 0x0, 1, 0, 3, 2, .ro, .val 0, .b⟩
def assay_COMMIT_BUSY : Field := ⟨0x11084, 0x0, 1, 0, 5, 1, .ro, .val 0, .b⟩
def assay_CALB0_FAILED : Field := ⟨0x11084, 0x0, 1, 0, 6, 1, .ro, .val 0, .b⟩
def assay_CALB1_FAILED : Field := ⟨0x11084, 0x0, 1, 0, 7, 1, .ro, .val 0, .b⟩
def assay_CALB0_SEQ : Field := ⟨0x11088, 0x0, 1, 0, 0, 32, .ro, .val 0, .b⟩
def assay_CALB1_SEQ : Field := ⟨0x1108C, 0x0, 1, 0, 0, 32, .ro, .val 0, .b⟩
def assay_SPUR_LIMIT : Field := ⟨0x11400, 0x0, 1, 0, 0, 16, .rw, .val 0xFD30, .e⟩
def assay_SKEW_LIMIT : Field := ⟨0x11400, 0x0, 1, 0, 16, 16, .rw, .val 50, .e⟩
def assay_OFFSET_LIMIT : Field := ⟨0x11404, 0x0, 1, 0, 0, 16, .rw, .val 100, .e⟩
def assay_GAIN_LIMIT : Field := ⟨0x11404, 0x0, 1, 0, 16, 16, .rw, .val 500, .e⟩
def assay_VERN_LIMIT : Field := ⟨0x11408, 0x0, 1, 0, 0, 16, .rw, .val 200, .e⟩
def assay_SPUR_REF_FREQ : Field := ⟨0x1140C, 0x0, 1, 0, 0, 32, .rw, .val 60000, .e⟩

/-! TRIG: chapter 05, R518. -/

def trig_AUTO_WIN : Field := ⟨0x12040, 0x0, 1, 0, 0, 5, .rw, .val 20, .b⟩
def trig_AUTO_DEADBAND : Field := ⟨0x12040, 0x0, 1, 0, 8, 8, .rw, .val 4, .b⟩
def trig_STATE : Field := ⟨0x12044, 0x0, 1, 0, 0, 8, .ro, .val 0, .b⟩
def trig_SRC_IDLE : Field := ⟨0x12044, 0x0, 1, 0, 16, 16, .ro, .val 0, .b⟩
def trig_MET_STICKY : Field := ⟨0x12048, 0x0, 1, 0, 0, 16, .w1c, .val 0, .b⟩
def trig_cmp_EN : Field := ⟨0x12050, 0x10, 4, 0, 0, 1, .rw, .val 0, .b⟩
def trig_cmp_SLOPE : Field := ⟨0x12050, 0x10, 4, 0, 1, 2, .rw, .val 2, .b⟩
def trig_cmp_HYST : Field := ⟨0x12050, 0x10, 4, 0, 3, 8, .rw, .val 0, .b⟩
def trig_cmp_THRESH : Field := ⟨0x12054, 0x10, 4, 0, 0, 12, .rw, .val 0, .b⟩

/-! TRIG: chapter 05, R142. -/

def trig_cmp_AUTO_EN : Field := ⟨0x12058, 0x10, 4, 0, 0, 1, .rw, .val 0, .b⟩
def trig_cmp_PCT : Field := ⟨0x12058, 0x10, 4, 0, 1, 7, .rw, .val 64, .b⟩
def trig_cmp_POL_LO : Field := ⟨0x12058, 0x10, 4, 0, 8, 12, .rw, .val 0x800, .b⟩
def trig_cmp_POL_HI : Field := ⟨0x12058, 0x10, 4, 0, 20, 12, .rw, .val 0x7FF, .b⟩
def trig_cmp_LEVEL_NOW : Field := ⟨0x1205C, 0x10, 4, 0, 0, 12, .ro, .val 0, .b⟩
def trig_cmp_AUTO_ACTIVE : Field := ⟨0x1205C, 0x10, 4, 0, 16, 1, .ro, .val 0, .b⟩
def trig_cmp_AUTO_NO_SWING : Field := ⟨0x1205C, 0x10, 4, 0, 17, 1, .ro, .val 0, .b⟩
def trig_cmp_AUTO_NO_SOURCE : Field := ⟨0x1205C, 0x10, 4, 0, 18, 1, .ro, .val 0, .b⟩
def trig_cmp_AUTO_OVERRIDDEN : Field := ⟨0x1205C, 0x10, 4, 0, 19, 1, .ro, .val 0, .b⟩
def trig_cmp_LVL_STATE : Field := ⟨0x1205C, 0x10, 4, 0, 20, 1, .ro, .val 0, .b⟩

/-! TRIG: chapter 05, R518. -/

def trig_tin_EN : Field := ⟨0x12090, 0x8, 4, 0, 0, 1, .rw, .val 0, .b⟩
def trig_tin_SLOPE : Field := ⟨0x12090, 0x8, 4, 0, 1, 2, .rw, .val 2, .b⟩
def trig_tin_HYST : Field := ⟨0x12090, 0x8, 4, 0, 3, 4, .rw, .val 0, .b⟩
def trig_tin_THRESH : Field := ⟨0x12090, 0x8, 4, 0, 8, 12, .rw, .val 0, .b⟩
def trig_tin_OUT : Field := ⟨0x12094, 0x8, 4, 0, 0, 1, .ro, .val 0, .b⟩

/-! TRIG: chapter 06, R175. -/

def trig_HOLDOFF_REJECT : Field := ⟨0x120E0, 0x0, 1, 0, 0, 32, .rc, .val 0, .b⟩
def trig_OVERLAP_REJECT : Field := ⟨0x120E4, 0x0, 1, 0, 0, 32, .rc, .val 0, .b⟩
def trig_RATE_REJECT : Field := ⟨0x120E8, 0x0, 1, 0, 0, 32, .rc, .val 0, .b⟩
def trig_PROV_REJECT : Field := ⟨0x120EC, 0x0, 1, 0, 0, 32, .rc, .val 0, .b⟩
def trig_SEL0 : Field := ⟨0x120F0, 0x0, 1, 0, 0, 2, .rw, .val 1, .b⟩
def trig_SEL1 : Field := ⟨0x120F0, 0x0, 1, 0, 2, 2, .rw, .val 0, .b⟩
def trig_POL0 : Field := ⟨0x120F0, 0x0, 1, 0, 4, 1, .rw, .val 0, .b⟩
def trig_POL1 : Field := ⟨0x120F0, 0x0, 1, 0, 5, 1, .rw, .val 0, .b⟩
def trig_WIDTH0 : Field := ⟨0x120F0, 0x0, 1, 0, 8, 8, .rw, .val 8, .b⟩
def trig_WIDTH1 : Field := ⟨0x120F0, 0x0, 1, 0, 16, 8, .rw, .val 8, .b⟩
def trig_OUT_DELAY : Field := ⟨0x120F4, 0x0, 1, 0, 0, 32, .ro, .val 112, .b⟩

/-! TRIG: chapter 05, R518. -/

def trig_cond_EN : Field := ⟨0x12100, 0x20, 16, 0, 0, 1, .rw, .val 0, .b⟩
def trig_cond_TYPE : Field := ⟨0x12100, 0x20, 16, 0, 1, 4, .rw, .val 0, .b⟩
def trig_cond_SRC : Field := ⟨0x12100, 0x20, 16, 0, 5, 4, .rw, .val 0, .b⟩
def trig_cond_SLOPE : Field := ⟨0x12100, 0x20, 16, 0, 9, 2, .rw, .val 0, .b⟩
def trig_cond_QUAL : Field := ⟨0x12100, 0x20, 16, 0, 11, 3, .rw, .val 0, .b⟩
def trig_cond_REF : Field := ⟨0x12100, 0x20, 16, 0, 14, 1, .rw, .val 0, .b⟩
def trig_cond_FUNC : Field := ⟨0x12100, 0x20, 16, 0, 16, 2, .rw, .val 0, .b⟩
def trig_cond_L1 : Field := ⟨0x12104, 0x20, 16, 0, 0, 12, .rw, .val 0, .b⟩
def trig_cond_H1 : Field := ⟨0x12104, 0x20, 16, 0, 16, 8, .rw, .val 0, .b⟩
def trig_cond_L2 : Field := ⟨0x12108, 0x20, 16, 0, 0, 12, .rw, .val 0, .b⟩
def trig_cond_H2 : Field := ⟨0x12108, 0x20, 16, 0, 16, 8, .rw, .val 0, .b⟩
def trig_cond_T1_W0 : Field := ⟨0x1210C, 0x20, 16, 0, 0, 32, .rw, .val 0, .b⟩
def trig_cond_T1_W1 : Field := ⟨0x12110, 0x20, 16, 0, 0, 8, .rw, .val 0, .b⟩
def trig_cond_T2_W0 : Field := ⟨0x12114, 0x20, 16, 0, 0, 32, .rw, .val 0, .b⟩
def trig_cond_T2_W1 : Field := ⟨0x12118, 0x20, 16, 0, 0, 8, .rw, .val 0, .b⟩
def trig_cond_TERM : Field := ⟨0x1211C, 0x20, 16, 0, 0, 16, .rw, .val 0, .b⟩

/-! TRIG: chapter 05, R142. -/

def trig_cond_AUTO_EN : Field := ⟨0x12300, 0x8, 16, 0, 0, 1, .rw, .val 0, .b⟩
def trig_cond_PCT : Field := ⟨0x12300, 0x8, 16, 0, 1, 7, .rw, .val 64, .b⟩
def trig_cond_POL_LO : Field := ⟨0x12300, 0x8, 16, 0, 8, 12, .rw, .val 0x800, .b⟩
def trig_cond_POL_HI : Field := ⟨0x12300, 0x8, 16, 0, 20, 12, .rw, .val 0x7FF, .b⟩
def trig_cond_LEVEL_NOW : Field := ⟨0x12304, 0x8, 16, 0, 0, 12, .ro, .val 0, .b⟩
def trig_cond_AUTO_ACTIVE : Field := ⟨0x12304, 0x8, 16, 0, 16, 1, .ro, .val 0, .b⟩
def trig_cond_AUTO_NO_SWING : Field := ⟨0x12304, 0x8, 16, 0, 17, 1, .ro, .val 0, .b⟩
def trig_cond_AUTO_NO_SOURCE : Field := ⟨0x12304, 0x8, 16, 0, 18, 1, .ro, .val 0, .b⟩
def trig_cond_AUTO_OVERRIDDEN : Field := ⟨0x12304, 0x8, 16, 0, 19, 1, .ro, .val 0, .b⟩
def trig_cond_LVL_STATE : Field := ⟨0x12304, 0x8, 16, 0, 20, 1, .ro, .val 0, .b⟩

/-! TRIG: chapter 05, R518. -/

def trig_CAND_EN : Field := ⟨0x12400, 0x4, 16, 0, 0, 1, .rw, .val 0, .e⟩

/-! TRIG: chapter 06, R175. -/

def trig_OUT0_PROV : Field := ⟨0x12440, 0x0, 1, 0, 0, 1, .rw, .val 0, .e⟩
def trig_OUT1_CANCEL : Field := ⟨0x12440, 0x0, 1, 0, 1, 1, .rw, .val 0, .e⟩

/-! TSEQ: chapter 06, R174. -/

def tseq_START_STATE : Field := ⟨0x13040, 0x0, 1, 0, 0, 4, .rw, .val 0, .b⟩
def tseq_RESTART : Field := ⟨0x13040, 0x0, 1, 0, 8, 1, .wo, .val 0, .b⟩
def tseq_STATE : Field := ⟨0x13044, 0x0, 1, 0, 0, 4, .ro, .val 0, .b⟩
def tseq_HOLDOFF_ACTIVE : Field := ⟨0x13044, 0x0, 1, 0, 4, 1, .ro, .val 0, .b⟩
def tseq_PREFILL : Field := ⟨0x13044, 0x0, 1, 0, 5, 1, .ro, .val 0, .b⟩
def tseq_PROV_OUT : Field := ⟨0x13044, 0x0, 1, 0, 8, 9, .ro, .val 0, .b⟩
def tseq_QUAL_TIME : Field := ⟨0x13048, 0x0, 1, 0, 0, 16, .rw, .val 4096, .b⟩
def tseq_MIN_HOLDOFF_FLOOR : Field := ⟨0x1304C, 0x0, 1, 0, 0, 24, .ro, .byPart 1638 1310, .b⟩
def tseq_RAND_SEED : Field := ⟨0x13050, 0x0, 1, 0, 0, 32, .rw, .val 0x1D872B41, .b⟩
def tseq_HOLDOFF_LEFT : Field := ⟨0x13054, 0x0, 1, 0, 0, 32, .ro, .val 0, .b⟩
def tseq_MIN_HOLDOFF : Field := ⟨0x13400, 0x0, 1, 0, 0, 24, .rw, .val 0, .e⟩

/-! VERN: chapter 06, R176. -/

def vern_FREE : Field := ⟨0x14040, 0x0, 1, 0, 0, 7, .ro, .val 64, .b⟩
def vern_TRIG_HELD : Field := ⟨0x14040, 0x0, 1, 0, 8, 7, .ro, .val 0, .b⟩
def vern_TIC_HELD : Field := ⟨0x14040, 0x0, 1, 0, 16, 7, .ro, .val 0, .b⟩
def vern_IN_POOL : Field := ⟨0x14040, 0x0, 1, 0, 24, 7, .ro, .val 64, .b⟩
def vern_RETIRED_W0 : Field := ⟨0x14044, 0x0, 1, 0, 0, 32, .ro, .val 0, .b⟩
def vern_RETIRED_W1 : Field := ⟨0x14048, 0x0, 1, 0, 0, 32, .ro, .val 0, .b⟩
def vern_STARVE_COUNT : Field := ⟨0x1404C, 0x0, 1, 0, 0, 32, .rc, .val 0, .b⟩
def vern_DV : Field := ⟨0x14050, 0x0, 1, 0, 0, 4, .ro, .val 8, .b⟩
def vern_GATE : Field := ⟨0x14060, 0x4, 8, 0, 0, 24, .rw, .val 0, .b⟩
def vern_SRC_OFFSET : Field := ⟨0x14400, 0x4, 8, 0, 0, 32, .rw, .factory, .e⟩

/-! TIC: chapter 07, R193. -/

def tic_ARM : Field := ⟨0x15040, 0x0, 1, 0, 0, 8, .w1s, .val 0, .b⟩
def tic_STOP : Field := ⟨0x15040, 0x0, 1, 0, 8, 8, .wo, .val 0, .b⟩
def tic_RUNNING : Field := ⟨0x15044, 0x0, 1, 0, 0, 8, .ro, .val 0, .b⟩
def tic_ORDER_DELAY : Field := ⟨0x15048, 0x0, 1, 0, 0, 32, .ro, .val 2048, .b⟩
def tic_ch_MODE : Field := ⟨0x15100, 0x50, 8, 0, 0, 3, .rw, .val 0, .b⟩
def tic_ch_SRC_A : Field := ⟨0x15100, 0x50, 8, 0, 4, 4, .rw, .val 0, .b⟩
def tic_ch_SLOPE_A : Field := ⟨0x15100, 0x50, 8, 0, 8, 2, .rw, .val 0, .b⟩
def tic_ch_SRC_B : Field := ⟨0x15100, 0x50, 8, 0, 10, 4, .rw, .val 0, .b⟩
def tic_ch_SLOPE_B : Field := ⟨0x15100, 0x50, 8, 0, 14, 2, .rw, .val 1, .b⟩
def tic_ch_ARM_SRC : Field := ⟨0x15100, 0x50, 8, 0, 16, 1, .rw, .val 0, .b⟩
def tic_ch_TO_QUEUE : Field := ⟨0x15100, 0x50, 8, 0, 17, 1, .rw, .val 0, .b⟩
def tic_ch_GATE : Field := ⟨0x15104, 0x50, 8, 0, 0, 24, .rw, .val 1000, .b⟩
def tic_ch_AVG_M1 : Field := ⟨0x15108, 0x50, 8, 0, 0, 24, .rw, .val 0, .b⟩
def tic_ch_WINDOW : Field := ⟨0x1510C, 0x50, 8, 0, 0, 32, .rw, .val 0, .b⟩
def tic_ch_QUEUE : Field := ⟨0x15110, 0x50, 8, 0, 0, 16, .rw, .val 0, .b⟩
def tic_ch_THRESH : Field := ⟨0x15110, 0x50, 8, 0, 16, 7, .rw, .val 1, .b⟩
def tic_ch_LEVEL : Field := ⟨0x15114, 0x50, 8, 0, 0, 7, .ro, .val 0, .b⟩
def tic_ch_LOST_COUNT : Field := ⟨0x15118, 0x50, 8, 0, 0, 32, .rc, .val 0, .b⟩
def tic_ch_ORDER_COUNT : Field := ⟨0x1511C, 0x50, 8, 0, 0, 32, .rc, .val 0, .b⟩
def tic_ch_MERGE_COUNT : Field := ⟨0x15120, 0x50, 8, 0, 0, 32, .rc, .val 0, .b⟩
def tic_ch_NOPAIR_COUNT : Field := ⟨0x15124, 0x50, 8, 0, 0, 32, .rc, .val 0, .b⟩
def tic_ch_COARSE_COUNT : Field := ⟨0x15128, 0x50, 8, 0, 0, 32, .rc, .val 0, .b⟩
def tic_ch_REF_W0 : Field := ⟨0x15130, 0x50, 8, 0, 0, 32, .ro, .val 0, .b⟩
def tic_ch_REF_W1 : Field := ⟨0x15134, 0x50, 8, 0, 0, 32, .ro, .val 0, .b⟩
def tic_ch_REF_W2 : Field := ⟨0x15138, 0x50, 8, 0, 0, 32, .ro, .val 0, .b⟩
def tic_ch_RES_W0 : Field := ⟨0x15140, 0x50, 8, 0, 0, 32, .ro, .val 0, .b⟩
def tic_ch_RES_W1 : Field := ⟨0x15144, 0x50, 8, 0, 0, 32, .ro, .val 0, .b⟩
def tic_ch_RES_W2 : Field := ⟨0x15148, 0x50, 8, 0, 0, 32, .ro, .val 0, .b⟩
def tic_FORCE_TAP : Field := ⟨0x15400, 0x0, 1, 0, 0, 8, .rw, .val 0, .e⟩

/-! ACQ: chapter 08, R223. -/

def acq_ARM : Field := ⟨0x16040, 0x0, 1, 0, 0, 1, .w1s, .val 0, .b⟩
def acq_STOP : Field := ⟨0x16040, 0x0, 1, 0, 1, 1, .wo, .val 0, .b⟩
def acq_SEG_MODE : Field := ⟨0x16040, 0x0, 1, 0, 2, 1, .rw, .val 0, .b⟩
def acq_PIN_EN : Field := ⟨0x16040, 0x0, 1, 0, 3, 1, .rw, .val 1, .b⟩
def acq_AUTO_RELEASE : Field := ⟨0x16040, 0x0, 1, 0, 4, 1, .rw, .val 0, .b⟩
def acq_AUTO_SPILL : Field := ⟨0x16040, 0x0, 1, 0, 5, 1, .rw, .val 0, .b⟩
def acq_SEG_RINGS : Field := ⟨0x16040, 0x0, 1, 0, 8, 12, .rw, .val 0x001, .b⟩
def acq_ARMED : Field := ⟨0x16044, 0x0, 1, 0, 0, 1, .ro, .val 0, .b⟩
def acq_STOPPING : Field := ⟨0x16044, 0x0, 1, 0, 1, 1, .ro, .val 0, .b⟩
def acq_WRITING : Field := ⟨0x16044, 0x0, 1, 0, 8, 12, .ro, .val 0, .b⟩
def acq_PRE_LEN_W0 : Field := ⟨0x16048, 0x0, 1, 0, 0, 32, .rw, .val 0, .b⟩
def acq_PRE_LEN_W1 : Field := ⟨0x1604C, 0x0, 1, 0, 0, 8, .rw, .val 0, .b⟩
def acq_POST_LEN_W0 : Field := ⟨0x16050, 0x0, 1, 0, 0, 32, .rw, .val 1024, .b⟩
def acq_POST_LEN_W1 : Field := ⟨0x16054, 0x0, 1, 0, 0, 8, .rw, .val 0, .b⟩
def acq_PRE_FILL_REJECT : Field := ⟨0x16058, 0x0, 1, 0, 0, 32, .rc, .val 0, .b⟩
def acq_PIN_MARK : Field := ⟨0x1605C, 0x0, 1, 0, 0, 8, .rw, .val 224, .b⟩
def acq_ARM_INDEX_W0 : Field := ⟨0x16060, 0x0, 1, 0, 0, 32, .ro, .val 0, .b⟩
def acq_ARM_INDEX_W1 : Field := ⟨0x16064, 0x0, 1, 0, 0, 32, .ro, .val 0, .b⟩
def acq_ring_BASE : Field := ⟨0x16100, 0x40, 12, 0, 0, 20, .rw, .val 0, .b⟩
def acq_ring_SIZE : Field := ⟨0x16104, 0x40, 12, 0, 0, 20, .rw, .val 0, .b⟩
def acq_ring_USABLE_W0 : Field := ⟨0x16108, 0x40, 12, 0, 0, 32, .ro, .val 0, .b⟩
def acq_ring_USABLE_W1 : Field := ⟨0x1610C, 0x40, 12, 0, 0, 32, .ro, .val 0, .b⟩
def acq_ring_WRITE_INDEX_W0 : Field := ⟨0x16110, 0x40, 12, 0, 0, 32, .ro, .val 0, .b⟩
def acq_ring_WRITE_INDEX_W1 : Field := ⟨0x16114, 0x40, 12, 0, 0, 32, .ro, .val 0, .b⟩
def acq_ring_OLDEST_VALID_W0 : Field := ⟨0x16118, 0x40, 12, 0, 0, 32, .ro, .val 0, .b⟩
def acq_ring_OLDEST_VALID_W1 : Field := ⟨0x1611C, 0x40, 12, 0, 0, 32, .ro, .val 0, .b⟩
def acq_ring_OLDEST_HELD_W0 : Field := ⟨0x16120, 0x40, 12, 0, 0, 32, .ro, .val 0, .b⟩
def acq_ring_OLDEST_HELD_W1 : Field := ⟨0x16124, 0x40, 12, 0, 0, 32, .ro, .val 0, .b⟩
def acq_ring_WRITE_OFFSET : Field := ⟨0x16128, 0x40, 12, 0, 0, 32, .ro, .val 0, .b⟩
def acq_ring_STREAM_EN : Field := ⟨0x1612C, 0x40, 12, 0, 0, 1, .rw, .val 0, .b⟩
def acq_ring_SPILL_BASE : Field := ⟨0x16130, 0x40, 12, 0, 0, 21, .rw, .val 0, .b⟩
def acq_ring_SPILL_SIZE : Field := ⟨0x16134, 0x40, 12, 0, 0, 22, .rw, .val 0, .b⟩
def acq_ring_SPILL_INDEX_W0 : Field := ⟨0x16138, 0x40, 12, 0, 0, 32, .ro, .val 0, .b⟩
def acq_ring_SPILL_INDEX_W1 : Field := ⟨0x1613C, 0x40, 12, 0, 0, 32, .ro, .val 0, .b⟩
def acq_DELAYED_WINDOW : Field := ⟨0x16400, 0x0, 1, 0, 0, 1, .rw, .val 0, .e⟩

/-! LEDG: chapter 08, R224. -/

def ledg_RES_LOG2 : Field := ⟨0x17040, 0x0, 1, 0, 0, 5, .rw, .val 20, .b⟩
def ledg_SPILL_LEDGER_EN : Field := ⟨0x17040, 0x0, 1, 0, 5, 1, .rw, .val 0, .b⟩
def ledg_SPILL_LOG2 : Field := ⟨0x17040, 0x0, 1, 0, 8, 6, .rw, .val 21, .b⟩
def ledg_BASE : Field := ⟨0x17044, 0x0, 1, 0, 0, 20, .rw, .val 0, .b⟩
def ledg_SPILL_LEDGER_BASE : Field := ⟨0x17048, 0x0, 1, 0, 0, 21, .rw, .val 0, .b⟩
def ledg_SPILL_LEDGER_STALE : Field := ⟨0x1704C, 0x0, 1, 0, 0, 1, .ro, .val 0, .b⟩
def ledg_STAGED : Field := ⟨0x1704C, 0x0, 1, 0, 1, 13, .ro, .val 0, .b⟩
def ledg_NEXT_SEG_W0 : Field := ⟨0x17050, 0x0, 1, 0, 0, 32, .ro, .val 0, .b⟩
def ledg_NEXT_SEG_W1 : Field := ⟨0x17054, 0x0, 1, 0, 0, 32, .ro, .val 0, .b⟩
def ledg_WRITTEN_SEG_W0 : Field := ⟨0x17058, 0x0, 1, 0, 0, 32, .ro, .val 0, .b⟩
def ledg_WRITTEN_SEG_W1 : Field := ⟨0x1705C, 0x0, 1, 0, 0, 32, .ro, .val 0, .b⟩
def ledg_RELEASE_W0 : Field := ⟨0x17060, 0x0, 1, 0, 0, 32, .wo, .val 0, .b⟩
def ledg_RELEASE_W1 : Field := ⟨0x17064, 0x0, 1, 0, 0, 32, .wo, .val 0, .b⟩
def ledg_RELEASE_UPTO_W0 : Field := ⟨0x17068, 0x0, 1, 0, 0, 32, .wo, .val 0, .b⟩
def ledg_RELEASE_UPTO_W1 : Field := ⟨0x1706C, 0x0, 1, 0, 0, 32, .wo, .val 0, .b⟩
def ledg_FULL_REJECT : Field := ⟨0x17070, 0x0, 1, 0, 0, 32, .rc, .val 0, .b⟩
def ledg_OVERRUN_COUNT : Field := ⟨0x17074, 0x0, 1, 0, 0, 32, .rc, .val 0, .b⟩
def ledg_SPILL_GAP_COUNT : Field := ⟨0x17078, 0x0, 1, 0, 0, 32, .rc, .val 0, .b⟩
def ledg_SEGSPILL_BASE : Field := ⟨0x17080, 0x0, 1, 0, 0, 21, .rw, .val 0, .b⟩
def ledg_SEGSPILL_SIZE : Field := ⟨0x17084, 0x0, 1, 0, 0, 22, .rw, .val 0, .b⟩
def ledg_SEGSPILL_HEAD_W0 : Field := ⟨0x17088, 0x0, 1, 0, 0, 32, .ro, .val 0, .b⟩
def ledg_SEGSPILL_HEAD_W1 : Field := ⟨0x1708C, 0x0, 1, 0, 0, 10, .ro, .val 0, .b⟩
def ledg_SEGSPILL_TAIL_W0 : Field := ⟨0x17090, 0x0, 1, 0, 0, 32, .rw, .val 0, .b⟩
def ledg_SEGSPILL_TAIL_W1 : Field := ⟨0x17094, 0x0, 1, 0, 0, 10, .rw, .val 0, .b⟩

/-! DECI: chapter 09, R247. -/

def deci_RATE_TOTAL : Field := ⟨0x18040, 0x0, 1, 0, 0, 32, .ro, .val 0, .b⟩
def deci_RATE_LIMIT : Field := ⟨0x18044, 0x0, 1, 0, 0, 32, .ro, .val 6291456, .b⟩
def deci_SETTLED : Field := ⟨0x18048, 0x0, 1, 0, 0, 8, .ro, .val 0, .b⟩
def deci_RUNNING : Field := ⟨0x18048, 0x0, 1, 0, 8, 8, .ro, .val 0, .b⟩
def deci_dch_EN : Field := ⟨0x18100, 0x40, 8, 0, 0, 1, .rw, .val 0, .b⟩
def deci_dch_MODE : Field := ⟨0x18100, 0x40, 8, 0, 1, 3, .rw, .val 0, .b⟩
def deci_dch_AC : Field := ⟨0x18100, 0x40, 8, 0, 4, 1, .rw, .val 0, .b⟩
def deci_dch_CIC_ORDER : Field := ⟨0x18100, 0x40, 8, 0, 8, 3, .rw, .val 1, .b⟩
def deci_dch_FIR_RF : Field := ⟨0x18100, 0x40, 8, 0, 12, 2, .rw, .val 0, .b⟩
def deci_dch_RATIO_M1 : Field := ⟨0x18104, 0x40, 8, 0, 0, 32, .rw, .val 0, .b⟩
def deci_dch_PHASE : Field := ⟨0x18108, 0x40, 8, 0, 0, 32, .rw, .val 0, .b⟩
def deci_dch_SETTLED : Field := ⟨0x1810C, 0x40, 8, 0, 0, 1, .ro, .val 0, .b⟩
def deci_dch_SETTLE_INDEX_W0 : Field := ⟨0x18110, 0x40, 8, 0, 0, 32, .ro, .val 0, .b⟩
def deci_dch_SETTLE_INDEX_W1 : Field := ⟨0x18114, 0x40, 8, 0, 0, 32, .ro, .val 0, .b⟩
def deci_dch_FIRST_OUT_W0 : Field := ⟨0x18118, 0x40, 8, 0, 0, 32, .ro, .val 0, .b⟩
def deci_dch_FIRST_OUT_W1 : Field := ⟨0x1811C, 0x40, 8, 0, 0, 32, .ro, .val 0, .b⟩
def deci_dch_CENTRE2_W0 : Field := ⟨0x18120, 0x40, 8, 0, 0, 32, .ro, .val 0, .b⟩
def deci_dch_CENTRE2_W1 : Field := ⟨0x18124, 0x40, 8, 0, 0, 32, .ro, .val 0, .b⟩
def deci_dch_RATE : Field := ⟨0x18128, 0x40, 8, 0, 0, 32, .ro, .val 0, .b⟩
def deci_dch_LATENCY_OUT : Field := ⟨0x1812C, 0x40, 8, 0, 0, 8, .ro, .val 2, .b⟩
def deci_dch_DROP_COUNT : Field := ⟨0x18130, 0x40, 8, 0, 0, 32, .rc, .val 0, .b⟩
def deci_dch_SAT_COUNT : Field := ⟨0x18134, 0x40, 8, 0, 0, 32, .rc, .val 0, .b⟩

/-! ACCU: chapter 10, R273. -/

def accu_RUNNING : Field := ⟨0x19040, 0x0, 1, 0, 0, 16, .ro, .val 0, .b⟩
def accu_SPARE_BANKS : Field := ⟨0x19044, 0x0, 1, 0, 0, 16, .ro, .val 0x4444, .b⟩
def accu_ECC_CORR : Field := ⟨0x19048, 0x0, 1, 0, 0, 32, .rc, .val 0, .b⟩

/-! ACCU: chapter 10, R274. -/

def accu_part_RUN : Field := ⟨0x19100, 0x30, 16, 0, 0, 1, .rw, .val 0, .b⟩
def accu_part_MODE : Field := ⟨0x19100, 0x30, 16, 0, 1, 3, .rw, .val 0, .b⟩
def accu_part_AUTO_DUMP : Field := ⟨0x19100, 0x30, 16, 0, 4, 1, .rw, .val 0, .b⟩
def accu_part_HBM_EXT : Field := ⟨0x19100, 0x30, 16, 0, 5, 1, .rw, .val 0, .b⟩
def accu_part_SRC : Field := ⟨0x19100, 0x30, 16, 0, 6, 4, .rw, .val 0, .b⟩
def accu_part_SRC2 : Field := ⟨0x19100, 0x30, 16, 0, 10, 4, .rw, .val 0, .b⟩
def accu_part_RES_FAIL_ONLY : Field := ⟨0x19100, 0x30, 16, 0, 14, 1, .rw, .val 0, .b⟩
def accu_part_RES_TO_QUEUE : Field := ⟨0x19100, 0x30, 16, 0, 15, 1, .rw, .val 0, .b⟩
def accu_part_EXCL_DEGRADED : Field := ⟨0x19100, 0x30, 16, 0, 16, 1, .rw, .val 0, .b⟩
def accu_part_EXCL_CLIPPED : Field := ⟨0x19100, 0x30, 16, 0, 17, 1, .rw, .val 0, .b⟩
def accu_part_BASE_UNIT : Field := ⟨0x19104, 0x30, 16, 0, 0, 7, .rw, .val 0, .b⟩
def accu_part_UNITS : Field := ⟨0x19104, 0x30, 16, 0, 8, 7, .rw, .val 1, .b⟩
def accu_part_CAUSE_MASK : Field := ⟨0x19104, 0x30, 16, 0, 16, 16, .rw, .val 0xFFFF, .b⟩
def accu_part_POINTS : Field := ⟨0x19108, 0x30, 16, 0, 0, 32, .rw, .val 1024, .b⟩
def accu_part_PARAM0 : Field := ⟨0x1910C, 0x30, 16, 0, 0, 32, .rw, .val 0, .b⟩
def accu_part_PARAM1 : Field := ⟨0x19110, 0x30, 16, 0, 0, 32, .rw, .val 0, .b⟩
def accu_part_PARAM2 : Field := ⟨0x19114, 0x30, 16, 0, 0, 32, .rw, .val 0, .b⟩
def accu_part_PARAM3 : Field := ⟨0x19118, 0x30, 16, 0, 0, 32, .rw, .val 0, .b⟩
def accu_part_CLEAR : Field := ⟨0x1911C, 0x30, 16, 0, 0, 1, .wo, .val 0, .b⟩
def accu_part_SNAP : Field := ⟨0x1911C, 0x30, 16, 0, 1, 1, .wo, .val 0, .b⟩
def accu_part_SNAP_CLEAR : Field := ⟨0x1911C, 0x30, 16, 0, 2, 1, .wo, .val 0, .b⟩
def accu_part_LOAD : Field := ⟨0x1911C, 0x30, 16, 0, 3, 1, .wo, .val 0, .b⟩
def accu_part_ABORT : Field := ⟨0x1911C, 0x30, 16, 0, 4, 1, .wo, .val 0, .b⟩
def accu_part_LOAD_SLOT : Field := ⟨0x1911C, 0x30, 16, 0, 8, 8, .wo, .val 0, .b⟩
def accu_part_STATE : Field := ⟨0x19120, 0x30, 16, 0, 0, 2, .ro, .val 0, .b⟩
def accu_part_SWEEP : Field := ⟨0x19120, 0x30, 16, 0, 2, 1, .ro, .val 0, .b⟩
def accu_part_FULL_STATE : Field := ⟨0x19120, 0x30, 16, 0, 3, 1, .ro, .val 0, .b⟩
def accu_part_DUMP_HEAD : Field := ⟨0x19120, 0x30, 16, 0, 8, 8, .ro, .val 0, .b⟩
def accu_part_BACKLOG : Field := ⟨0x19120, 0x30, 16, 0, 16, 14, .ro, .val 0, .b⟩
def accu_part_RECORDS : Field := ⟨0x19124, 0x30, 16, 0, 0, 32, .ro, .val 0, .b⟩
def accu_part_SKIPPED : Field := ⟨0x19128, 0x30, 16, 0, 0, 32, .rc, .val 0, .b⟩
def accu_part_MISSED : Field := ⟨0x1912C, 0x30, 16, 0, 0, 16, .rc, .val 0, .b⟩
def accu_part_TORN_COUNT : Field := ⟨0x1912C, 0x30, 16, 0, 16, 16, .rc, .val 0, .b⟩
def accu_part_STOP_ON_FAIL : Field := ⟨0x19400, 0x4, 16, 0, 0, 1, .rw, .val 0, .e⟩
def accu_part_DUMP_BASE : Field := ⟨0x19C20, 0x10, 16, 0, 0, 20, .rw, .val 0, .b⟩
def accu_part_DUMP_SLOTS : Field := ⟨0x19C20, 0x10, 16, 0, 20, 8, .rw, .val 0, .b⟩
def accu_part_EXT_BASE : Field := ⟨0x19C24, 0x10, 16, 0, 0, 20, .rw, .val 0, .b⟩
def accu_part_RES_BASE : Field := ⟨0x19C28, 0x10, 16, 0, 0, 20, .rw, .val 0, .b⟩
def accu_part_RES_SIZE : Field := ⟨0x19C2C, 0x10, 16, 0, 0, 12, .rw, .val 0, .b⟩
def accu_part_RES_QUEUE : Field := ⟨0x19C2C, 0x10, 16, 0, 16, 16, .rw, .val 0, .b⟩
def accu_part_RES_COUNT_W0 : Field := ⟨0x19D20, 0x8, 16, 0, 0, 32, .ro, .val 0, .b⟩
def accu_part_RES_COUNT_W1 : Field := ⟨0x19D24, 0x8, 16, 0, 0, 32, .ro, .val 0, .b⟩

/-! AUX: chapter 16, R407. -/

def aux_LINK_EN : Field := ⟨0x1A040, 0x0, 1, 0, 0, 1, .rw, .val 0, .b⟩
def aux_HBM_EN : Field := ⟨0x1A040, 0x0, 1, 0, 1, 1, .rw, .val 0, .b⟩
def aux_QUEUE_EN : Field := ⟨0x1A040, 0x0, 1, 0, 2, 1, .rw, .val 0, .b⟩
def aux_QUEUE : Field := ⟨0x1A044, 0x0, 1, 0, 0, 16, .rw, .val 0, .b⟩
def aux_BATCH : Field := ⟨0x1A044, 0x0, 1, 0, 16, 8, .rw, .val 16, .b⟩
def aux_FLUSH_US : Field := ⟨0x1A048, 0x0, 1, 0, 0, 16, .rw, .val 100, .b⟩
def aux_BUF_BASE : Field := ⟨0x1A04C, 0x0, 1, 0, 0, 20, .rw, .val 0, .b⟩
def aux_BUF_SIZE : Field := ⟨0x1A050, 0x0, 1, 0, 0, 16, .rw, .val 0, .b⟩
def aux_NEXT_SEQ : Field := ⟨0x1A054, 0x0, 1, 0, 0, 32, .ro, .val 0, .b⟩
def aux_OLDEST_SEQ : Field := ⟨0x1A058, 0x0, 1, 0, 0, 32, .ro, .val 0, .b⟩
def aux_ALARM_W0 : Field := ⟨0x1A05C, 0x0, 1, 0, 0, 32, .w1c, .val 0, .b⟩
def aux_ALARM_W1 : Field := ⟨0x1A060, 0x0, 1, 0, 0, 8, .w1c, .val 0, .b⟩
def aux_QUEUE_LOST : Field := ⟨0x1A064, 0x0, 1, 0, 0, 32, .rc, .val 0, .b⟩
def aux_auxc_EN : Field := ⟨0x1A100, 0x20, 4, 0, 0, 1, .rw, .val 0, .b⟩
def aux_auxc_SYNC : Field := ⟨0x1A100, 0x20, 4, 0, 1, 1, .rw, .val 0, .b⟩
def aux_auxc_AUTO_PD : Field := ⟨0x1A100, 0x20, 4, 0, 2, 1, .rw, .val 0, .b⟩
def aux_auxc_REG_LEN_M1 : Field := ⟨0x1A100, 0x20, 4, 0, 3, 5, .rw, .val 0, .b⟩
def aux_auxc_INJ_LEN : Field := ⟨0x1A100, 0x20, 4, 0, 8, 4, .rw, .val 0, .b⟩
def aux_auxc_SRC_MAIN : Field := ⟨0x1A100, 0x20, 4, 0, 12, 1, .rw, .val 0, .b⟩
def aux_auxc_SRC_TIN : Field := ⟨0x1A100, 0x20, 4, 0, 13, 4, .rw, .val 0, .b⟩
def aux_auxc_SRC_ALARM : Field := ⟨0x1A100, 0x20, 4, 0, 17, 1, .rw, .val 0, .b⟩
def aux_auxc_REG_PERIOD : Field := ⟨0x1A104, 0x20, 4, 0, 0, 24, .rw, .val 0, .b⟩
def aux_auxc_STATE : Field := ⟨0x1A108, 0x20, 4, 0, 0, 2, .ro, .val 0, .b⟩
def aux_auxc_STEP : Field := ⟨0x1A108, 0x20, 4, 0, 2, 5, .ro, .val 0, .b⟩
def aux_auxc_INJ_PENDING : Field := ⟨0x1A108, 0x20, 4, 0, 7, 1, .ro, .val 0, .b⟩
def aux_auxc_INJ_MISSED : Field := ⟨0x1A10C, 0x20, 4, 0, 0, 32, .rc, .val 0, .b⟩
def aux_auxc_LATE_PASS : Field := ⟨0x1A110, 0x20, 4, 0, 0, 32, .rc, .val 0, .b⟩
def aux_auxc_INJ_DEFERRED : Field := ⟨0x1A114, 0x20, 4, 0, 0, 32, .rc, .val 0, .b⟩

/-! AUXF: chapter 16, R408. -/

def auxf_flt_EN : Field := ⟨0x1B100, 0x10, 4, 0, 0, 1, .rw, .val 0, .b⟩
def auxf_flt_ORDER : Field := ⟨0x1B100, 0x10, 4, 0, 1, 1, .rw, .val 0, .b⟩
def auxf_flt_NOTCH : Field := ⟨0x1B100, 0x10, 4, 0, 2, 2, .rw, .val 0, .b⟩
def auxf_flt_CHANNEL : Field := ⟨0x1B100, 0x10, 4, 0, 4, 6, .rw, .val 0, .b⟩
def auxf_flt_PDIFF : Field := ⟨0x1B100, 0x10, 4, 0, 10, 1, .rw, .val 0, .b⟩
def auxf_flt_SETTLED : Field := ⟨0x1B104, 0x10, 4, 0, 0, 1, .ro, .val 0, .b⟩
def auxf_flt_OUTPUTS : Field := ⟨0x1B104, 0x10, 4, 0, 1, 31, .ro, .val 0, .b⟩
def auxf_flt_LAST : Field := ⟨0x1B108, 0x10, 4, 0, 0, 16, .ro, .val 0, .b⟩

/-! QMGR: chapter 12, R326. -/

def qmgr_EN : Field := ⟨0x1C040, 0x0, 1, 0, 0, 1, .rw, .val 0, .b⟩
def qmgr_SQ_LOG2 : Field := ⟨0x1C040, 0x0, 1, 0, 4, 5, .rw, .val 4, .b⟩
def qmgr_CQ_LOG2 : Field := ⟨0x1C040, 0x0, 1, 0, 9, 5, .rw, .val 4, .b⟩
def qmgr_IRQ_EN : Field := ⟨0x1C040, 0x0, 1, 0, 14, 1, .rw, .val 0, .b⟩
def qmgr_VECTOR : Field := ⟨0x1C040, 0x0, 1, 0, 16, 11, .rw, .val 0, .b⟩
def qmgr_ASQ_BASE_W0 : Field := ⟨0x1C044, 0x0, 1, 0, 0, 32, .rw, .val 0, .b⟩
def qmgr_ASQ_BASE_W1 : Field := ⟨0x1C048, 0x0, 1, 0, 0, 32, .rw, .val 0, .b⟩
def qmgr_ACQ_BASE_W0 : Field := ⟨0x1C04C, 0x0, 1, 0, 0, 32, .rw, .val 0, .b⟩
def qmgr_ACQ_BASE_W1 : Field := ⟨0x1C050, 0x0, 1, 0, 0, 32, .rw, .val 0, .b⟩
def qmgr_QUEUES_ACTIVE : Field := ⟨0x1C054, 0x0, 1, 0, 0, 17, .ro, .val 0, .b⟩
def qmgr_CMDS_OUT : Field := ⟨0x1C058, 0x0, 1, 0, 0, 9, .ro, .val 0, .b⟩
def qmgr_DB_IGNORED : Field := ⟨0x1C05C, 0x0, 1, 0, 0, 32, .rc, .val 0, .b⟩
def qmgr_STREAM_DROPS : Field := ⟨0x1C060, 0x0, 1, 0, 0, 32, .rc, .val 0, .b⟩
def qmgr_EVENT_DROPS : Field := ⟨0x1C064, 0x0, 1, 0, 0, 32, .rc, .val 0, .b⟩

/-! BENCHG: chapter 11, R303. -/

def benchg_DISPATCH_EN : Field := ⟨0x1D040, 0x0, 1, 0, 0, 1, .rw, .val 1, .b⟩
def benchg_XSTEAL_EN : Field := ⟨0x1D040, 0x0, 1, 0, 1, 1, .rw, .val 1, .b⟩
def benchg_IN_SERVICE : Field := ⟨0x1D044, 0x0, 1, 0, 0, 32, .ro, .val 0xFFFFFFFF, .b⟩
def benchg_ISOLATED : Field := ⟨0x1D048, 0x0, 1, 0, 0, 32, .ro, .val 0, .b⟩
def benchg_RECIPE_BASE : Field := ⟨0x1D04C, 0x0, 1, 0, 0, 20, .rw, .val 0, .b⟩
def benchg_SCRATCH_BASE : Field := ⟨0x1D050, 0x0, 1, 0, 0, 20, .rw, .val 0, .b⟩
def benchg_SLOT_UNITS : Field := ⟨0x1D054, 0x0, 1, 0, 0, 8, .rw, .val 1, .b⟩
def benchg_SLOTS : Field := ⟨0x1D054, 0x0, 1, 0, 16, 15, .rw, .val 0, .b⟩
def benchg_SLOTS_FREE : Field := ⟨0x1D058, 0x0, 1, 0, 0, 15, .ro, .val 0, .b⟩
def benchg_TICKETS_OUT : Field := ⟨0x1D05C, 0x0, 1, 0, 0, 17, .ro, .val 0, .b⟩
def benchg_ORDER_ACTIVE : Field := ⟨0x1D060, 0x0, 1, 0, 0, 11, .ro, .val 0, .b⟩
def benchg_TIMEOUTS : Field := ⟨0x1D064, 0x0, 1, 0, 0, 32, .rc, .val 0, .b⟩
def benchg_REISSUES : Field := ⟨0x1D068, 0x0, 1, 0, 0, 32, .rc, .val 0, .b⟩
def benchg_DUP_COMMITS : Field := ⟨0x1D06C, 0x0, 1, 0, 0, 32, .rc, .val 0, .b⟩
def benchg_MISSED : Field := ⟨0x1D070, 0x0, 1, 0, 0, 32, .rc, .val 0, .b⟩
def benchg_SCRATCH_WAITS : Field := ⟨0x1D074, 0x0, 1, 0, 0, 32, .rc, .val 0, .b⟩
def benchg_PIN : Field := ⟨0x1D080, 0x4, 12, 0, 0, 32, .rw, .val 0, .b⟩
def benchg_XSTEAL_MIN : Field := ⟨0x1D400, 0x0, 1, 0, 0, 4, .rw, .val 2, .e⟩

/-! EVT: chapter 12, R326. -/

def evt_ROUTE_LOST : Field := ⟨0x1E040, 0x0, 1, 0, 0, 32, .rc, .val 0, .b⟩

/-! EVT: chapter 21, R480. -/

def evt_PENDING_W0 : Field := ⟨0x1E044, 0x0, 1, 0, 0, 32, .ro, .val 0, .b⟩
def evt_PENDING_W1 : Field := ⟨0x1E048, 0x0, 1, 0, 0, 32, .ro, .val 0, .b⟩
def evt_PENDING_W2 : Field := ⟨0x1E04C, 0x0, 1, 0, 0, 32, .ro, .val 0, .b⟩
def evt_PENDING_W3 : Field := ⟨0x1E050, 0x0, 1, 0, 0, 32, .ro, .val 0, .b⟩
def evt_DEGRADED_W0 : Field := ⟨0x1E054, 0x0, 1, 0, 0, 32, .ro, .val 0, .b⟩
def evt_DEGRADED_W1 : Field := ⟨0x1E058, 0x0, 1, 0, 0, 32, .ro, .val 0, .b⟩
def evt_DEGRADED_W2 : Field := ⟨0x1E05C, 0x0, 1, 0, 0, 32, .ro, .val 0, .b⟩
def evt_DEGRADED_W3 : Field := ⟨0x1E060, 0x0, 1, 0, 0, 32, .ro, .val 0, .b⟩
def evt_CONTAINED_W0 : Field := ⟨0x1E064, 0x0, 1, 0, 0, 32, .ro, .val 0, .b⟩
def evt_CONTAINED_W1 : Field := ⟨0x1E068, 0x0, 1, 0, 0, 32, .ro, .val 0, .b⟩
def evt_CONTAINED_W2 : Field := ⟨0x1E06C, 0x0, 1, 0, 0, 32, .ro, .val 0, .b⟩
def evt_CONTAINED_W3 : Field := ⟨0x1E070, 0x0, 1, 0, 0, 32, .ro, .val 0, .b⟩

/-! BENCH: chapter 11, R305. -/

def bench_BUSY : Field := ⟨0x20040, 0x1000, 32, 0, 0, 16, .ro, .val 0, .b⟩
def bench_IN_SERVICE : Field := ⟨0x20040, 0x1000, 32, 0, 16, 1, .ro, .val 1, .b⟩
def bench_FALLBACK : Field := ⟨0x20040, 0x1000, 32, 0, 17, 1, .ro, .val 0, .b⟩
def bench_RESETTING : Field := ⟨0x20040, 0x1000, 32, 0, 18, 1, .ro, .val 0, .b⟩
def bench_REJOIN_FAILS : Field := ⟨0x20040, 0x1000, 32, 0, 19, 2, .ro, .val 0, .b⟩
def bench_RETIRED : Field := ⟨0x20044, 0x1000, 32, 0, 0, 16, .ro, .val 0, .b⟩
def bench_TICKETS_DONE : Field := ⟨0x20048, 0x1000, 32, 0, 0, 32, .rc, .val 0, .b⟩
def bench_STEALS_IN : Field := ⟨0x2004C, 0x1000, 32, 0, 0, 32, .rc, .val 0, .b⟩
def bench_STEALS_OUT : Field := ⟨0x20050, 0x1000, 32, 0, 0, 32, .rc, .val 0, .b⟩
def bench_jm_DEQUE_LEN : Field := ⟨0x20100, 0x10, 32, 16, 0, 7, .ro, .val 0, .b⟩
def bench_jm_RECIPE : Field := ⟨0x20100, 0x10, 32, 16, 8, 10, .ro, .val 0, .b⟩
def bench_jm_ATTEMPT : Field := ⟨0x20100, 0x10, 32, 16, 18, 2, .ro, .val 0, .b⟩
def bench_jm_ELAPSED : Field := ⟨0x20104, 0x10, 32, 16, 0, 32, .ro, .val 0, .b⟩
def bench_jm_TIMEOUTS : Field := ⟨0x20108, 0x10, 32, 16, 0, 8, .rc, .val 0, .b⟩

/-! MEMC: chapter 13, R351. -/

def memc_TIER : Field := ⟨0x40040, 0x1000, 2, 0, 0, 2, .ro, .val 0, .b⟩
def memc_MULT : Field := ⟨0x40040, 0x1000, 2, 0, 2, 2, .ro, .val 0, .b⟩
def memc_OVERRIDDEN_REF : Field := ⟨0x40040, 0x1000, 2, 0, 4, 1, .ro, .val 0, .b⟩
def memc_OVERRIDDEN_PD : Field := ⟨0x40040, 0x1000, 2, 0, 5, 1, .ro, .val 0, .b⟩
def memc_STACK_HOT : Field := ⟨0x40040, 0x1000, 2, 0, 6, 1, .ro, .val 0, .b⟩
def memc_STACK_TEMP : Field := ⟨0x40044, 0x1000, 2, 0, 0, 16, .ro, .val 0, .b⟩
def memc_DRAM_TJ : Field := ⟨0x40044, 0x1000, 2, 0, 16, 16, .ro, .val 0, .b⟩
def memc_POL_MIN : Field := ⟨0x40048, 0x1000, 2, 0, 0, 2, .rw, .val 0, .b⟩
def memc_POL_MAX : Field := ⟨0x40048, 0x1000, 2, 0, 2, 2, .rw, .val 3, .b⟩
def memc_OWED_MAX : Field := ⟨0x4004C, 0x1000, 2, 0, 0, 5, .ro, .val 0, .b⟩
def memc_HAMMER_THRESH : Field := ⟨0x40050, 0x1000, 2, 0, 0, 12, .rw, .val 2048, .b⟩
def memc_PD_TIMER : Field := ⟨0x40054, 0x1000, 2, 0, 0, 16, .rw, .val 200, .b⟩
def memc_PD_ADAPT : Field := ⟨0x40054, 0x1000, 2, 0, 16, 1, .rw, .val 1, .b⟩
def memc_PD_POL_MIN : Field := ⟨0x40058, 0x1000, 2, 0, 0, 16, .rw, .val 25, .b⟩
def memc_PD_POL_MAX : Field := ⟨0x40058, 0x1000, 2, 0, 16, 16, .rw, .val 65535, .b⟩
def memc_PD_NOW : Field := ⟨0x4005C, 0x1000, 2, 0, 0, 16, .ro, .val 200, .b⟩
def memc_ACT_LIMIT : Field := ⟨0x40060, 0x1000, 2, 0, 0, 8, .rw, .val 32, .b⟩
def memc_PARITY_REPLAYS : Field := ⟨0x40064, 0x1000, 2, 0, 0, 32, .rc, .val 0, .b⟩
def memc_ECC_CORR : Field := ⟨0x40068, 0x1000, 2, 0, 0, 32, .rc, .val 0, .b⟩
def memc_HAMMER_REFRESH : Field := ⟨0x4006C, 0x1000, 2, 0, 0, 32, .rc, .val 0, .b⟩
def memc_THROTTLES : Field := ⟨0x40070, 0x1000, 2, 0, 0, 32, .rc, .val 0, .b⟩
def memc_CATCHUPS : Field := ⟨0x40074, 0x1000, 2, 0, 0, 32, .rc, .val 0, .b⟩

/-! MEMS: chapter 13, R352. -/

def mems_RATE : Field := ⟨0x42040, 0x0, 1, 0, 0, 2, .rw, .val 0, .b⟩
def mems_RATE_NOW : Field := ⟨0x42040, 0x0, 1, 0, 2, 2, .ro, .val 0, .b⟩
def mems_RATE_PENDING : Field := ⟨0x42040, 0x0, 1, 0, 4, 1, .ro, .val 0, .b⟩
def mems_TRAINING : Field := ⟨0x42044, 0x0, 1, 0, 0, 1, .ro, .val 1, .b⟩
def mems_RETRAIN : Field := ⟨0x42044, 0x0, 1, 0, 1, 1, .ro, .val 0, .b⟩
def mems_RETRAIN_PC : Field := ⟨0x42044, 0x0, 1, 0, 2, 6, .ro, .val 0, .b⟩
def mems_REBUILD : Field := ⟨0x42044, 0x0, 1, 0, 8, 1, .ro, .val 0, .b⟩
def mems_REBUILD_PC : Field := ⟨0x42044, 0x0, 1, 0, 9, 6, .ro, .val 0, .b⟩
def mems_SPARES_0 : Field := ⟨0x42044, 0x0, 1, 0, 15, 2, .ro, .val 2, .b⟩
def mems_SPARES_1 : Field := ⟨0x42044, 0x0, 1, 0, 17, 2, .ro, .val 2, .b⟩
def mems_GROUP_DEGRADED : Field := ⟨0x42044, 0x0, 1, 0, 19, 4, .ro, .val 0, .b⟩
def mems_RETRAIN_DEFERRED : Field := ⟨0x42044, 0x0, 1, 0, 23, 1, .ro, .val 0, .b⟩
def mems_FROZEN_W0 : Field := ⟨0x42048, 0x0, 1, 0, 0, 32, .ro, .val 0, .b⟩
def mems_FROZEN_W1 : Field := ⟨0x4204C, 0x0, 1, 0, 0, 32, .ro, .val 0, .b⟩
def mems_REBUILD_RATE : Field := ⟨0x42050, 0x0, 1, 0, 0, 7, .rw, .val 24, .e⟩
def mems_REBUILD_BLOCKS : Field := ⟨0x42054, 0x0, 1, 0, 0, 9, .ro, .val 0, .b⟩
def mems_LOST_LINES : Field := ⟨0x42058, 0x0, 1, 0, 0, 32, .rc, .val 0, .b⟩
def mems_BAR6_ABORTS : Field := ⟨0x4205C, 0x0, 1, 0, 0, 32, .rc, .val 0, .b⟩

/-! MEMT: chapter 13, R353. -/

def memt_EYE_MIN : Field := ⟨0x43040, 0x0, 1, 0, 0, 8, .rw, .val 40, .e⟩
def memt_WORST_EYE : Field := ⟨0x43044, 0x0, 1, 0, 0, 8, .ro, .val 0, .b⟩
def memt_WORST_LANE : Field := ⟨0x43044, 0x0, 1, 0, 8, 8, .ro, .val 0, .b⟩
def memt_WORST_LANE_HI : Field := ⟨0x43044, 0x0, 1, 0, 16, 1, .ro, .val 0, .b⟩
def memt_RETRAINS : Field := ⟨0x43048, 0x0, 1, 0, 0, 32, .rc, .val 0, .b⟩

/-! PCIE: chapter 14, R371. -/

def pcie_SPEED : Field := ⟨0x44040, 0x0, 1, 0, 0, 3, .ro, .val 0, .b⟩
def pcie_WIDTH : Field := ⟨0x44040, 0x0, 1, 0, 3, 5, .ro, .val 0, .b⟩
def pcie_DL_UP : Field := ⟨0x44040, 0x0, 1, 0, 8, 1, .ro, .val 0, .b⟩
def pcie_HOLD : Field := ⟨0x44040, 0x0, 1, 0, 9, 1, .ro, .val 0, .b⟩
def pcie_BME : Field := ⟨0x44040, 0x0, 1, 0, 10, 1, .ro, .val 0, .b⟩
def pcie_PTM_EN : Field := ⟨0x44040, 0x0, 1, 0, 11, 1, .ro, .val 0, .b⟩
def pcie_IN_L1 : Field := ⟨0x44040, 0x0, 1, 0, 12, 1, .ro, .val 0, .b⟩
def pcie_REFCLK_MODE : Field := ⟨0x44040, 0x0, 1, 0, 13, 2, .ro, .val 0, .b⟩
def pcie_L1_OVERRIDDEN : Field := ⟨0x44040, 0x0, 1, 0, 15, 1, .ro, .val 0, .b⟩
def pcie_DISCARD : Field := ⟨0x44044, 0x0, 1, 0, 0, 1, .wo, .val 0, .b⟩
def pcie_EGRESS_LEVEL : Field := ⟨0x44048, 0x0, 1, 0, 0, 24, .ro, .val 0, .b⟩
def pcie_HOLD_TIME : Field := ⟨0x4404C, 0x0, 1, 0, 0, 32, .ro, .val 0, .b⟩
def pcie_LINK_DOWNS : Field := ⟨0x44050, 0x0, 1, 0, 0, 32, .rc, .val 0, .b⟩
def pcie_CORR_ERRS : Field := ⟨0x44054, 0x0, 1, 0, 0, 32, .rc, .val 0, .b⟩
def pcie_BAR6_OUTSIDE : Field := ⟨0x44058, 0x0, 1, 0, 0, 32, .rc, .val 0, .b⟩
def pcie_BAD_ACCESS : Field := ⟨0x4405C, 0x0, 1, 0, 0, 32, .rc, .val 0, .b⟩
def pcie_TRIGGER : Field := ⟨0x44060, 0x0, 1, 0, 0, 1, .wo, .val 0, .b⟩
def pcie_PERIOD : Field := ⟨0x44060, 0x0, 1, 0, 8, 16, .rw, .val 0, .b⟩
def pcie_PTM_HOST_W0 : Field := ⟨0x44064, 0x0, 1, 0, 0, 32, .ro, .val 0, .b⟩
def pcie_PTM_HOST_W1 : Field := ⟨0x44068, 0x0, 1, 0, 0, 32, .ro, .val 0, .b⟩
def pcie_PTM_DEV_W0 : Field := ⟨0x4406C, 0x0, 1, 0, 0, 32, .ro, .val 0, .b⟩
def pcie_PTM_DEV_W1 : Field := ⟨0x44070, 0x0, 1, 0, 0, 32, .ro, .val 0, .b⟩
def pcie_PTM_DEV_W2 : Field := ⟨0x44074, 0x0, 1, 0, 0, 32, .ro, .val 0, .b⟩
def pcie_L1_POL_MIN : Field := ⟨0x44078, 0x0, 1, 0, 0, 16, .rw, .val 10, .b⟩
def pcie_L1_POL_MAX : Field := ⟨0x44078, 0x0, 1, 0, 16, 16, .rw, .val 10000, .b⟩
def pcie_L1_NOW : Field := ⟨0x4407C, 0x0, 1, 0, 0, 16, .ro, .val 10, .b⟩
def pcie_SPEED_CAP : Field := ⟨0x44400, 0x0, 1, 0, 0, 3, .rw, .val 5, .e⟩

/-! CAS: chapter 15, R392. -/

def cas_EN : Field := ⟨0x45040, 0x0, 1, 0, 0, 1, .rw, .val 0, .b⟩
def cas_ROOT : Field := ⟨0x45040, 0x0, 1, 0, 1, 1, .rw, .val 0, .b⟩
def cas_TRIG_TX : Field := ⟨0x45040, 0x0, 1, 0, 2, 1, .rw, .val 0, .b⟩
def cas_TRIG_RX : Field := ⟨0x45040, 0x0, 1, 0, 3, 1, .rw, .val 0, .b⟩
def cas_DEV_ID : Field := ⟨0x45044, 0x0, 1, 0, 0, 10, .rw, .val 0, .b⟩
def cas_HORIZON_NS : Field := ⟨0x45048, 0x0, 1, 0, 0, 14, .rw, .val 2000, .b⟩
def cas_RX_CAUSE : Field := ⟨0x4504C, 0x0, 1, 0, 0, 16, .rw, .val 0x8000, .b⟩
def cas_ROLE_NOW : Field := ⟨0x45050, 0x0, 1, 0, 0, 2, .ro, .val 0, .b⟩
def cas_DEPTH : Field := ⟨0x45050, 0x0, 1, 0, 2, 4, .ro, .val 0, .b⟩
def cas_ROOT_ID : Field := ⟨0x45050, 0x0, 1, 0, 6, 10, .ro, .val 0, .b⟩
def cas_HOPS_MAX : Field := ⟨0x45050, 0x0, 1, 0, 16, 5, .ro, .val 0, .b⟩
def cas_SYNCED : Field := ⟨0x45050, 0x0, 1, 0, 21, 1, .ro, .val 0, .b⟩
def cas_ALT_ACTIVE : Field := ⟨0x45050, 0x0, 1, 0, 22, 1, .ro, .val 0, .b⟩
def cas_H_TICKS : Field := ⟨0x45054, 0x0, 1, 0, 0, 16, .ro, .val 0, .b⟩
def cas_LATE_REJECT : Field := ⟨0x45058, 0x0, 1, 0, 0, 32, .rc, .val 0, .b⟩
def cas_DUP_DROP : Field := ⟨0x4505C, 0x0, 1, 0, 0, 32, .rc, .val 0, .b⟩
def cas_RESENDS : Field := ⟨0x45060, 0x0, 1, 0, 0, 32, .rc, .val 0, .b⟩
def cas_FAILOVERS : Field := ⟨0x45064, 0x0, 1, 0, 0, 32, .rc, .val 0, .b⟩
def cas_XFER_SRC_W0 : Field := ⟨0x45070, 0x0, 1, 0, 0, 32, .rw, .val 0, .b⟩
def cas_XFER_SRC_W1 : Field := ⟨0x45074, 0x0, 1, 0, 0, 32, .rw, .val 0, .b⟩
def cas_XFER_DST_W0 : Field := ⟨0x45078, 0x0, 1, 0, 0, 32, .rw, .val 0, .b⟩
def cas_XFER_DST_W1 : Field := ⟨0x4507C, 0x0, 1, 0, 0, 32, .rw, .val 0, .b⟩
def cas_XFER_LEN : Field := ⟨0x45080, 0x0, 1, 0, 0, 32, .rw, .val 0, .b⟩
def cas_XFER_ID : Field := ⟨0x45084, 0x0, 1, 0, 0, 10, .rw, .val 0, .b⟩
def cas_GO : Field := ⟨0x45084, 0x0, 1, 0, 16, 1, .wo, .val 0, .b⟩
def cas_BUSY : Field := ⟨0x45084, 0x0, 1, 0, 17, 1, .ro, .val 0, .b⟩
def cas_ERR : Field := ⟨0x45084, 0x0, 1, 0, 18, 1, .ro, .val 0, .b⟩
def cas_port_ROLE : Field := ⟨0x45100, 0x20, 4, 0, 0, 2, .rw, .val 0, .b⟩
def cas_port_STATE : Field := ⟨0x45104, 0x20, 4, 0, 0, 3, .ro, .val 0, .b⟩
def cas_port_PRSNT : Field := ⟨0x45104, 0x20, 4, 0, 3, 1, .ro, .val 0, .b⟩
def cas_port_PEER_ID : Field := ⟨0x45104, 0x20, 4, 0, 4, 10, .ro, .val 0, .b⟩
def cas_port_DELAY : Field := ⟨0x45108, 0x20, 4, 0, 0, 32, .ro, .val 0, .b⟩
def cas_port_OFFSET : Field := ⟨0x4510C, 0x20, 4, 0, 0, 32, .ro, .val 0, .b⟩
def cas_port_CRC_ERRS : Field := ⟨0x45110, 0x20, 4, 0, 0, 32, .rc, .val 0, .b⟩
def cas_port_ASYM : Field := ⟨0x45114, 0x20, 4, 0, 0, 32, .rw, .factory, .e⟩

/-! TALLY: chapter 20, R470. -/

def tally_SAMPLE_SUMMARY : Field := ⟨0x46040, 0x0, 1, 0, 0, 24, .ro, .val 0, .b⟩
def tally_OVF_SUMMARY : Field := ⟨0x46044, 0x0, 1, 0, 0, 24, .ro, .val 0, .b⟩

/-! Counter group windows: chapter 20, R469. -/

def grp_CNT_W0 : Field := ⟨0x48000, 0x8, 24, 64, 0, 32, .rw, .val 0, .b⟩
def grp_CNT_W1 : Field := ⟨0x48004, 0x8, 24, 64, 0, 16, .rw, .val 0, .b⟩
def grp_FILTER_EPOCH : Field := ⟨0x48004, 0x8, 24, 64, 16, 8, .ro, .val 0, .b⟩
def grp_OVF : Field := ⟨0x48004, 0x8, 24, 64, 31, 1, .rw, .val 0, .b⟩
def grp_PRIV : Field := ⟨0x48200, 0x400, 24, 0, 0, 3, .rw, .val 0x7, .b⟩
def grp_MASTER_KIND : Field := ⟨0x48200, 0x400, 24, 0, 8, 2, .rw, .val 0, .b⟩
def grp_SUBCLASS : Field := ⟨0x48200, 0x400, 24, 0, 16, 16, .rw, .val 0xFFFF, .b⟩
def grp_MASTER_LO : Field := ⟨0x48204, 0x400, 24, 0, 0, 16, .rw, .val 0, .b⟩
def grp_MASTER_HI : Field := ⟨0x48204, 0x400, 24, 0, 16, 16, .rw, .val 0xFFFF, .b⟩
def grp_ADDR_LO_W0 : Field := ⟨0x48208, 0x400, 24, 0, 0, 32, .rw, .val 0, .b⟩
def grp_ADDR_LO_W1 : Field := ⟨0x4820C, 0x400, 24, 0, 0, 4, .rw, .val 0, .b⟩
def grp_ADDR_HI_W0 : Field := ⟨0x48210, 0x400, 24, 0, 0, 32, .rw, .val 0xFFFFFFFF, .b⟩
def grp_ADDR_HI_W1 : Field := ⟨0x48214, 0x400, 24, 0, 0, 4, .rw, .val 0xF, .b⟩
def grp_SAMPLED_W0 : Field := ⟨0x48218, 0x400, 24, 0, 0, 32, .w1c, .val 0, .b⟩
def grp_SAMPLED_W1 : Field := ⟨0x4821C, 0x400, 24, 0, 0, 32, .w1c, .val 0, .b⟩
def grp_SAMPLE_CNT : Field := ⟨0x48220, 0x400, 24, 0, 0, 11, .ro, .val 0, .b⟩
def grp_SAMPLE_JM : Field := ⟨0x48220, 0x400, 24, 0, 12, 9, .ro, .val 0, .b⟩
def grp_SAMPLE_OP : Field := ⟨0x48220, 0x400, 24, 0, 21, 8, .ro, .val 0, .b⟩
def grp_GROUP : Field := ⟨0x48224, 0x400, 24, 0, 0, 5, .ro, .index, .b⟩
def grp_FILTER_PENDING : Field := ⟨0x48224, 0x400, 24, 0, 8, 1, .ro, .val 0, .b⟩

/-! The fields of each page type. -/

/-- Every field of the common header. -/
def ofHDR : List Field :=
  [hdr_TYPE, hdr_INSTANCE, hdr_LAYOUT, hdr_HAS_TABLES, hdr_HAS_EXPERT, hdr_HAS_INJECT, hdr_TABLE_COUNT, hdr_ENABLE, hdr_SOFT_RESET, hdr_EXPERT, hdr_FREEZE, hdr_READY, hdr_BUSY, hdr_DEGRADED, hdr_FAULT_CONTAINED, hdr_PSTATE, hdr_EVENT, hdr_EVENT_MASK, hdr_EVENT_INJECT, hdr_FIRST_BIT, hdr_FIRST_MULTI, hdr_FIRST_INJECTED, hdr_FIRST_VALID, hdr_SCALE] ++
  [hdr_TIMEOUT_COUNT, hdr_RECOVERY_COUNT, hdr_CFG_EPOCH, hdr_ERR_CODE, hdr_ERR_INJECTED, hdr_ERR_OVERWRITTEN, hdr_ERR_VALID, hdr_ERR_COUNT, hdr_ERR_DETAIL0, hdr_ERR_DETAIL1, hdr_ERR_TIME]

/-- Every field of the TOP page. -/
def ofTOP : List Field :=
  [top_ROM_DONE, top_START_STATE, top_FW_VALID, top_FW_IMAGE, top_ISL_PLL_LOCK, top_DLL_LOCK, top_HBM_TRAINED, top_CAL_LOADED, top_CAL_DONE, top_CAL_BACKGROUND_ONLY, top_CAL_BANK_SRC, top_READY, top_FAILED, top_FAIL_CAUSE, top_PART, top_STEPPING, top_ROM_VERSION, top_REQ, top_OPEN, top_OPENED_BY, top_KEY, top_FLR_STOPS_ACQ]

/-- Every field of the LIFE page. -/
def ofLIFE : List Field :=
  [life_STATE, life_ENTRIES_USED, life_JOURNAL_BUSY, life_ATT_READY, life_ROM_RECOVERY, life_POLICY, life_TAP_OPEN, life_MDIAG_OPEN, life_RWL_OPEN, life_EXPERT_PERMIT, life_INJECT_PERMIT, life_TAP_REMAIN, life_UID_W0, life_UID_W1, life_OTP_SVN, life_MRAM_SVN, life_FW_SVN, life_ATT_NEXT, life_ATT_RESERVED, life_BOOT_PREF, life_FW_IMAGE, life_KEY_REVOKED]

/-- Every field of the PWR page. -/
def ofPWR : List Field :=
  [pwr_VCORE_POL_MIN, pwr_VCORE_POL_MAX, pwr_VSRAM_POL_MIN, pwr_VSRAM_POL_MAX, pwr_VCORE_NOW, pwr_VSRAM_NOW, pwr_V_CPM_CORE, pwr_V_CPM_SRAM, pwr_OVERRIDDEN_CORE, pwr_OVERRIDDEN_SRAM, pwr_AVS_HOLD, pwr_EXHAUSTED, pwr_THROTTLE_TJ, pwr_TJ_MAX, pwr_STAGE, pwr_TS_VALID, pwr_JM_MHZ, pwr_TILL_MHZ, pwr_TEMP, pwr_P_CORE, pwr_P_SRAM, pwr_LAST_TRIP, pwr_TRIP_SENSOR]

/-- Every field of the AGE page. -/
def ofAGE : List Field :=
  [age_RECOMPUTE, age_PLAN_PERIOD, age_VALID, age_DEFAULT, age_COMPUTING, age_PLAN_SEQ, age_PROJECTED_YEARS, age_LIMITER, age_GUARD_CORE, age_GUARD_SRAM, age_REF_FLOOR_0, age_REF_FLOOR_1, age_RETRAIN_DAYS, age_DEG_MAX_CORE, age_DEG_MAX_SRAM, age_HOURS, age_WARN_YEARS, age_RETIRE_HORIZON]

/-- Every field of the CLK page. -/
def ofCLK : List Field :=
  [clk_DLL_STATE, clk_ALL_LOCKED, clk_CLKS_PRESENT, clk_CLKS_RANGE_ERR, clk_STEADY, clk_ISLREF_SRC, clk_ISLREF_HOLDOVER, clk_ISLREF_CLKS, clk_DITHER_EN, clk_RESEED, clk_RELOCK, clk_FINE, clk_BAND, clk_GOOD, clk_KHZ, clk_ISL_LOCK_W0, clk_ISL_LOCK_W1, clk_ISL_FALLBACK_W0, clk_ISL_FALLBACK_W1, clk_FORCE, clk_DITHER_SEED]

/-- Every field of the TBASE page. -/
def ofTBASE : List Field :=
  [tbase_REF_SEL, tbase_PPS_ARM, tbase_SET_COMMIT, tbase_REF_VALID, tbase_COASTING, tbase_SLEWING, tbase_REF_MISMATCH, tbase_EPOCH, tbase_NOMINAL_FREQ, tbase_NOW_W0, tbase_NOW_W1, tbase_NOW_W2, tbase_RATIO, tbase_PHASE_ERR, tbase_COAST_TIME, tbase_PPS_LOAD_W0, tbase_PPS_LOAD_W1, tbase_PPS_STAMP_W0, tbase_PPS_STAMP_W1, tbase_PPS_STAMP_W2, tbase_LOOP_BW, tbase_SET_W0, tbase_SET_W1, tbase_SET_W2]

/-- Every field of the INJ page. -/
def ofINJ : List Field :=
  [inj_ARM, inj_DISARM, inj_FORCE, inj_ARMED, inj_ARM_WINDOW, inj_ELEMENT, inj_PAGE, inj_INJECTIONS, inj_REFUSED, inj_LAST_PAGE, inj_LAST_BIT, inj_ON_DEGRADED, inj_FORCE_FAULT, inj_FAULT_PAGES_W0, inj_FAULT_PAGES_W1, inj_FAULT_PAGES_W2, inj_FAULT_PAGES_W3]

/-- Every field of the FE page. -/
def ofFE : List Field :=
  [fe_FS_TRIM, fe_BUF_FORCE_ON, fe_SAMPLED, fe_BUF_ON, fe_START, fe_BUSY, fe_VALID, fe_QUIET, fe_MEAN_OK, fe_NOISE_OK, fe_CLIPPED, fe_QUIET_MEAN, fe_QUIET_RMS, fe_PATH_DELAY, fe_MEAN_LIMIT, fe_RMS_LIMIT]

/-- Every field of the LOOM page. -/
def ofLOOM : List Field :=
  [loom_MODE, loom_FIR_BYPASS, loom_CORR_BYPASS, loom_MODE_READY, loom_SPARES_LEFT, loom_CAL_SPARE_BUSY, loom_CAL_SPARE_POS, loom_BORROW_STOPPED, loom_PATCH_ACTIVE, loom_PATCH_POS, loom_LATENCY, loom_PATCH_COUNT]

/-- Every field of the SLICE page. -/
def ofSLICE : List Field :=
  [slice_PENDING, slice_REFUSED, slice_INDEX, slice_ROLE, slice_LOGICAL_POS, slice_TAP, slice_CYCLE, slice_RETIRE]

/-- Every field of the ASSAY page. -/
def ofASSAY : List Field :=
  [assay_BLACKOUT, assay_MANUAL, assay_COMMIT_NOW, assay_DELTA_T, assay_MAX_INTERVAL, assay_COMMIT_MIN_GAP, assay_GROUPS, assay_START, assay_CANCEL, assay_PENDING, assay_FG_BUSY, assay_QUIET_RETRY, assay_METHOD, assay_RUN_ACTIVE, assay_RUN_INDEX, assay_WAIT_STEADY, assay_OUT_OF_LIMIT, assay_OVERRIDDEN, assay_DUE_COUNT, assay_BLACKOUT_HELD, assay_SPUR, assay_SKEW_RMS, assay_VERN_RESID, assay_STALE_ANY] ++
  [assay_CALB0_VALID, assay_CALB1_VALID, assay_FCAL_VALID, assay_ACTIVE, assay_COMMIT_BUSY, assay_CALB0_FAILED, assay_CALB1_FAILED, assay_CALB0_SEQ, assay_CALB1_SEQ, assay_SPUR_LIMIT, assay_SKEW_LIMIT, assay_OFFSET_LIMIT, assay_GAIN_LIMIT, assay_VERN_LIMIT, assay_SPUR_REF_FREQ]

/-- Every field of the TRIG page. -/
def ofTRIG : List Field :=
  [trig_AUTO_WIN, trig_AUTO_DEADBAND, trig_STATE, trig_SRC_IDLE, trig_MET_STICKY, trig_cmp_EN, trig_cmp_SLOPE, trig_cmp_HYST, trig_cmp_THRESH, trig_cmp_AUTO_EN, trig_cmp_PCT, trig_cmp_POL_LO, trig_cmp_POL_HI, trig_cmp_LEVEL_NOW, trig_cmp_AUTO_ACTIVE, trig_cmp_AUTO_NO_SWING, trig_cmp_AUTO_NO_SOURCE, trig_cmp_AUTO_OVERRIDDEN, trig_cmp_LVL_STATE, trig_tin_EN, trig_tin_SLOPE, trig_tin_HYST, trig_tin_THRESH, trig_tin_OUT] ++
  [trig_HOLDOFF_REJECT, trig_OVERLAP_REJECT, trig_RATE_REJECT, trig_PROV_REJECT, trig_SEL0, trig_SEL1, trig_POL0, trig_POL1, trig_WIDTH0, trig_WIDTH1, trig_OUT_DELAY, trig_cond_EN, trig_cond_TYPE, trig_cond_SRC, trig_cond_SLOPE, trig_cond_QUAL, trig_cond_REF, trig_cond_FUNC, trig_cond_L1, trig_cond_H1, trig_cond_L2, trig_cond_H2, trig_cond_T1_W0, trig_cond_T1_W1] ++
  [trig_cond_T2_W0, trig_cond_T2_W1, trig_cond_TERM, trig_cond_AUTO_EN, trig_cond_PCT, trig_cond_POL_LO, trig_cond_POL_HI, trig_cond_LEVEL_NOW, trig_cond_AUTO_ACTIVE, trig_cond_AUTO_NO_SWING, trig_cond_AUTO_NO_SOURCE, trig_cond_AUTO_OVERRIDDEN, trig_cond_LVL_STATE, trig_CAND_EN, trig_OUT0_PROV, trig_OUT1_CANCEL]

/-- Every field of the TSEQ page. -/
def ofTSEQ : List Field :=
  [tseq_START_STATE, tseq_RESTART, tseq_STATE, tseq_HOLDOFF_ACTIVE, tseq_PREFILL, tseq_PROV_OUT, tseq_QUAL_TIME, tseq_MIN_HOLDOFF_FLOOR, tseq_RAND_SEED, tseq_HOLDOFF_LEFT, tseq_MIN_HOLDOFF]

/-- Every field of the VERN page. -/
def ofVERN : List Field :=
  [vern_FREE, vern_TRIG_HELD, vern_TIC_HELD, vern_IN_POOL, vern_RETIRED_W0, vern_RETIRED_W1, vern_STARVE_COUNT, vern_DV, vern_GATE, vern_SRC_OFFSET]

/-- Every field of the TIC page. -/
def ofTIC : List Field :=
  [tic_ARM, tic_STOP, tic_RUNNING, tic_ORDER_DELAY, tic_ch_MODE, tic_ch_SRC_A, tic_ch_SLOPE_A, tic_ch_SRC_B, tic_ch_SLOPE_B, tic_ch_ARM_SRC, tic_ch_TO_QUEUE, tic_ch_GATE, tic_ch_AVG_M1, tic_ch_WINDOW, tic_ch_QUEUE, tic_ch_THRESH, tic_ch_LEVEL, tic_ch_LOST_COUNT, tic_ch_ORDER_COUNT, tic_ch_MERGE_COUNT, tic_ch_NOPAIR_COUNT, tic_ch_COARSE_COUNT, tic_ch_REF_W0, tic_ch_REF_W1] ++
  [tic_ch_REF_W2, tic_ch_RES_W0, tic_ch_RES_W1, tic_ch_RES_W2, tic_FORCE_TAP]

/-- Every field of the ACQ page. -/
def ofACQ : List Field :=
  [acq_ARM, acq_STOP, acq_SEG_MODE, acq_PIN_EN, acq_AUTO_RELEASE, acq_AUTO_SPILL, acq_SEG_RINGS, acq_ARMED, acq_STOPPING, acq_WRITING, acq_PRE_LEN_W0, acq_PRE_LEN_W1, acq_POST_LEN_W0, acq_POST_LEN_W1, acq_PRE_FILL_REJECT, acq_PIN_MARK, acq_ARM_INDEX_W0, acq_ARM_INDEX_W1, acq_ring_BASE, acq_ring_SIZE, acq_ring_USABLE_W0, acq_ring_USABLE_W1, acq_ring_WRITE_INDEX_W0, acq_ring_WRITE_INDEX_W1] ++
  [acq_ring_OLDEST_VALID_W0, acq_ring_OLDEST_VALID_W1, acq_ring_OLDEST_HELD_W0, acq_ring_OLDEST_HELD_W1, acq_ring_WRITE_OFFSET, acq_ring_STREAM_EN, acq_ring_SPILL_BASE, acq_ring_SPILL_SIZE, acq_ring_SPILL_INDEX_W0, acq_ring_SPILL_INDEX_W1, acq_DELAYED_WINDOW]

/-- Every field of the LEDG page. -/
def ofLEDG : List Field :=
  [ledg_RES_LOG2, ledg_SPILL_LEDGER_EN, ledg_SPILL_LOG2, ledg_BASE, ledg_SPILL_LEDGER_BASE, ledg_SPILL_LEDGER_STALE, ledg_STAGED, ledg_NEXT_SEG_W0, ledg_NEXT_SEG_W1, ledg_WRITTEN_SEG_W0, ledg_WRITTEN_SEG_W1, ledg_RELEASE_W0, ledg_RELEASE_W1, ledg_RELEASE_UPTO_W0, ledg_RELEASE_UPTO_W1, ledg_FULL_REJECT, ledg_OVERRUN_COUNT, ledg_SPILL_GAP_COUNT, ledg_SEGSPILL_BASE, ledg_SEGSPILL_SIZE, ledg_SEGSPILL_HEAD_W0, ledg_SEGSPILL_HEAD_W1, ledg_SEGSPILL_TAIL_W0, ledg_SEGSPILL_TAIL_W1]

/-- Every field of the DECI page. -/
def ofDECI : List Field :=
  [deci_RATE_TOTAL, deci_RATE_LIMIT, deci_SETTLED, deci_RUNNING, deci_dch_EN, deci_dch_MODE, deci_dch_AC, deci_dch_CIC_ORDER, deci_dch_FIR_RF, deci_dch_RATIO_M1, deci_dch_PHASE, deci_dch_SETTLED, deci_dch_SETTLE_INDEX_W0, deci_dch_SETTLE_INDEX_W1, deci_dch_FIRST_OUT_W0, deci_dch_FIRST_OUT_W1, deci_dch_CENTRE2_W0, deci_dch_CENTRE2_W1, deci_dch_RATE, deci_dch_LATENCY_OUT, deci_dch_DROP_COUNT, deci_dch_SAT_COUNT]

/-- Every field of the ACCU page. -/
def ofACCU : List Field :=
  [accu_RUNNING, accu_SPARE_BANKS, accu_ECC_CORR, accu_part_RUN, accu_part_MODE, accu_part_AUTO_DUMP, accu_part_HBM_EXT, accu_part_SRC, accu_part_SRC2, accu_part_RES_FAIL_ONLY, accu_part_RES_TO_QUEUE, accu_part_EXCL_DEGRADED, accu_part_EXCL_CLIPPED, accu_part_BASE_UNIT, accu_part_UNITS, accu_part_CAUSE_MASK, accu_part_POINTS, accu_part_PARAM0, accu_part_PARAM1, accu_part_PARAM2, accu_part_PARAM3, accu_part_CLEAR, accu_part_SNAP, accu_part_SNAP_CLEAR] ++
  [accu_part_LOAD, accu_part_ABORT, accu_part_LOAD_SLOT, accu_part_STATE, accu_part_SWEEP, accu_part_FULL_STATE, accu_part_DUMP_HEAD, accu_part_BACKLOG, accu_part_RECORDS, accu_part_SKIPPED, accu_part_MISSED, accu_part_TORN_COUNT, accu_part_STOP_ON_FAIL, accu_part_DUMP_BASE, accu_part_DUMP_SLOTS, accu_part_EXT_BASE, accu_part_RES_BASE, accu_part_RES_SIZE, accu_part_RES_QUEUE, accu_part_RES_COUNT_W0, accu_part_RES_COUNT_W1]

/-- Every field of the AUX page. -/
def ofAUX : List Field :=
  [aux_LINK_EN, aux_HBM_EN, aux_QUEUE_EN, aux_QUEUE, aux_BATCH, aux_FLUSH_US, aux_BUF_BASE, aux_BUF_SIZE, aux_NEXT_SEQ, aux_OLDEST_SEQ, aux_ALARM_W0, aux_ALARM_W1, aux_QUEUE_LOST, aux_auxc_EN, aux_auxc_SYNC, aux_auxc_AUTO_PD, aux_auxc_REG_LEN_M1, aux_auxc_INJ_LEN, aux_auxc_SRC_MAIN, aux_auxc_SRC_TIN, aux_auxc_SRC_ALARM, aux_auxc_REG_PERIOD, aux_auxc_STATE, aux_auxc_STEP] ++
  [aux_auxc_INJ_PENDING, aux_auxc_INJ_MISSED, aux_auxc_LATE_PASS, aux_auxc_INJ_DEFERRED]

/-- Every field of the AUXF page. -/
def ofAUXF : List Field :=
  [auxf_flt_EN, auxf_flt_ORDER, auxf_flt_NOTCH, auxf_flt_CHANNEL, auxf_flt_PDIFF, auxf_flt_SETTLED, auxf_flt_OUTPUTS, auxf_flt_LAST]

/-- Every field of the QMGR page. -/
def ofQMGR : List Field :=
  [qmgr_EN, qmgr_SQ_LOG2, qmgr_CQ_LOG2, qmgr_IRQ_EN, qmgr_VECTOR, qmgr_ASQ_BASE_W0, qmgr_ASQ_BASE_W1, qmgr_ACQ_BASE_W0, qmgr_ACQ_BASE_W1, qmgr_QUEUES_ACTIVE, qmgr_CMDS_OUT, qmgr_DB_IGNORED, qmgr_STREAM_DROPS, qmgr_EVENT_DROPS]

/-- Every field of the BENCHG page. -/
def ofBENCHG : List Field :=
  [benchg_DISPATCH_EN, benchg_XSTEAL_EN, benchg_IN_SERVICE, benchg_ISOLATED, benchg_RECIPE_BASE, benchg_SCRATCH_BASE, benchg_SLOT_UNITS, benchg_SLOTS, benchg_SLOTS_FREE, benchg_TICKETS_OUT, benchg_ORDER_ACTIVE, benchg_TIMEOUTS, benchg_REISSUES, benchg_DUP_COMMITS, benchg_MISSED, benchg_SCRATCH_WAITS, benchg_PIN, benchg_XSTEAL_MIN]

/-- Every field of the EVT page. -/
def ofEVT : List Field :=
  [evt_ROUTE_LOST, evt_PENDING_W0, evt_PENDING_W1, evt_PENDING_W2, evt_PENDING_W3, evt_DEGRADED_W0, evt_DEGRADED_W1, evt_DEGRADED_W2, evt_DEGRADED_W3, evt_CONTAINED_W0, evt_CONTAINED_W1, evt_CONTAINED_W2, evt_CONTAINED_W3]

/-- Every field of the BENCH page. -/
def ofBENCH : List Field :=
  [bench_BUSY, bench_IN_SERVICE, bench_FALLBACK, bench_RESETTING, bench_REJOIN_FAILS, bench_RETIRED, bench_TICKETS_DONE, bench_STEALS_IN, bench_STEALS_OUT, bench_jm_DEQUE_LEN, bench_jm_RECIPE, bench_jm_ATTEMPT, bench_jm_ELAPSED, bench_jm_TIMEOUTS]

/-- Every field of the MEMC page. -/
def ofMEMC : List Field :=
  [memc_TIER, memc_MULT, memc_OVERRIDDEN_REF, memc_OVERRIDDEN_PD, memc_STACK_HOT, memc_STACK_TEMP, memc_DRAM_TJ, memc_POL_MIN, memc_POL_MAX, memc_OWED_MAX, memc_HAMMER_THRESH, memc_PD_TIMER, memc_PD_ADAPT, memc_PD_POL_MIN, memc_PD_POL_MAX, memc_PD_NOW, memc_ACT_LIMIT, memc_PARITY_REPLAYS, memc_ECC_CORR, memc_HAMMER_REFRESH, memc_THROTTLES, memc_CATCHUPS]

/-- Every field of the MEMS page. -/
def ofMEMS : List Field :=
  [mems_RATE, mems_RATE_NOW, mems_RATE_PENDING, mems_TRAINING, mems_RETRAIN, mems_RETRAIN_PC, mems_REBUILD, mems_REBUILD_PC, mems_SPARES_0, mems_SPARES_1, mems_GROUP_DEGRADED, mems_RETRAIN_DEFERRED, mems_FROZEN_W0, mems_FROZEN_W1, mems_REBUILD_RATE, mems_REBUILD_BLOCKS, mems_LOST_LINES, mems_BAR6_ABORTS]

/-- Every field of the MEMT page. -/
def ofMEMT : List Field :=
  [memt_EYE_MIN, memt_WORST_EYE, memt_WORST_LANE, memt_WORST_LANE_HI, memt_RETRAINS]

/-- Every field of the PCIE page. -/
def ofPCIE : List Field :=
  [pcie_SPEED, pcie_WIDTH, pcie_DL_UP, pcie_HOLD, pcie_BME, pcie_PTM_EN, pcie_IN_L1, pcie_REFCLK_MODE, pcie_L1_OVERRIDDEN, pcie_DISCARD, pcie_EGRESS_LEVEL, pcie_HOLD_TIME, pcie_LINK_DOWNS, pcie_CORR_ERRS, pcie_BAR6_OUTSIDE, pcie_BAD_ACCESS, pcie_TRIGGER, pcie_PERIOD, pcie_PTM_HOST_W0, pcie_PTM_HOST_W1, pcie_PTM_DEV_W0, pcie_PTM_DEV_W1, pcie_PTM_DEV_W2, pcie_L1_POL_MIN] ++
  [pcie_L1_POL_MAX, pcie_L1_NOW, pcie_SPEED_CAP]

/-- Every field of the CAS page. -/
def ofCAS : List Field :=
  [cas_EN, cas_ROOT, cas_TRIG_TX, cas_TRIG_RX, cas_DEV_ID, cas_HORIZON_NS, cas_RX_CAUSE, cas_ROLE_NOW, cas_DEPTH, cas_ROOT_ID, cas_HOPS_MAX, cas_SYNCED, cas_ALT_ACTIVE, cas_H_TICKS, cas_LATE_REJECT, cas_DUP_DROP, cas_RESENDS, cas_FAILOVERS, cas_XFER_SRC_W0, cas_XFER_SRC_W1, cas_XFER_DST_W0, cas_XFER_DST_W1, cas_XFER_LEN, cas_XFER_ID] ++
  [cas_GO, cas_BUSY, cas_ERR, cas_port_ROLE, cas_port_STATE, cas_port_PRSNT, cas_port_PEER_ID, cas_port_DELAY, cas_port_OFFSET, cas_port_CRC_ERRS, cas_port_ASYM]

/-- Every field of the TALLY page. -/
def ofTALLY : List Field :=
  [tally_SAMPLE_SUMMARY, tally_OVF_SUMMARY]

/-- Every field of the counter group windows. -/
def ofTALLYW : List Field :=
  [grp_CNT_W0, grp_CNT_W1, grp_FILTER_EPOCH, grp_OVF, grp_PRIV, grp_MASTER_KIND, grp_SUBCLASS, grp_MASTER_LO, grp_MASTER_HI, grp_ADDR_LO_W0, grp_ADDR_LO_W1, grp_ADDR_HI_W0, grp_ADDR_HI_W1, grp_SAMPLED_W0, grp_SAMPLED_W1, grp_SAMPLE_CNT, grp_SAMPLE_JM, grp_SAMPLE_OP, grp_GROUP, grp_FILTER_PENDING]

end Sys2Proof.Machine.Reg

namespace Sys2Proof.Machine.Ev

/-! EVENT bits of TOP (R479). A name of several bits is the number of its lowest bit. -/

def top_START_READY : Nat := 0
def top_START_FAILED : Nat := 1
def top_GATE_REFUSED : Nat := 2

/-! EVENT bits of LIFE (R460). A name of several bits is the number of its lowest bit. -/

def life_TRANSITION_DONE : Nat := 0
def life_TRANSITION_REFUSED : Nat := 1
def life_JOURNAL_REPLAY : Nat := 2
def life_OTP_TORN : Nat := 3
def life_TAP_UNLOCKED : Nat := 4
def life_TAP_LOCKED : Nat := 5
def life_ATTEST_EXHAUSTED : Nat := 6
def life_ROLLBACK_RAISED : Nat := 7
def life_FW_ACTIVATED : Nat := 8

/-! EVENT bits of FORE (R417). A name of several bits is the number of its lowest bit. -/

def fore_WATCHDOG : Nat := 0
def fore_LOCKSTEP : Nat := 1
def fore_ROM_RECOVERY : Nat := 2

/-! EVENT bits of PWR (R442). A name of several bits is the number of its lowest bit. -/

def pwr_POLICY_CONFLICT : Nat := 0
def pwr_AVS_FAIL : Nat := 1
def pwr_MARGIN_EXHAUSTED : Nat := 2
def pwr_THROTTLE : Nat := 3
def pwr_THROTTLE_END : Nat := 4
def pwr_SENSOR_FAIL : Nat := 5
def pwr_THERM_WARN : Nat := 6

/-! EVENT bits of AGE (R443). A name of several bits is the number of its lowest bit. -/

def age_PLAN_DONE : Nat := 0
def age_LIMIT_NEAR : Nat := 1
def age_RETIRE_REQUESTED : Nat := 2
def age_PLAN_STORE_FAIL : Nat := 3
def age_DEFAULT_PLAN : Nat := 4

/-! EVENT bits of CLK (R57). A name of several bits is the number of its lowest bit. -/

def clk_DLL_UNLOCK : Nat := 0
def clk_DLL_FAIL : Nat := 4
def clk_ISL_CLK_FALLBACK : Nat := 8
def clk_ISLREF_CHANGE : Nat := 9
def clk_CLKS_LOST : Nat := 10
def clk_CLKS_RANGE : Nat := 11

/-! EVENT bits of TBASE (R68). A name of several bits is the number of its lowest bit. -/

def tbase_REF_LOST : Nat := 0
def tbase_REF_RETURN : Nat := 1
def tbase_SLEW_DONE : Nat := 2
def tbase_EPOCH_INC : Nat := 3
def tbase_PPS_MISSING : Nat := 4
def tbase_EPOCH_WRAP : Nat := 5

/-! EVENT bits of INJ (R427). A name of several bits is the number of its lowest bit. -/

def inj_INJ_REFUSED : Nat := 0
def inj_DISARMED : Nat := 1

/-! EVENT bits of FE (R92). A name of several bits is the number of its lowest bit. -/

def fe_OVERRANGE : Nat := 0
def fe_QUIET_DONE : Nat := 1
def fe_NOT_QUIET : Nat := 2

/-! EVENT bits of LOOM (R93). A name of several bits is the number of its lowest bit. -/

def loom_SLICE_FAIL : Nat := 0
def loom_SUBSTITUTED : Nat := 1
def loom_SPARE_EXHAUSTED : Nat := 2
def loom_MODE_CHANGE_REFUSED : Nat := 3
def loom_RETIRE_REFUSED : Nat := 4
def loom_RETIRE_DONE : Nat := 5

/-! EVENT bits of ASSAY (R117). A name of several bits is the number of its lowest bit. -/

def assay_CYCLE_DONE : Nat := 0
def assay_INPUT_NOT_QUIET : Nat := 4
def assay_FG_DONE : Nat := 5
def assay_RUN_ABANDONED : Nat := 6
def assay_QUALITY_LIMIT : Nat := 7
def assay_COMMIT_DONE : Nat := 8
def assay_MRAM_RETRY : Nat := 9
def assay_POLICY_CONFLICT : Nat := 10
def assay_BANK_FALLBACK : Nat := 11
def assay_TRAIN_RESTART : Nat := 12
def assay_VERN_STALE : Nat := 13

/-! EVENT bits of TRIG (R518). A name of several bits is the number of its lowest bit. -/

def trig_CFG_REFUSED : Nat := 0
def trig_NO_SWING : Nat := 1
def trig_POLICY_CONFLICT : Nat := 2
def trig_NO_SOURCE : Nat := 3
def trig_SRC_IDLE : Nat := 4
def trig_PROV_RETRACTED : Nat := 8
def trig_QUAL_EXPIRED : Nat := 9
def trig_PROV_FULL : Nat := 10
def trig_RATE_LIMITED : Nat := 11
def trig_OUT_MERGED : Nat := 12
def trig_INTERP_FALLBACK : Nat := 13

/-! EVENT bits of TSEQ (R174). A name of several bits is the number of its lowest bit. -/

def tseq_TABLE_REFUSED : Nat := 0
def tseq_STATE_TIMEOUT : Nat := 1

/-! EVENT bits of VERN (R176). A name of several bits is the number of its lowest bit. -/

def vern_STARVED : Nat := 0
def vern_CONV_TIMEOUT : Nat := 1
def vern_UNIT_RETIRED : Nat := 2
def vern_TABLE_REFUSED : Nat := 3

/-! EVENT bits of TIC (R193). A name of several bits is the number of its lowest bit. -/

def tic_RESULT : Nat := 0
def tic_CFG_REFUSED : Nat := 8
def tic_LOST : Nat := 9
def tic_ORDER : Nat := 10
def tic_MERGED : Nat := 11
def tic_NO_PAIR : Nat := 12
def tic_COARSE : Nat := 13
def tic_OVERRANGE : Nat := 14

/-! EVENT bits of ACQ (R223). A name of several bits is the number of its lowest bit. -/

def acq_ARM_REFUSED : Nat := 0
def acq_STOP_DONE : Nat := 1
def acq_SPILL_GAP : Nat := 2

/-! EVENT bits of LEDG (R224). A name of several bits is the number of its lowest bit. -/

def ledg_LEDGER_FULL : Nat := 0
def ledg_PIN_NEAR : Nat := 1
def ledg_PIN_OVERRUN : Nat := 2
def ledg_SPILL_FULL : Nat := 3
def ledg_LEDGER_SPILL_LAG : Nat := 4
def ledg_SPILL_ERR : Nat := 5
def ledg_TABLE_REFUSED : Nat := 6

/-! EVENT bits of DECI (R247). A name of several bits is the number of its lowest bit. -/

def deci_CFG_REFUSED : Nat := 0
def deci_DROP : Nat := 1
def deci_SAT : Nat := 2
def deci_SETTLE : Nat := 3

/-! EVENT bits of ACCU (R273). A name of several bits is the number of its lowest bit. -/

def accu_DUMP_DONE : Nat := 0
def accu_CFG_REFUSED : Nat := 16
def accu_FULL : Nat := 17
def accu_TORN : Nat := 18
def accu_BEHIND : Nat := 19
def accu_ECC_FIX : Nat := 20
def accu_ECC_LOST : Nat := 21
def accu_MASK_FAIL : Nat := 22
def accu_SAT : Nat := 23

/-! EVENT bits of AUX (R407). A name of several bits is the number of its lowest bit. -/

def aux_INJ_MISSED : Nat := 0
def aux_CONV_TIMEOUT : Nat := 4
def aux_ALARM : Nat := 8
def aux_QUEUE_LOST : Nat := 9
def aux_CFG_REFUSED : Nat := 10
def aux_TABLE_REFUSED : Nat := 11

/-! EVENT bits of AUXF (R408). A name of several bits is the number of its lowest bit. -/

def auxf_SETTLED : Nat := 0
def auxf_CFG_REFUSED : Nat := 4

/-! EVENT bits of QMGR (R326). A name of several bits is the number of its lowest bit. -/

def qmgr_DOORBELL_ERR : Nat := 0
def qmgr_QUEUE_ERR : Nat := 1
def qmgr_STREAM_DROP : Nat := 2
def qmgr_EVENT_OVERFLOW : Nat := 3

/-! EVENT bits of BENCHG (R303). A name of several bits is the number of its lowest bit. -/

def benchg_TICKET_TIMEOUT : Nat := 0
def benchg_BENCH_ISOLATED : Nat := 1
def benchg_BENCH_REJOINED : Nat := 2
def benchg_PIN_BROKEN : Nat := 3
def benchg_BEHIND : Nat := 4
def benchg_JM_RETIRED : Nat := 5
def benchg_TABLE_REFUSED : Nat := 6

/-! EVENT bits of BENCH (R305). A name of several bits is the number of its lowest bit. -/

def bench_TICKET_TIMEOUT : Nat := 0
def bench_ISL_RESET : Nat := 1
def bench_JM_RETIRED : Nat := 2

/-! EVENT bits of MEMC (R351). A name of several bits is the number of its lowest bit. -/

def memc_TIER_CHANGE : Nat := 0
def memc_CATCHUP : Nat := 1
def memc_PARITY_ALERT : Nat := 2
def memc_HAMMER : Nat := 3
def memc_THROTTLE : Nat := 4
def memc_POLICY_CONFLICT : Nat := 5
def memc_STACK_HOT : Nat := 6

/-! EVENT bits of MEMS (R352). A name of several bits is the number of its lowest bit. -/

def mems_PC_FROZEN : Nat := 0
def mems_REBUILD_DONE : Nat := 1
def mems_SPARE_EXHAUSTED : Nat := 2
def mems_LINE_LOST : Nat := 3
def mems_RATE_REFUSED : Nat := 4
def mems_RATE_DONE : Nat := 5
def mems_RETRAIN_DONE : Nat := 6
def mems_RETRAIN_DEFERRED : Nat := 7
def mems_WBUF_OVERFLOW : Nat := 8

/-! EVENT bits of PCIE (R371). A name of several bits is the number of its lowest bit. -/

def pcie_LINK_DOWN : Nat := 0
def pcie_LINK_UP : Nat := 1
def pcie_HOLD_DISCARDED : Nat := 2
def pcie_EGRESS_FULL : Nat := 3
def pcie_PTM_DONE : Nat := 4
def pcie_PTM_REFUSED : Nat := 5
def pcie_CPL_TIMEOUT : Nat := 6
def pcie_MARGIN_DONE : Nat := 7
def pcie_POLICY_CONFLICT : Nat := 8
def pcie_SPEED_CHANGE : Nat := 9

/-! EVENT bits of CAS (R392). A name of several bits is the number of its lowest bit. -/

def cas_PORT_UP : Nat := 0
def cas_PORT_DOWN : Nat := 4
def cas_FAILOVER : Nat := 8
def cas_ID_CONFLICT : Nat := 9
def cas_ROOT_CONFLICT : Nat := 10
def cas_HORIZON_SHORT : Nat := 11
def cas_LATE : Nat := 12
def cas_XACC_REFUSED : Nat := 13
def cas_XFER_DONE : Nat := 14
def cas_TABLE_REFUSED : Nat := 15

/-! EVENT bits of TALLY (R470). A name of several bits is the number of its lowest bit. -/

def tally_SAMPLE : Nat := 0
def tally_OVERFLOW : Nat := 24

end Sys2Proof.Machine.Ev
end

