-- ==== Sys2Proof/Machine/Memory.lean ====
section
/-!
DEFINITION. The HBM tier of record space as bytes by offset (R193 to R195, R328): a list of cells in one canonical form,
offsets strictly rising. An offset that is not listed has not been written, and what it reads as is left open (R195).
-/

namespace Sys2Proof.Machine

/-- Bytes of record space by offset, offsets strictly rising. -/
abbrev Memory := List Host.Cell

/-- Bytes of the HBM tier: 45 GiB (R358). -/
def hbmSize : Nat := 45 * 2 ^ 30

/-- The canonical form: offsets strictly rising. No entry equals what an unlisted offset reads as, because an unlisted
offset has no value. -/
def Memory.wf (m : Memory) : Bool :=
  match m with
  | [] => true
  | [_] => true
  | a :: b :: t => decide (a.1 < b.1) && Memory.wf (b :: t)

/-- The byte listed at an offset. -/
def Memory.read (m : Memory) (a : Nat) : Option Byte :=
  match m with
  | [] => none
  | (k, v) :: t => if a = k then some v else Memory.read t a

/-- Store one byte. -/
def Memory.write (m : Memory) (a : Nat) (b : Byte) : Memory :=
  match m with
  | [] => [(a, b)]
  | (k, v) :: t => if a < k then (a, b) :: (k, v) :: t else if a = k then (a, b) :: t else (k, v) :: Memory.write t a b

/-- Store bytes at consecutive offsets. -/
def Memory.writeBytes (m : Memory) (a : Nat) : List Byte → Memory
  | [] => m
  | b :: bs => Memory.writeBytes (m.write a b) (a + 1) bs

/-- The four bytes of a word, least significant first (R6). -/
def wordBytes (w : Nat) : List Byte :=
  [BitVec.ofNat 8 w, BitVec.ofNat 8 (w / 256), BitVec.ofNat 8 (w / 65536), BitVec.ofNat 8 (w / 16777216)]

/-- Store 32-bit words, little-endian. -/
def Memory.writeWords (m : Memory) (a : Nat) : List Nat → Memory
  | [] => m
  | w :: ws => Memory.writeWords (m.writeBytes a (wordBytes w)) (a + 4) ws

/-- Remove a byte: its content is lost and reads as left open (R350). -/
def Memory.lose (m : Memory) (a n : Nat) : Memory := m.filter fun c => !(decide (a ≤ c.1) && decide (c.1 < a + n))

end Sys2Proof.Machine
end

