-- ==== Sys2Proof/Machine/State.lean ====
section
/-!
DEFINITION. The state of the QM9640 as plain data: the queue of waiting commands, the device's volatile state block by block,
its non-volatile memories (MRAM, OTP) and the HBM tier of record space. Every field is at the value that cold reset gives it
by default; `State.reset` is the machine right after reset.
-/

namespace Sys2Proof.Machine

/-! ### What leaves the device -/

/-- One thing the device puts on a wire, newest first in the output log (log entry 6). -/
inductive Output where
  /-- A write to host memory: bus address and words (R320). -/
  | hostWrite (addr : Nat) (words : List Nat)
  /-- An MSI-X message (R321, R322). -/
  | msix (vector : Nat)
  /-- A SYNC or TRIG frame on a cascade port: class, SEQ, header, payload and trailer (R373). -/
  | frame (port cls seq : Nat) (body : List Nat)
  /-- A MGMT frame on a cascade port (R377). -/
  | mgmt (port seq : Nat) (frame : MgmtFrame)
  /-- A DATA frame on a cascade port: source and destination device (R387, R389). -/
  | data (port seq src dst : Nat) (part : DataPart)
  /-- The acknowledgement of a frame received on a cascade port (R374). -/
  | ack (port cls seq : Nat)
  /-- An AVSBus voltage command: rail (false core, true SRAM), millivolts (R435). -/
  | avs (sram : Bool) (mv : Nat)
  /-- Bytes returned on the SMBus (R500). -/
  | smbus (bytes : List Nat)
  /-- A TRIG_OUT pin's level change (R171). -/
  | trigOut (n : Nat) (high : Bool)
  /-- Sectors of a firmware flash slot erased and programmed: slot, offset and length in bytes (R499). -/
  | flash (slot offset length : Nat)
  /-- Bytes written to an extent of the spill tier: bus address, the No Snoop attribute, the bytes (R215). -/
  | spill (addr : Nat) (noSnoop : Bool) (bytes : List Nat)
  deriving DecidableEq, Repr

/-! ### Register access (chapters 00, 21) -/

/-- The register network's own state: shadows and staged words per requester (R18 to R23), and the value the last read of
each requester returned. -/
structure Bus where
  /-- Shadowed higher words, by requester and word address (R18). -/
  shadow : KMap Nat := []
  /-- Staged higher words, by requester and word address (R21). -/
  staged : KMap Nat := []
  /-- TABLE_SEL per requester and page (R481). -/
  tableSel : KMap Nat := []
  /-- TABLE_ADDR per requester and page (R481). -/
  tableAddr : KMap Nat := []
  /-- The word the last read of each requester returned. -/
  data : KMap Nat := []
  /-- The bytes the last BAR6 read returned (R358). -/
  bar6 : List Nat := []
  deriving DecidableEq, Repr

/-- One table's control state (Table 21.5): kept per table, reached through TABLE_SEL. -/
structure TableCtl where
  bank : Nat := 0
  checkEn : Bool := false
  swapPending : Bool := false
  crcBusy : Bool := false
  loadBusy : Bool := false
  lastRefused : Bool := false
  crc : Nat := 0
  /-- The CRC being computed: that of the bank when the computation began (R485). -/
  crcNext : Nat := 0
  expect : Nat := 0
  /-- Table writes held while a CRC of the same bank is computed (R485): word index and value. -/
  held : List (Nat × Nat) := []
  deriving DecidableEq, Repr

/-! ### Queues (chapter 12) -/

/-- A queue context (Table 12.1), with the counts the delivery rules keep beside it. -/
structure QCtx where
  typ : Nat := 0
  cls : Nat := 0
  log2 : Nat := 0
  esize : Nat := 0
  grant : Nat := 0
  state : Nat := 0
  base : Nat := 0
  cq : Nat := 0
  vector : Nat := 0
  irqEn : Bool := false
  coalCnt : Nat := 0
  coalUs : Nat := 0
  wbAddr : Nat := 0
  head : Nat := 0
  tail : Nat := 0
  irqArmed : Bool := false
  overflow : Bool := false
  dropped : Nat := 0
  /-- Record number of the next STREAM record (Table 12.5). -/
  seq : Nat := 0
  /-- Records or entries lost since the last GAP record or OVERFLOW entry (R318, R319). -/
  lost : Nat := 0
  /-- Entries written and not yet signalled; the oldest of them has waited for COAL_US (R321). -/
  unsignalled : Nat := 0
  late : Bool := false
  deriving DecidableEq, Repr

/-- A command consumed from a SUBMIT queue and not yet completed (R312); `result` once it is done. -/
structure Cmd where
  /-- The command's own number. -/
  id : Nat
  opcode : Nat
  sq : Nat
  /-- The COMPLETE queue of the SUBMIT queue (R313). -/
  cq : Nat
  tag : Nat
  /-- HEAD of the SUBMIT queue after the entry was consumed (Table 12.2). -/
  sqHead : Nat
  /-- The 16 words of the submission entry (R311), kept until the command completes (R418). -/
  entry : List Nat
  /-- STATUS and RESULT of Table 12.2. -/
  result : Option (Nat × Nat)
  deriving DecidableEq, Repr

/-- A completion of a ticket that is not a command of R312 (Table 12.2). -/
structure Completion where
  cq : Nat
  tag : Nat
  status : Nat
  sq : Nat
  sqHead : Nat
  result : Nat
  deriving DecidableEq, Repr

/-- A STREAM record waiting for room (R318). -/
structure StreamRec where
  kind : Nat
  source : Nat
  source2 : Nat
  payload : List Nat
  /-- Payload bytes, where they do not fill the last word. -/
  len : Option Nat := none
  deriving DecidableEq, Repr

/-- A TABLE_LOAD in progress (R488): its command, the tables it names as page and TABLE_SEL, its swap bit, its RESULT; once its
swaps are requested, the tables whose swaps are still pending, and whether one has been refused. -/
structure TableLoad where
  cmd : Nat
  tables : List (Nat × Nat)
  swap : Bool
  result : Nat
  waiting : Option (List (Nat × Nat)) := none
  refused : Bool := false
  deriving DecidableEq, Repr

/-- The queue manager (chapter 12). -/
structure QmState where
  /-- Contexts of the queues that have a TYPE. -/
  ctx : KMap QCtx := []
  /-- The number of the next command. -/
  nextId : Nat := 0
  /-- Outstanding commands, oldest first. -/
  cmds : List Cmd := []
  /-- Ticket completions waiting for room in their COMPLETE queue, oldest first. -/
  waiting : List Completion := []
  /-- STREAM records waiting for room, by queue, oldest first. -/
  streams : KMap (List StreamRec) := []
  /-- The TABLE_LOADs in progress, oldest first. -/
  loads : List TableLoad := []
  deriving DecidableEq, Repr

/-! ### The host link (chapter 14) -/

/-- The host link beside its registers. -/
structure PcieState where
  /-- Writes held during a link hold, oldest first (R365). -/
  egress : List Output := []
  /-- STREAM records and EVENT entries lost during the hold (R367). -/
  lost : Nat := 0
  /-- EGRESS_FULL has been raised in this hold. -/
  fullRaised : Bool := false
  /-- Timebase value at which the hold began. -/
  holdFrom : Nat := 0
  /-- After DL_Up in a hold: Bus Master Enable has been set (R366). -/
  adminOnly : Bool := false
  perstN : Bool := false
  configReady : Bool := false
  ptmBusy : Bool := false
  /-- D3hot (R501). -/
  d3hot : Bool := false
  pmeStatus : Bool := false
  /-- MSI-X table words and pending bits. -/
  msixWords : KMap Nat := []
  pba : KMap Bool := []
  /-- Lanes the Foreman still has to scan, in order, and the lanes scanned so far in this scan (R370). -/
  marginTodo : List Nat := []
  deriving DecidableEq, Repr

/-! ### Clocks and timebase (chapter 02) -/

/-- The state of a DLL (Table 02.5). -/
inductive DllPhase where
  | noClock | searching | locked | hold
  deriving DecidableEq, Repr

/-- One DLL (R45 to R50). -/
structure Dll where
  phase : DllPhase := .noClock
  band : Nat := 0
  fine : Nat := 0
  /-- The last good code since cold reset: band and fine code (R49). -/
  good : Option (Nat × Nat) := none
  /-- Bands still to try in this search, the one under trial first (R45). -/
  trials : List Nat := []
  /-- The search waits for the 10 µs measurement of CLK_S that gives its bands (R45). -/
  measuring : Bool := false
  /-- Consecutive lock timeouts (R49). -/
  expiries : Nat := 0
  /-- The dither LFSR (R507), and whether dither is applied. -/
  lfsr : Nat := 0
  dither : Bool := false
  /-- New DLL_TAP_TRIM words that the next weft boundary applies (R103). -/
  trims : Option (List Nat) := none
  /-- The CLK_S measurement in kHz with which the tap measurement in progress began (0 until the next one), and whether R56 discards
  it (R103). -/
  tapKhz : Nat := 0
  tapBad : Bool := false
  deriving DecidableEq, Repr

/-- The CLK block beside its registers. -/
structure ClkState where
  dlls : KMap Dll := []
  /-- Validity of the island reference sources. -/
  srcValid : KMap Bool := []
  /-- Islands whose PLL has locked since cold reset, as a bit map (R54). -/
  everLocked : Nat := 0
  /-- Islands whose relock has taken more than 1 ms (R53). -/
  slowRelock : Nat := 0
  /-- CLK_S has been present since cold reset. -/
  seen : Bool := false
  /-- The last 100 gate measurements in kHz, newest first (R55). -/
  gates : List Nat := []
  deriving DecidableEq, Repr

/-- The timebase beside its registers (R58 to R67). -/
structure TbaseState where
  /-- Accumulator: tick part and 32-bit fraction, 96 bits. -/
  acc : Nat := 0
  /-- INC with 32 fractional bits. -/
  inc : Nat := 4294967296
  /-- Nominal ticks of the current or last coast since NOMINAL_FREQ last changed, with a 32-bit fraction (R62). -/
  coast : Nat := 0
  /-- µs of the current or last coast before NOMINAL_FREQ last changed (R62). -/
  coastBase : Nat := 0
  /-- Correction still to be slewed, in units of 2^-32 tick (R63). -/
  slew : Int := 0
  /-- Slews begun since cold reset. -/
  slews : Nat := 0
  /-- PPS_MISSING has been raised for the pending arm (R64). -/
  ppsMissing : Bool := false
  /-- Causes and offset of a discontinuity that took effect in the current tick, to which others combine (R65). -/
  openEntry : Option (Nat × Int) := none
  /-- Ticks of the Loom at which an epoch began, newest first (for EPOCH_CHANGE). -/
  changes : List Nat := []
  /-- Epochs begun since cold reset, epoch 0 included (R67). -/
  epochs : Nat := 1
  deriving DecidableEq, Repr

/-! ### The Tally (chapter 20) -/

/-- A group's filter in force (R465). -/
structure TallyFilter where
  priv : Nat := 7
  masterKind : Nat := 0
  masterLo : Nat := 0
  masterHi : Nat := 0xFFFF
  addrLo : Nat := 0
  addrHi : Nat := 0xFFFFFFFFF
  subclass : Nat := 0xFFFF
  deriving DecidableEq, Repr

/-- The Tally beside its registers. -/
structure TallyState where
  /-- Counter values, 48 bits, by counter number. -/
  count : KMap Nat := []
  ovf : KMap Bool := []
  epoch : KMap Nat := []
  /-- The filter in force, by group. -/
  filter : KMap TallyFilter := []
  /-- THRESH words in force, by counter (R467). -/
  thresh : KMap Nat := []
  /-- A soft reset of the page awaits the group tick (R464). -/
  resetDue : Bool := false
  deriving DecidableEq, Repr

/-! ### Faults, Foreman, pins (chapters 17, 22) -/

/-- A handshake channel: the sequence value of the last transfer sent, that of the last one accepted, the transfer that the source
retains until it is acknowledged, whether it was resent, and the transfers accepted (R27, R28). After cold reset the last accepted value counts
as 0, so that the first transfer carries 1 (DESIGN CHOICE, log entry 32). -/
structure Channel where
  sent : Bool := false
  accepted : Bool := false
  retained : Option Nat := none
  resent : Bool := false
  count : Nat := 0
  deriving DecidableEq, Repr

/-- Faults and the Foreman beside their registers. -/
structure ForeState where
  /-- The command in progress is an injection (R425). -/
  injecting : Bool := false
  /-- Times in ms of the Foreman's expiries, newest first (R419). -/
  expiries : List Nat := []
  /-- Supply monitors reporting bad, as a bit map (R496). -/
  badSupplies : Nat := 0
  pwrOk : Bool := true
  thermN : Bool := false
  /-- SMB_ALERT_N was released by the Alert Response Address and waits for a change (R500): the conditions it answered. -/
  alertAnswered : Option (Bool × Bool) := none
  /-- PAGE_STATUS.DEGRADED of each page as a bit map of the reasons that hold it (R41). -/
  degraded : KMap Nat := []
  /-- PAGE_STATUS.FAULT_CONTAINED of each page as a bit map of reasons. -/
  contained : KMap Nat := []
  /-- Handshake channels (R27, R28). -/
  channels : KMap Channel := []
  /-- The device is held in reset or stopped: a supply monitor reports bad, PWR_OK is low, or a thermal trip has stopped it; until
  the next cold reset (R440, R493, R496). -/
  off : Bool := false
  /-- A supply monitor has reported bad while PWR_OK was high: the reset is latched until PWR_OK falls and rises again (R496). -/
  latched : Bool := false
  /-- The Foreman runs firmware (R417). -/
  running : Bool := false
  /-- Firmware images found invalid since the ROM started, 0 or 1; the ROM tries the image that BOOT_PREF names first (R453). -/
  failedImages : Nat := 0
  /-- Digest of the running image's header bytes 0 to 127 (R459). -/
  fwDigest : List Nat := []
  /-- The Foreman is in ROM recovery (R419, R453). -/
  recovery : Bool := false
  /-- The current nonce (R446). -/
  nonce : Option Nat := none
  /-- The next attestation index (R457): LIFE.ATT_NEXT shows its low 30 bits. -/
  attNext : Nat := 0
  /-- Bottom trees that are ready (R458). -/
  trees : List Nat := []
  /-- Device log records returned to each requesting class (R416), since the log was last cleared. -/
  logRead : KMap Nat := []
  /-- Elements that an injection took out of service and that may rejoin: page and element (R424, R425). -/
  marks : List (Nat × Nat) := []
  /-- Positions (32 × group + position) at which an injection has made a substitution: the slice that commits keep there (R424). -/
  injAlloc : KMap Nat := []
  /-- Consecutive readings in which a sensor differs from the others (R437). -/
  outliers : KMap Nat := []
  /-- Block writes to MRAM that have failed since cold reset: a source of the MRAM error rates (R115, Table 18.2). -/
  mramFails : Nat := 0
  /-- TJ_MAX of the last reading in 1/16 °C (R437). -/
  tj : Int := 0
  /-- DEG of each monitor at the last plan (R430). -/
  planDeg : KMap Int := []
  /-- A plan has been requested (R430). -/
  planDue : Bool := false
  deriving DecidableEq, Repr

/-! ### The Loom and the slices (chapter 03) -/

/-- Why a slice is being brought to a position (R77 to R80, R99). -/
inductive BringKind where
  /-- The calibration spare stands in for a slice to be borrowed. -/
  | borrow
  /-- A borrowed slice returns. -/
  | giveBack
  /-- The standby replaces a retiring slice. -/
  | retire
  /-- A spare covers a failed position; the position is patched until it has settled. -/
  | cover
  deriving DecidableEq, Repr

/-- A slice being brought to a position (R77). -/
structure Bring where
  group : Nat
  /-- Physical index of the incoming slice. -/
  phys : Nat
  pos : Nat
  /-- The first tick at which its samples are valid. -/
  ready : Nat
  kind : BringKind
  /-- The physical index of the failed slice, for a cover (R80). -/
  failed : Nat := 0
  deriving DecidableEq, Repr

/-- One offset-and-gain-corrected sample of a tick (R83): value in 1/16 LSB, whether it must be patched, whether its raw code
was at a limit. -/
structure Sample where
  b : Int := 0
  patch : Bool := false
  clip : Bool := false
  /-- The FIR of the physical slice that produced the sample; none for the identity (R83, R85). -/
  taps : Option (List Int) := none
  deriving DecidableEq, Repr

/-- What the slices produced in one tick, by slot 32g + p, with what the weft's flags and the conversion to µV need. -/
structure TickData where
  samples : List Sample
  /-- Groups with a planned substitution at the tick's boundary, as a bit map (SWAP). -/
  swapped : Nat := 0
  /-- Groups whose DLL is not locked, as a bit map (UNLOCK). -/
  unlocked : Nat := 0
  /-- 1,000 + FS_TRIM of each input in force for the tick (R70, R90). -/
  fs : List Int := []
  deriving DecidableEq, Repr

/-- One weft (R87): its stream (0 to 3 for IN_A to IN_D), samples and flags. -/
structure Weft where
  input : Nat
  tick : Nat
  samples : List Int
  clip : Bool
  swap : Bool
  patch : Bool
  unlock : Bool
  deriving DecidableEq, Repr

/-- A quiet check in progress (R90, R91): sums over code × (1,000 + FS_TRIM), so that a change of FS_TRIM during the window
is weighed. -/
structure QuietCheck where
  n : Nat := 0
  sum : Int := 0
  sumSq : Nat := 0
  clip : Bool := false
  /-- Requested by the Assayer (R106, R107). -/
  assayer : Bool := false
  deriving DecidableEq, Repr

/-- The Loom beside its registers. -/
structure LoomState where
  /-- The tick of the next weft, counted in slice-clock ticks since cold reset (R73). -/
  tick : Nat := 0
  /-- Ticks since the stream run began; none while no run is in progress (R511). -/
  run : Option Nat := none
  /-- A DLL has locked since cold reset, which began a stream run (R511). -/
  everRun : Bool := false
  /-- The previous tick and the tick of the next weft. -/
  prev : Option TickData := none
  cur : Option TickData := none
  /-- By input, the stream index and the value of the last unpatched sample of the run before the previous tick (R81). -/
  lastGood : KMap (Nat × Int) := []
  /-- Slices on their way to a position. -/
  brings : List Bring := []
  /-- Planned retirements that wait for a borrowed slice's return: physical index by group (R78). -/
  retireWait : KMap Nat := []
  /-- Failed positions that wait for the calibration spare to be relieved, by group: position and failed slice. -/
  coverWait : KMap (Nat × Nat) := []
  /-- Positions patched for good, as a bit map by group (R82). -/
  perm : KMap Nat := []
  /-- Groups with a planned substitution at the next weft's boundary, as a bit map (SWAP, R87). -/
  swapped : Nat := 0
  /-- Quiet checks in progress by input. -/
  quiet : KMap QuietCheck := []
  deriving DecidableEq, Repr

/-! ### The Assayer (chapter 04) -/

/-- The phases of a background run (R99, R102). -/
inductive RunPhase where
  | bringing | dc | live | waitSteady | returning
  deriving DecidableEq, Repr

/-- A run of one slice. -/
structure AssayRun where
  phys : Nat
  /-- The position of an active slice that is borrowed; none for a slice run in place (R98, R101). -/
  pos : Option Nat
  phase : RunPhase
  /-- The slice's temperature when the run started. -/
  temp : Int
  /-- The 10 µs measurement of CLK_S in kHz with which gathering began; 0 until the next one (R56). -/
  khz : Nat := 0
  /-- New offset and gain, after the DC phase. -/
  dc : Option (Int × Int) := none
  /-- New trim and FIR, after a live phase that observed them (R100). -/
  fine : Option (Int × List Int) := none
  /-- The run has its results, which its return makes the coefficients in use (R99). -/
  results : Bool := false
  deriving DecidableEq, Repr

/-- What the unlisted words of a calibration bank are: the factory's (R517), or the identity set of R114. -/
inductive BankBase where
  | factory | identity
  deriving DecidableEq, Repr

/-- A calibration bank in MRAM (R111): its data words, what unlisted ones are, SEQ of its commit record, and whether the record checks: the
other words of a record follow from these (Bank.record). -/
structure Bank where
  words : KMap Nat := []
  base : BankBase := .factory
  seq : Nat := 0
  valid : Bool := true
  deriving DecidableEq, Repr

/-- A commit in progress (R112): the target bank, the step (0 zeroing block 511, 1 to 511 blocks 0 to 510, 512 the commit
record), whether the current block has been retried, and the commands it serves. -/
structure Commit where
  target : Nat
  step : Nat
  retried : Bool
  serves : List Nat
  /-- What the commit writes, captured at its start (R113). -/
  image : Bank
  deriving DecidableEq, Repr

/-- A calibration command that has not completed (R108): its command number, groups named, groups finished, groups that ran
background-only. -/
structure CalCmd where
  cmd : Nat
  groups : Nat
  doneGroups : Nat := 0
  background : Nat := 0
  deriving DecidableEq, Repr

/-- The Assayer beside its registers. -/
structure AssayState where
  runs : KMap AssayRun := []
  /-- Slices moved to the tail of their group's queue, by group, oldest first (R102). -/
  tail : KMap (List Nat) := []
  /-- Milliseconds since each slice's last completed run. -/
  ageMs : KMap Nat := []
  /-- Slices of each group run since CYCLE_DONE was last cleared, as a bit map. -/
  ran : KMap Nat := []
  /-- Groups whose cycle in progress has changed coefficients, as a bit map (R113). -/
  changed : Nat := 0
  /-- Skew residuals of the slices from their last runs, in attoseconds (R109). -/
  skewRes : KMap Int := []
  /-- Groups whose SPUR has been computed since cold reset, as a bit map (R109). -/
  figured : Nat := 0
  /-- The error of the mean in each vernier unit's last window, in fs (Table 04.3). -/
  vernErr : KMap Int := []
  /-- Foreground runs: the physical index being run, by group (R105). -/
  fg : KMap Nat := []
  /-- The temperature of that slice when its run started, and the 10 µs measurement of CLK_S with which its gathering began (R56, R97). -/
  fgTemp : KMap Int := []
  fgKhz : KMap Nat := []
  /-- Groups whose foreground request waits for its quiet check, as a bit map (R106). -/
  fgWait : Nat := 0
  /-- Groups whose foreground run starts when the slice run in progress has returned its slice, as a bit map (R107). -/
  fgDue : Nat := 0
  /-- Physical indices still to run in a background-only cycle, by group (R106). -/
  bgOnly : KMap (List Nat) := []
  /-- Start-up calibration: groups not finished, as a bit map; none once CAL_DONE (R108). -/
  startup : Option Nat := none
  startupBg : Bool := false
  /-- Start-up calibration waits for MODE_READY to start again (R516). -/
  startupWait : Bool := false
  cmds : List CalCmd := []
  commit : Option Commit := none
  /-- A commit has been requested; by ALLOC, which does not wait for COMMIT_MIN_GAP (R113). -/
  commitReq : Bool := false
  commitAlloc : Bool := false
  /-- The commit asked for is one of COMMIT_NOW or of the admin command, which takes manual coefficients along (R110). -/
  commitManual : Bool := false
  commitCmds : List Nat := []
  /-- Timebase value at the last commit's end. -/
  lastCommit : Option Nat := none
  /-- The bank that cold reset loaded: what the coefficient tables hold where nothing has been written since. -/
  loaded : Option Bank := none
  deriving DecidableEq, Repr

/-! ### Vernier pool (chapter 06) -/

/-- An edge of a state source (R120), with what places it: its TAP time, the conversion for the trigger and the one for the
TIC. A conversion's result is an instant in slice-clock ticks since cold reset. -/
structure Edge where
  /-- The edge's own number. -/
  id : Nat
  /-- State source: 0 to 3 CMP_A to CMP_D, 4 to 7 TRIG_IN_0 to TRIG_IN_3. -/
  src : Nat
  rising : Bool
  tick : Nat
  /-- TAP time within the tick, in trigger time units. -/
  tu : Nat
  /-- Accumulator at the start of the tick, INC, and epochs begun until then. -/
  acc : Nat
  inc : Nat
  epochs : Nat
  /-- A slew is in progress; slews begun until then (R181). -/
  slewing : Bool := false
  slews : Nat := 0
  /-- A DLL is not locked (R181). -/
  unlock : Bool := false
  /-- The vernier unit converting it for the trigger, and the result in 2^-16 ticks. -/
  unitT : Option Nat := none
  instT : Option Int := none
  /-- The unit converting it for the TIC, and the result in 2^-32 ticks. -/
  unitC : Option Nat := none
  instC : Option Int := none
  deriving DecidableEq, Repr

/-- A vernier unit's conversion: the edge, whether for the TIC, and SRC_OFFSET of the source when it started (R165). -/
structure VernJob where
  edge : Nat
  tic : Bool
  offset : Int := 0
  deriving DecidableEq, Repr

/-- The vernier pool beside its registers (R158 to R162). -/
structure VernState where
  /-- Conversions in progress, by unit. -/
  jobs : KMap VernJob := []
  /-- Consecutive timeouts of each unit. -/
  timeouts : KMap Nat := []
  /-- Units retired, as a bit map. -/
  retired : Nat := 0
  /-- TAP time, in trigger time units since cold reset, of the last edge of each source that the pool converted. -/
  lastConv : KMap Nat := []
  /-- Edges still of use, oldest first. -/
  edges : List Edge := []
  nextEdge : Nat := 0
  deriving DecidableEq, Repr

/-! ### Condition units (chapter 05) -/

/-- The threshold, hysteresis and SLOPE of a state source in force (R124). -/
structure SrcCfg where
  thresh : Int := 0
  hyst : Nat := 0
  slope : Nat := 2
  deriving DecidableEq, Repr

/-- The configuration of a condition unit in force for a weft. `gen` counts enablings and mode changes. -/
structure UnitCfg where
  en : Bool := false
  gen : Nat := 0
  type : Nat := 0
  src : Nat := 0
  slope : Nat := 0
  qual : Nat := 0
  ref : Bool := false
  func : Nat := 0
  l1 : Int := 0
  h1 : Int := 0
  l2 : Int := 0
  h2 : Int := 0
  t1 : Nat := 0
  t2 : Nat := 0
  term : Nat := 0
  cand : Bool := false
  deriving DecidableEq, Repr

/-- What an instant of a tick carries for a TIC result (R181). -/
structure TickMarks where
  epochs : Nat := 0
  slews : Nat := 0
  slewing : Bool := false
  unlock : Bool := false
  deriving DecidableEq, Repr

/-- A reference instant: slice-clock ticks since cold reset in 2^-16, whether a fallback method placed it, and its timestamp's
tick count and fraction, in 2^-16 nominal ticks (R59, R157). -/
structure Ref where
  at16 : Int
  fb : Bool
  stamp : Nat
  /-- The epoch of the tick in which the instant lies (R58), and for the TIC the epochs and slews begun until then, a slew in progress, a DLL
  not locked (R181). -/
  epoch : Nat := 0
  marks : TickMarks := {}
  deriving DecidableEq, Repr

/-- A measurement in progress: index of its start in source samples, its reference instant, and its candidate's event index
(R129, R137). `crossing` is false where the initialising sample is the start. -/
structure Meas where
  d : Nat
  ref : Ref
  crossing : Bool := true
  cand : Option Nat := none
  deriving DecidableEq, Repr

/-- A condition unit's running state (R127 to R130). -/
structure UnitRt where
  /-- The generation and the levels with which it was initialised; none before. -/
  gen : Nat := 0
  levels : List Int := []
  inited : Bool := false
  lvA : Bool := false
  lvB : Bool := false
  /-- WINDOW: inside; PATTERN: true. -/
  inside : Bool := false
  /-- The measurement; and the second one of a RUNT or SLEW unit with either polarity (falling kind). -/
  m1 : Option Meas := none
  m2 : Option Meas := none
  /-- The timed condition of the present stay has been reported. -/
  fired : Bool := false
  deriving DecidableEq, Repr

/-- What a tick hands to the condition units and the sequencer, snapshot at its weft boundary. -/
structure TrigItem where
  tick : Nat
  /-- Samples of each stream, by input; none of a stream that emitted no weft. -/
  wefts : KMap (List Int) := []
  /-- Numbers of the edges of the tick, in order of time. -/
  edges : List Nat := []
  /-- Levels of the eight state sources at the start of the tick. -/
  levels : Nat := 0
  acc : Nat := 0
  inc : Nat := 0
  epoch : Nat := 0
  marks : TickMarks := {}
  units : List UnitCfg := []
  srcs : List SrcCfg := []
  fs : List Int := []
  /-- Active banks of the three TSEQ tables. -/
  banks : List Nat := []
  /-- The sequencer evaluates this tick; the tick begins an arm (with ARM_INDEX); a RESTART was written. -/
  eval : Bool := false
  start : Bool := false
  restart : Bool := false
  deriving DecidableEq, Repr

/-- An automatic level loop (R139): extremes seen in the window, and the level in force or to be applied. -/
structure AutoLevel where
  ext : Option (Int × Int) := none
  level : Option Int := none
  deriving DecidableEq, Repr

/-- A pulse scheduled or in progress on a TRIG_OUT pin, in trigger-cycle time: eighths of a tick since cold reset (R171). -/
structure Pulse where
  start : Nat
  stop : Nat
  /-- The TIC has had its start: it extends a pulse that has ended (R173, R177). -/
  told : Bool := false
  deriving DecidableEq, Repr

/-- The TRIG block beside its registers. -/
structure TrigState where
  /-- Levels of the eight state sources now. -/
  levels : Nat := 0
  /-- Their configuration in force. -/
  srcs : KMap SrcCfg := []
  /-- Enablings of each unit. -/
  gens : KMap Nat := []
  /-- Mode changes. -/
  modeGen : Nat := 0
  /-- Ticks not yet evaluated, oldest first, and the tick before them. -/
  todo : List TrigItem := []
  prev : Option TrigItem := none
  rt : KMap UnitRt := []
  /-- Automatic levels, by unit 0 to 15 and 16 + x for CMP_x. -/
  auto : KMap AutoLevel := []
  /-- Pulses of each TRIG_OUT not yet ended, earliest first; whether the first is being emitted. -/
  pulses : KMap (List Pulse) := []
  pulsing : KMap Bool := []
  /-- The pulse of each TRIG_OUT that ended last (R173). -/
  ended : KMap Pulse := []
  deriving DecidableEq, Repr

/-! ### The sequencer (chapter 06) -/

/-- What resolves a provisional trigger: its unit's candidate, CONFIRM and CANCEL, or its origin's messages (R167, R385). -/
inductive ProvKind where
  | cand (unit index : Nat)
  | prov
  | remote
  deriving DecidableEq, Repr

/-- An outstanding provisional trigger. -/
structure Prov where
  /-- The trigger's own number. -/
  id : Nat
  kind : ProvKind
  /-- Its segment, once committed. -/
  seg : Option Nat
  /-- The instant at which QUAL_TIME expires, in 2^-16 slice-clock ticks; for a remote trigger the instant, in 2^-16 nominal
  ticks, 2H after its own. -/
  deadline : Nat
  /-- ORIGIN and SEQ_T of its messages, and its instant in 2^-16 nominal ticks. -/
  origin : Nat
  seqT : Nat
  stamp : Nat
  deriving DecidableEq, Repr

/-- A running holdoff (R148 to R151): the instant, in 2^-16 slice-clock ticks, before which triggers are rejected; the
condition counted and the detections still to come; the event index of the ending detection. -/
structure Holdoff where
  until16 : Int
  events : Option (Nat × Nat) := none
  ended : Option Nat := none
  deriving DecidableEq, Repr

/-- A trigger between the sequencer and the merge point (R386). -/
structure Merge where
  id : Nat
  stamp : Nat
  epoch : Nat
  origin : Nat
  seqT : Nat
  loc : Bool
  /-- Trigger sample index. -/
  t : Int
  cause : Nat
  fb : Bool
  /-- Provisional, and how it has been resolved since. -/
  prov : Bool
  confirmed : Option Bool := none
  deriving DecidableEq, Repr

/-- The sequencer beside its registers. -/
structure TseqState where
  state : Nat := 0
  /-- The instant the state was entered, in 2^-16 slice-clock ticks. -/
  entered : Int := 0
  hold : Option Holdoff := none
  tokens : Nat := 64
  lfsr : Nat := 0
  banks : List Nat := []
  provs : List Prov := []
  nextId : Nat := 0
  nextSeqT : Nat := 0
  merge : List Merge := []
  /-- TSEQ.CTRL.RESTART was written and the next weft boundary has not passed. -/
  restart : Bool := false
  /-- The sequencer starts at the next weft (R153). -/
  start : Bool := false
  /-- The slice-clock tick up to which detections have been evaluated. -/
  now : Nat := 0
  deriving DecidableEq, Repr

/-! ### The TIC (chapter 07) -/

/-- What an event on its way to a channel is: an edge or an exact instant, the abandonment of the measurement in progress (R185), the end of
a TOTALISE gate (R186). -/
inductive TicKind where
  | edge | lapse | gate
  deriving DecidableEq, Repr

/-- An event on its way to a channel (R179): from source A or B, an edge or an exact instant, as an instant in slice-clock ticks × 2^32 since
cold reset and in 2^-32 nominal ticks; the count of edges it ends (0 for one that begins a measurement). -/
structure TicEv where
  kind : TicKind := .edge
  isB : Bool
  rising : Bool
  edge : Option Nat
  at32 : Int := 0
  time : Int
  epochs : Nat
  slewing : Bool
  slews : Nat
  unlock : Bool
  coarse : Bool := false
  n : Nat := 0
  deriving DecidableEq, Repr

/-- How far a channel's edge count has come (R184, R186). -/
inductive TicCount where
  /-- No edge yet; a FREQUENCY gate is open. -/
  | idle
  /-- Edges counted since edge 0. -/
  | counting (n : Nat)
  /-- The gate has ended; edge N is awaited. -/
  | closing (n : Nat)
  deriving DecidableEq, Repr

/-- A channel beside its registers. -/
structure TicChan where
  running : Bool := false
  /-- Starts at the next tick boundary, or at the arm boundary. -/
  waiting : Bool := false
  seq : Nat := 0
  /-- Start instant in 2^-32 nominal ticks, epochs and slews begun until then, a slew in progress. -/
  ref : Int := 0
  refEpochs : Nat := 0
  refSlews : Nat := 0
  refSlewing : Bool := false
  count : TicCount := .idle
  total : Nat := 0
  /-- Counts before each recent edge of SRC_A, for merged pairs: edge number, count, total, a lapsed gate. -/
  hist : List (Nat × TicCount × Nat × Bool) := []
  evs : List TicEv := []
  /-- The pending start. -/
  pend : Option TicEv := none
  /-- A gate has lapsed without a result (R186). -/
  lapsed : Bool := false
  merged : Bool := false
  order : Bool := false
  lost : Bool := false
  noPair : Bool := false
  /-- Results: value and W2. -/
  fifo : List (Nat × Nat) := []
  deriving DecidableEq, Repr

/-- The TIC beside its registers. -/
structure TicState where
  ch : KMap TicChan := []
  /-- The last transition of each source, for merging: edge number, TAP time in trigger time units. -/
  last : KMap (Nat × Nat) := []
  deriving DecidableEq, Repr

/-! ### Capture, Ledger, decimation (chapters 08, 09) -/

/-- A write block that has been issued to the capture write buffers and not yet stored (R198, R332). -/
structure RingBlock where
  /-- Index of its first sample or output. -/
  first : Nat
  /-- Samples or outputs in it. -/
  count : Nat
  /-- Byte offset from the ring start. -/
  off : Nat
  /-- Its bytes; none for a block that found the write buffer full, or whose outputs were dropped. -/
  bytes : Option (List Byte)
  /-- Places in the block of outputs that were dropped: their bits keep older contents (R243). -/
  drops : List Nat := []
  deriving DecidableEq, Repr

/-- A capture ring (R196 to R202). -/
structure Ring where
  anchor : Int := 0
  armFirst : Nat := 0
  /-- ISSUED_INDEX. -/
  issued : Nat := 0
  /-- WRITE_INDEX. -/
  write : Nat := 0
  /-- The write position, in bytes from the ring start. -/
  pos : Nat := 0
  writing : Bool := false
  /-- Laid out afresh: ARM_FIRST is set at the next arm (R201). -/
  fresh : Bool := true
  buf : List RingBlock := []
  /-- SPILL_INDEX (R222). -/
  spill : Nat := 0
  /-- Spans stored in earlier arms and not yet written to the spill ring, oldest first: the index past the span, its ANCHOR, the first
  index of the next span (R222). -/
  past : List (Nat × Int × Nat) := []
  /-- PIN_NEAR has been raised for the crossing in force (R214). -/
  near : Bool := false
  deriving DecidableEq, Repr

/-- A segment that is not yet finished with: its Ledger entry (Table 08.1) and what holds it. -/
structure Segment where
  num : Nat
  /-- Byte offset of the pair that holds the first sample, in its tier. -/
  start : Nat
  odd : Bool
  /-- TIER 1. -/
  spilled : Bool := false
  ring : Nat
  /-- STATE: 0 OPEN, 1 COMPLETE, 2 OVERRUN. -/
  state : Nat := 0
  rings : Nat
  /-- Length in samples of the primary ring. -/
  length : Nat
  trigIndex : Int
  first : Nat
  /-- Stream index of the window's last sample. -/
  last : Nat
  stamp : List Nat
  cause : Nat
  /-- FLAGS, word 13 [31:16]. -/
  flags : Nat
  auxSeq : Nat
  /-- ANCHOR of every ring in the segment's arm, by which R197 places its samples. -/
  anchors : List Int := []
  held : Bool := true
  /-- Readers that hold the segment (R212). -/
  readers : Nat := 0
  /-- In the staging buffer (R208). -/
  staged : Bool := true
  /-- Written in final form at least once. -/
  written : Bool := false
  /-- Copied to the spill Ledger (R220). -/
  copied : Bool := false
  /-- What was written last still has to be copied there. -/
  copyDue : Bool := false
  deriving DecidableEq, Repr

/-- The ACQ and LEDG blocks beside their registers. -/
structure AcqState where
  rings : KMap Ring := []
  /-- The arm has been accepted and its boundary has not passed. -/
  armPending : Bool := false
  /-- Trigger evaluation has ended (STOP_BOUNDARY). -/
  stopTaken : Bool := false
  /-- The instant of the stop boundary, in 2^-16 nominal ticks (R385). -/
  stopAt : Option Nat := none
  /-- The sequencer evaluates (R153). -/
  evaluating : Bool := false
  armCmds : List Nat := []
  stopCmds : List Nat := []
  /-- Segments, by number: those not final, held, read or not yet written. -/
  segs : KMap Segment := []
  nextSeg : Nat := 0
  /-- First and last stream index of the previous accepted segment's window. -/
  prevWindow : Option (Nat × Nat) := none
  /-- Ticks whose weft carried flags, by input, newest first: bit 0 CLIP, 1 SWAP, 2 PATCH or UNLOCK. -/
  flagLog : KMap (List (Nat × Nat)) := []
  /-- The segment copy in progress: segment, byte offset in the spill tier, bytes (R221). -/
  spilling : Option (Nat × Nat × Nat) := none
  gapSeq : Nat := 0
  /-- Segments whose copy to the spill Ledger has failed twice (R218). -/
  stale : List Nat := []
  /-- Bytes in the capture write buffer of each stack. -/
  wbuf0 : Nat := 0
  wbuf1 : Nat := 0
  /-- LOST_LOG and DROP_LOG records made (R332, R243). -/
  lostSeq : Nat := 0
  dropSeq : Nat := 0
  deriving DecidableEq, Repr

/-- A write block in a chain's output buffer: its first output, its packed outputs, the places of those that were dropped (R243). -/
structure ChainBlock where
  first : Nat
  vals : List Nat
  drops : List Nat
  deriving DecidableEq, Repr

/-- A decimator chain (R226 to R236). -/
structure Chain where
  /-- r0: first stream index received since the restart. -/
  r0 : Option Nat := none
  /-- The stream index expected next. -/
  next : Nat := 0
  /-- The first output index whose support lies within what the chain has received. -/
  start : Nat := 0
  /-- Sums and extremes over the current interval: S, S2, MIN, MAX; the extremes none before its first sample. -/
  s : Int := 0
  s2 : Nat := 0
  ext : Option (Int × Int) := none
  /-- FILTERED: integrators and comb delays, modulo 2^112, and the last values c, newest first (R233). -/
  integ : List Nat := []
  comb : List Nat := []
  cs : List Int := []
  /-- FIR swaps since the restart that outputs still reach behind: the first tick under the new bank, and the taps in force before it;
  oldest first (R234). -/
  banks : List (Nat × List Int) := []
  /-- Outputs of the write block in progress, oldest first, as packed values, and the places of those dropped. -/
  block : List Nat := []
  blockDrops : List Nat := []
  /-- Write blocks that wait for room in the capture write buffers, oldest first (R243). -/
  waiting : List ChainBlock := []
  /-- STATUS.SETTLED (R227). -/
  settled : Bool := false
  /-- SAT has been raised since SAT_COUNT was last read (R233). -/
  satRaised : Bool := false
  deriving DecidableEq, Repr

/-! ### The Till (chapter 10) -/

/-- A record being read: its segment, the positions read, a mask test's failures so far (R253, R260). -/
structure TillRec where
  seg : Nat
  next : Nat := 0
  fails : Nat := 0
  firstFail : Option Nat := none
  /-- PRODUCT: the level markers found so far, the sum of what has been read between the markers, and whether it has saturated (R261,
  R262). -/
  m0 : Option Nat := none
  m1 : Option Nat := none
  sum : Int := 0
  sat : Bool := false
  deriving DecidableEq, Repr

/-- A dump that has been taken and is being written: its header words, its image, the offset of its slot (R268). -/
structure TillDump where
  header : List Nat
  image : List Nat
  slot : Nat
  /-- An automatic dump. -/
  auto : Bool := false
  deriving DecidableEq, Repr

/-- A partition beside its registers (R252 to R271). -/
structure TillPart where
  /-- Bound segments not yet read, in segment order. -/
  bound : List Nat := []
  cur : Option TillRec := none
  /-- First and last segment accumulated in the image. -/
  range : Option (Nat × Nat) := none
  torn : Bool := false
  sat : Bool := false
  eccLost : Bool := false
  /-- A saturation has occurred since the last clear (R259). -/
  satSeen : Bool := false
  outside : Nat := 0
  pass : Nat := 0
  fail : Nat := 0
  dumpSeq : Nat := 0
  /-- Segments skipped since the previous dump. -/
  skipSince : Nat := 0
  /-- A snapshot awaits its record boundary; whether it clears (R267). -/
  snap : Option Bool := none
  /-- It was requested while an automatic sweep ran: it waits for a record boundary after that sweep (R267). -/
  snapLate : Bool := false
  /-- Points whose value a double-bit error has lost since the last dump (R272). -/
  lostPoints : List Nat := []
  /-- A sweep has fallen due at the boundary: automatic, and clearing (R266). -/
  due : Option (Bool × Bool) := none
  /-- The sweep in progress. -/
  sweep : Option TillDump := none
  deriving DecidableEq, Repr

/-- The Till beside its registers. -/
structure TillState where
  /-- Bank words, by unit × 2^18 + word within the unit; unlisted words are 0. -/
  banks : KMap Nat := []
  parts : KMap TillPart := []
  /-- Times in µs of the corrected errors of each bank, by island × 256 + bank, newest first (R272). -/
  corrected : KMap (List Nat) := []
  deriving DecidableEq, Repr

/-! ### Journeymen and benches (chapter 11) -/

/-- Where an admitted ticket is (R277). -/
inductive TicketAt where
  /-- Not dispatched, or done. -/
  | store
  /-- In the deque of a journeyman. -/
  | deque (jm : Nat)
  /-- Executing on a journeyman. -/
  | running (jm : Nat)
  deriving DecidableEq, Repr

/-- How a ticket ended: its status and result (Table 11.2), and the output of each run in bytes. -/
structure TicketOut where
  status : Nat
  result : Nat
  outputs : List (List Nat) := []
  deriving DecidableEq, Repr

/-- A ticket in the store (R277). -/
structure Ticket where
  id : Nat
  words : List Nat
  /-- The submitting queue, 0xFFFF for a binding ticket, and HEAD after the entry was consumed. -/
  sq : Nat
  sqHead : Nat
  seq : Nat
  attempt : Nat := 0
  /-- Timeouts of its own attempts (R290). -/
  timeouts : Nat := 0
  place : TicketAt := .store
  /-- Once it is done. -/
  out : Option TicketOut := none
  /-- The scratch slot of the attempt; its attempt waits for a free one (R293). -/
  slot : Option Nat := none
  slotWait : Bool := false
  /-- Accumulator value at which the attempt started. -/
  started : Nat := 0
  /-- Segments held as a reader (R281). -/
  holds : List Nat := []
  /-- Its publications have been checked; publication operations made; records of STREAM_OUT written (R295, R318). -/
  checked : Bool := false
  made : Nat := 0
  sent : Nat := 0
  deriving DecidableEq, Repr

/-- The benches and the ticket store beside their registers. -/
structure BenchState where
  /-- Admitted tickets, in admission order. -/
  tickets : List Ticket := []
  nextId : Nat := 0
  /-- The next sequence number of each order stream (R302). -/
  nextSeq : KMap Nat := []
  /-- The order stream and the bench last served by dispatch (R299). -/
  lastStream : Nat := 0
  lastBench : Nat := 0
  /-- Deques by journeyman: ticket numbers, the far end first. -/
  deques : KMap (List Nat) := []
  /-- Ticket entries presented for admission and not yet consumed: queue and entry, oldest first (R280). -/
  offered : List (Nat × List Nat) := []
  /-- Slots being loaded: slot and command (R285). -/
  loading : KMap Nat := []
  /-- Generations by slot. -/
  gen : KMap Nat := []
  /-- Times in ms of each journeyman's timeouts, newest first (R291). -/
  jmTimes : KMap (List Nat) := []
  /-- Benches isolated until cold reset, as a bit map (R291, R292). -/
  shut : Nat := 0
  /-- Accumulator value of each bench's last heartbeat (R292). -/
  heard : KMap Nat := []
  deriving DecidableEq, Repr


/-! ### The memory subsystem (chapter 13) -/

/-- A live retrain (R335): its pseudo-channel, whether the new centres have taken effect, and the EYE words before. -/
structure Retrain where
  pc : Nat
  swept : Bool := false
  old : List Nat := []
  deriving DecidableEq, Repr

/-- A row that a bank holds open: since which tick of its last access, and whether only for a waiting request (R331). -/
structure OpenRow where
  row : Nat
  since : Nat
  auto : Bool
  deriving DecidableEq, Repr

/-- The memory subsystem beside its registers (R327 to R350). -/
structure MemState where
  /-- The retrain in progress, by stack. -/
  retrain : KMap Retrain := []
  /-- The pseudo-channel being rebuilt, by stack (R349). -/
  rebuild : KMap Nat := []
  /-- Pseudo-channels replaced by a spare region, as a bit map; frozen ones that wait for one; those whose lines can no longer be
  rebuilt (R350). -/
  replaced : Nat := 0
  waiting : List Nat := []
  dead : Nat := 0
  /-- FREEZE_LOG records made (R352). -/
  freezeSeq : Nat := 0
  /-- The data rate being trained; a request is held until the training in progress completes (R336). -/
  rateHeld : Bool := false
  /-- Intervals owed, by 48 × pseudo-channel + bank (R340). -/
  owed : KMap Nat := []
  /-- Intervals since the start of a bank's refresh window (R343). -/
  window : KMap Nat := []
  /-- Rows and activate counts of a bank (R343). -/
  rows : KMap (List (Nat × Nat)) := []
  /-- Requests that wait in the scheduler of a pseudo-channel, oldest first (R330); a bank's open row (R331); activates of a row by
  one requester in the window (R342). -/
  reqs : KMap (List HbmReq) := []
  openRows : KMap OpenRow := []
  acts : KMap Nat := []
  /-- Pseudo-channels in power-down, as a bit map (R344). -/
  powerDown : Nat := 0
  /-- Consecutive timeouts of each pseudo-channel, and the times in µs of its parity alerts, newest first (R347). -/
  timeouts : KMap Nat := []
  alerts : KMap (List Nat) := []
  /-- Times in µs of the corrected errors of a row, newest first, by (48 × pseudo-channel + bank) × 2^24 + row; rows to be replaced
  at the next live retrain; spare rows used, by bank; rows reported to the margin plan (R345). -/
  corrected : KMap (List Nat) := []
  rowsDue : List Nat := []
  rowsUsed : KMap Nat := []
  rowsKept : List Nat := []
  deriving DecidableEq, Repr


/-! ### The cascade (chapter 15) -/

/-- What a frame carries (R373): SYNC and TRIG frames their payload words; MGMT and DATA frames, whose payload layout the manual does
not give, what the payload says (log entry 34). -/
inductive FrameContent where
  | words (src dst : Nat) (payload : List Nat)
  | mgmt (m : MgmtFrame)
  | data (src dst : Nat) (part : DataPart)
  deriving DecidableEq, Repr

/-- A frame sent and not yet acknowledged: port, class, SEQ, content (R374). -/
structure HeldFrame where
  port : Nat
  cls : Nat
  seq : Nat
  what : FrameContent
  deriving DecidableEq, Repr

/-- A TRIG frame on its way through the forwarding delay line (R375): outgoing ports and content. -/
structure Forward where
  ports : List Nat
  what : FrameContent
  deriving DecidableEq, Repr

/-- An accepted trigger message (R385): ORIGIN, SEQ_T, TYPE, and when it was accepted, in 2^-16 nominal ticks. -/
structure RxMsg where
  origin : Nat
  seqT : Nat
  typ : Nat
  at16 : Nat
  deriving DecidableEq, Repr

/-- A port beside its registers. -/
structure CasPort where
  /-- The far end's last MGMT frame, and the last one sent to it. -/
  peer : Option MgmtFrame := none
  told : Option MgmtFrame := none
  /-- Arrival of the last SYNC frame received, in 2^-16 nominal ticks. -/
  got : Nat := 0
  /-- SYNC exchanges in a row, and the sum of their one-way delays, as 2^-17 nominal ticks, up to 64 of them (R378). -/
  exchanges : Nat := 0
  delaySum : Int := 0
  /-- SYNC exchanges since the port began to measure. -/
  frames : Nat := 0
  deriving DecidableEq, Repr

/-- The CAS block beside its registers. -/
structure CasState where
  ports : KMap CasPort := []
  /-- SEQ of the next frame, by port × 16 + class. -/
  tx : KMap Nat := []
  /-- SEQs accepted, by port × 16 + class. -/
  rx : KMap (List Nat) := []
  held : List HeldFrame := []
  forward : List Forward := []
  msgs : List RxMsg := []
  /-- TRIG messages already forwarded: ORIGIN, SEQ_T, TYPE (R384). -/
  passed : List (Nat × Nat × Nat) := []
  /-- The root knows of another root, and yields to it (R377); its horizon is too short (R382). -/
  conflict : Bool := false
  yields : Bool := false
  short : Bool := false
  /-- The copy in progress: source, destination, length, device (R389). -/
  xfer : Option (Nat × Nat × Nat × Nat) := none
  /-- Copies from other devices that are landing here: their device, and what is still to come in bytes (R389). -/
  copies : KMap Nat := []
  /-- Images received so far, header and points, by sending device × 16 + partition (R387). -/
  images : KMap (List Nat) := []
  deriving DecidableEq, Repr
/-! ### Auxiliary converters (chapter 16) -/

/-- A sequence entry in progress: conversions made, their sum, and what its result carries (R395, R396, Table 16.3). -/
structure AuxEntry where
  n : Nat := 0
  sum : Nat := 0
  alarm : Bool := false
  split : Bool := false
  slow : Bool := false
  deriving DecidableEq, Repr

/-- One converter (R394 to R398). -/
structure AuxConv where
  /-- A conversion is in progress. -/
  busy : Bool := false
  /-- The regular entry in progress, and whether it has given its result and waits for the group (R397). -/
  reg : AuxEntry := {}
  finished : Bool := false
  /-- Between passes (R395), and a pass is due that found the previous one running. -/
  idle : Bool := false
  due : Bool := false
  /-- Enabled into a running group: its first entry waits for the group's next step (R397). -/
  fresh : Bool := false
  /-- The injected entry in progress. -/
  inj : Option (Nat × AuxEntry) := none
  /-- Table banks that the sequence passes in progress use (R407). -/
  regBank : Nat := 0
  injBank : Nat := 0
  /-- The compatibility filter: integrators and comb delays, conversions since enable, accumulator at the last one (R403). -/
  integ : List Nat := []
  comb : List Nat := []
  count : Nat := 0
  lastAt : Nat := 0
  deriving DecidableEq, Repr

/-- A result record: its sampling instant in 2^-16 slice-clock ticks, its converter, its four words (R399). -/
structure AuxResult where
  at16 : Int
  conv : Nat
  words : List Nat
  deriving DecidableEq, Repr

/-- The AUX block beside its registers. -/
structure AuxState where
  conv : KMap AuxConv := []
  /-- Results not yet numbered. -/
  waiting : List AuxResult := []
  /-- Numbers given since cold reset. -/
  next : Nat := 0
  oldest : Nat := 0
  /-- Sampling instants of numbered results with their numbers, newest first. -/
  log : List (Int × Nat) := []
  /-- Records that wait for the queue, oldest first (R402), and the number of the first. -/
  batch : List (List Nat) := []
  batchFirst : Nat := 0
  /-- Channels whose previous conversion was outside the limits (R400). -/
  outside : KMap Bool := []
  /-- Urgent triggers on their way to ISL_AUX: MAIN, ALARM, and by TRIG_IN input (R396). -/
  urgMain : Nat := 0
  urgAlarm : Nat := 0
  urgTin : KMap Nat := []
  deriving DecidableEq, Repr


/-! ### Life-cycle, log and plan in MRAM and OTP (chapters 17 to 19) -/

/-- A journalled transition between PREPARE and DONE (R449): the states it leaves and enters, the owner key and its digest, and the
command that waits for it. -/
structure Journal where
  source : Nat
  target : Nat
  payload : List Nat := []
  digest : List Nat := []
  cmd : Option Nat := none
  deriving DecidableEq, Repr

/-- A margin plan (Table 18.3), with its SEQ, PROJECTED_YEARS and LIMITER, the pseudo-channels to retrain and the slices retired. -/
structure Plan where
  seq : Nat
  guardCore : Nat
  guardSram : Nat
  floor0 : Nat
  floor1 : Nat
  retrainDays : Nat
  years : Nat
  limiter : Nat
  retrain : List Nat
  retired : List Nat
  deriving DecidableEq, Repr

/-- A daily summary of a trend quantity (R429): HOURS at the time, code of Table 18.2, element, value. -/
structure Trend where
  hours : Nat
  code : Nat
  element : Nat
  value : Int
  deriving DecidableEq, Repr


/-! ### The whole machine -/

/-- Everything that cold reset sets anew. -/
structure Dev where
  /-- The register file: field values by bit address, for fields that differ from their reset value or were written. -/
  regs : KMap Nat := []
  /-- Table words by page, table, bank and word index. -/
  tabs : KMap Nat := []
  /-- Table controls by page and table. -/
  tctl : KMap TableCtl := []
  bus : Bus := {}
  qm : QmState := {}
  pcie : PcieState := {}
  clk : ClkState := {}
  tb : TbaseState := {}
  tally : TallyState := {}
  fore : ForeState := {}
  loom : LoomState := {}
  assay : AssayState := {}
  vern : VernState := {}
  trig : TrigState := {}
  tseq : TseqState := {}
  tic : TicState := {}
  acq : AcqState := {}
  chains : KMap Chain := []
  /-- Bytes to be stored in the HBM tier at the end of the command: offset and bytes, newest first. -/
  toHbm : List (Nat × List Byte) := []
  till : TillState := {}
  bench : BenchState := {}
  mem : MemState := {}
  cas : CasState := {}
  aux : AuxState := {}
  /-- What has left the device, newest first. -/
  out : List Output := []
  /-- The model's own counter of free values used (log entry 5). -/
  freeCtr : Nat := 0
  deriving DecidableEq, Repr

/-- MRAM and OTP contents (chapters 04, 17, 18, 19). -/
structure NonVolatile where
  /-- The calibration banks CALB_0, CALB_1 and FCAL (R111, R517). -/
  calb0 : Bank := { seq := 1 }
  calb1 : Bank := { valid := false }
  fcal : Bank := {}
  /-- Factory area: PATH_DELAY values written in the field, by 4 × input + mode (R74). -/
  pathDelay : KMap Nat := []
  /-- The device error log: record words by record number modulo 4,096, and records appended since it was last cleared (R415). -/
  log : KMap (List Nat) := []
  logNext : Nat := 0
  /-- The life-cycle OTP array, entries programmed so far (R445). -/
  otp : List Nat := []
  /-- OTP_SVN and MRAM_SVN (R454), ATT_RESERVED (R457), BOOT_PREF, and the revoke bits of the firmware key slots (R448). -/
  otpSvn : Nat := 0
  mramSvn : Nat := 0
  attReserved : Nat := 0
  bootPref : Nat := 0
  revoked : Nat := 0
  /-- Owner policy, owner public key and its digest, and whether the identity key seed exists (R448). -/
  policy : Nat := 0
  ownerKey : List Nat := []
  ownerDigest : List Nat := []
  idSeed : Bool := false
  journal : Option Journal := none
  /-- The two copies of the margin plan; none where the copy is not valid (R432). -/
  planA : Option Plan := none
  planB : Option Plan := none
  /-- Block writes to MRAM: what its error rates count against (Table 18.2). -/
  mramWrites : Nat := 0
  /-- Powered-on hours since manufacture (Table 18.8), and the trend summaries, newest first (R429). -/
  hours : Nat := 0
  trends : List Trend := []
  /-- The trip record: the sensor that tripped (R440). -/
  trip : Option Nat := none
  deriving DecidableEq, Repr

/-- The device, with its queue of commands that wait. -/
structure State where
  /-- Commands waiting, the front one next. -/
  pending : List Instr
  dev : Dev
  /-- MRAM and OTP: they survive cold reset. -/
  nv : NonVolatile
  /-- The HBM tier of record space. -/
  hbm : Memory
  deriving DecidableEq, Repr

/-- Why a run stops with a fault. No command of the QM9640 stops it: every command has an effect the manual gives, or is
refused. -/
inductive Fault where
  /-- Raised by nothing in this model; a step never faults. Safe: nothing is claimed from it. -/
  | none
  deriving DecidableEq, Repr

/-- Why a command is refused. -/
inductive Refusal where
  /-- The command has no meaning in this model: raised by the arms of `exec` not modelled yet. Safe: the run stops. -/
  | notModelled (mnemonic : String)
  /-- Raised by TAP_INSTRUCTION for a debug instruction while the TAP is open: the manual does not say what a debug
  instruction does to the device (R456). Safe: the run stops. -/
  | debugInstructionUnspecified
  deriving DecidableEq, Repr

/-- The machine right after cold reset of a device fresh from the factory: every field as the manual states for reset, and
each register without a stated value as log entry 2 names it. -/
def State.reset : State := { pending := [], dev := {}, nv := {}, hbm := [] }

end Sys2Proof.Machine
end

