-- ==== Sys2Proof/Machine/Ops.lean ====
section
/-!
DEFINITION. The named operations over the device's registers, tables, output and record space that every meaning is built
from: reading and setting a field, counting, event bits and their routes, page error records, page status, posting to
queues, timestamps, tally counts.
-/

namespace Sys2Proof.Machine



/-! ### Fields of registers -/

/-- The value of a field. -/
def Dev.fget (d : Dev) (f : Field) (i : Nat := 0) : Nat := KMap.at d.regs (f.rstAt i) (f.key i)

/-- Set a field, keeping the bits its width holds. -/
def Dev.fset (d : Dev) (f : Field) (v : Nat) (i : Nat := 0) : Dev :=
  { d with regs := KMap.put d.regs (f.key i) (v % 2 ^ f.width) }

/-- A one-bit field as a truth value. -/
def Dev.flag (d : Dev) (f : Field) (i : Nat := 0) : Bool := d.fget f i == 1

/-- Set a one-bit field. -/
def Dev.fbit (d : Dev) (f : Field) (b : Bool) (i : Nat := 0) : Dev := d.fset f (Bool.bit b) i

/-- Count in a field that saturates (R12, R412). -/
def Dev.finc (d : Dev) (f : Field) (n : Nat := 1) (i : Nat := 0) : Dev :=
  d.fset f (satAdd f.width (d.fget f i) n) i

/-- A field read as a signed value (R6). -/
def Dev.fgetS (d : Dev) (f : Field) (i : Nat := 0) : Int := toSigned f.width (d.fget f i)

/-- Set a field to a signed value. -/
def Dev.fsetS (d : Dev) (f : Field) (v : Int) (i : Nat := 0) : Dev := d.fset f (ofSigned f.width v) i

/-- A value held in two registers, W0 the least significant (R18). -/
def Dev.fget64 (d : Dev) (f0 f1 : Field) (i : Nat := 0) : Nat := d.fget f0 i + 2 ^ 32 * d.fget f1 i

/-- Set a value held in two registers. -/
def Dev.fset64 (d : Dev) (f0 f1 : Field) (v : Nat) (i : Nat := 0) : Dev :=
  (d.fset f0 v i).fset f1 (v / 2 ^ 32) i

/-- The bits of `a` that are not in `b`. -/
def andNot (a b : Nat) : Nat := a ^^^ (a &&& b)

/-- Set or clear one bit of a field. -/
def Dev.fsetBit (d : Dev) (f : Field) (bit : Nat) (b : Bool) (i : Nat := 0) : Dev :=
  d.fset f (if b then d.fget f i ||| 2 ^ bit else andNot (d.fget f i) (2 ^ bit)) i

/-! ### Free values -/

/-- A fresh value that the manual leaves open, and the device with the count of such values advanced (log entry 5). -/
def Dev.free (d : Dev) : Nat × Dev := (Config.freeValue d.freeCtr, { d with freeCtr := d.freeCtr + 1 })

/-! ### Time -/

/-- The tick count of the timebase (R58). -/
def Dev.nowTick (d : Dev) : Nat := d.tb.acc / 2 ^ 32 % 2 ^ 64

/-- The three words of a timestamp with tick count `tick` and fraction `frac` in the current epoch (R58). -/
def Dev.stampOf (d : Dev) (tick frac : Nat) : List Nat :=
  [d.fget Reg.tbase_EPOCH + 65536 * (frac % 65536), tick % 2 ^ 32, tick / 2 ^ 32 % 2 ^ 32]

/-- The timestamp of now, as three words. -/
def Dev.nowStamp (d : Dev) : List Nat := d.stampOf d.nowTick (d.tb.acc / 2 ^ 16 % 2 ^ 16)

/-- A number of nominal ticks in µs at the nominal frequency (R58). -/
def Dev.ticksToUs (d : Dev) (t : Nat) : Nat := t * 8000 / max 1 (d.fget Reg.tbase_NOMINAL_FREQ)

/-! ### Tables -/

/-- The number that names a word of a table's bank. -/
def tkey (page sel bank addr : Nat) : Nat := ((page * 32 + sel) * 2 + bank) * 2 ^ 25 + addr

/-- The place of a coefficient table's word in a calibration bank (Table 04.4): the LOOM_g tables, SKEW_TRIM, ALLOC,
DLL_TAP_TRIM, DLL_BAND_MAP and VERN_PERIOD. -/
def bankIndex (page sel addr : Nat) : Option Nat :=
  if 12 ≤ page ∧ page < 16 then
    (if sel = 0 ∧ addr < 68 then some (68 * (page - 12) + addr)
     else if 1 ≤ sel ∧ sel ≤ 3 ∧ addr < 272 then some (272 + 816 * (page - 12) + 272 * (sel - 1) + addr)
     else none)
  else if page = 16 then
    (if sel = 0 ∧ addr < 544 then some (3536 + addr) else if sel = 1 ∧ addr < 32 then some (4080 + addr) else none)
  else if page = 17 then
    (if sel = 1 ∧ addr < 16 then some (4112 + addr) else if sel = 2 ∧ addr < 32 then some (4128 + addr)
     else if sel = 3 ∧ addr < 128 then some (4160 + addr) else none)
  else none

/-- A coefficient table's word of the identity set that R114 names: offset 0, gain 0x40_0000, FIR h[7] = 16,384, the
allocation of R75; before any bank is loaded the tables hold it too (DESIGN CHOICE, log entry 8). -/
def identityWord (page sel addr : Nat) : Nat :=
  if 12 ≤ page ∧ page < 16 then (if sel = 0 then (if addr % 2 = 1 then 0x400000 else 0) else if addr % 8 = 3 then 16384 * 65536 else 0)
  else if page = 16 ∧ sel = 1 then
    4 * (addr % 8) + 256 * (4 * (addr % 8) + 1) + 65536 * (4 * (addr % 8) + 2) + 16777216 * (4 * (addr % 8) + 3)
  else 0

/-- The table word that stands at a place of a calibration bank: page, TABLE_SEL and word (Table 04.4). -/
def bankPlace (w : Nat) : Option (Nat × Nat × Nat) :=
  if w < 272 then some (12 + w / 68, 0, w % 68)
  else if w < 3536 then some (12 + (w - 272) / 816, 1 + (w - 272) % 816 / 272, (w - 272) % 272)
  else if w < 4080 then some (16, 0, w - 3536)
  else if w < 4112 then some (16, 1, w - 4080)
  else if w < 4128 then some (17, 1, w - 4112)
  else if w < 4160 then some (17, 2, w - 4128)
  else if w < 4288 then some (17, 3, w - 4160)
  else none

/-- A word of a calibration bank (R111). The allocation of a factory bank is that of R75. -/
def Bank.word (b : Bank) (w : Nat) : Nat :=
  KMap.at b.words
    (match bankPlace w with
    | none => 0
    | some (page, sel, addr) =>
      if b.base == .identity || (page == 16 && sel == 1) then identityWord page sel addr else Config.fcalWord w % 2 ^ 32) w

/-- Word w of bench b's NEIGHBOUR entry at cold reset: the (4w + q)-th bench is b XOR (4w + q + 1), the last byte 0xFF
(Table 11.9). -/
def neighbourWord (b w : Nat) : Nat :=
  ((List.range 4).map fun q => (if 4 * w + q = 31 then 0xFF else b ^^^ (4 * w + q + 1)) * 2 ^ (8 * q)).sum

/-- What a table word holds where nothing has been written since cold reset: the calibration bank that was loaded, the
entry of epoch 0 of the EPOCH table (R67), the factory's interpolation kernels, whose phase 0 is the identity (R164), the
pass-through taps of the decimator chains (R234), the bench neighbours, or 0. -/
def Dev.tableBase (d : Dev) (page sel addr : Nat) : Nat :=
  match bankIndex page sel addr with
  | some w => (match d.assay.loaded with
    | some b => b.word w
    | none => identityWord page sel addr)
  | none =>
    if page = 6 ∧ sel = 0 ∧ addr = 7 then crc32c [0, 0, 0, 0, 0, 0, 0]
    else if page = 20 ∧ sel < 3 then
      (if addr < 8 then (if addr = 3 then 16384 * 65536 else 0) else Config.kernelWord sel addr % 2 ^ 32)
    else if page = 24 ∧ sel < 8 then (if addr = 15 then 16384 * 65536 else 0)
    else if page = 29 ∧ sel = 0 then neighbourWord (addr / 8) (addr % 8)
    else 0

/-- A word of one bank of a table. -/
def Dev.tget (d : Dev) (page sel bank addr : Nat) : Nat := KMap.at d.tabs (d.tableBase page sel addr) (tkey page sel bank addr)

/-- Set a word of one bank of a table. -/
def Dev.tset (d : Dev) (page sel bank addr v : Nat) : Dev :=
  { d with tabs := KMap.put d.tabs (tkey page sel bank addr) (v % 2 ^ 32) }

/-- Set consecutive words. -/
def Dev.tsetWords (d : Dev) (page sel bank addr : Nat) : List Nat → Dev
  | [] => d
  | w :: ws => Dev.tsetWords (d.tset page sel bank addr w) page sel bank (addr + 1) ws

/-- A table's control state. -/
def Dev.tctlOf (d : Dev) (page sel : Nat) : TableCtl := KMap.at d.tctl {} (page * 32 + sel)

/-- Set a table's control state. -/
def Dev.tctlSet (d : Dev) (page sel : Nat) (c : TableCtl) : Dev := { d with tctl := KMap.put d.tctl (page * 32 + sel) c }

/-- The word of a table that the block uses: that of the active bank (R482). -/
def Dev.tactive (d : Dev) (page sel addr : Nat) : Nat := d.tget page sel (d.tctlOf page sel).bank addr

/-- The word of the shadow bank of a banked table (R482). -/
def Dev.tshadow (d : Dev) (page sel addr : Nat) : Nat := d.tget page sel (1 - (d.tctlOf page sel).bank) addr

/-! ### Output to the host -/

/-- Bytes that a write to the host takes in the egress buffer (R365). -/
def Output.bytes : Output → Nat
  | .hostWrite _ ws => 4 * ws.length
  | .msix _ => 4
  | .spill _ _ bs => bs.length
  | _ => 0

/-- Capacity of the egress buffer: 8 MiB (R365). -/
def egressSize : Nat := 8 * 2 ^ 20

/-- Whether the link is held (R364). -/
def Dev.holding (d : Dev) : Bool := d.flag Reg.pcie_HOLD

/-- A host access reaches the link: it is not in L1 (R369). -/
def Dev.linkBusy (d : Dev) : Dev := if d.flag Reg.pcie_IN_L1 then d.fbit Reg.pcie_IN_L1 false else d

/-- Whether entries of a SUBMIT queue may be read from the host: Bus Master Enable is set, and in a hold only the admin queue's once
it has been set again (R366). -/
def Dev.fetches (d : Dev) (q : Nat) : Bool := d.flag Reg.pcie_BME && (!d.holding || (d.pcie.adminOnly && q == 0))

/-- Whether a write of `n` bytes to the host can be made, or buffered during a hold (R365). -/
def Dev.egressRoom (d : Dev) (n : Nat) : Bool :=
  !d.holding || decide (d.fget Reg.pcie_EGRESS_LEVEL + n ≤ egressSize)

/-- Send something out of the device; a write to the host during a hold goes to the egress buffer, in order (R365), and one on the
link brings it out of L1 (R369). -/
def Dev.emit (d : Dev) (o : Output) : Dev :=
  if d.holding && o.bytes != 0 then
    { d with pcie := { d.pcie with egress := d.pcie.egress ++ [o] } }.fset Reg.pcie_EGRESS_LEVEL
      (d.fget Reg.pcie_EGRESS_LEVEL + o.bytes)
  else if o.bytes != 0 then { d.linkBusy with out := o :: d.out }
  else { d with out := o :: d.out }

/-- Signal an MSI-X vector; a masked vector sets its pending bit instead, and so does any while nothing may be written to the host
(R321, R366, and the standard named in R354; PRESUMED, log entry 20). -/
def Dev.msix (d : Dev) (v : Nat) : Dev :=
  if KMap.at d.pcie.msixWords 1 (4 * v + 3) % 2 = 1 || !(d.holding || d.flag Reg.pcie_BME) then { d with pcie := { d.pcie with pba := KMap.put d.pcie.pba v true } }
  else d.emit (.msix v)

/-! ### Queue contexts -/

/-- The context of a queue; TYPE 0 where none exists. -/
def Dev.qctx (d : Dev) (q : Nat) : QCtx := KMap.at d.qm.ctx {} q

/-- Replace a queue's context. -/
def Dev.qset (d : Dev) (q : Nat) (c : QCtx) : Dev := { d with qm := { d.qm with ctx := KMap.put d.qm.ctx q c } }

/-- Entries between HEAD and TAIL (R307). -/
def QCtx.used (c : QCtx) : Nat := (c.tail + 2 ^ 32 - c.head) % 2 ^ 32

/-- Bytes of an entry (R307). -/
def QCtx.entryBytes (c : QCtx) : Nat := if c.typ = 1 then 64 else if c.typ = 4 then 2 ^ c.esize else 32

/-- Whether `n` more entries fit in the ring (R307). -/
def QCtx.fits (c : QCtx) (n : Nat) : Bool := decide (c.used + n ≤ 2 ^ c.log2)

/-- Whether a queue can take `n` more entries of what the device delivers: it is active (or paused by a hold), its ring has
room, and so has the egress buffer (R318, R319, R365). -/
def Dev.qroom (d : Dev) (q n : Nat) : Bool :=
  let c := d.qctx q
  (c.state == 1 || c.state == 3) && c.fits n && d.egressRoom (n * c.entryBytes)

/-- PHASE of the entry at an index (R313). -/
def QCtx.phase (c : QCtx) (i : Nat) : Nat := (i / 2 ^ c.log2 + 1) % 2

/-- Signal the queue's vector if it is due: enough unsignalled entries, or no delay limit (R321). -/
def Dev.signalIfDue (d : Dev) (q : Nat) : Dev :=
  let c := d.qctx q
  if c.irqEn && c.irqArmed && c.unsignalled != 0 && (decide (max 1 c.coalCnt ≤ c.unsignalled) || c.coalUs == 0 || c.late) then
    (d.qset q { c with irqArmed := false, unsignalled := 0, late := false }).msix c.vector
  else d

/-- Write one 32-byte entry at TAIL with its PHASE, advance TAIL, and signal if due (R307, R313, R321). -/
def Dev.pushEntry (d : Dev) (q : Nat) (words : List Nat) : Dev :=
  let c := d.qctx q
  let addr := c.base + c.tail % 2 ^ c.log2 * c.entryBytes
  let w0 := words.headD 0 ||| (c.phase c.tail * 2 ^ 24)
  ((d.emit (.hostWrite addr (w0 :: words.drop 1))).qset q
    { c with tail := (c.tail + 1) % 2 ^ 32, unsignalled := c.unsignalled + 1 }).signalIfDue q

/-! ### Events -/

/-- Set EVENT bits of a page and record EVENT_FIRST; also the bits that newly entered the pending set (R409, R411, R322). -/
def Dev.setEvent (d : Dev) (p mask : Nat) : Dev × Nat :=
  let old := d.fget Reg.hdr_EVENT p
  let m := mask % 2 ^ 32
  let new := old ||| m
  let d1 := d.fset Reg.hdr_EVENT new p
  let d2 := if old = 0 && m != 0 then
      (((d1.fset Reg.hdr_FIRST_BIT (Nat.log2 (m &&& (2 ^ 32 - m))) p).fbit Reg.hdr_FIRST_MULTI
        (andNot m (m &&& (2 ^ 32 - m)) != 0) p).fbit Reg.hdr_FIRST_INJECTED d.fore.injecting p).fbit Reg.hdr_FIRST_VALID true p
    else d1
  (d2, andNot (andNot new old) (d.fget Reg.hdr_EVENT_MASK p))

/-- EVENT_FIRST as a word (Table 17.1). -/
def Dev.eventFirst (d : Dev) (p : Nat) : Nat :=
  d.fget Reg.hdr_FIRST_BIT p + 32 * d.fget Reg.hdr_FIRST_MULTI p + 64 * d.fget Reg.hdr_FIRST_INJECTED p +
    128 * d.fget Reg.hdr_FIRST_VALID p

/-- Post an EVENT entry for a page to a queue; an entry that finds the queue full is lost (Table 12.6, R319). Also whether
one was lost. -/
def Dev.postEvent (d : Dev) (p new q : Nat) : Dev × Bool :=
  let c := d.qctx q
  if c.typ != 3 || !(c.state == 1) then (d.finc Reg.evt_ROUTE_LOST, false)
  else if d.qroom q 1 then
    let d1 := d.qset q { c with overflow := false, lost := 0 }
    (d1.pushEntry q [p ||| (Bool.bit c.overflow * 2 ^ 25), new, d.fget Reg.hdr_EVENT p, d.eventFirst p,
      if c.overflow then c.lost else 0, d.nowStamp.getD 0 0, d.nowStamp.getD 1 0, 0], false)
  else
    let d1 := d.qset q { c with overflow := true, lost := satAdd 32 c.lost 1, dropped := satAdd 32 c.dropped 1 }
    let d2 := if d.holding then { d1 with pcie := { d1.pcie with lost := satAdd 32 d1.pcie.lost 1 } } else d1
    (d2.finc Reg.qmgr_EVENT_DROPS, true)

/-- Carry a page's newly pending bits along its route: post to QUEUE, signal VECTOR (R322, R323), and set PME_Status in
D3hot (R501). Also whether an EVENT entry was lost. -/
def Dev.route (d : Dev) (p new : Nat) : Dev × Bool :=
  let w := d.tget 30 0 0 p
  let r := if bitAt w 12 then d.postEvent p new (bitField w 16 16) else (d, false)
  let d2 := if bitAt w 11 then r.1.msix (bitField w 0 11) else r.1
  let d3 := if (bitAt w 11 || bitAt w 12) && d2.pcie.d3hot then { d2 with pcie := { d2.pcie with pmeStatus := true } } else d2
  (d3, r.2)

/-- Set EVENT bits of a page and let its route act on those that newly became pending (R409, R411, R322). -/
def Dev.setAndRoute (d : Dev) (p mask : Nat) : Dev × Bool :=
  let r := d.setEvent p mask
  if r.2 = 0 then (r.1, false) else r.1.route p r.2

/-- A write of `n` bytes finds no room in the egress buffer: EGRESS_FULL, once per hold (R365). -/
def Dev.egressFull (d : Dev) (n : Nat) : Dev :=
  if d.egressRoom n || d.pcie.fullRaised then d
  else (({ d with pcie := { d.pcie with fullRaised := true } }).setAndRoute 68 (2 ^ Ev.pcie_EGRESS_FULL)).1

/-- Raise EVENT bits of a page, with EVENT_OVERFLOW of the QMGR page where an EVENT entry was lost on the way (R319). -/
def Dev.raiseMask (d : Dev) (p mask : Nat) : Dev :=
  let r := d.setAndRoute p mask
  if r.2 then ((r.1.setAndRoute 28 (2 ^ Ev.qmgr_EVENT_OVERFLOW)).1).egressFull 32 else r.1

/-- Raise one EVENT bit of a page. -/
def Dev.raise (d : Dev) (p bit : Nat) : Dev := d.raiseMask p (2 ^ bit)

/-! ### Error records and page status -/

/-- Hold a page error record (R414, Table 17.4). -/
def Dev.logErr (d : Dev) (p code d0 d1 : Nat) : Dev :=
  (((((((d.fset Reg.hdr_ERR_CODE code p).fbit Reg.hdr_ERR_INJECTED d.fore.injecting p).fbit Reg.hdr_ERR_OVERWRITTEN
    (d.flag Reg.hdr_ERR_VALID p || d.flag Reg.hdr_ERR_OVERWRITTEN p) p).fbit Reg.hdr_ERR_VALID true p).finc Reg.hdr_ERR_COUNT 1 p
    ).fset Reg.hdr_ERR_DETAIL0 d0 p).fset Reg.hdr_ERR_DETAIL1 d1 p).fset Reg.hdr_ERR_TIME d.nowTick p

/-- The record of a discarded write: CODE 0xF0, page offset and requester, the value written (R514). -/
def Dev.logDiscard (d : Dev) (who : Requester) (p off val : Nat) : Dev :=
  d.logErr p 0xF0 (off % 4096 + 4096 * who.code) val

/-- The locator of instance i of a register field, for a refusal that names one (R514). -/
def fieldLocator (f : Field) (i : Nat := 0) : Nat := (f.base + f.stride * i) % 4096 + 65536 * f.lsb

/-- The locator of a table word (R514). -/
def wordLocator (sel addr : Nat) : Nat := addr + 2 ^ 25 * sel + 2 ^ 31

/-- Count an expiry of a timeout owned by a page (R412). -/
def Dev.countTimeout (d : Dev) (p : Nat) : Dev := d.finc Reg.hdr_TIMEOUT_COUNT 1 p

/-- Count a recovery action completed by a page (R412). -/
def Dev.countRecovery (d : Dev) (p : Nat) : Dev := d.finc Reg.hdr_RECOVERY_COUNT 1 p

/-- Set or clear one reason that holds PAGE_STATUS.DEGRADED of a page (R41). -/
def Dev.degrade (d : Dev) (p reason : Nat) (b : Bool) : Dev :=
  let m := KMap.at d.fore.degraded 0 p
  { d with fore := { d.fore with degraded := KMap.put d.fore.degraded p (if b then m ||| 2 ^ reason else andNot m (2 ^ reason)) } }

/-- Whether PAGE_STATUS.DEGRADED of a page is 1. -/
def Dev.isDegraded (d : Dev) (p : Nat) : Bool := KMap.at d.fore.degraded 0 p != 0

/-- Set or clear one reason that holds PAGE_STATUS.FAULT_CONTAINED of a page (R41). -/
def Dev.contain (d : Dev) (p reason : Nat) (b : Bool) : Dev :=
  let m := KMap.at d.fore.contained 0 p
  { d with fore := { d.fore with contained := KMap.put d.fore.contained p (if b then m ||| 2 ^ reason else andNot m (2 ^ reason)) } }

/-- A fault strikes an element group: where the group, given by its reasons, holds DEGRADED of its page, the fault is outside the
guarantee of R38 and the page reports FAULT_CONTAINED (R41; reason 31). -/
def Dev.further (d : Dev) (p reasons : Nat) : Dev :=
  let m := KMap.at d.fore.degraded 0 p
  if m &&& reasons != 0 then d.contain p 31 true else if m = 0 then d.contain p 31 false else d

/-- The margin plan is to be computed anew within 10 minutes: a spare has been consumed, or another of the causes of R430 has come; an
injected condition the plan ignores (R424). -/
def Dev.planSoon (d : Dev) : Dev := if d.fore.injecting then d else { d with fore := { d.fore with planDue := true } }

/-- A fault takes the redundancy of an element group (R41): it is a further one where the group is degraded already. -/
def Dev.faultDegrades (d : Dev) (p reasons reason : Nat) : Dev := ((d.further p reasons).degrade p reason true).planSoon

/-- Whether PAGE_STATUS.FAULT_CONTAINED of a page is 1: the report of a further fault ends with the page's DEGRADED (DESIGN CHOICE,
log entry 38). -/
def Dev.isContained (d : Dev) (p : Nat) : Bool :=
  andNot (KMap.at d.fore.contained 0 p) (if d.isDegraded p then 0 else 2 ^ 31) != 0

/-- Whether the device is in reset (R496). -/
def Dev.inReset (d : Dev) : Bool := !d.fore.pwrOk || d.fore.badSupplies != 0 || d.fore.latched

/-- Whether the FAULT_N pin is low (R420); in reset, while a bad supply latches the reset and VDD_IO is good (R493, R496). -/
def Dev.faultLow (d : Dev) : Bool :=
  if d.inReset then d.fore.latched && !bitAt d.fore.badSupplies Supply.io.bit
  else d.flag Reg.inj_FORCE_FAULT || d.flag Reg.top_FAILED ||
  (List.range 128).any fun p =>
    bitAt (d.fget (if p < 32 then Reg.inj_FAULT_PAGES_W0 else if p < 64 then Reg.inj_FAULT_PAGES_W1
      else if p < 96 then Reg.inj_FAULT_PAGES_W2 else Reg.inj_FAULT_PAGES_W3)) (p % 32) &&
      (d.isContained p || (d.flag Reg.inj_ON_DEGRADED && d.isDegraded p))

/-! ### Who may write -/

/-- Whether E fields of a page are writable: the page's EXPERT bit, the gate, and the life-cycle permission (R16). -/
def Dev.expertOpen (d : Dev) (p : Nat) : Bool :=
  d.flag Reg.hdr_EXPERT p && d.flag Reg.top_OPEN && d.flag Reg.life_EXPERT_PERMIT

/-- Count an accepted configuration write of a page (R475). -/
def Dev.cfgEpoch (d : Dev) (p : Nat) : Dev := d.fset Reg.hdr_CFG_EPOCH (d.fget Reg.hdr_CFG_EPOCH p + 1) p

/-- A write that performs an action: discarded and recorded while the page is frozen (R473), or where it needs expert access
and has none (R16); otherwise it acts and counts in CFG_EPOCH (R475). -/
def Dev.writeGate (d : Dev) (who : Requester) (p off val : Nat) (expert : Bool) (act : Dev → Dev) : Dev :=
  if d.flag Reg.hdr_FREEZE p then d.logDiscard who p off val
  else if expert && !d.expertOpen p then d.logDiscard who p off val
  else (act d).cfgEpoch p

/-- A write that a rule may refuse as a whole: a refused one acts as the rule says and does not count in CFG_EPOCH (R475). -/
def Dev.writeGateIf (d : Dev) (who : Requester) (p off val : Nat) (refused : Dev → Bool) (act : Dev → Dev) : Dev :=
  if d.flag Reg.hdr_FREEZE p then d.logDiscard who p off val
  else if refused d then act d
  else (act d).cfgEpoch p

/-! ### Start-up -/

/-- READY follows the conjunction of its description, and START_READY is raised when it becomes 1 (R34, Table 01.6). -/
def Dev.startUpdate (d : Dev) : Dev :=
  let r := d.flag Reg.top_FW_VALID && d.flag Reg.top_ISL_PLL_LOCK && d.flag Reg.top_DLL_LOCK && d.flag Reg.top_HBM_TRAINED &&
    d.flag Reg.top_CAL_LOADED && d.flag Reg.top_CAL_DONE
  let d1 := d.fbit Reg.top_READY r
  if r && !d.flag Reg.top_READY then d1.raise 0 Ev.top_START_READY else d1

/-- Set one bit of START_STATE (R34: the bits only set). -/
def Dev.startSet (d : Dev) (f : Field) : Dev := (d.fbit f true).startUpdate

/-- Start-up cannot complete (Table 01.6): FAILED, its cause, START_FAILED. -/
def Dev.startFail (d : Dev) (cause : Nat) : Dev :=
  if d.flag Reg.top_FAILED then d
  else ((d.fbit Reg.top_FAILED true).fset Reg.top_FAIL_CAUSE cause).raise 0 Ev.top_START_FAILED

/-! ### The Tally -/

/-- Whether an occurrence passes a group's filter (R465). A field at its pass-all value passes every event. -/
def TallyFilter.passes (f : TallyFilter) (subclass : Nat) (a : TallyAttr) : Bool :=
  (f.priv == 7 || (match a.priv with | some c => bitAt f.priv c | none => false)) &&
  (f.masterKind == 0 || (match a.master with
    | some (k, n) => k == f.masterKind && decide (f.masterLo ≤ n) && decide (n ≤ f.masterHi) | none => false)) &&
  ((f.addrLo == 0 && f.addrHi == 0xFFFFFFFFF) || (match a.line with
    | some l => decide (f.addrLo ≤ l) && decide (l ≤ f.addrHi) | none => false)) &&
  (f.subclass == 0xFFFF || bitAt f.subclass subclass)

/-- The class of a group, in the order in which FAULT_1 counts injected occurrences (Table 20.3). -/
def tallyClass (g : Nat) : Nat :=
  if g = 0 then 1 else if g ≤ 2 then 2 else if g = 3 then 3 else if g = 4 then 4 else if g ≤ 6 then 5 else if g ≤ 10 then 6
  else if g ≤ 12 then 7 else if g ≤ 15 then 8 else if g = 16 then 9 else if g ≤ 18 then 10 else if g = 19 then 11
  else if g = 20 then 12 else if g = 21 then 13 else 14

/-- Bits of a counter directory word (Table 20.2), which the manual leaves to the device (R463; log entry 7). -/
def directorySubclass (c : Nat) : Nat := bitField (Config.directory c) 12 4

/-- A crossing of THRESH by counter c (R467): its SAMPLED bit, SAMPLE_INFO, SAMPLE_g. -/
def Dev.tallyCross (d : Dev) (c : Nat) (instr : Nat × Nat) : Dev :=
  (((((if c % 64 < 32 then d.fsetBit Reg.grp_SAMPLED_W0 (c % 64) true (c / 64)
    else d.fsetBit Reg.grp_SAMPLED_W1 (c % 64 - 32) true (c / 64)).fset Reg.grp_SAMPLE_CNT c (c / 64)).fset Reg.grp_SAMPLE_JM instr.1
    (c / 64)).fset Reg.grp_SAMPLE_OP instr.2 (c / 64))).raise 70 (c / 64)

/-- Add `n` occurrences to counter `c`: wrap at 2^48 with OVF, and a crossing of THRESH (R462, R467, R468). -/
def Dev.tallyAdd (d : Dev) (c n : Nat) (instr : Nat × Nat := (0, 0)) : Dev :=
  let old := KMap.at d.tally.count 0 c
  let sum := old + n
  let t := KMap.at d.tally.thresh 0 c
  let d1 := { d with tally := { d.tally with count := KMap.put d.tally.count c (sum % 2 ^ 48) } }
  let d2 := if 2 ^ 48 ≤ sum then
      ({ d1 with tally := { d1.tally with ovf := KMap.put d1.tally.ovf c true } }).raise 70 Ev.tally_OVERFLOW else d1
  if t != 0 && (decide (old < t) && decide (t ≤ sum) || decide (t + 2 ^ 48 ≤ sum)) then d2.tallyCross c instr else d2

/-- Count `n` occurrences of the event of counter `i` of group `g`, through the group's filter; an injected occurrence is
also counted for its class in FAULT_1 (R425, R462, R465). -/
def Dev.tallyCount (d : Dev) (g i n : Nat) (a : TallyAttr := {}) : Dev :=
  let f := KMap.at d.tally.filter {} g
  let pass := f.passes (if f.subclass == 0xFFFF then 0 else directorySubclass (64 * g + i)) a
  let d1 := if pass then d.tallyAdd (64 * g + i) n a.instr else d
  if d.fore.injecting then d1.tallyAdd (64 * 23 + tallyClass g) n else d1

/-! ### Injection and the Foreman -/

/-- Run a change as the consequence of an injection (R425). -/
def Dev.asInjected (d : Dev) (f : Dev → Dev) : Dev :=
  { (f { d with fore.injecting := true }) with fore.injecting := false }

/-- Run the end of a recovery of a page's element: as the consequence of an injection, where one took the element out of service
(R424, R425). -/
def Dev.recovered (d : Dev) (p el : Nat) (f : Dev → Dev) : Dev :=
  if d.fore.marks.contains (p, el) then { (d.asInjected f) with fore.marks := d.fore.marks.filter fun m => m != (p, el) }
  else f d

/-- Whether the Foreman is in ROM recovery (R419, R453). -/
def Dev.romRecovery (d : Dev) : Bool := d.fore.recovery

/-! ### Lifting to the whole machine -/

/-- The two conditions that drive SMB_ALERT_N (R500). -/
def Dev.alertConds (d : Dev) : Bool × Bool := (d.faultLow, bitAt (d.fget Reg.hdr_EVENT 3) Ev.pwr_THERM_WARN)

/-- A change of either condition ends the release of SMB_ALERT_N that an Alert Response brought (R500). -/
def State.alertNote (s : State) : State :=
  { s with dev.fore.alertAnswered := match s.dev.fore.alertAnswered with
    | some c => if c = s.dev.alertConds then some c else none
    | none => none }

/-- What a command does, on a device that is not held in reset or stopped; while it is, nothing happens but what powers it up again
(R440, R493, R496). -/
def State.live (s : State) (f : State → State) : State := if s.dev.fore.off then s else (f s).alertNote

/-- Run a change of the device that touches nothing else. -/
def State.onDev (s : State) (f : Dev → Dev) : State := { s with dev := f s.dev }

/-- Run a change of the device and of its non-volatile memories. -/
def State.onDevNv (s : State) (f : Dev → NonVolatile → Dev × NonVolatile) : State :=
  { s with dev := (f s.dev s.nv).1, nv := (f s.dev s.nv).2 }

/-- The pseudo-channel that holds a record-space line (R328). -/
def linePc (l : Nat) : Nat :=
  let q := l / 4
  let k := q / 15
  let c := q % 15
  4 * (if c < k % 16 then c else c + 1) + l % 4

/-- The byte that an offset of the HBM tier reads as: the byte written there, or a value left open (R195; log entry 4); zero where
the line can no longer be rebuilt (R350). -/
def State.hbmByte (s : State) (a : Nat) : Nat :=
  if s.dev.mem.dead != 0 && bitAt s.dev.mem.dead (linePc (a / 64)) then 0
  else ((Memory.read s.hbm a).getD (Config.undefinedByte a s.dev.freeCtr)).toNat

/-- A 32-bit word of the HBM tier, little-endian. -/
def State.hbmWord (s : State) (a : Nat) : Nat :=
  s.hbmByte a + 256 * s.hbmByte (a + 1) + 65536 * s.hbmByte (a + 2) + 16777216 * s.hbmByte (a + 3)

/-- Consecutive words of the HBM tier. -/
def State.hbmWords (s : State) (a n : Nat) : List Nat := (List.range n).map fun k => s.hbmWord (a + 4 * k)

/-- Store words in the HBM tier. -/
def State.hbmStore (s : State) (a : Nat) (ws : List Nat) : State := { s with hbm := Memory.writeWords s.hbm a ws }

/-- Store bytes in the HBM tier. -/
def State.hbmStoreBytes (s : State) (a : Nat) (bs : List Byte) : State := { s with hbm := Memory.writeBytes s.hbm a bs }

end Sys2Proof.Machine
end

