-- ==== Sys2Proof/Machine/Operands.lean ====
section
/-!
DEFINITION. The forms in which commands and registers name things: input modes and the streams, looms and samples they give
(R71, R73), packed samples (R89), SLICE.ALLOC and trim bytes (R95), bytes within table words.
-/

namespace Sys2Proof.Machine

/-! ### Input modes (Table 03.1) -/

/-- Looms per stream L. -/
def loomsPer (mode : Nat) : Nat := if mode = 0 then 4 else if mode = 1 then 2 else 1

/-- Samples per tick N. -/
def samplesPer (mode : Nat) : Nat := 32 * loomsPer mode

/-- The inputs that are sampled, by number (0 for IN_A). -/
def sampledInputs (mode : Nat) : List Nat := if mode = 0 then [0] else if mode = 1 then [0, 2] else [0, 1, 2, 3]

/-- The first loom of an input's stream. -/
def firstLoom (_mode input : Nat) : Nat := input

/-- The input that a group samples. -/
def inputOf (mode g : Nat) : Nat := if mode = 0 then 0 else if mode = 1 then 2 * (g / 2) else g

/-- The groups that sample an input. -/
def groupsOf (mode input : Nat) : List Nat := (List.range 4).filter fun g => inputOf mode g == input

/-- The place, as 32g + p, of the sample with weft index j of an input's stream: rank h = j mod L, position p = j div L
(R73). -/
def sampleSlot (mode input j : Nat) : Nat := 32 * (firstLoom mode input + j % loomsPer mode) + j / loomsPer mode

/-- The DLL tap of logical position p of LOOM_g (Table 02.2, R44). -/
def tapOf (mode g p : Nat) : Nat :=
  4 * (p % 4) + (if mode = 0 then g else if mode = 1 then 2 * (g % 2) else 0)

/-- The input mode in force. -/
def Dev.mode (d : Dev) : Nat := d.fget Reg.loom_MODE

/-! ### Packed samples (R88, R89) -/

/-- The 24-bit value of a pair of 12-bit codes. -/
def packPair (s0 s1 : Int) : Nat := ofSigned 12 s0 + 4096 * ofSigned 12 s1

/-- The two codes of a 24-bit value. -/
def unpackPair (v : Nat) : Int × Int := (toSigned 12 v, toSigned 12 (v / 4096))

/-- The three bytes of a pair. -/
def pairBytes (v : Nat) : List Byte := [BitVec.ofNat 8 v, BitVec.ofNat 8 (v / 256), BitVec.ofNat 8 (v / 65536)]

/-- The packed bytes of an even number of samples. -/
def packSamples : List Int → List Byte
  | s0 :: s1 :: t => pairBytes (packPair s0 s1) ++ packSamples t
  | [s0] => pairBytes (packPair s0 0)
  | [] => []

/-! ### Bytes of table words -/

/-- Byte k of a word. -/
def byteOf (w k : Nat) : Nat := bitField w (8 * k) 8

/-- A word with byte k replaced. -/
def setByte (w k v : Nat) : Nat := w - byteOf w k * 2 ^ (8 * k) + v % 256 * 2 ^ (8 * k)

/-- The physical index that SLICE.ALLOC gives for position p of LOOM_g (Table 03.10). -/
def Dev.alloc (d : Dev) (g p : Nat) : Nat := byteOf (d.tactive 16 1 (8 * g + p / 4)) (p % 4) % 64

/-- Change SLICE.ALLOC at a position. -/
def Dev.setAlloc (d : Dev) (g p i : Nat) : Dev :=
  d.tset 16 1 (d.tctlOf 16 1).bank (8 * g + p / 4) (setByte (d.tactive 16 1 (8 * g + p / 4)) (p % 4) i)

/-- The word that selects the correction of a slice: OFFSET and GAIN of physical index i of LOOM_g (Table 03.11). -/
def Dev.corr (d : Dev) (g i : Nat) : Int × Nat :=
  (toSigned 16 (d.tactive (12 + g) 0 (2 * i)), d.tactive (12 + g) 0 (2 * i + 1) % 2 ^ 24)

/-- Tap m of the FIR of physical index i of LOOM_g in a mode (Table 03.11). -/
def Dev.firTap (d : Dev) (mode g i m : Nat) : Int :=
  toSigned 16 (d.tactive (12 + g) (1 + mode) (8 * i + m / 2) / 2 ^ (16 * (m % 2)))

/-- A page of a slice-group loom. -/
def loomPage (g : Nat) : Nat := 12 + g

/-! ### Square roots -/

/-- The integer square root: the bits of the root from bit k − 1 down. -/
def isqrtBits (n : Nat) : Nat → Nat → Nat
  | 0, r => r
  | k + 1, r => isqrtBits n k (if (r + 2 ^ k) * (r + 2 ^ k) ≤ n then r + 2 ^ k else r)

/-- The integer square root of a number below 2^128. -/
def isqrt (n : Nat) : Nat := isqrtBits n 64 0

/-- The square root of a / b: rounded down, or one more where it is no whole number and the free value says so (log entry 42). -/
def rootOf (a b free : Nat) : Nat :=
  let r := isqrt (a / b)
  r + if r * r * b = a then 0 else free % 2

end Sys2Proof.Machine
end

