-- ==== Sys2Proof/Machine/Flags.lean ====
section
/-!
DEFINITION. The flags and status bits that follow from other state: page READY, the clock of the slice-clock islands, the
armed state, event summaries, WAKE_N and SMB_ALERT_N (R2, R474, R480, R500, R501).
-/

namespace Sys2Proof.Machine

/-- Whether CLK_S is present and not out of range (R2). -/
def Dev.clksOk (d : Dev) : Bool := d.flag Reg.clk_CLKS_PRESENT && !d.flag Reg.clk_CLKS_RANGE_ERR

/-- Whether the slice-clock islands receive clock (R2, R43): CLK_S is present and not out of range, and a band search has begun since it
came. -/
def Dev.sliceClock (d : Dev) : Bool :=
  d.clksOk && (List.range 4).any fun g => (KMap.at d.clk.dlls {} g).phase != .noClock

/-- Whether a stream is armed (R72, R199). -/
def Dev.armed (d : Dev) : Bool := d.flag Reg.acq_ARMED

/-- Whether a page's READY is 1 (R474; DEDUCED, log entry 9): the four pages that R474 names always; pages of slice-clock
islands once those have run; pages whose initialisation is a start-up step of Table 01.7 once that step is complete. -/
def Dev.pageReady (d : Dev) (p : Nat) : Bool :=
  if p = 0 ∨ p = 1 ∨ p = 2 ∨ p = 7 then true
  else if 8 ≤ p ∧ p ≤ 16 then d.clk.seen && d.flag Reg.top_CAL_LOADED
  else if 18 ≤ p ∧ p ≤ 21 ∨ p = 24 then d.clk.seen
  else if p = 25 ∨ p = 29 ∨ 32 ≤ p ∧ p ≤ 63 then d.flag Reg.top_CAL_LOADED
  else decide (p < 71)

/-- Whether a page is pending: EVENT AND NOT EVENT_MASK is not 0 (R322). -/
def Dev.pagePending (d : Dev) (p : Nat) : Bool := andNot (d.fget Reg.hdr_EVENT p) (d.fget Reg.hdr_EVENT_MASK p) != 0

/-- Word w of a summary of one bit per page (R480). -/
def summaryWord (b : Nat → Bool) (w : Nat) : Nat :=
  ((List.range 32).map fun i => Bool.bit (b (32 * w + i)) * 2 ^ i).sum

/-- Whether WAKE_N is low: PME_Status, with the link in neither L0 nor L1 (R501); released in reset (R493). -/
def Dev.wakeLow (d : Dev) : Bool := d.pcie.pmeStatus && !d.flag Reg.pcie_DL_UP && !d.inReset

/-- Whether SMB_ALERT_N is low (R500): a condition holds, and no Alert Response was answered since the last change of either; released
in reset (R493). -/
def Dev.alertLow (d : Dev) : Bool :=
  ((d.alertConds).1 || (d.alertConds).2) && !d.inReset && d.fore.alertAnswered.isNone

/-- The combined state of the DLLs that DLL_LOCK_A emits, as sixteenths of full density (Table 02.4, R51). -/
def Dev.lockDensity (d : Dev) : Nat :=
  let ph := (List.range 4).map fun g => (KMap.at d.clk.dlls {} g).phase
  if !d.clksOk then 0
  else if ph.any fun p => p == .searching || p == .noClock then 4
  else if ph.any fun p => p == .hold then 10
  else 15

end Sys2Proof.Machine
end

