-- ==== Sys2Proof/Machine/QueueOps.lean ====
section
/-!
DEFINITION. Completions and STREAM records on their way to the host (R312, R313, R317 to R320).
-/

namespace Sys2Proof.Machine

/-- The eight words of a completion entry without its PHASE (Table 12.2). -/
def completionWords (c : Completion) (stamp : List Nat) : List Nat :=
  [c.tag % 65536 + 65536 * (c.status % 256), c.sq, c.sqHead, c.result % 2 ^ 32, c.result / 2 ^ 32 % 2 ^ 32,
    stamp.getD 0 0, stamp.getD 1 0, 0]

/-- Post a completion entry, if its queue has room; also whether it is done with: posted, or discarded because the queue is
no COMPLETE queue (R319, R325). -/
def Dev.postCompletion (d : Dev) (c : Completion) : Dev × Bool :=
  if (d.qctx c.cq).typ != 2 then (d, true)
  else if d.qroom c.cq 1 then (d.pushEntry c.cq (completionWords c d.nowStamp), true)
  else (d.egressFull 32, false)

/-- The completion of a finished command. -/
def Cmd.completion (c : Cmd) : Completion :=
  { cq := c.cq, tag := c.tag, status := (c.result.getD (0, 0)).1, sq := c.sq, sqHead := c.sqHead, result := (c.result.getD (0, 0)).2 }

/-- Post the completions of finished commands, oldest first; a command waits for earlier commands with its opcode (R312) and
for room (R319). Also the commands still outstanding. -/
def Dev.flushCmds (d : Dev) (blocked : List Nat) : List Cmd → Dev × List Cmd
  | [] => (d, [])
  | c :: cs =>
    if c.result.isSome && !blocked.contains c.opcode then
      let r := d.postCompletion (c.completion)
      if r.2 then r.1.flushCmds blocked cs
      else let t := r.1.flushCmds (c.opcode :: blocked) cs; (t.1, c :: t.2)
    else let t := d.flushCmds (c.opcode :: blocked) cs; (t.1, c :: t.2)

/-- Post every completion that can be posted and count the commands still outstanding in CMDS_OUT. -/
def Dev.postReady (d : Dev) : Dev :=
  let r := d.flushCmds [] d.qm.cmds
  ({ r.1 with qm := { r.1.qm with cmds := r.2 } }).fset Reg.qmgr_CMDS_OUT r.2.length

/-- Finish a command with a status and a result; its completion is posted when order and room allow (R312, R313). -/
def Dev.finishCmd (d : Dev) (id status result : Nat) : Dev :=
  ({ d with qm := { d.qm with cmds := d.qm.cmds.map fun (c : Cmd) =>
    if c.id = id && c.result.isNone then { c with result := some (status, result) } else c } }).postReady

/-- Finish every command of a list with one status and result. -/
def Dev.finishCmds (d : Dev) (status result : Nat) : List Nat → Dev
  | [] => d
  | id :: ids => (d.finishCmd id status result).finishCmds status result ids

/-- Post the ticket completions that wait, oldest first, as far as room allows. -/
def Dev.flushWaiting (d : Dev) : List Completion → Dev × List Completion
  | [] => (d, [])
  | c :: cs =>
    let r := d.postCompletion c
    if r.2 then r.1.flushWaiting cs else let t := r.1.flushWaiting cs; (t.1, c :: t.2)

/-! ### STREAM records (R317, R318) -/

/-- Entries that a record of a payload takes (R317). -/
def QCtx.recordEntries (c : QCtx) (payloadBytes : Nat) : Nat := (16 + payloadBytes + 2 ^ c.esize - 1) / 2 ^ c.esize

/-- The four words of a record header (Table 12.5). -/
def streamHeader (kind len seq source source2 : Nat) : List Nat := [kind % 256 + 256 * len, seq % 2 ^ 32, source, source2]

/-- Payload bytes of a record. -/
def StreamRec.bytes (r : StreamRec) : Nat := r.len.getD (4 * r.payload.length)

/-- Write one record and advance TAIL past it; then the TAIL write-back (R317, R320). -/
def Dev.writeRecord (d : Dev) (q : Nat) (r : StreamRec) : Dev :=
  let c := d.qctx q
  let n := c.recordEntries r.bytes
  let pad := (n * 2 ^ c.esize - 16 - 4 * r.payload.length) / 4
  let addr := c.base + c.tail % 2 ^ c.log2 * 2 ^ c.esize
  let tail := (c.tail + n) % 2 ^ 32
  let d1 := (d.emit (.hostWrite addr (streamHeader r.kind r.bytes c.seq r.source r.source2 ++ r.payload ++
    List.replicate pad 0))).qset q { c with tail := tail, seq := (c.seq + 1) % 2 ^ 32, unsignalled := c.unsignalled + n }
  (if c.wbAddr = 0 then d1 else d1.emit (.hostWrite c.wbAddr [tail, 0])).signalIfDue q

/-- Whether a record fits now, with the GAP record that must precede it after a loss (R318). -/
def Dev.recordFits (d : Dev) (q payloadBytes : Nat) : Bool :=
  let c := d.qctx q
  c.typ == 4 && c.state != 2 && d.qroom q (c.recordEntries payloadBytes + if c.lost = 0 then 0 else c.recordEntries 0)

/-- Write a record, preceded by a GAP record if records were lost (R318). -/
def Dev.deliverRecord (d : Dev) (q : Nat) (r : StreamRec) : Dev :=
  let c := d.qctx q
  if c.lost = 0 then d.writeRecord q r
  else ((d.qset q { c with lost := 0 }).writeRecord q { kind := 6, source := c.lost, source2 := 0, payload := [] }).writeRecord q r

/-- Lose a record that found its wait buffer full: DROPPED, the record number, STREAM_DROPS and STREAM_DROP (R318). -/
def Dev.dropRecord (d : Dev) (q : Nat) : Dev :=
  let c := d.qctx q
  let d1 := d.qset q { c with dropped := satAdd 32 c.dropped 1, seq := (c.seq + 1) % 2 ^ 32, lost := satAdd 32 c.lost 1 }
  let d2 := if d.holding then { d1 with pcie := { d1.pcie with lost := satAdd 32 d1.pcie.lost 1 } } else d1
  (d2.finc Reg.qmgr_STREAM_DROPS).raise 28 Ev.qmgr_STREAM_DROP

/-- Offer a record to a queue with a wait buffer of `limit` records for its source: write it, let it wait behind those that
already wait, or lose it (R318). -/
def Dev.streamOffer (d : Dev) (q : Nat) (r : StreamRec) (limit : Nat) : Dev :=
  let w := KMap.at d.qm.streams [] q
  if w.isEmpty && d.recordFits q r.bytes then d.deliverRecord q r
  else
    let d1 := d.egressFull (16 + r.bytes)
    if (w.filter fun x => x.kind == r.kind && x.source == r.source).length < limit then
      { d1 with qm := { d1.qm with streams := KMap.put d1.qm.streams q (w ++ [r]) } }
    else d1.dropRecord q

/-- Write the records that wait for a queue, oldest first, as far as they fit. -/
def Dev.flushStream (d : Dev) (q : Nat) : List StreamRec → Dev × List StreamRec
  | [] => (d, [])
  | r :: rs => if d.recordFits q r.bytes then (d.deliverRecord q r).flushStream q rs else (d, r :: rs)

/-- Serve a STREAM queue's waiting records. -/
def Dev.serveStream (d : Dev) (q : Nat) : Dev :=
  let r := d.flushStream q (KMap.at d.qm.streams [] q)
  { r.1 with qm := { r.1.qm with streams := KMap.put r.1.qm.streams q r.2 } }

end Sys2Proof.Machine
end

