-- ==== Sys2Proof/Machine/LoomOps.lean ====
section
/-!
DEFINITION. Operations shared by the clock, the Loom and the Assayer: slice roles and positions (R75 to R80), stream runs
(R511), foreground requests and their outcomes (R105 to R108), the ends of quiet checks (R90, R91), abandoned runs (R102).
-/

namespace Sys2Proof.Machine

/-! ### LFSRs (R507) -/

/-- One step of a 32-bit Fibonacci LFSR with taps at stages 32, 22, 2 and 1. -/
def lfsrStep (s : Nat) : Nat :=
  s * 2 % 2 ^ 32 + ((bitField s 31 1) ^^^ (bitField s 21 1) ^^^ (bitField s 1 1) ^^^ (bitField s 0 1))

/-- `n` steps. -/
def lfsrSteps : Nat → Nat → Nat
  | 0, s => s
  | n + 1, s => lfsrSteps n (lfsrStep s)

/-! ### DLLs and the frequency reference -/

/-- DLL_g. -/
def Dev.dll (d : Dev) (g : Nat) : Dll := KMap.at d.clk.dlls {} g

/-- Whether all four DLLs are locked. -/
def Dev.allLocked (d : Dev) : Bool := (List.range 4).all fun g => (d.dll g).phase == .locked

/-- Whether a frequency reference is present (R45, R55). -/
def Dev.freqRef (d : Dev) : Bool := d.fget Reg.clk_ISLREF_SRC != 3 && !d.flag Reg.clk_ISLREF_HOLDOVER

/-- The last 10 µs measurement of CLK_S, while a frequency reference is present. -/
def Dev.lastKhz (d : Dev) : Option Nat := if d.freqRef then d.clk.gates.head? else none

/-! ### Slices -/

/-- ROLE of the slice with physical index i of group g (R76). -/
def Dev.role (d : Dev) (g i : Nat) : Nat := d.fget Reg.slice_ROLE (34 * g + i)

/-- Set ROLE. -/
def Dev.setRole (d : Dev) (g i r : Nat) : Dev := d.fset Reg.slice_ROLE r (34 * g + i)

/-- The physical indices of a group with a role, lowest first. -/
def Dev.withRole (d : Dev) (g r : Nat) : List Nat := (List.range 34).filter fun i => d.role g i == r

/-- The position that the slice of physical index i serves. -/
def Dev.posOf (d : Dev) (g i : Nat) : Nat := d.fget Reg.slice_LOGICAL_POS (34 * g + i)

/-- A substitution that an injection makes at a position does not show in commits: they keep the slice it had (R424). -/
def Dev.keepAlloc (d : Dev) (g p : Nat) : Dev :=
  if d.fore.injecting && (KMap.find d.fore.injAlloc (32 * g + p)).isNone then
    { d with fore.injAlloc := KMap.put d.fore.injAlloc (32 * g + p) (d.alloc g p) } else d

/-- Let a slice serve a position: ALLOC, ROLE and LOGICAL_POS. -/
def Dev.serve (d : Dev) (g p i role : Nat) : Dev :=
  (((d.keepAlloc g p).setAlloc g p i).setRole g i role).fset Reg.slice_LOGICAL_POS p (34 * g + i)

/-- One spare fewer in SPARES_LEFT. -/
def Dev.spareUsed (d : Dev) (g : Nat) : Dev :=
  (d.fset Reg.loom_SPARES_LEFT (d.fget Reg.loom_SPARES_LEFT g - 1) g).planSoon

/-- No calibration spare is left in a group: borrowing stops (R80, R512). -/
def Dev.stopBorrow (d : Dev) (g : Nat) : Dev := (d.fbit Reg.loom_BORROW_STOPPED true g).contain (12 + g) 0 true

/-- A change of ALLOC asks for a commit at once (R113), but not a substitution that an injection made (R424). -/
def Dev.allocChanged (d : Dev) : Dev :=
  if d.fore.injecting then d else { d with assay := { d.assay with commitReq := true, commitAlloc := true } }

/-- The bring on its way in a group that satisfies a test. -/
def Dev.bringOf (d : Dev) (g : Nat) (t : Bring → Bool) : Option Bring := d.loom.brings.find? fun b => b.group == g && t b

/-- Drop a group's brings that satisfy a test. -/
def Dev.dropBrings (d : Dev) (g : Nat) (t : Bring → Bool) : Dev :=
  { d with loom := { d.loom with brings := d.loom.brings.filter fun b => !(b.group == g && t b) } }

/-- The next tick that the slices sample. -/
def Dev.sampTick (d : Dev) : Nat := d.loom.tick + Bool.bit d.loom.cur.isSome

/-- Bring a slice to a position: its samples are valid 16 ticks later (R77), 17 where the change follows in the tick after a
failing conversion (Table 03.2). -/
def Dev.bring (d : Dev) (g i p after : Nat) (k : BringKind) (failed : Nat := 0) : Dev :=
  { d with loom := { d.loom with brings := d.loom.brings ++
    [{ group := g, phys := i, pos := p, ready := d.sampTick + after, kind := k, failed := failed }] } }

/-- Mark a group's wefts with SWAP at the next boundary (R87). -/
def Dev.markSwap (d : Dev) (g : Nat) : Dev := { d with loom := { d.loom with swapped := d.loom.swapped ||| 2 ^ g } }

/-- STALE_ANY follows the STALE bits. -/
def Dev.staleAny (d : Dev) : Dev :=
  d.fbit Reg.assay_STALE_ANY ((List.range 64).any fun u => bitAt (d.tactive 17 3 (2 * u)) 31)

/-! ### Background runs -/

/-- Forget the run of a group. -/
def Dev.endRunOf (d : Dev) (g : Nat) : Dev :=
  ({ d with assay := { d.assay with runs := KMap.del d.assay.runs g } }).fbit Reg.assay_RUN_ACTIVE false g
    |>.fbit Reg.assay_WAIT_STEADY false g

/-- A word of SLICE_QUALITY of a slice (Table 04.10). -/
def Dev.quality (d : Dev) (s w : Nat) : Nat := d.tget 17 0 0 (4 * s + w)

/-- Set a word of SLICE_QUALITY. -/
def Dev.setQuality (d : Dev) (s w v : Nat) : Dev := d.tset 17 0 0 (4 * s + w) v

/-! ### Retirements (R78) -/

/-- A spare of a group with a role, that is not on its way to a position. -/
def Dev.freeSpare (d : Dev) (g role : Nat) : Option Nat :=
  (d.withRole g role).find? fun i => !(d.loom.brings.any fun b => b.group == g && b.phys == i && b.kind != BringKind.borrow)

/-- PENDING of RETIRE_STATUS follows the retirements in progress (R78). -/
def Dev.retirePending (d : Dev) : Dev :=
  d.fbit Reg.slice_PENDING (d.loom.brings.any (fun b => b.kind == BringKind.retire) || !d.loom.retireWait.isEmpty)

/-- A planned retirement of a group is in progress. -/
def Dev.retiring (d : Dev) (g : Nat) : Bool :=
  (d.bringOf g fun b => b.kind == BringKind.retire).isSome || (KMap.find d.loom.retireWait g).isSome

/-- A retirement is refused (R78). -/
def Dev.retireRefused (d : Dev) (g : Nat) : Dev :=
  ((d.fbit Reg.slice_REFUSED true).raise (12 + g) Ev.loom_RETIRE_REFUSED).retirePending

/-- End a run in place of a slice that is taken from its idle phase. -/
def Dev.endInPlace (d : Dev) (g i : Nat) : Dev :=
  match KMap.find d.assay.runs g with
  | some r => if r.pos.isNone && r.phys == i then d.endRunOf g else d
  | none => d

/-- Start a retirement: bring the standby to the retiring slice's position (R78). -/
def Dev.retireStart (d : Dev) (g i : Nat) : Dev :=
  match d.freeSpare g 3 with
  | none => d.retireRefused g
  | some st => ((d.endInPlace g st).bring g st (d.posOf g i) 16 .retire).retirePending

/-- A retirement that waited for a borrowed slice's return goes on (R78). -/
def Dev.retireResume (d : Dev) (g : Nat) : Dev :=
  match KMap.find d.loom.retireWait g with
  | none => d
  | some i =>
    let d1 := { d with loom.retireWait := KMap.del d.loom.retireWait g }
    if d1.role g i == 0 then d1.retireStart g i else d1.retirePending

/-! ### Foreground requests -/

/-- Whether training data can be gathered: with a frequency reference, or while all DLLs are locked (R56). -/
def Dev.gatherOk (d : Dev) : Bool := d.freqRef || d.allLocked

/-- The loom of a group is bypassed: the Assayer does not calibrate it (R85). -/
def Dev.bypassed (d : Dev) (g : Nat) : Bool := d.flag Reg.loom_CORR_BYPASS g || d.flag Reg.loom_FIR_BYPASS g

/-- Run a slice of a group in place in a foreground run: its temperature is T_LAST once it has completed (R97), its gathering begins (R56;
without a frequency reference it waits for the DLLs). -/
def Dev.fgSlice (d : Dev) (g i : Nat) : Dev :=
  ({ d with
    assay.fg := KMap.put d.assay.fg g i
    assay.fgTemp := KMap.put d.assay.fgTemp g (toSigned 16 (d.quality (34 * g + i) 1 / 65536))
    assay.fgKhz := KMap.put d.assay.fgKhz g (d.lastKhz.getD 0) }.fset Reg.assay_RUN_INDEX i g).fbit Reg.assay_WAIT_STEADY (!d.gatherOk) g

/-- The slices of a group that have neither been retired nor failed: the others are never calibrated (R97). -/
def Dev.runnable (d : Dev) (g : Nat) : List Nat := (List.range 34).filter fun i => d.role g i != 5 && d.role g i != 6

/-- Start the foreground run of a group: its slices in place, in physical index order (R105). PENDING clears (R107). -/
def Dev.fgBegin (d : Dev) (g : Nat) : Dev :=
  let d1 := { d with
    assay.bgOnly := KMap.del d.assay.bgOnly g
    assay.fgDue := andNot d.assay.fgDue (2 ^ g)
    assay.fgWait := andNot d.assay.fgWait (2 ^ g) }
  (((d1.fsetBit Reg.assay_PENDING g false).fsetBit Reg.assay_FG_BUSY g true).fbit Reg.assay_RUN_ACTIVE true g).fgSlice g
    ((d1.runnable g).headD 0)

/-- Start a group's foreground run now, or when the slice run in progress has returned its slice (R107). -/
def Dev.fgBeginOrWait (d : Dev) (g : Nat) : Dev :=
  if (KMap.find d.assay.runs g).isNone then d.fgBegin g
  else { d with
    assay.fgDue := d.assay.fgDue ||| 2 ^ g
    assay.fgWait := andNot d.assay.fgWait (2 ^ g)
    assay.bgOnly := KMap.del d.assay.bgOnly g }

/-- Defer a group's foreground run to a background-only cycle (R106). -/
def Dev.fgDefer (d : Dev) (g : Nat) (notQuiet : Bool) : Dev :=
  let d0 := { d with
    assay.fgWait := andNot d.assay.fgWait (2 ^ g)
    assay.fgDue := andNot d.assay.fgDue (2 ^ g)
    assay.bgOnly := KMap.put d.assay.bgOnly g (d.runnable g) }
  let d1 := (d0.fsetBit Reg.assay_PENDING g true).fsetBit Reg.assay_FG_BUSY g false
  if notQuiet then d1.raise 17 Ev.assay_INPUT_NOT_QUIET else d1

/-- Whether a group's foreground run may start as far as arms and bypass go: a bypassed loom's run is deferred (DESIGN CHOICE, log entry
40). -/
def Dev.fgMay (d : Dev) (g : Nat) : Bool := !d.armed && !d.bypassed g

/-- A group's slice run has ended, however it ended: a retirement that waited for it goes on (R78), and a foreground run that waited
for it starts at once, or is deferred where a stream has become armed meanwhile (R106, R107). -/
def Dev.runGone (d : Dev) (g : Nat) : Dev :=
  if (KMap.find d.assay.runs g).isSome then d
  else
    let d1 := d.retireResume g
    if bitAt d1.assay.fgDue g then (if d1.fgMay g then d1.fgBegin g else d1.fgDefer g false) else d1

/-- Give back the borrowed slice of a run that ends without its results: it is brought back to its position (R102), `after` ticks from
the next one; the calibration spare returns to idle at once where it had not yet stood in. -/
def Dev.giveBack (d : Dev) (g : Nat) (r : AssayRun) (after : Nat := 16) : Dev :=
  let gone := { r with phase := .returning, dc := none, fine := none, results := false }
  let back := { d with assay.runs := KMap.put d.assay.runs g gone }.fbit Reg.assay_WAIT_STEADY false g
  match r.pos, r.phase with
  | none, _ => (d.endRunOf g).runGone g
  | some _, .bringing => ((d.dropBrings g fun b => b.kind == .borrow).endRunOf g).runGone g
  | some _, .returning => back
  | some p, _ => back.bring g r.phys p after .giveBack

/-- Training data is discarded (R56, R102): the live phases, foreground measurements and tap measurements (R103) whose baseline
satisfies the test wait for STEADY. -/
def Dev.discardTraining (d : Dev) (t : Nat → Bool) : Dev :=
  let runs := d.assay.runs.filter fun p => p.2.phase == .live && t p.2.khz
  let fgs := d.assay.fg.filter fun p => !d.flag Reg.assay_WAIT_STEADY p.1 && t (KMap.at d.assay.fgKhz 0 p.1)
  let d0 := { d with clk.dlls := d.clk.dlls.map fun p => (p.1, { p.2 with tapBad := p.2.tapBad || t p.2.tapKhz }) }
  if runs.isEmpty && fgs.isEmpty then d0
  else
    let d1 := runs.foldl (fun (d : Dev) p =>
      ({ d with assay.runs := KMap.put d.assay.runs p.1 { p.2 with phase := .waitSteady, fine := none } }).fbit Reg.assay_WAIT_STEADY
        true p.1) d0
    (fgs.foldl (fun (d : Dev) p => d.fbit Reg.assay_WAIT_STEADY true p.1) d1).raise 17 Ev.assay_TRAIN_RESTART

/-- The first 10 µs measurement since gathering began is its baseline (R56). -/
def Dev.gatherBase (d : Dev) (khz : Nat) : Dev :=
  let first := fun (k : Nat) => if k = 0 then khz else k
  { d with
    assay.runs := d.assay.runs.map fun p => (p.1, { p.2 with khz := first p.2.khz })
    assay.fgKhz := d.assay.fgKhz.map fun p => (p.1, first p.2)
    clk.dlls := d.clk.dlls.map fun p => (p.1, { p.2 with tapKhz := first p.2.tapKhz }) }

/-- The quiet check of an input is asked for by the Assayer: one check serves every group of the input (R106). A check that
runs already serves it. -/
def Dev.assayQuiet (d : Dev) (x : Nat) : Dev :=
  let q := (KMap.find d.loom.quiet x).getD {}
  ({ d with loom := { d.loom with quiet := KMap.put d.loom.quiet x { q with assayer := true } } }.fbit Reg.fe_BUSY true x).fbit
    Reg.fe_VALID false x

/-- Request quiet checks for the inputs of a set of groups. -/
def Dev.assayQuietFor (d : Dev) (groups : Nat) : Dev :=
  (((List.range 4).filter fun g => bitAt groups g).map (inputOf d.mode)).foldl Dev.assayQuiet d

/-- What a quiet check of an input decides for each group that waited for it: those with a request, and those with PENDING
(R106, R107). -/
def Dev.fgQuietResult (d : Dev) (x : Nat) (quiet : Bool) : Dev :=
  (groupsOf d.mode x).foldl (fun d g =>
    if bitAt d.assay.fgWait g then
      (if quiet && d.fgMay g then d.fgBeginOrWait g else d.fgDefer g (!quiet))
    else if bitAt (d.fget Reg.assay_PENDING) g && quiet && d.fgMay g then d.fgBeginOrWait g
    else d) d

/-- A group's cycle is complete once every slice that is not retired or failed has run: CYCLE_DONE, with a commit if the cycle has
changed coefficients (Table 04.9, R113). -/
def Dev.cycleCheck (d : Dev) (g : Nat) : Dev :=
  if (d.runnable g).all fun k => bitAt (KMap.at d.assay.ran 0 g) k then
    { d with
      assay.ran := KMap.put d.assay.ran g 0
      assay.commitReq := d.assay.commitReq || bitAt d.assay.changed g
      assay.changed := andNot d.assay.changed (2 ^ g) }.raise 17 (Ev.assay_CYCLE_DONE + g)
  else d

/-- A slice of the group has run. -/
def Dev.cycleMark (d : Dev) (g i : Nat) : Dev :=
  { d with assay.ran := KMap.put d.assay.ran g (KMap.at d.assay.ran 0 g ||| 2 ^ i) }.cycleCheck g

/-- METHOD of a group after a run: manual while software owns the coefficients (R106, R108, R110). -/
def Dev.setMethod (d : Dev) (g m : Nat) : Dev :=
  d.fset Reg.assay_METHOD (if bitAt (d.fget Reg.assay_MANUAL) g then 3 else m) g

/-- Note that a group named by calibration commands or by start-up calibration has finished, by a foreground run or by a
background-only cycle, and complete what that completes (R108). -/
def Dev.calGroupDone (d : Dev) (g : Nat) (background : Bool) : Dev :=
  let cmds := d.assay.cmds.map fun (c : CalCmd) =>
    if bitAt c.groups g then { c with
      doneGroups := c.doneGroups ||| 2 ^ g
      background := if background then c.background ||| 2 ^ g else c.background } else c
  let finished := cmds.filter fun c => c.groups &&& c.doneGroups == c.groups
  let d1 := { d with assay := { d.assay with cmds := cmds.filter fun c => c.groups &&& c.doneGroups != c.groups } }
  let d2 := finished.foldl (fun d c => d.finishCmd c.cmd (if c.background = 0 then 0 else 5) c.background) d1
  match d2.assay.startup with
  | none => d2
  | some m =>
    let left := andNot m (2 ^ g)
    let bg := d2.assay.startupBg || background
    if left = 0 then
      let d3 := { d2 with assay := { d2.assay with startup := none, startupBg := bg } }
      ((if bg then d3.fbit Reg.top_CAL_BACKGROUND_ONLY true else d3).startSet Reg.top_CAL_DONE)
    else { d2 with assay := { d2.assay with startup := some left, startupBg := bg } }

/-- A background-only cycle goes on with the slices left of it: it ends with its last slice (R106). -/
def Dev.bgOnlyCheck (d : Dev) (g : Nat) (done : Option Nat) : Dev :=
  match KMap.find d.assay.bgOnly g with
  | none => d
  | some l =>
    let rest := l.filter fun k => some k != done && d.role g k != 5 && d.role g k != 6
    if rest.isEmpty then
      (({ d with assay.bgOnly := KMap.del d.assay.bgOnly g }).setMethod g 2).calGroupDone g true
    else { d with assay.bgOnly := KMap.put d.assay.bgOnly g rest }

/-- A slice has failed or been retired: the cycles of its group do not wait for it any more (R97). -/
def Dev.sliceGone (d : Dev) (g : Nat) : Dev :=
  let ran := (List.range 34).any fun k => bitAt (KMap.at d.assay.ran 0 g) k
  (if ran then d.cycleCheck g else d).bgOnlyCheck g none

/-- Start-up calibration: a foreground request for all four groups (R105), once firmware runs, the DLLs are locked and the
coefficients are loaded (Table 01.7; R34: not again once CAL_DONE). A group whose foreground request is in progress already takes part
with that one (DESIGN CHOICE, log entry 40). -/
def Dev.startupCal (d : Dev) : Dev :=
  if d.flag Reg.top_CAL_DONE || d.assay.startup.isSome || !d.flag Reg.top_FW_VALID || !d.flag Reg.top_DLL_LOCK ||
      !d.flag Reg.top_CAL_LOADED || d.loom.run.isNone then d
  else
    let groups := andNot 15 (d.fget Reg.assay_FG_BUSY)
    (({ d with assay := { d.assay with startup := some 15, startupBg := false, startupWait := false, fgWait := d.assay.fgWait ||| groups } }
      ).fset Reg.assay_FG_BUSY 15).assayQuietFor groups

/-! ### Quiet checks -/

/-- The LSB of an input for the weft: 800 mV × (1 + FS_TRIM / 1,000) / 4,096 (R70), as 1,000 + FS_TRIM with FS_TRIM held
within ±100. -/
def Dev.fsWeight (d : Dev) (x : Nat) : Int := 1000 + clampInt (-100) 100 (d.fgetS Reg.fe_FS_TRIM x)

/-- End a quiet check without a result (R72, R91): VALID 0 and QUIET_DONE; for the Assayer that counts as not quiet (R106).
Under a mode change the Assayer's check is only abandoned. -/
def Dev.quietAbort (d : Dev) (x : Nat) (counts : Bool) : Dev :=
  match KMap.find d.loom.quiet x with
  | none => d
  | some q =>
    let d1 := (({ d with loom := { d.loom with quiet := KMap.del d.loom.quiet x } }).fbit Reg.fe_BUSY false x).fbit Reg.fe_VALID false x
    let d2 := if counts then d1.raise (8 + x) Ev.fe_QUIET_DONE else d1
    if counts && q.assayer then d2.fgQuietResult x false else d2

/-! ### Stream runs (R511) -/

/-- One slice-clock cycle of the timebase: INC, at most 1 ps per µs of correction, and the time of a coast (R58, R61 to R63). -/
def TbaseState.tick (t : TbaseState) (coasting : Bool) : TbaseState :=
  let s := clampInt (-4294) 4294 t.slew
  { t with
    acc := (((t.acc + t.inc : Nat) + s) % (2 ^ 96 : Nat)).toNat
    coast := if coasting then t.coast + t.inc else t.coast
    slew := t.slew - s
    openEntry := none }

/-- One slice-clock cycle of a DLL's dither (R49). -/
def Dll.tick (x : Dll) : Dll := if x.dither then { x with lfsr := lfsrStep x.lfsr } else x

/-- The weft boundary applies the new tap trims of the DLLs (R103). -/
def Dev.trimsApply (d : Dev) : Dev :=
  d.clk.dlls.foldl (fun (d : Dev) p =>
    match p.2.trims with
    | some ws => { d with clk.dlls := KMap.put d.clk.dlls p.1 { p.2 with trims := none } }.tsetWords 17 1 0 (4 * p.1) ws
    | none => d) d

/-- One tick passes: it is counted, the timebase advances (R58), the dither registers step (R49), tap trims are applied. -/
def Dev.tickPasses (d0 : Dev) : Dev :=
  let d := d0.trimsApply
  { d with
    loom := { d.loom with tick := d.loom.tick + 1 }
    tb := d.tb.tick (d.flag Reg.tbase_COASTING)
    clk := { d.clk with dlls := d.clk.dlls.map fun p => (p.1, p.2.tick) } }

/-- A stream run begins: no weft is emitted for its first 64 ticks, and the looms emit none until then (R93, R511). -/
def Dev.beginRun (d : Dev) : Dev :=
  { d.fbit Reg.loom_MODE_READY false with
    loom := { d.loom with run := some 0, prev := none, cur := none, lastGood := [], swapped := 0 } }

/-- A stream run ends: the tick whose FIR support never arrives emits no weft, but it has passed (R511). -/
def Dev.endStream (d : Dev) : Dev :=
  let d1 := if d.loom.cur.isSome then d.tickPasses else d
  { d1 with loom := { d1.loom with run := none, prev := none, cur := none } }

/-- The slice-clock islands stop (R2): the run ends, the looms emit nothing (R93), and every quiet check ends (R91). -/
def Dev.clockStops (d : Dev) : Dev :=
  [0, 1, 2, 3].foldl (fun d x => d.quietAbort x true) (d.endStream.fbit Reg.loom_MODE_READY false)

end Sys2Proof.Machine
end

