-- ==== Sys2Proof/Machine/Access.lean ====
section
/-!
DEFINITION. Register writes, field by field: which fields stand at an offset, the limits at which values are held, expert
fields, locked fields (R11 to R16, R477, R509).
-/

namespace Sys2Proof.Machine

/-- The fields of a page's own registers (Table 21.2). -/
def pageOwnFields (p : Nat) : List Field :=
  if p = 0 then Reg.ofTOP.filter (fun f => f.width != 32 || f.base != 0x40)
  else if p = 1 then Reg.ofLIFE
  else if p = 3 then Reg.ofPWR
  else if p = 4 then Reg.ofAGE
  else if p = 5 then Reg.ofCLK
  else if p = 6 then Reg.ofTBASE
  else if p = 7 then Reg.ofINJ
  else if 8 ≤ p ∧ p < 12 then Reg.ofFE
  else if 12 ≤ p ∧ p < 16 then Reg.ofLOOM
  else if p = 16 then Reg.ofSLICE
  else if p = 17 then Reg.ofASSAY
  else if p = 18 then Reg.ofTRIG
  else if p = 19 then Reg.ofTSEQ
  else if p = 20 then Reg.ofVERN
  else if p = 21 then Reg.ofTIC
  else if p = 22 then Reg.ofACQ
  else if p = 23 then Reg.ofLEDG
  else if p = 24 then Reg.ofDECI
  else if p = 25 then Reg.ofACCU
  else if p = 26 then Reg.ofAUX
  else if p = 27 then Reg.ofAUXF
  else if p = 28 then Reg.ofQMGR
  else if p = 29 then Reg.ofBENCHG
  else if p = 30 then Reg.ofEVT
  else if 32 ≤ p ∧ p < 64 then Reg.ofBENCH
  else if p = 64 ∨ p = 65 then Reg.ofMEMC
  else if p = 66 then Reg.ofMEMS
  else if p = 67 then Reg.ofMEMT
  else if p = 68 then Reg.ofPCIE
  else if p = 69 then Reg.ofCAS
  else if p = 70 then Reg.ofTALLY
  else if 72 ≤ p ∧ p < 78 then Reg.ofTALLYW
  else []

/-- Whether a page has the common header: the pages of Table 21.2 other than the counter group windows. -/
def hasHeader (p : Nat) : Bool := decide (p ≤ 70)

/-- The fields that stand in the register at a BAR0 offset, with the instance each has there. -/
def regFields (off : Nat) : List (Field × Nat) :=
  let p := off / 4096
  let fs := if off % 4096 < 64 && hasHeader p then Reg.ofHDR else pageOwnFields p
  fs.filterMap fun f => match f.instAt off with
    | some i => some (f, i)
    | none => none

/-- The bits of a field in a word. -/
def Field.bitsOf (f : Field) (val : Nat) : Nat := bitField val f.lsb f.width

/-- The value a field takes on a write: values beyond its limits are held at the nearer one (the registers' Meaning columns;
R70, R90, R97). -/
def Field.held (f : Field) (v : Nat) : Nat :=
  if f = Reg.tbase_LOOP_BW then clampNat 1 1000 v
  else if f = Reg.fe_FS_TRIM then ofSigned 8 (clampInt (-100) 100 (toSigned 8 v))
  else if f = Reg.fe_MEAN_LIMIT then min 5000 v
  else if f = Reg.fe_RMS_LIMIT then min 2000 v
  else if f = Reg.assay_DELTA_T then clampNat 25 1000 v
  else if f = Reg.assay_QUIET_RETRY then clampNat 10 60000 v
  else if f = Reg.assay_SPUR_REF_FREQ then clampNat 100 65000 v
  else if f = Reg.trig_AUTO_WIN then clampNat 10 30 v
  else if f = Reg.trig_cmp_HYST then min 250 v
  else if f = Reg.tseq_QUAL_TIME then clampNat 16 20480 v
  else if f = Reg.tseq_MIN_HOLDOFF then (if v = 0 then 0 else max 128 v)
  else if f = Reg.tic_ch_GATE then clampNat 1 10000000 v
  else if f = Reg.acq_ring_SIZE then (if v = 0 then 0 else max 1024 v)
  else if f = Reg.ledg_RES_LOG2 then clampNat 16 24 v
  else if f = Reg.memc_HAMMER_THRESH then clampNat 256 2048 v
  else if f = Reg.memc_ACT_LIMIT then clampNat 4 255 v
  else if f = Reg.cas_HORIZON_NS then clampNat 500 16000 v
  else if f = Reg.pwr_THROTTLE_TJ then clampNat 100 135 v
  else if f = Reg.benchg_SLOT_UNITS ∨ f = Reg.benchg_XSTEAL_MIN ∨ f = Reg.mems_REBUILD_RATE ∨ f = Reg.pcie_SPEED_CAP ∨ f = Reg.aux_BATCH ∨
      f = Reg.aux_FLUSH_US ∨ f = Reg.inj_ARM_WINDOW ∨ f = Reg.acq_PIN_MARK ∨ f = Reg.tic_ch_THRESH ∨ f = Reg.trig_WIDTH0 ∨ f = Reg.trig_WIDTH1 then
    max 1 v
  else if f = Reg.grp_MASTER_KIND then (if v = 3 then 0 else v)
  else if f = Reg.age_PLAN_PERIOD then clampNat 1 168 v
  else if f = Reg.age_RETIRE_HORIZON then clampNat 7 365 v
  else v

/-- What a write to the RW fields of a register came to. -/
structure Wrote where
  dev : Dev
  /-- A field was discarded: an E field without permission, or a locked field (R16, R509). -/
  discarded : Bool := false
  /-- A field was written (R475). -/
  accepted : Bool := false

/-- The bases of areas of the HBM tier, in units of 64 KiB. -/
def hbmBase (f : Field) : Bool :=
  f == Reg.acq_ring_BASE || f == Reg.ledg_BASE || f == Reg.accu_part_DUMP_BASE || f == Reg.accu_part_EXT_BASE || f == Reg.accu_part_RES_BASE ||
    f == Reg.benchg_RECIPE_BASE || f == Reg.benchg_SCRATCH_BASE || f == Reg.aux_BUF_BASE

/-- Whether a value would place an area of the HBM tier at 45 GiB or above (R194). -/
def Field.outside (f : Field) (v : Nat) : Bool := hbmBase f && decide (hbmSize ≤ v * 65536)

/-- Write one RW field under R477, R194 and R509, or clear bits of a W1C field (R11), which does not count in CFG_EPOCH (R475). -/
def writeField (p val : Nat) (lock : Field → Bool) (w : Wrote) (f : Field) (i : Nat) : Wrote :=
  let v := f.held (f.bitsOf val)
  if f.acc == .rw || f.acc == .rws then
    if (f.level == .e && !w.dev.expertOpen p) || lock f || f.outside v then
      { w with discarded := w.discarded || f.bitsOf val != w.dev.fget f i }
    else { w with dev := w.dev.fset f v i, accepted := true }
  else if f.acc == .w1c then { w with dev := w.dev.fset f (andNot (w.dev.fget f i) (f.bitsOf val)) i }
  else w

/-- Write the RW fields of the register at an offset, but for those a meaning of their own takes; a discarded field is
recorded with CODE 0xF0 (R477, R514). -/
def Dev.writeFields (d : Dev) (who : Requester) (off val : Nat) (skip lock : Field → Bool) : Dev × Bool :=
  let p := off / 4096
  let w := (regFields off).foldl (fun w fi => if skip fi.1 then w else writeField p val lock w fi.1 fi.2) { dev := d }
  (if w.discarded then w.dev.logDiscard who p off val else w.dev, w.accepted)

/-- Whether a write to the register at an offset writes one of its RW fields in the sense of R509: with a value other than the current. -/
def Dev.changesReg (d : Dev) (off val : Nat) : Bool :=
  (regFields off).any fun fi => (fi.1.acc == .rw || fi.1.acc == .rws) && fi.1.bitsOf val != d.fget fi.1 fi.2

/-- The locator of the first RW field that a write to a register would change (R514). -/
def Dev.changedField (d : Dev) (off val : Nat) : Nat :=
  match (regFields off).find? fun fi => (fi.1.acc == .rw || fi.1.acc == .rws) && fi.1.bitsOf val != d.fget fi.1 fi.2 with
  | some fi => fieldLocator fi.1 fi.2
  | none => off % 4096

/-- Write the RW fields of a register whose page is not frozen, and count in CFG_EPOCH (R473, R475). -/
def Dev.writePlain (d : Dev) (who : Requester) (off val : Nat) (lock : Field → Bool) (act : Dev → Dev) : Dev :=
  if d.flag Reg.hdr_FREEZE (off / 4096) then d.logDiscard who (off / 4096) off val
  else
    let r := d.writeFields who off val (fun _ => false) lock
    if r.2 then (act r.1).cfgEpoch (off / 4096) else act r.1

end Sys2Proof.Machine
end

