-- ==== Sys2Proof/Machine/Slices.lean ====
section
/-!
DEFINITION. Substitutions of slices: planned retirements, failures and their covers, borrows and returns at their boundaries
(R76 to R82, R512, R513).
-/

namespace Sys2Proof.Machine

/-- The slice that converts for position p of group g: the calibration spare while it stands in there, else the slice of
SLICE.ALLOC (R75, R76; log entry 11). -/
def Dev.servingPhys (d : Dev) (g p : Nat) : Nat :=
  if d.flag Reg.loom_CAL_SPARE_BUSY g && d.fget Reg.loom_CAL_SPARE_POS g == p then (d.withRole g 2).headD (d.alloc g p)
  else d.alloc g p

/-- Whether the samples of a position are patched: its slice has failed, or a cover has not settled (R79, R80, R82). -/
def Dev.patched (d : Dev) (g p : Nat) : Bool :=
  d.role g (d.servingPhys g p) == 6 || d.loom.brings.any fun b => b.group == g && b.pos == p && b.kind == BringKind.cover

/-- A request to retire slice s (R78): a value above 135 is refused (Table 03.9); no group is named then, so no RETIRE_REFUSED is raised
(DESIGN CHOICE, log entry 41). A request in a group whose retirement is in progress is refused too (DESIGN CHOICE, log entry 41). -/
def Dev.retireRequest (s : Nat) (d : Dev) : Dev :=
  let d1 := (d.fset Reg.slice_INDEX s).fbit Reg.slice_REFUSED false
  if 136 ≤ s then d1.fbit Reg.slice_REFUSED true
  else
    let g := s / 34
    let i := s % 34
    if d1.role g i != 0 || (d1.freeSpare g 3).isNone || d1.retiring g then d1.retireRefused g
    else match KMap.find d1.assay.runs g with
      | some r =>
        if r.pos.isSome then ({ d1 with loom.retireWait := KMap.put d1.loom.retireWait g i }).retirePending
        else (d1.retireStart g i).runGone g
      | none => d1.retireStart g i

/-- The error record of a slice failure (R80, R514): slice number and position, first patched tick. -/
def sliceRecord (s : Nat) (pos : Option Nat) : Nat :=
  match pos with
  | some p => s + 256 * p
  | none => s + 2 ^ 13

/-- A slice is marked failed (R79, R512). -/
def Dev.markFailed (d : Dev) (g i : Nat) (pos : Option Nat) : Dev :=
  ((d.setRole g i 6).raise (12 + g) Ev.loom_SLICE_FAIL).logErr (12 + g) Ev.loom_SLICE_FAIL (sliceRecord (34 * g + i) pos)
    (match pos with
    | some _ => d.sampTick % 2 ^ 32
    | none => 0)

/-- The standby that may cover a position: not one that a planned retirement is to use (R513). -/
def Dev.freeStandby (d : Dev) (g : Nat) : Option Nat := if d.retiring g then none else d.freeSpare g 3

/-- Cover a failed position with the first spare available (R80): the standby, the idle calibration spare, the calibration
spare that stands in elsewhere once its borrowed slice is back; with none it stays patched (R82). -/
def Dev.cover (d : Dev) (g p failed : Nat) : Dev :=
  match d.freeStandby g with
  | some st => (((d.endInPlace g st).bring g st p 17 .cover failed).spareUsed g).runGone g
  | none =>
    match d.freeSpare g 1 with
    | some cs =>
      let d1 := ((d.bring g cs p 17 .cover failed).spareUsed g).stopBorrow g
      match KMap.find d.assay.runs g with
      | some r => if r.phase == .bringing || (r.pos.isNone && r.phys == cs) then d1.giveBack g r else d1
      | none => d1
    | none =>
      if !(d.withRole g 2).isEmpty && (KMap.find d.loom.coverWait g).isNone then
        let d1 := match KMap.find d.assay.runs g with
          | some r => d.giveBack g r 17
          | none => d
        ((({ d1 with loom.coverWait := KMap.put d1.loom.coverWait g (p, failed) }).spareUsed g).stopBorrow g)
      else
        let m := KMap.at d.loom.perm 0 g ||| 2 ^ p
        ((((({ d with loom.perm := KMap.put d.loom.perm g m }).fbit Reg.loom_PATCH_ACTIVE true g).fset Reg.loom_PATCH_POS
          (Nat.log2 (m &&& (2 ^ 32 - m))) g).raise (12 + g) Ev.loom_SPARE_EXHAUSTED).contain (12 + g) 1 true)

/-- An active slice fails at its position (R79, R80); the retiring slice of a planned retirement is covered by the standby
already on its way (R513). -/
def Dev.failActive (d : Dev) (g i p : Nat) : Dev :=
  let d0 := d.markFailed g i (some p)
  let d1 := { d0 with loom.retireWait := if KMap.find d0.loom.retireWait g = some i then KMap.del d0.loom.retireWait g else d0.loom.retireWait }
  match d1.bringOf g fun b => b.kind == BringKind.retire && b.pos == p with
  | some b =>
    ({ d1 with loom.brings := d1.loom.brings.map fun (x : Bring) =>
        if x = b then { x with kind := .cover, failed := i } else x }.spareUsed g).retirePending
  | none => (d1.cover g p i).retirePending

/-- The standby takes the calibration-spare role (R80), at the idle phase of the failed calibration spare where one is given (R512). -/
def Dev.standbyBecomesSpare (d : Dev) (g : Nat) (at_ : Option Nat) : Dev :=
  match d.freeSpare g 3 with
  | some st =>
    let d1 := match at_ with
      | some i => d.fset Reg.slice_LOGICAL_POS (d.posOf g i) (34 * g + st)
      | none => d
    (d1.setRole g st 1).degrade (12 + g) 1 true
  | none => d.stopBorrow g

/-- A position that waited for the calibration spare is covered by what is left of the group's spares, now that the calibration spare is
lost (R80, R82). -/
def Dev.coverAgain (d : Dev) (g : Nat) : Dev :=
  match KMap.find d.loom.coverWait g with
  | some (q, f) => { d with loom.coverWait := KMap.del d.loom.coverWait g }.cover g q f
  | none => d

/-- The calibration spare is consumed: counted when a position began to wait for it, or now. -/
def Dev.calSpareUsed (d : Dev) (g : Nat) : Dev := if (KMap.find d.loom.coverWait g).isSome then d else d.spareUsed g

/-- The standing-in calibration spare fails (R80): the run is abandoned, the borrowed slice comes back to its position, which
is patched until then, and the standby takes the calibration-spare role. -/
def Dev.failStandingIn (d : Dev) (g i p : Nat) : Dev :=
  let d1 := ((d.markFailed g i (some p)).calSpareUsed g).fbit Reg.loom_CAL_SPARE_BUSY false g
  let d2 := match KMap.find d1.assay.runs g with
    | some r =>
      let e := (d1.dropBrings g fun b => b.kind == BringKind.giveBack).endRunOf g
      e.bring g r.phys p 16 .cover i
    | none => d1
  (((d2.standbyBecomesSpare g none).coverAgain g).runGone g).sliceGone g

/-- A borrowed slice fails (R80): no sample is affected; the standing-in spare keeps the position and the standby takes the
calibration-spare role. -/
def Dev.failBorrowed (d : Dev) (g i p : Nat) : Dev :=
  let d1 := (((d.markFailed g i none).dropBrings g fun b => b.kind == BringKind.giveBack).endRunOf g).calSpareUsed g
  let d2 := match (d1.withRole g 2).head? with
    | some cs => ((d1.serve g p cs 0).fbit Reg.loom_CAL_SPARE_BUSY false g).allocChanged
    | none => d1
  (((d2.standbyBecomesSpare g none).coverAgain g).runGone g).sliceGone g

/-- A spare that serves no position fails (R512): also one on its way to a position, which then needs another. A spare that was taken for
a failed position was counted then. -/
def Dev.failIdle (d : Dev) (g i : Nat) : Dev :=
  let standby := d.role g i == 3
  let way := d.bringOf g fun b => b.phys == i
  let covers := way.any fun b => b.kind == BringKind.cover
  let d1 := (if covers then d.markFailed g i none else (d.markFailed g i none).spareUsed g).dropBrings g fun b => b.phys == i
  let d2 := if way.any fun b => b.kind == BringKind.borrow then d1.endRunOf g else d1.endInPlace g i
  let d3 := if standby then d2.degrade (12 + g) 1 true else d2.standbyBecomesSpare g (if covers then none else some i)
  let d4 := match way with
    | none => d3
    | some b => if b.kind == BringKind.retire then d3.retireRefused g else if covers then d3.cover g b.pos b.failed else d3
  (d4.runGone g).sliceGone g

/-- A slice returns VALID 0 (R79); what follows depends on its role (R80, R512, R513). A retired or failed slice converts
nothing. -/
def sliceFail (s : Nat) (d : Dev) : Dev :=
  let g := s / 34
  let i := s % 34
  match d.role g i with
  | 0 => (d.failActive g i (d.posOf g i)).sliceGone g
  | 1 => d.failIdle g i
  | 2 => d.failStandingIn g i (d.posOf g i)
  | 3 => d.failIdle g i
  | 4 => d.failBorrowed g i (d.posOf g i)
  | _ => d

/-- An idle calibration spare or a standby returns VALID 0 (R512). -/
def idleSpareFail (s : Nat) (d : Dev) : Dev :=
  if d.role (s / 34) (s % 34) == 1 || d.role (s / 34) (s % 34) == 3 then d.failIdle (s / 34) (s % 34) else d

/-- The standby has replaced a failed slice (R80): SUBSTITUTED, and the group has lost its standby (Table 17.6). -/
def Dev.substituted (d : Dev) (g : Nat) : Dev := (d.raise (12 + g) Ev.loom_SUBSTITUTED).degrade (12 + g) 1 true

/-- A cover has settled (R80): the spare serves the position from the next sampled tick, and the last patched tick is
recorded (R514). -/
def spareSettled (g p : Nat) (d : Dev) : Dev :=
  match d.bringOf g fun b => b.kind == BringKind.cover && b.pos == p && decide (b.ready ≤ d.sampTick) with
  | none => d
  | some b =>
    d.recovered (12 + g) (34 * g + b.failed) fun d =>
      (((((if d.role g b.phys == 3 then d.substituted g else d).dropBrings g fun x => x == b).serve g p b.phys 0).allocChanged).logErr (12 + g) 0xF1
        (sliceRecord (34 * g + b.failed) (some p)) ((d.sampTick - 1) % 2 ^ 32)).countRecovery (12 + g)

/-- A borrow takes effect: the spare stands in and the slice is borrowed; the candidate for T_LAST is its temperature now (R99, Table
04.1). -/
def Dev.borrowed (d : Dev) (g : Nat) (b : Bring) : Dev :=
  match KMap.find d.assay.runs g with
  | none => d
  | some r =>
    ((((((({ d with assay.runs := KMap.put d.assay.runs g { r with
      phase := .dc, temp := toSigned 16 (d.quality (34 * g + r.phys) 1 / 65536) } }).setRole g b.phys 2).fset
      Reg.slice_LOGICAL_POS b.pos (34 * g + b.phys)).setRole g r.phys 4).fbit Reg.loom_CAL_SPARE_BUSY true g).fset
      Reg.loom_CAL_SPARE_POS b.pos g).markSwap g)

/-- A borrowed slice is back at its position and the spare idle (R99, R102); a position that waited for the spare is covered
by it next, and a retirement that waited goes on. -/
def Dev.returned (d : Dev) (g i : Nat) : Dev :=
  let cs := (d.withRole g 2).head?
  let d1 := ((d.setRole g i 0).fbit Reg.loom_CAL_SPARE_BUSY false g).markSwap g
  let d2 := match cs with
    | some c => d1.setRole g c 1
    | none => d1
  let d3 := d2.endRunOf g
  match KMap.find d3.loom.coverWait g, cs with
  | some (q, f), some c => (({ d3 with loom.coverWait := KMap.del d3.loom.coverWait g }).bring g c q 16 .cover f).runGone g
  | _, _ => d3.runGone g

/-- A retirement takes effect (R78): RETIRE_DONE, and the group has lost its standby (Table 17.6). -/
def Dev.retired (d : Dev) (g : Nat) (b : Bring) : Dev :=
  let old := d.alloc g b.pos
  (((((((d.setRole g old 5).serve g b.pos b.phys 0).spareUsed g).markSwap g).allocChanged).degrade (12 + g) 1 true).raise (12 + g)
    Ev.loom_RETIRE_DONE).retirePending.sliceGone g

/-- A planned substitution takes effect at the boundary of the next sampled tick, at least 16 ticks after the incoming slice
was brought (R77). The return of a slice whose run has results waits for ASSAY_RUN_RETURN. -/
def Dev.substitute (d : Dev) (g : Nat) (b : Bring) : Dev :=
  match b.kind with
  | .borrow => (d.dropBrings g fun x => x == b).borrowed g b
  | .giveBack =>
    (match KMap.find d.assay.runs g with
    | some r => if r.results then d else (d.dropBrings g fun x => x == b).returned g b.phys
    | none => (d.dropBrings g fun x => x == b).returned g b.phys)
  | .retire => (d.dropBrings g fun x => x == b).retired g b
  | .cover => d

/-- The substitution boundary of group g. -/
def substitutionBoundary (g : Nat) (d : Dev) : Dev :=
  (d.loom.brings.filter fun b => b.group == g && decide (b.ready ≤ d.sampTick)).foldl (fun d b => d.substitute g b) d

/-! ### Commands -/

/-- RETIRE (R78): an expert field. -/
def execRetire (who : Requester) (slice : BitVec 8) (s : State) : Host.Outcome State Fault Refusal :=
  .next (s.live fun s => s.onDev fun d => d.writeGate who 16 0x400 slice.toNat true (Dev.retireRequest slice.toNat))

/-- SUBSTITUTION_BOUNDARY (R77). -/
def execSubstitutionBoundary (g : Fin 4) (s : State) : Host.Outcome State Fault Refusal :=
  .next (s.live fun s => s.onDev (substitutionBoundary g))

/-- SLICE_FAIL (R79). -/
def execSliceFail (slice : Fin 136) (s : State) : Host.Outcome State Fault Refusal := .next (s.live fun s => s.onDev (sliceFail slice))

/-- SPARE_SETTLED (R80). -/
def execSpareSettled (g : Fin 4) (pos : Fin 32) (s : State) : Host.Outcome State Fault Refusal :=
  .next (s.live fun s => s.onDev (spareSettled g pos))

/-- IDLE_SPARE_FAIL (R512). -/
def execIdleSpareFail (slice : Fin 136) (s : State) : Host.Outcome State Fault Refusal := .next (s.live fun s => s.onDev (idleSpareFail slice))

end Sys2Proof.Machine
end

