-- ==== Sys2Proof/Machine/Loom.lean ====
section
/-!
DEFINITION. The Loom: the correction chain, patches and wefts (R73, R81, R83 to R87, R511), input modes (R71, R72), path delay
(R74), quiet checks (R90, R91).
-/

namespace Sys2Proof.Machine

/-! ### The correction chain -/

/-- Offset and gain (R83): b in 1/16 LSB of raw code x. -/
def offsetGain (x offset : Int) (gain : Nat) : Int :=
  clampInt (-131072) 131071 (((2 * ((x * 16 - offset) * gain) + 4194304 : Int)).fdiv 8388608)

/-- The 16 FIR taps of physical index i in the mode in force; none for the identity (R83, R85). -/
def Dev.firOf (d : Dev) (g i : Nat) : Option (List Int) :=
  if d.flag Reg.loom_CORR_BYPASS g || d.flag Reg.loom_FIR_BYPASS g then none
  else some ((List.range 16).map fun m => d.firTap d.mode g i m)

/-- The sample of position p of group g for a raw code (R79, R83, R85). -/
def Dev.sampleOf (d : Dev) (g p : Nat) (x : Int) : Sample :=
  let i := d.servingPhys g p
  if d.patched g p then { b := 0, patch := true, clip := false, taps := d.firOf g i }
  else
    { b := if d.flag Reg.loom_CORR_BYPASS g then 16 * x else offsetGain x (d.corr g i).1 (d.corr g i).2
      clip := x == -2048 || x == 2047
      taps := d.firOf g i }

/-- The tick that the slices sample now, from their raw codes by slot 32g + p. -/
def Dev.sampleTick (d : Dev) (raw : List (BitVec 12)) : TickData :=
  { samples := (List.range 128).map fun k => d.sampleOf (k / 32) (k % 32) (raw.getD k 0).toInt
    swapped := d.loom.swapped
    unlocked := (((List.range 4).filter fun g => (KMap.at d.clk.dlls {} g).phase != .locked).map (2 ^ ·)).sum
    fs := (List.range 4).map d.fsWeight }

/-- The samples of a stream in a tick, in stream order (R73). -/
def TickData.stream (t : TickData) (mode x : Nat) : List Sample :=
  (List.range (samplesPer mode)).map fun j => t.samples.getD (sampleSlot mode x j) {}

/-- The first unpatched sample of a list: how far on it is, counting from 1, and its value. -/
def firstUnpatched : Nat → List Sample → Option (Nat × Int)
  | _, [] => none
  | k, s :: t => if s.patch then firstUnpatched (k + 1) t else some (k, s.b)

/-- The nearest unpatched sample before a sample: among the earlier ones at hand, newest first, or the one of the run before them, which
lies `old` samples before the oldest of them. -/
def nearestBefore (old : Option (Nat × Int)) (before : List Sample) : Option (Nat × Int) :=
  match firstUnpatched 1 before with
  | some x => some x
  | none => old.map fun x => (before.length + x.1, x.2)

/-- The value of a sample after the patch stage (R81): its own; the linear interpolation between the nearest unpatched samples of the run
on each side; the nearest one on the other side where the run has none before it. Where every sample up to the end of the next tick is
patched the later one is out of the model's reach, and the value is free (log entry 12). -/
def patchValue (free : Int) (old : Option (Nat × Int)) (before : List Sample) (s : Sample) (after : List Sample) : Int :=
  if !s.patch then s.b
  else match nearestBefore old before, firstUnpatched 1 after with
    | some (l, a), some (r, b) => roundDiv (a * r + b * l) (l + r)
    | none, some (_, b) => b
    | _, none => free

/-- The samples of `rest` after the patch stage; `before` holds the earlier ones, newest first. -/
def patchStage (free : Int) (old : Option (Nat × Int)) : List Sample → List Sample → List Sample
  | _, [] => []
  | before, s :: t => { s with b := patchValue free old before s t } :: patchStage free old (s :: before) t

/-- How many samples before the first of tick `tick` the last unpatched one of the run before it lies, and its value. -/
def oldGood (mode : Nat) (good : KMap (Nat × Int)) (x tick : Nat) : Option (Nat × Int) :=
  (KMap.find good x).map fun p => (samplesPer mode * tick - p.1, p.2)

/-- The FIR, rounding and saturation of one sample (R83): `support` is b[n−7 .. n+8]. Also whether it was limited. -/
def firStage (taps : Option (List Int)) (support : List Int) : Int × Bool :=
  let y := match taps with
    | none => (support.getD 7 0 + 8).fdiv 16
    | some h => (((h.zip support).map fun p => p.1 * p.2).sum + 131072).fdiv 262144
  (clampInt (-2048) 2047 y, decide (y < -2048) || decide (2047 < y))

/-- The outputs of a tick from its samples and their b values with 7 earlier and 8 later ones. -/
def firAll : List Sample → List Int → List (Int × Bool)
  | [], _ => []
  | s :: t, bs => firStage s.taps (bs.take 16) :: firAll t (bs.drop 1)

/-- The weft of a stream for the tick `cur`, from the tick before and the tick after (R83, R86, R87, R511). Where the run has
not produced the earlier samples its first one stands in. -/
def weftOf (mode x tick : Nat) (free : Int) (good : KMap (Nat × Int)) (prev : Option TickData) (cur next : TickData) : Weft :=
  let n := samplesPer mode
  let c := cur.stream mode x
  let pv := match prev with
    | some t => t.stream mode x
    | none => []
  let ps := patchStage free (oldGood mode good x (tick - 1)) pv.reverse (c ++ next.stream mode x)
  let before := match prev with
    | some _ => (pv.drop (n - 7)).map (·.b)
    | none => List.replicate 7 ((ps.headD {}).b)
  let ys := firAll c (before ++ (ps.take (n + 8)).map (·.b))
  { input := x
    tick := tick
    samples := ys.map Prod.fst
    clip := ys.any Prod.snd || c.any (·.clip)
    swap := (groupsOf mode x).any fun g => bitAt cur.swapped g
    patch := c.any (·.patch)
    unlock := (groupsOf mode x).any fun g => bitAt cur.unlocked g }

/-- A tick with its samples after the patch stage, as the next tick's earlier samples. -/
def TickData.settle (mode tick : Nat) (free : Int) (good : KMap (Nat × Int)) (prev : Option TickData) (cur next : TickData) : TickData :=
  (sampledInputs mode).foldl (fun t x =>
    let pv := match prev with
      | some p => p.stream mode x
      | none => []
    let ps := patchStage free (oldGood mode good x (tick - 1)) pv.reverse (cur.stream mode x ++ next.stream mode x)
    { t with samples := (List.range 128).map fun k =>
        let h := k / 32 - firstLoom mode x
        if inputOf mode (k / 32) == x then { t.samples.getD k {} with b := (ps.getD (k % 32 * loomsPer mode + h) {}).b }
        else t.samples.getD k {} }) cur

/-- The last unpatched sample of each stream once tick `tick` is the previous one no more (R81). -/
def TickData.lastGood (mode tick : Nat) (good : KMap (Nat × Int)) (t : TickData) : KMap (Nat × Int) :=
  (sampledInputs mode).foldl (fun g x =>
    match firstUnpatched 1 (t.stream mode x).reverse with
    | some (k, b) => KMap.put g x (samplesPer mode * (tick + 1) - k, b)
    | none => g) good

/-! ### One tick of the Loom -/

/-- The samples of a group patched in a tick, counted in PATCH_COUNT (Table 03.7). -/
def Dev.countPatches (d : Dev) (t : TickData) : Dev :=
  (List.range 4).foldl (fun d g =>
    let n := (((t.samples.drop (32 * g)).take 32).filter (·.patch)).length
    if n = 0 then d else d.finc Reg.loom_PATCH_COUNT n g) d

/-- A weft adds to the quiet check of its input (R90). -/
def Dev.quietAdd (d : Dev) (fs : List Int) (w : Weft) : Dev :=
  match KMap.find d.loom.quiet w.input with
  | none => d
  | some q =>
    let v := w.samples.map fun s => s * fs.getD w.input 1000
    { d with loom.quiet := KMap.put d.loom.quiet w.input { q with
        n := q.n + v.length
        sum := q.sum + v.sum
        sumSq := q.sumSq + (v.map fun a => a.natAbs * a.natAbs).sum
        clip := q.clip || w.clip } }

/-- OVERRANGE for a weft with CLIP (Table 03.6). -/
def Dev.overrange (d : Dev) (w : Weft) : Dev := if w.clip then d.raise (8 + w.input) Ev.fe_OVERRANGE else d

/-- One tick of the Loom: the slices' raw codes of the next tick arrive, and the weft of the tick before them is complete.
The wefts emitted are none in the first 64 ticks of a run (R511). Without a run, before the first DLL lock, the tick only passes (R58);
while the islands receive no clock there is none. -/
def Dev.loomTick (d : Dev) (raw : List (BitVec 12)) : Dev × List Weft :=
  if !d.sliceClock then (d, []) else
  match d.loom.run with
  | none => (d.tickPasses, [])
  | some k =>
    let next := d.sampleTick raw
    let d1 := { d.countPatches next with loom.run := some (k + 1), loom.swapped := 0 }
    match d.loom.cur with
    | none => ({ d1 with loom.cur := some next }, [])
    | some cur =>
      let free := toSigned 18 (Config.freeValue d.freeCtr)
      let ws := if 65 ≤ k then (sampledInputs d.mode).map fun x => weftOf d.mode x d.loom.tick free d.loom.lastGood d.loom.prev cur next
        else []
      let d2 := { d1.tickPasses with
        loom.prev := some (TickData.settle d.mode d.loom.tick free d.loom.lastGood d.loom.prev cur next)
        loom.lastGood := match d.loom.prev with
          | some p => TickData.lastGood d.mode (d.loom.tick - 1) d.loom.lastGood p
          | none => d.loom.lastGood
        loom.cur := some next
        freeCtr := d.freeCtr + 1 }
      ((ws.foldl (fun d w => (d.quietAdd cur.fs w).overrange w) d2), ws)

/-! ### Input modes (R72, R516) -/

/-- An accepted mode change: runs and checks are abandoned, calibration commands end, a new stream run begins (R72, R107, R108,
R516). -/
def Dev.modeChange (d : Dev) (m : Nat) : Dev :=
  let d1 := { d.endStream.fset Reg.loom_MODE m with assay.fgDue := 0 }
  let d2 := (d1.assay.runs).foldl (fun (d : Dev) r => d.giveBack r.1 r.2) d1
  let d3 := (d2.assay.fg).foldl (fun (d : Dev) r => d.fbit Reg.assay_RUN_ACTIVE false r.1) d2
  let cmds := d3.assay.cmds.map fun (c : CalCmd) => c.cmd
  let d4 := { d3 with
    assay.fg := []
    assay.fgWait := 0
    assay.fgDue := 0
    assay.bgOnly := []
    assay.cmds := []
    assay.startupWait := d3.assay.startup.isSome || d3.assay.startupWait
    assay.startup := none }
  let d5 := (d4.fset Reg.assay_PENDING 0).fset Reg.assay_FG_BUSY 0
  let d6 := [0, 1, 2, 3].foldl (fun (d : Dev) x => d.quietAbort x false) (d5.finishCmds 4 0 cmds)
  let d7 := d6.fbit Reg.loom_MODE_READY false
  if d7.clksOk then d7.beginRun else d7

/-- A write of another MODE is refused while a stream is armed, and a write of 3 always (R72). -/
def Dev.modeRefused (d : Dev) (m : Nat) : Bool := m != d.mode && (d.armed || m == 3)

/-- A write to LOOM_g.CFG (Table 03.7): the bypass bits as E fields, and in LOOM_0 the mode, whose change `change` makes. -/
def loomCfgWrite (who : Requester) (g val : Nat) (change : Nat → Dev → Dev) (d : Dev) : Dev :=
  if d.flag Reg.hdr_FREEZE (12 + g) then d.logDiscard who (12 + g) 0x040 val
  else
    let r := d.writeFields who (0xC040 + 4096 * g) val (fun f => f == Reg.loom_MODE) fun _ => false
    let m := val % 4
    if g != 0 then (if r.2 then r.1.cfgEpoch (12 + g) else r.1)
    else if r.1.modeRefused m then
      let e := (r.1.raise 12 Ev.loom_MODE_CHANGE_REFUSED).logDiscard who 12 0x040 val
      if r.2 then e.cfgEpoch 12 else e
    else (if m = r.1.mode then r.1 else change m r.1).cfgEpoch 12

/-- 64 ticks after the start of a run the looms emit wefts: MODE_READY, and start-up calibration starts again if a mode change
abandoned it (R72, R516). -/
def modeReady (d : Dev) : Dev :=
  match d.loom.run with
  | none => d
  | some k =>
    if k < 64 then d
    else
      let d1 := d.fbit Reg.loom_MODE_READY true
      if d1.assay.startupWait then d1.startupCal else d1

/-! ### Path delay (R74) -/

/-- PATH_DELAY of an input in the mode in force: the value stored in the factory area, else the factory's (R74). -/
def pathDelay (nv : NonVolatile) (mode x : Nat) : Nat :=
  KMap.at nv.pathDelay (Config.factory (Reg.fe_PATH_DELAY.key x + 4 * 2 ^ 32 * mode) % 2 ^ 32) (4 * x + mode)

/-- Whether the life-cycle state lets RWL fields be written: BLANK, PROVISIONED, RETURN (R74). -/
def rwlOpen (life : Nat) : Bool := life == 0 || life == 1 || life == 3

/-- A write to PATH_DELAY (R74): it stores the value for the input and the mode in force, or is ignored. -/
def pathDelayWrite (who : Requester) (x val : Nat) (d : Dev) (nv : NonVolatile) : Dev × NonVolatile :=
  if d.flag Reg.hdr_FREEZE (8 + x) then (d.logDiscard who (8 + x) 0x058 val, nv)
  else if rwlOpen (d.fget Reg.life_STATE) then (d, { nv with pathDelay := KMap.put nv.pathDelay (4 * x + d.mode) (val % 2 ^ 32) })
  else (d, nv)

/-! ### Quiet checks (R90, R91) -/

/-- A check of input x is asked for by a register write (R91). -/
def quietStart (x : Nat) (d : Dev) : Dev :=
  if !(sampledInputs d.mode).contains x then (d.logErr (8 + x) 0xF2 0 0).fbit Reg.fe_VALID false x
  else if (KMap.find d.loom.quiet x).isSome then d
  else if !d.clksOk then (d.fbit Reg.fe_VALID false x).raise (8 + x) Ev.fe_QUIET_DONE
  else ({ d with loom.quiet := KMap.put d.loom.quiet x {} }.fbit Reg.fe_BUSY true x).fbit Reg.fe_VALID false x

/-- |MEAN| ≤ MEAN_LIMIT: with S the sum of code × (1,000 + FS_TRIM), MEAN is 800 S / (4,096 n) µV. -/
def QuietCheck.meanOk (q : QuietCheck) (limit : Nat) : Bool := decide (q.sum.natAbs * 800 ≤ limit * 4096 * q.n)

/-- n² times the variance of code × (1,000 + FS_TRIM). -/
def QuietCheck.spread (q : QuietCheck) : Nat := q.n * q.sumSq - q.sum.natAbs * q.sum.natAbs

/-- NOISE < RMS_LIMIT. -/
def QuietCheck.noiseOk (q : QuietCheck) (limit : Nat) : Bool :=
  decide (q.spread * 640000 < limit * limit * 4096 * 4096 * q.n * q.n)

/-- A quiet check completes (R90, R91): MEAN and NOISE in µV, whose rounding the manual leaves open where they are no whole number (log
entry 13), and
whether the input is quiet; the Assayer's foreground requests go on from it (R106, R107). -/
def quietDone (x : Nat) (d : Dev) : Dev :=
  match KMap.find d.loom.quiet x with
  | none => d
  | some q =>
    if q.n = 0 then d.quietAbort x true
    else
      let mOk := q.meanOk (d.fget Reg.fe_MEAN_LIMIT x)
      let nOk := q.noiseOk (d.fget Reg.fe_RMS_LIMIT x)
      let quiet := mOk && nOk && !q.clip
      let r0 := d.free
      let r1 := r0.2.free
      let d1 := { r1.2 with loom.quiet := KMap.del d.loom.quiet x }
      let den := 4096 * 4096 * q.n * q.n
      let rms := isqrt (q.spread * 640000 / den)
      let d2 := (d1.fsetS Reg.fe_QUIET_MEAN ((q.sum * 800).fdiv (4096 * q.n : Nat) +
        (if q.sum.natAbs * 800 % (4096 * q.n) = 0 then 0 else r0.1 % 2 : Nat)) x).fset Reg.fe_QUIET_RMS
        (rms + if q.spread * 640000 = rms * rms * den then 0 else r1.1 % 2) x
      let d3 := (((((d2.fbit Reg.fe_BUSY false x).fbit Reg.fe_VALID true x).fbit Reg.fe_QUIET quiet x).fbit Reg.fe_MEAN_OK mOk x).fbit
        Reg.fe_NOISE_OK nOk x).fbit Reg.fe_CLIPPED q.clip x
      let d4 := d3.raiseMask (8 + x) (2 ^ Ev.fe_QUIET_DONE + if quiet then 0 else 2 ^ Ev.fe_NOT_QUIET)
      if q.assayer then d4.fgQuietResult x quiet else d4

/-! ### Commands -/

/-- MODE_READY (R72, R516). -/
def execModeReady (s : State) : Host.Outcome State Fault Refusal := .next (s.live fun s => s.onDev modeReady)

/-- PATH_DELAY_WRITE (R74). -/
def execPathDelayWrite (who : Requester) (x : Fin 4) (val : Word) (s : State) : Host.Outcome State Fault Refusal :=
  .next (s.live fun s => s.onDevNv (pathDelayWrite who x val.toNat))

/-- QUIET_CHECK_START (R91). -/
def execQuietCheckStart (who : Requester) (x : Fin 4) (s : State) : Host.Outcome State Fault Refusal :=
  .next (s.live fun s => s.onDev fun d => d.writeGate who (8 + x) 0x048 1 false (quietStart x))

/-- QUIET_DONE (R90). -/
def execQuietDone (x : Fin 4) (s : State) : Host.Outcome State Fault Refusal := .next (s.live fun s => s.onDev (quietDone x))

end Sys2Proof.Machine
end

