-- ==== Sys2Proof/Machine/Capture.lean ====
section
/-!
DEFINITION. Capture rings, windows and the Ledger: issue of write blocks, overruns, completion, entries, release, the spill
tier (R194 to R222), and the geometry of decimator rings (R237 to R240).
-/

namespace Sys2Proof.Machine

/-! ### Bytes for the HBM tier -/

/-- Queue bytes to be stored in the HBM tier at the end of the command. -/
def Dev.store (d : Dev) (a : Nat) (bs : List Byte) : Dev := { d with toHbm := (a, bs) :: d.toHbm }

/-- Queue 32-bit words to be stored. -/
def Dev.storeWords (d : Dev) (a : Nat) (ws : List Nat) : Dev := d.store a (ws.flatMap wordBytes)

/-- Run a change of the device, then store what it queued for the HBM tier, oldest first. -/
def State.onDevHbm (s : State) (f : Dev → Dev) : State :=
  let d := f { s.dev with toHbm := [] }
  { s with
    dev := { d with toHbm := [] }
    hbm := d.toHbm.reverse.foldl (fun m p => Memory.writeBytes m p.1 p.2) s.hbm }

/-! ### Rings: geometry -/

/-- Ring r. -/
def Dev.ring (d : Dev) (r : Nat) : Ring := KMap.at d.acq.rings {} r

/-- Replace ring r. -/
def Dev.setRing (d : Dev) (r : Nat) (x : Ring) : Dev := { d with acq.rings := KMap.put d.acq.rings r x }

/-- Whether a ring is enabled (R196). -/
def Dev.ringOn (d : Dev) (r : Nat) : Bool := d.fget Reg.acq_ring_SIZE r != 0

/-- The ratio R of chain c (R229). -/
def Dev.ratio (d : Dev) (c : Nat) : Nat := d.fget Reg.deci_dch_RATIO_M1 c + 1

/-- Outputs per write block, and bytes per write block, of a decimation mode (Table 09.1). -/
def deciBlock (mode : Nat) : Nat × Nat := if mode = 1 then (16, 48) else if mode = 0 then (32, 48) else (32, 64)

/-- Samples or outputs in a write block of ring r, and its bytes (R196, R237). -/
def Dev.blockOf (d : Dev) (r : Nat) : Nat × Nat :=
  if r < 4 then (samplesPer d.mode, samplesPer d.mode * 3 / 2) else deciBlock (d.fget Reg.deci_dch_MODE (r - 4))

/-- Blocks that a ring holds (R196). -/
def Dev.ringBlocks (d : Dev) (r : Nat) : Nat := d.fget Reg.acq_ring_SIZE r * 65536 / (d.blockOf r).2

/-- Capacity S_r in samples or outputs. -/
def Dev.capacity (d : Dev) (r : Nat) : Nat := d.ringBlocks r * (d.blockOf r).1

/-- The input whose stream a ring holds, directly or decimated (R226). -/
def ringInput (r : Nat) : Nat := if r < 4 then r else (r - 4) / 2

/-- OLDEST_VALID (R198). -/
def Dev.oldestValid (d : Dev) (r : Nat) : Nat := max (d.ring r).armFirst ((d.ring r).issued - d.capacity r)

/-- The byte offset of an index from the start of a ring with an ANCHOR (R197, R237). -/
def Dev.byteAt (d : Dev) (anchor : Int) (r n : Nat) : Nat :=
  let p := (((n : Int) - anchor) % (max 1 (d.capacity r) : Nat)).toNat
  if r < 4 then 3 * (p / 2)
  else match d.fget Reg.deci_dch_MODE (r - 4) with
    | 0 => 3 * (p / 2)
    | 1 => 3 * p
    | _ => 2 * p

/-- Whether the sample at an index, in an arm with an ANCHOR, is the upper half of its pair. -/
def Dev.oddAt (d : Dev) (anchor : Int) (r n : Nat) : Bool :=
  (r < 4 || d.fget Reg.deci_dch_MODE (r - 4) == 0) && ((n : Int) - anchor) % 2 == 1

/-- The place of an index in a ring as it is now. -/
def Dev.ringByte (d : Dev) (r n : Nat) : Nat := d.byteAt (d.ring r).anchor r n

/-- Whether the sample at an index is the upper half of its pair. -/
def Dev.ringOdd (d : Dev) (r n : Nat) : Bool := d.oddAt (d.ring r).anchor r n

/-- The first and last index, in ring r, of a window of stream indices F to L (R203, R239). -/
def Dev.windowIn (d : Dev) (r f l : Nat) : Nat × Nat := if r < 4 then (f, l) else (f / d.ratio (r - 4), l / d.ratio (r - 4))

/-- The rings of a SEG_RINGS mask, in order. -/
def ringsOf (m : Nat) : List Nat := (List.range 12).filter fun r => bitAt m r

/-! ### Segments -/

/-- The segment of a number that is not yet finished with. -/
def Dev.seg (d : Dev) (n : Nat) : Option Segment := KMap.find d.acq.segs n

/-- An entry is final (R208); an overrun entry has its last form too. -/
def Segment.final (g : Segment) : Bool := g.state == 2 || (g.state == 1 && !bitAt g.flags 0)

/-- Whether a segment is being copied to the segment spill area (R221). -/
def Dev.isSpilling (d : Dev) (n : Nat) : Bool := d.acq.spilling.any fun x => x.1 == n

/-- Whether a segment's entry still has to be copied to the spill Ledger (R220). -/
def Dev.copyWaits (d : Dev) (g : Segment) : Bool := g.copyDue && d.flag Reg.ledg_SPILL_LEDGER_EN

/-- Replace a segment, or forget it once it is final, released, unread, written and not being copied (R208, R210, R214, R220). -/
def Dev.setSeg (d : Dev) (g : Segment) : Dev :=
  { d with acq.segs :=
    if g.final && g.written && !g.held && g.readers == 0 && !d.copyWaits g && !d.isSpilling g.num then KMap.del d.acq.segs g.num
    else KMap.put d.acq.segs g.num g }

/-- The 16 words of a Ledger entry (Table 08.1). -/
def Segment.words (g : Segment) : List Nat :=
  let line := g.start / 64
  let ti := ofSigned 64 g.trigIndex
  let ws := [g.num % 2 ^ 32, g.num / 2 ^ 32 % 2 ^ 32, line % 2 ^ 32,
    line / 2 ^ 32 % 16 + 16 * (g.start % 64) + 1024 * Bool.bit g.odd + 2048 * Bool.bit g.spilled + 4096 * g.ring + 65536 * g.state + 2 ^ 20 * g.rings,
    g.length % 2 ^ 32, g.length / 2 ^ 32 % 256, ti % 2 ^ 32, ti / 2 ^ 32, g.first % 2 ^ 32, g.first / 2 ^ 32 % 2 ^ 32,
    g.stamp.getD 0 0, g.stamp.getD 1 0, g.stamp.getD 2 0, g.cause % 65536 + 65536 * (g.flags % 65536), g.auxSeq]
  ws ++ [crc32c ws]

/-- RES_LOG2 in force. -/
def Dev.resLog2 (d : Dev) : Nat := clampNat 16 24 (d.fget Reg.ledg_RES_LOG2)

/-- SPILL_LOG2 in force (R219). -/
def Dev.spillLog2 (d : Dev) : Nat := clampNat (d.resLog2 + 1) 32 (d.fget Reg.ledg_SPILL_LOG2)

/-- The HBM slot of a segment (R209). -/
def Dev.slotOf (d : Dev) (n : Nat) : Nat := d.fget Reg.ledg_BASE * 65536 + n % 2 ^ d.resLog2 * 64

/-- The spill slot of a segment (R219). -/
def Dev.spillSlotOf (d : Dev) (n : Nat) : Nat := d.fget Reg.ledg_SPILL_LEDGER_BASE * 2097152 + n % 2 ^ d.spillLog2 * 64

/-- STAGED follows the entries in the staging buffer, WRITTEN_SEG the entries in final form (R208). -/
def Dev.ledgerStatus (d : Dev) : Dev :=
  let staged := (d.acq.segs.filter fun p => p.2.staged).length
  let written := ((d.acq.segs.find? fun p => !p.2.written).map fun p => p.1).getD d.acq.nextSeg
  ((d.fset Reg.ledg_STAGED staged).fset64 Reg.ledg_WRITTEN_SEG_W0 Reg.ledg_WRITTEN_SEG_W1 written).fset64 Reg.ledg_NEXT_SEG_W0
    Reg.ledg_NEXT_SEG_W1 d.acq.nextSeg

/-- The valid extents of SPILL_MAP in index order: bus address, length in bytes, NO_SNOOP (R215, Table 08.4). -/
def Dev.spillExtents (d : Dev) : List (Nat × Nat × Bool) :=
  (List.range 64).filterMap fun e =>
    if bitAt (d.tactive 23 0 (4 * e + 3)) 0 then
      some (d.tactive 23 0 (4 * e) + 2 ^ 32 * d.tactive 23 0 (4 * e + 1), d.tactive 23 0 (4 * e + 2) % 2 ^ 22 * 2097152,
        bitAt (d.tactive 23 0 (4 * e + 3)) 1)
    else none

/-- The writes that carry bytes to a spill offset: each extent takes what falls into it, and bytes beyond the last extent go nowhere
(R215). The split into posted writes of at most the maximum payload is not shown. -/
def spillParts : List (Nat × Nat × Bool) → Nat → List Nat → List Output
  | [], _, _ => []
  | (a, len, ns) :: t, off, bs =>
    if bs.isEmpty then []
    else if len ≤ off then spillParts t (off - len) bs
    else .spill (a + off) ns (bs.take (len - off)) :: spillParts t 0 (bs.drop (len - off))

/-- Write bytes at an offset of the spill tier (R194, R215). -/
def Dev.spillTo (d : Dev) (off : Nat) (bs : List Nat) : Dev := (spillParts d.spillExtents off bs).foldl Dev.emit d

/-- The bytes of 32-bit words, least significant first (R6). -/
def bytesOf (ws : List Nat) : List Nat := (ws.flatMap wordBytes).map BitVec.toNat

/-- Some copies to the spill Ledger have failed for good so far (R218). -/
def Dev.setStale (d : Dev) (l : List Nat) : Dev := { d with acq.stale := l }.fbit Reg.ledg_SPILL_LEDGER_STALE (!l.isEmpty)

/-- Copy an entry to its spill slot where the spill Ledger is enabled: at once, or later where the link is held (R217, R220). -/
def Dev.spillEntry (d : Dev) (g : Segment) : Dev × Segment :=
  if !d.flag Reg.ledg_SPILL_LEDGER_EN then (d, g)
  else if d.holding then (d, { g with copied := false, copyDue := true })
  else ((d.spillTo (d.spillSlotOf g.num) (bytesOf g.words)).setStale (d.acq.stale.filter (· != g.num)), { g with copied := true, copyDue := false })

/-- Write an entry whole to its HBM slot with a fresh CRC, and copy it to the spill Ledger where it is final (R208, R220). -/
def Dev.writeEntry (d : Dev) (g : Segment) : Dev :=
  let d1 := d.storeWords (d.slotOf g.num) g.words
  let g1 := { g with staged := false, written := g.written || g.final }
  if g.final then
    let r := d1.spillEntry g1
    (r.1.setSeg r.2).ledgerStatus
  else (d1.setSeg g1).ledgerStatus

/-- A copy to the spill Ledger that has failed is made again from the entry in its HBM slot (R218). -/
def Dev.retryCopy (d : Dev) (n : Nat) (entry : List Nat) : Dev :=
  if d.acq.stale.contains n && d.flag Reg.ledg_SPILL_LEDGER_EN && !d.holding then
    (d.spillTo (d.spillSlotOf n) entry).setStale (d.acq.stale.filter (· != n))
  else d

/-- A final entry is written to its slot (R208); an entry already written waits only for its spill copy (R218, R220). `entry` is what its
slot holds. -/
def ledgerEntryWrite (n : Nat) (entry : List Nat) (d : Dev) : Dev :=
  match d.seg n with
  | none => d.retryCopy n entry
  | some g =>
    if !g.final then d
    else if !g.written then d.writeEntry g
    else if d.copyWaits g then
      let r := d.spillEntry g
      (r.1.setSeg r.2).ledgerStatus
    else d.retryCopy n entry

/-- Release a segment: its window is no longer held (R211). -/
def Dev.releaseSeg (d : Dev) (g : Segment) : Dev := d.setSeg { g with held := false }

/-- One reader more, or one fewer, holds a segment (R212). -/
def Dev.readSeg (d : Dev) (n : Nat) (more : Bool) : Dev :=
  match d.seg n with
  | none => d
  | some g => d.setSeg { g with readers := if more then g.readers + 1 else g.readers - 1 }

/-- Whether a slot can take a new entry (R210): not while the copy of its entry to the spill Ledger has failed (R218). -/
def Dev.slotReusable (d : Dev) (n : Nat) : Bool :=
  n < 2 ^ d.resLog2 || (!d.acq.stale.contains (n - 2 ^ d.resLog2) && (match d.seg (n - 2 ^ d.resLog2) with
    | none => true
    | some g => g.final && (!g.held || g.copied)))

/-! ### Flags and completion (R205, R207) -/

/-- The FLAGS of a window from the wefts of its rings' streams and the epochs (Table 08.2): bits 4, 6, 7, 8. -/
def Dev.windowFlags (d : Dev) (g : Segment) : Nat :=
  let n := samplesPer d.mode
  let t0 := g.first / n
  let t1 := g.last / n
  let hit := fun (bit : Nat) => (ringsOf g.rings).any fun r =>
    (KMap.at d.acq.flagLog [] (ringInput r)).any fun p => decide (t0 ≤ p.1) && decide (p.1 ≤ t1) && bitAt p.2 bit
  16 * Bool.bit (d.tb.changes.any fun c => decide (t0 < c) && decide (c ≤ t1)) + 64 * Bool.bit (hit 1) + 128 * Bool.bit (hit 2) +
    256 * Bool.bit (hit 0)

/-- Whether WRITE_INDEX has passed the window's last sample in every ring (R205, R240). -/
def Dev.windowStored (d : Dev) (g : Segment) : Bool :=
  (ringsOf g.rings).all fun r => decide ((d.windowIn r g.first g.last).2 < (d.ring r).write)

/-- A window becomes complete: its flags are final; unpinned segments are released (R205, R211). -/
def Dev.completeSeg (d : Dev) (g : Segment) : Dev :=
  d.setSeg { g with
    state := 1
    flags := g.flags ||| d.windowFlags g
    held := g.held && d.flag Reg.acq_PIN_EN }

/-- Complete every open window that is stored. -/
def Dev.completeAll (d : Dev) : Dev :=
  (d.acq.segs.filter fun p => p.2.state == 0 && d.windowStored p.2).foldl (fun (d : Dev) p => d.completeSeg p.2) d

/-! ### Held windows and overruns (R213, R214, R222) -/

/-- The oldest segment that still holds a window in ring r. -/
def Dev.oldestSeg (d : Dev) (r : Nat) : Option Segment :=
  (d.acq.segs.find? fun p => p.2.held && bitAt p.2.rings r).map Prod.snd

/-- OLDEST_HELD of ring r (R213). -/
def Dev.oldestHeld (d : Dev) (r : Nat) : Nat :=
  match d.oldestSeg r with
  | some g => (d.windowIn r g.first g.last).1
  | none => (d.ring r).issued

/-- A held segment is overrun (R213): its entry is rewritten with STATE 2, without SPILLED, and it is released; a spill copy of
it is abandoned. -/
def Dev.overrunSeg (d : Dev) (g : Segment) : Dev :=
  let d1 := { d with acq.spilling := match d.acq.spilling with
    | some x => if x.1 = g.num then none else some x
    | none => none }
  (d1.writeEntry { g with state := 2, held := false }).finc Reg.ledg_OVERRUN_COUNT |>.raise 23 Ev.ledg_PIN_OVERRUN

/-- Overrun, oldest first, every held segment that a capture write into ring r passes; `fuel` bounds their number. -/
def Dev.overrunCheck (r : Nat) : Nat → Dev → Dev
  | 0, d => d
  | fuel + 1, d =>
    match d.oldestSeg r with
    | none => d
    | some g =>
      if (d.windowIn r g.first g.last).1 < d.oldestValid r then Dev.overrunCheck r fuel (d.overrunSeg g) else d

/-- The held span of a ring exceeds PIN_MARK (R214). -/
def Dev.pinNear (d : Dev) (r : Nat) : Bool :=
  decide (d.capacity r * max 1 (d.fget Reg.acq_PIN_MARK) < ((d.ring r).issued - d.oldestHeld r) * 256)

/-- PIN_NEAR, once per crossing. -/
def Dev.pinCheck (d : Dev) (r : Nat) : Dev :=
  let x := d.ring r
  let n := d.pinNear r
  let d1 := if n = x.near then d else d.setRing r { x with near := n }
  if n && !x.near then d1.raise 23 Ev.ledg_PIN_NEAR else d1

/-- A record of GAP_LOG: samples of a ring's spill stream are lost (R222, Table 08.5). -/
def Dev.spillGap (d : Dev) (r first count : Nat) : Dev :=
  let d1 := { d with acq.gapSeq := d.acq.gapSeq + 1 }
  ((d1.tsetWords 23 1 0 (4 * (d.acq.gapSeq % 64)) [r + 16 * (d.acq.gapSeq % 2 ^ 28), first % 2 ^ 32, first / 2 ^ 32 % 2 ^ 32,
    min count (2 ^ 32 - 1)]).finc Reg.ledg_SPILL_GAP_COUNT).raise 22 Ev.acq_SPILL_GAP

/-- Samples below an index that a ring has stored from index i on, over the spans of earlier arms and the present one. -/
def spanCount : List (Nat × Int × Nat) → Nat → Nat → Nat
  | [], i, v => v - i
  | (e, _, n) :: t, i, v => (min e v - i) + spanCount t (max i n) v

/-- Samples below an index that are not yet written to a ring's spill ring (R222). -/
def Ring.unspilled (x : Ring) (v : Nat) : Nat := spanCount x.past x.spill v

/-- The spans of earlier arms that reach beyond an index. -/
def spansFrom : List (Nat × Int × Nat) → Nat → List (Nat × Int × Nat)
  | [], _ => []
  | (e, a, n) :: t, i => if e ≤ i then spansFrom t i else (e, a, n) :: t

/-- SPILL_INDEX moves to an index (R222). -/
def Ring.spillTo (x : Ring) (i : Nat) : Ring := { x with spill := i, past := spansFrom x.past i }

/-- OLDEST_VALID passes SPILL_INDEX: what was not written to the spill ring is lost (R222). -/
def Dev.spillCheck (d : Dev) (r : Nat) : Dev :=
  let x := d.ring r
  let v := d.oldestValid r
  if d.flag Reg.acq_ring_STREAM_EN r && decide (x.spill < v) then (d.setRing r (x.spillTo v)).spillGap r x.spill (x.unspilled v) else d

/-! ### Capture writes (R24, R196, R198, R332) -/

/-- Bytes of a block at an HBM-tier offset that go to stack 0. -/
def stack0Bytes (a n : Nat) : Nat :=
  ((List.range (n / 16 + 1)).map fun k =>
    let lo := a + 16 * k
    if 16 * k < n && linePc (lo / 64) < 32 then min 16 (n - 16 * k) else 0).sum

/-- A record of LOST_LOG: lines lost from a pseudo-channel, or from the write buffer with 0x3F (R332, Table 08.5; where RING is
six bits wide). -/
def Dev.lostLines (d : Dev) (pc line count : Nat) : Dev :=
  ({ d with acq.lostSeq := d.acq.lostSeq + 1 }).tsetWords 66 1 0 (4 * (d.acq.lostSeq % 64))
    [pc % 64 + 64 * (d.acq.lostSeq % 2 ^ 26), line % 2 ^ 32, line / 2 ^ 32, min count (2 ^ 32 - 1)]

/-- Capacity of a stack's capture write buffer (R332). -/
def wbufSize : Nat := 16 * 2 ^ 20

/-- Where the write block of ring r that begins with an index goes: its HBM-tier offset, its bytes, those of them in stack 0. -/
def Dev.blockPlace (d : Dev) (r first : Nat) : Nat × Nat × Nat :=
  let len := (d.blockOf r).2
  let a := d.fget Reg.acq_ring_BASE r * 65536 + d.ringByte r first
  (a, len, stack0Bytes a len)

/-- Whether a capture write buffer has no room for the block of ring r that begins with an index (R332). -/
def Dev.wbufFull (d : Dev) (r first : Nat) : Bool :=
  let p := d.blockPlace r first
  decide (wbufSize < d.acq.wbuf0 + p.2.2) || decide (wbufSize < d.acq.wbuf1 + (p.2.1 - p.2.2))

/-- The write position after a block of ring r, from the position before it. -/
def Dev.posAfter (d : Dev) (r pos : Nat) : Nat :=
  let len := (d.blockOf r).2
  if pos + len < d.ringBlocks r * len then pos + len else 0

/-- Issue one write block to the capture write buffers and advance ISSUED_INDEX; a block that finds a buffer full is discarded
and its lines are recorded (R198, R332). A block without bytes stores nothing. -/
def Dev.issueBlock (d : Dev) (r first count : Nat) (bytes : Option (List Byte)) (drops : List Nat := []) : Dev :=
  let x := d.ring r
  let (a, len, b0) := d.blockPlace r first
  let full := bytes.isSome && d.wbufFull r first
  let stored := bytes.isSome && !full
  let d1 := { d with
    acq.wbuf0 := if stored then d.acq.wbuf0 + b0 else d.acq.wbuf0
    acq.wbuf1 := if stored then d.acq.wbuf1 + (len - b0) else d.acq.wbuf1 }
  let off := d.ringByte r first
  let d2 := d1.setRing r { x with
    issued := first + count
    pos := d.posAfter r off
    buf := x.buf ++ [{ first := first, count := count, off := off, bytes := if full then none else bytes, drops := drops }] }
  let d3 := if full then (d2.lostLines 0x3F (a / 64) ((a + len - 1) / 64 - a / 64 + 1)).raise 66 Ev.mems_WBUF_OVERFLOW else d2
  ((Dev.overrunCheck r d3.acq.segs.length d3).pinCheck r).spillCheck r

/-- A byte of a block some of whose outputs were dropped, each output taking `nb` half bytes: its halves are new or keep what the memory
holds; none where both were dropped (R243). -/
def mixByte (nb : Nat) (drops : List Nat) (old new k : Nat) : Option Nat :=
  let lo := !drops.contains (2 * k / nb)
  let hi := !drops.contains ((2 * k + 1) / nb)
  if !lo && !hi then none
  else some ((if lo then new else old) % 16 + 16 * ((if hi then new else old) / 16 % 16))

/-- Store the bytes of a block at an offset, but for the outputs that were dropped; `rd` reads the memory. -/
def Dev.storeBlock (d : Dev) (rd : Nat → Nat) (nb a : Nat) (bs : List Byte) (drops : List Nat) : Dev :=
  if drops.isEmpty then d.store a bs
  else ((List.range bs.length).zip bs).foldl (fun (d : Dev) p =>
    match mixByte nb drops (rd (a + p.1)) p.2.toNat p.1 with
    | some v => d.store (a + p.1) [BitVec.ofNat 8 v]
    | none => d) d

/-- Half bytes that a sample or output of ring r takes. -/
def Dev.halfBytes (d : Dev) (r : Nat) : Nat :=
  if r < 4 then 3 else match d.fget Reg.deci_dch_MODE (r - 4) with
    | 0 => 3
    | 1 => 6
    | _ => 4

/-- The oldest write block of ring r reaches HBM (R198): its bytes are stored, WRITE_INDEX advances, windows may complete. -/
def Dev.blockStored (d : Dev) (rd : Nat → Nat) (r : Nat) : Dev :=
  let x := d.ring r
  match x.buf with
  | [] => d
  | b :: rest =>
    let a := d.fget Reg.acq_ring_BASE r * 65536 + b.off
    let d1 := d.setRing r { x with write := b.first + b.count, buf := rest }
    let d2 := match b.bytes with
      | none => d1
      | some bs =>
        let b0 := stack0Bytes a bs.length
        ({ d1 with
          acq.wbuf0 := d1.acq.wbuf0 - b0
          acq.wbuf1 := d1.acq.wbuf1 - (bs.length - b0) }).storeBlock rd (d.halfBytes r) a bs b.drops
    d2.completeAll

/-- Whether every window is complete and every provisional segment resolved, with no trigger still to be decided or to reach its
merge point, so that the rings may stop (R202, R386). -/
def Dev.windowsDone (d : Dev) : Bool :=
  (d.acq.segs.all fun p => p.2.state != 0 && !bitAt p.2.flags 0) && d.tseq.merge.isEmpty && d.trig.todo.all fun t => !t.eval

/-- Whether a ring stops at a write position (R202). -/
def Dev.stopsHere (d : Dev) (pos : Nat) : Bool := d.acq.stopTaken && d.windowsDone && pos % 64 == 0

/-- A ring stops writing. -/
def Dev.ringStop (d : Dev) (r : Nat) : Dev := d.setRing r { d.ring r with writing := false }

/-- A weft goes to its stream ring (R86, R198), or the ring stops (R202). -/
def Dev.captureWeft (d : Dev) (w : Weft) : Dev :=
  let r := w.input
  let log := (KMap.at d.acq.flagLog [] r)
  let fl := Bool.bit w.clip + 2 * Bool.bit w.swap + 4 * Bool.bit (w.patch || w.unlock)
  let d1 := if fl = 0 then d else { d with acq.flagLog := KMap.put d.acq.flagLog r ((w.tick, fl) :: log) }
  if !(d1.ring r).writing then d1
  else if d1.stopsHere (d1.ring r).pos then d1.ringStop r
  else d1.issueBlock r (samplesPer d1.mode * w.tick) (samplesPer d1.mode) (some (packSamples w.samples))

/-! ### Windows and commits (R203, R204, R206) -/

/-- PRE_LEN and POST_LEN. -/
def Dev.preLen (d : Dev) : Nat := d.fget64 Reg.acq_PRE_LEN_W0 Reg.acq_PRE_LEN_W1

/-- POST_LEN, with 0 held at 1. -/
def Dev.postLen (d : Dev) : Nat := max 1 (d.fget64 Reg.acq_POST_LEN_W0 Reg.acq_POST_LEN_W1)

/-- The trigger horizon H in ticks; 0 when the device takes no cascade triggers (R203). -/
def Dev.horizon (d : Dev) : Nat := if d.flag Reg.cas_TRIG_RX then d.fget Reg.cas_H_TICKS else 0

/-- S_H = (1,024 + H) × N. -/
def Dev.sH (d : Dev) : Nat := (1024 + d.horizon) * samplesPer d.mode

/-- L_d of a chain's configuration (Table 09.3). -/
def Dev.latencyOut (d : Dev) (c : Nat) : Nat :=
  if d.fget Reg.deci_dch_MODE c = 4 then
    (match d.fget Reg.deci_dch_FIR_RF c with
    | 0 => 34
    | 1 => 18
    | _ => 10)
  else 2

/-- The window capacity of a ring in stream samples: C_r or E_r (R203, R240). -/
def Dev.windowCap (d : Dev) (r : Nat) : Nat :=
  if r < 4 then d.capacity r - d.sH
  else (d.capacity r - (d.sH + d.ratio (r - 4) - 1) / d.ratio (r - 4) - d.latencyOut (r - 4) - 1) * d.ratio (r - 4)

/-- The smallest capacity among the rings of SEG_RINGS. -/
def Dev.minCap (d : Dev) : Nat := ((ringsOf (d.fget Reg.acq_SEG_RINGS)).map d.windowCap).foldl min (2 ^ 64)

/-- First and last stream index of the window of a trigger sample index (R203, R204); none where it would begin before stream
index 0. -/
def Dev.windowOf (d : Dev) (t : Nat) : Option (Nat × Nat) :=
  let last := t + d.postLen - 1
  if d.flag Reg.acq_DELAYED_WINDOW && decide (d.minCap < d.preLen + d.postLen) then
    (if d.minCap ≤ last + 1 then some (last + 1 - d.minCap, last) else none)
  else if d.preLen ≤ t then some (t - d.preLen, last) else none

/-- ARM_INDEX. -/
def Dev.armIndex (d : Dev) : Nat := d.fget64 Reg.acq_ARM_INDEX_W0 Reg.acq_ARM_INDEX_W1

/-- The pre-fill check of a window (R154, R241). -/
def Dev.preFilled (d : Dev) (w : Option (Nat × Nat)) : Bool :=
  match w with
  | none => false
  | some (f, _) => decide (d.armIndex ≤ f) && (ringsOf (d.fget Reg.acq_SEG_RINGS)).all fun r =>
      r < 4 || decide (d.fget64 Reg.deci_dch_FIRST_OUT_W0 Reg.deci_dch_FIRST_OUT_W1 (r - 4) ≤ f / d.ratio (r - 4))

/-- Write the oldest staged entry as it stands when the staging buffer is full (R208). -/
def Dev.evict (d : Dev) : Dev :=
  if d.fget Reg.ledg_STAGED < 4096 then d
  else match d.acq.segs.find? fun p => p.2.staged with
    | some p => d.writeEntry p.2
    | none => d

/-- Commit a segment for a window at its decision (R206): the entry is staged, NEXT_SEG advances; a window already stored is complete at
once (R205). -/
def Dev.commitSeg (d : Dev) (w : Nat × Nat) (t cause flags auxSeq : Nat) (stamp : List Nat) : Dev :=
  let rings := d.fget Reg.acq_SEG_RINGS
  let pr := (ringsOf rings).headD 0
  let win := d.windowIn pr w.1 w.2
  let g : Segment := {
    num := d.acq.nextSeg
    start := d.fget Reg.acq_ring_BASE pr * 65536 + d.ringByte pr win.1
    odd := d.ringOdd pr win.1
    ring := pr
    rings := rings
    length := win.2 + 1 - win.1
    trigIndex := (t : Int) - w.1
    first := w.1
    last := w.2
    stamp := stamp
    cause := cause
    flags := flags
    auxSeq := auxSeq
    anchors := (List.range 12).map fun r => (d.ring r).anchor }
  let d1 := d.evict
  (({ d1 with acq.nextSeg := d.acq.nextSeg + 1, acq.prevWindow := some w }).setSeg g).completeAll.ledgerStatus

/-- A provisional segment is confirmed (R169). -/
def Dev.confirmSeg (d : Dev) (n : Nat) : Dev :=
  match d.seg n with
  | some g => d.setSeg { g with flags := andNot g.flags 1 }
  | none => d

/-- A provisional segment is retracted, and so released at once (R169, R211). -/
def Dev.retractSeg (d : Dev) (n : Nat) : Dev :=
  match d.seg n with
  | some g => d.setSeg { g with flags := andNot g.flags 1 ||| 2, held := false }
  | none => d

/-! ### Release (R211, R212) -/

/-- A release that names a segment not held, or not committed, is ignored and recorded (R211, R514). -/
def Dev.releaseOne (d : Dev) (n : Nat) : Dev :=
  match d.seg n with
  | some g => if g.held then d.releaseSeg g else d.logErr 23 0xF2 (n % 2 ^ 32) (n / 2 ^ 32 % 2 ^ 32)
  | none => d.logErr 23 0xF2 (n % 2 ^ 32) (n / 2 ^ 32 % 2 ^ 32)

/-- Release every held segment below a number. -/
def Dev.releaseUpto (d : Dev) (n : Nat) : Dev :=
  (d.acq.segs.filter fun p => p.2.held && decide (p.1 < n)).foldl (fun (d : Dev) p => d.releaseSeg p.2) d

/-- Automatic release (R212). -/
def autoRelease (n : Nat) (d : Dev) : Dev :=
  match d.seg n with
  | some g => if d.flag Reg.acq_AUTO_RELEASE && g.held && g.state == 1 && g.readers == 0 then d.releaseSeg g else d
  | none => d

/-! ### The spill tier (R215 to R222) -/

/-- The spill size in 2 MiB units: the valid extents of SPILL_MAP (R215). -/
def Dev.spillUnits (d : Dev) : Nat := (d.spillExtents.map fun e => e.2.1 / 2097152).sum

/-- Where the window of a segment begins in ring r, in bytes from the ring start, and the bytes it takes from there (R197). -/
def Dev.windowBytes (d : Dev) (g : Segment) (r : Nat) : Nat × Nat :=
  let w := d.windowIn r g.first g.last
  let an := g.anchors.getD r 0
  (d.byteAt an r w.1, ((w.2 + 1 - w.1 + Bool.bit (d.oddAt an r w.1)) * d.halfBytes r + 1) / 2)

/-- Lines that the copy of a window in ring r takes (R221). -/
def Dev.copyLines (d : Dev) (g : Segment) (r : Nat) : Nat :=
  let w := d.windowBytes g r
  (w.1 % 64 + w.2 + 63) / 64

/-- The HBM-tier offset of a byte of ring r, counted from the ring start and past its wrap. -/
def Dev.ringAddr (d : Dev) (r q : Nat) : Nat := d.fget Reg.acq_ring_BASE r * 65536 + q % max 1 (d.ringBlocks r * (d.blockOf r).2)

/-- The copy of a window in ring r (R221): from the line that holds its first sample to the line that holds its last. -/
def State.copyOf (s : State) (g : Segment) (r : Nat) : List Nat :=
  let a := (s.dev.windowBytes g r).1
  (List.range (s.dev.copyLines g r * 64)).map fun k => s.hbmByte (s.dev.ringAddr r (a - a % 64 + k))

/-- The copy of a segment: its rings' copies one after another, the primary ring's first (R221). -/
def State.copyImage (s : State) (g : Segment) : List Nat := (ringsOf g.rings).flatMap (s.copyOf g)

/-- Bytes of the segment spill area, HEAD and TAIL in it. -/
def Dev.segSpill (d : Dev) : Nat × Nat × Nat :=
  (d.fget Reg.ledg_SEGSPILL_SIZE * 2097152, d.fget64 Reg.ledg_SEGSPILL_HEAD_W0 Reg.ledg_SEGSPILL_HEAD_W1,
    d.fget64 Reg.ledg_SEGSPILL_TAIL_W0 Reg.ledg_SEGSPILL_TAIL_W1)

/-- Free bytes from HEAD up to TAIL; HEAD at TAIL is the empty area (DESIGN CHOICE, log entry 16). -/
def Dev.segSpillFree (d : Dev) : Nat :=
  let (size, head, tail) := d.segSpill
  if size = 0 then 0 else if head = tail then size else (tail + size - head) % size

/-- Write bytes in the segment spill area from HEAD on, wrapping at its end (R221). -/
def Dev.segSpillWrite (d : Dev) (bs : List Nat) : Dev :=
  let base := d.fget Reg.ledg_SEGSPILL_BASE * 2097152
  let room := d.segSpill.1 - d.segSpill.2.1
  (d.spillTo (base + d.segSpill.2.1) (bs.take room)).spillTo base (bs.drop room)

/-- What a ring can write to its spill ring next, in whole write blocks: the blocks, and the ANCHOR of the arm that stored them (R222). -/
def Dev.spillRun (d : Dev) (r : Nat) : Nat × Int :=
  let x := d.ring r
  let b := (d.blockOf r).1
  if !d.flag Reg.acq_ring_STREAM_EN r || x.fresh then (0, 0)
  else match x.past with
    | (e, a, _) :: _ => ((e - x.spill) / b, a)
    | [] => ((x.write - x.spill) / b, x.anchor)

/-- The spill ring of ring r in write blocks (R222). -/
def Dev.spillBlocks (d : Dev) (r : Nat) : Nat := d.fget Reg.acq_ring_SPILL_SIZE r * 2097152 / (d.blockOf r).2

/-- Whether the spill engine has work of a kind that goes before ring r's stream: Ledger copies, then the streams of lower rings; 12 for a
segment copy, which comes after all of them (R217). -/
def Dev.spillBusy (d : Dev) (r : Nat) : Bool :=
  (d.acq.segs.any fun p => d.copyWaits p.2) || (List.range r).any fun q => (d.spillRun q).1 != 0 && d.spillBlocks q != 0

/-- The spill engine begins to copy the oldest held segment of a ring beyond its mark (R221). -/
def segmentSpillStart (d : Dev) : Dev :=
  if !d.flag Reg.acq_AUTO_SPILL || d.acq.spilling.isSome || d.holding || d.fget Reg.ledg_SEGSPILL_SIZE == 0 || d.spillBusy 12 then d
  else match ((List.range 12).filter d.pinNear).head?.bind d.oldestSeg with
    | none => d
    | some g =>
      if g.state != 1 then d
      else
        let n := ((ringsOf g.rings).map (d.copyLines g)).sum * 64
        if n < d.segSpillFree then
          { d with acq.spilling := some (g.num, d.fget Reg.ledg_SEGSPILL_BASE * 2097152 + d.segSpill.2.1, n) }
        else d.raise 23 Ev.ledg_SPILL_FULL

/-- The segment copy is complete (R221): the entry names the copy, and the segment is released in the rings; a release that came
meanwhile has had no further effect (R214). It waits for the link and for work that goes before it (R217). -/
def State.segmentSpillDone (s : State) : State :=
  match s.dev.acq.spilling with
  | none => s
  | some (n, off, len) =>
    if s.dev.holding || s.dev.spillBusy 12 then s
    else match s.dev.seg n with
      | none => s.onDev fun d => { d with acq.spilling := none }
      | some g => s.onDevHbm fun d =>
        ((({ d.segSpillWrite (s.copyImage g) with acq.spilling := none }.fset64 Reg.ledg_SEGSPILL_HEAD_W0 Reg.ledg_SEGSPILL_HEAD_W1
          ((d.segSpill.2.1 + len) % max 1 d.segSpill.1))).writeEntry { g with
            start := off + g.start % 64
            spilled := true
            flags := g.flags ||| 8
            held := false })

/-- SPILL_INDEX moves past blocks that were written or lost: to the next span that the ring stored, where they end one (R222). -/
def Ring.spillPast (x : Ring) (i : Nat) : Ring :=
  match x.past with
  | (e, _, n) :: t => if e ≤ i then { x with spill := max i n, past := t } else { x with spill := i }
  | [] => { x with spill := i }

/-- The write blocks that `count` samples more of a ring's spill stream take, as far as they are stored (R222). -/
def Dev.spillCount (d : Dev) (r count : Nat) : Nat := min (count / (d.blockOf r).1) (d.spillRun r).1

/-- The spill engine writes stored samples of a ring to its spill ring, in whole write blocks (R222). -/
def State.spillStreamWrite (s : State) (r count : Nat) : State :=
  let d := s.dev
  let x := d.ring r
  let blk := d.blockOf r
  let n := d.spillCount r count
  if n = 0 || d.spillBlocks r = 0 || d.holding || d.spillBusy r then s
  else
    let base := d.fget Reg.acq_ring_SPILL_BASE r * 2097152
    let block := fun (k : Nat) =>
      let i := x.spill + k * blk.1
      let a := d.byteAt (d.spillRun r).2 r i
      (base + (i - x.armFirst) / blk.1 % d.spillBlocks r * blk.2, (List.range blk.2).map fun j => s.hbmByte (d.ringAddr r (a + j)))
    s.onDev fun d => ((List.range n).foldl (fun (d : Dev) k => d.spillTo (block k).1 (block k).2) d).setRing r
      (x.spillPast (x.spill + n * blk.1))

/-- A spill write has failed twice (R218): what it carried of a stream is lost, a segment copy is abandoned, a Ledger copy leaves its slot
not reusable until it succeeds. -/
def spillErr (e : SpillError) (d : Dev) : Dev :=
  match e with
  | .stream r count =>
    let x := d.ring r
    let n := d.spillCount r count * (d.blockOf r).1
    if n = 0 then d else ((d.setRing r (x.spillPast (x.spill + n))).spillGap r x.spill n).raise 23 Ev.ledg_SPILL_ERR
  | .segment =>
    match d.acq.spilling with
    | none => d
    | some (n, _, _) =>
      let d1 := { d with acq.spilling := none }
      ((match d1.seg n with
        | some g => d1.setSeg g
        | none => d1).ledgerStatus).raise 23 Ev.ledg_SPILL_ERR
  | .ledger n =>
    if !d.flag Reg.ledg_SPILL_LEDGER_EN || decide (d.acq.nextSeg ≤ n) || d.acq.stale.contains n then d
    else
      let d1 := d.setStale (n :: d.acq.stale)
      (match d1.seg n with
        | some g => d1.setSeg { g with copied := false }
        | none => d1).raise 23 Ev.ledg_SPILL_ERR

/-! ### Commands -/

/-- LEDGER_ENTRY_WRITE (R208). -/
def execLedgerEntryWrite (seg : Nat) (s : State) : Host.Outcome State Fault Refusal := .next (s.live fun s => s.onDevHbm (ledgerEntryWrite seg (bytesOf (s.hbmWords (s.dev.slotOf seg) 16))))

/-- AUTO_RELEASE (R212). -/
def execAutoRelease (seg : Nat) (s : State) : Host.Outcome State Fault Refusal := .next (s.live fun s => s.onDev (autoRelease seg))

/-- SEGMENT_SPILL_START (R221). -/
def execSegmentSpillStart (s : State) : Host.Outcome State Fault Refusal := .next (s.live fun s => s.onDev segmentSpillStart)

/-- SEGMENT_SPILL_DONE (R221). -/
def execSegmentSpillDone (s : State) : Host.Outcome State Fault Refusal := .next (s.live State.segmentSpillDone)

/-- SPILL_STREAM_WRITE (R222). -/
def execSpillStreamWrite (r : Fin 12) (count : Nat) (s : State) : Host.Outcome State Fault Refusal :=
  .next (s.live fun s => s.spillStreamWrite r count)

/-- SPILL_ERR (R218). -/
def execSpillErr (err : SpillError) (s : State) : Host.Outcome State Fault Refusal := .next (s.live fun s => s.onDev (spillErr err))

end Sys2Proof.Machine
end

