-- ==== Sys2Proof/Machine/Deci.lean ====
section
/-!
DEFINITION. The decimator chains: modes, restarts, settling, the arithmetic of every mode, and the outputs' way into rings 4
to 11 (R226 to R245).
-/

namespace Sys2Proof.Machine

/-! ### A chain's configuration -/

/-- What a chain's registers select: MODE, R, AC, M, R_f and PHASE as held under R230. -/
structure ChainCfg where
  mode : Nat
  ratio : Nat
  ac : Bool
  order : Nat
  rf : Nat
  phase : Nat
  deriving DecidableEq, Repr

/-- The configuration of chain c. -/
def Dev.chainCfg (d : Dev) (c : Nat) : ChainCfg :=
  { mode := d.fget Reg.deci_dch_MODE c
    ratio := d.ratio c
    ac := d.flag Reg.deci_dch_AC c
    order := d.fget Reg.deci_dch_CIC_ORDER c
    rf := 2 ^ d.fget Reg.deci_dch_FIR_RF c
    phase := min (d.fget Reg.deci_dch_PHASE c) (d.ratio c - 1) }

/-- R_c. -/
def ChainCfg.rc (k : ChainCfg) : Nat := k.ratio / k.rf

/-- Whether a ratio is a power of two. -/
def isPow2 (n : Nat) : Bool := n != 0 && 2 ^ Nat.log2 n == n

/-- Whether R lies in the range of its mode (Table 09.1). -/
def ChainCfg.ratioOk (k : ChainCfg) : Bool :=
  match k.mode with
  | 0 => decide (1 ≤ k.ratio) && decide (k.ratio ≤ 2 ^ 32)
  | 1 => decide (2 ≤ k.ratio) && decide (k.ratio ≤ 2 ^ 32)
  | 2 => isPow2 k.ratio && decide (2 ≤ k.ratio) && decide (k.ratio ≤ 2 ^ 24)
  | 3 => isPow2 k.ratio && decide (2 ≤ k.ratio) && decide (k.ratio ≤ 2 ^ 24)
  | 4 => isPow2 k.ratio && decide (2 ≤ k.ratio) && decide (k.ratio ≤ 2 ^ 20)
  | _ => false

/-- Whether M is 1 to 5. -/
def ChainCfg.orderOk (k : ChainCfg) : Bool := decide (1 ≤ k.order) && decide (k.order ≤ 5)

/-- Whether R_f is a defined value that R admits. -/
def ChainCfg.rfOk (k : ChainCfg) : Bool := decide (k.rf ≤ 4) && (k.mode != 4 || decide (k.rf ≤ k.ratio))

/-- Whether a configuration is one that R244 admits. -/
def ChainCfg.ok (k : ChainCfg) : Bool := decide (k.mode ≤ 4) && k.ratioOk && k.orderOk && k.rfOk

/-- Whether chain c is enabled. -/
def Dev.chainOn (d : Dev) (c : Nat) : Bool := d.flag Reg.deci_dch_EN c

/-- Whether the input of chain c is sampled (R226). -/
def Dev.chainSampled (d : Dev) (c : Nat) : Bool := (sampledInputs d.mode).contains (c / 2)

/-- The quotient rounded up, and 0 for a negative dividend. -/
def ceilDivInt (a : Int) (b : Nat) : Nat := (-((-a).fdiv b)).toNat

/-- SETTLE_INDEX for a first stream index r0 (Table 09.3). -/
def ChainCfg.settleIndex (k : ChainCfg) (r0 : Nat) : Nat :=
  match k.mode with
  | 0 => ceilDivInt ((r0 : Int) - k.phase) k.ratio
  | 4 => ceilDivInt ((r0 : Int) + (30 + k.order : Nat) * k.rc - k.order + 1) k.ratio
  | _ => ceilDivInt r0 k.ratio

/-- CENTRE2 (Table 09.3). -/
def ChainCfg.centre2 (k : ChainCfg) : Int :=
  match k.mode with
  | 0 => 2 * k.phase
  | 4 => 3 * (k.rc : Int) - 2 - k.order * ((k.rc : Int) - 1)
  | _ => k.ratio - 1

/-- Half bytes per output, times 1 (Table 09.1); 0 for a reserved mode. -/
def ChainCfg.halfBytes (k : ChainCfg) : Nat :=
  match k.mode with
  | 0 => 3
  | 1 => 6
  | 2 => 4
  | 3 => 4
  | 4 => 4
  | _ => 0

/-- RATE: N × b / R in units of 1/65,536 byte per tick, rounded up (R242). -/
def Dev.chainRate (d : Dev) (c : Nat) : Nat :=
  let k := d.chainCfg c
  (samplesPer d.mode * k.halfBytes * 32768 + k.ratio - 1) / k.ratio

/-- RATE_TOTAL: the sum over enabled chains (R242). -/
def Dev.rateTotal (d : Dev) : Nat := (((List.range 8).filter d.chainOn).map d.chainRate).sum

/-! ### Restarts (R227) -/

/-- Chain c. -/
def Dev.chain (d : Dev) (c : Nat) : Chain := KMap.at d.chains {} c

/-- Replace chain c. -/
def Dev.setChain (d : Dev) (c : Nat) (x : Chain) : Dev := { d with chains := KMap.put d.chains c x }

/-- A chain restarts: nothing received, not settled. -/
def Dev.restartChain (d : Dev) (c : Nat) : Dev :=
  d.setChain c { satRaised := (d.chain c).satRaised }

/-- Lay a ring out afresh: write position 0, ARM_FIRST at the next arm, the segments that use it released (R201). -/
def Dev.layRing (d : Dev) (r : Nat) : Dev :=
  let d1 := d.setRing r { d.ring r with pos := 0, fresh := true }
  (d1.acq.segs.filter fun p => p.2.held && bitAt p.2.rings r).foldl (fun (d : Dev) p => d.releaseSeg p.2) d1

/-- A chain's configuration changes, so that it restarts and its ring is laid out afresh (R227). -/
def Dev.reconfigureChain (d : Dev) (c : Nat) : Dev := (d.restartChain c).layRing (4 + c)

/-- What a mode change does to rings, segments and chains (R201, R227). -/
def Dev.layAll (d : Dev) : Dev :=
  let d1 := (List.range 12).foldl (fun (d : Dev) r => d.setRing r { d.ring r with pos := 0, fresh := true }) d
  let d2 := (d1.acq.segs.filter fun p => p.2.held).foldl (fun (d : Dev) p => d.releaseSeg p.2) d1
  (List.range 8).foldl Dev.restartChain d2

/-! ### Arithmetic (R230 to R233) -/

/-- The width of the integrators and combs: 12 + 5 × 20 bits. -/
def cicModulus : Nat := 2 ^ 112

/-- One sample through the cascade of integrators. -/
def integrate (x : Nat) : List Nat → List Nat
  | [] => []
  | a :: t => let v := (a + x) % cicModulus; v :: integrate v t

/-- One value through the cascade of combs: the new delays and the result. -/
def combStep (v : Nat) : List Nat → List Nat × Nat
  | [] => ([], v)
  | p :: t => let r := combStep ((v + cicModulus - p) % cicModulus) t; (v :: r.1, r.2)

/-- c[j] from a boxcar sum (R233). -/
def cicRound (box rc order : Nat) : Int := roundDiv (16 * toSigned 112 box) (rc ^ order)

/-- The FIR sum over c[R_f d − 31] to c[R_f d + 32], given newest first, and whether it was limited (R233). -/
def firDecimate (h : List Int) (cs : List Int) : Int × Bool :=
  let acc := ((h.zip cs.reverse).map fun p => p.1 * p.2).sum
  let y := (acc + 8192).fdiv 16384
  (clampInt (-32768) 32767 y, decide (y < -32768) || decide (32767 < y))

/-- round(16 × √(p / q)) (R232). -/
def rmsRound (p q : Nat) : Nat := (isqrt (1024 * p / q) + 1) / 2

/-- RMS of an interval (R232). -/
def rmsOf (ac : Bool) (s : Int) (s2 ratio : Nat) : Nat :=
  if ac then rmsRound (s2 * ratio - s.natAbs * s.natAbs) (ratio * ratio) else rmsRound s2 ratio

/-- Word w of a chain's FIR table holds two taps (R234). -/
def Dev.firTaps (d : Dev) (c : Nat) : List Int :=
  (List.range 64).map fun t => toSigned 16 (d.tactive 24 c (t / 2) / 2 ^ (16 * (t % 2)))

/-- The taps in force for the weft of a tick (R234). -/
def Chain.tapsAt (x : Chain) (active : List Int) (tick : Int) : List Int :=
  match x.banks.find? fun b => decide (tick < (b.1 : Int)) with
  | some b => b.2
  | none => active

/-- A swap of a chain's FIR table takes effect at the next weft boundary: outputs that began before it keep the taps that were
active (R234). A chain that has received nothing since its restart, or does not filter, has no such outputs. -/
def Dev.firSwapped (d : Dev) (c : Nat) (old : List Int) : Dev :=
  let x := d.chain c
  if x.r0.isNone || d.fget Reg.deci_dch_MODE c != 4 then d
  else d.setChain c { x with banks := x.banks ++ [(d.loom.tick, old)] }

/-- What one sample makes of a chain: an output index, its packed value, and whether it was limited. -/
structure ChainOut where
  idx : Nat
  val : Nat
  sat : Bool := false

/-- One sample of stream index n, `spt` of which make a weft, through chain state x (R229 to R233). -/
def Chain.sample (x : Chain) (k : ChainCfg) (spt : Nat) (active : List Int) (n : Nat) (v : Int) : Chain × Option ChainOut :=
  let last := (n + 1) % k.ratio == 0
  let i := n / k.ratio
  match k.mode with
  | 0 => (x, if n % k.ratio = k.phase then some { idx := i, val := ofSigned 12 v } else none)
  | 1 =>
    let e := match x.ext with
      | none => (v, v)
      | some (a, b) => (min a v, max b v)
    ({ x with ext := if last then none else some e },
      if last then some { idx := i, val := ofSigned 12 e.1 + 4096 * ofSigned 12 e.2 } else none)
  | 2 =>
    let s := x.s + v
    ({ x with s := if last then 0 else s },
      if last then some { idx := i, val := ofSigned 16 (roundDiv (16 * s) k.ratio) } else none)
  | 3 =>
    let s := x.s + v
    let s2 := x.s2 + v.natAbs * v.natAbs
    ({ x with s := if last then 0 else s, s2 := if last then 0 else s2 },
      if last then some { idx := i, val := rmsOf k.ac s s2 k.ratio } else none)
  | 4 =>
    let integ := integrate (ofSigned 112 v) (if x.integ.isEmpty then List.replicate k.order 0 else x.integ)
    let x1 := { x with integ := integ }
    if (n + 1) % k.rc != 0 then (x1, none)
    else
      let r := combStep (integ.getLastD 0) (if x.comb.isEmpty then List.replicate k.order 0 else x.comb)
      let j := (n + 1) / k.rc - 1
      let cs := (cicRound r.2 k.rc k.order :: x1.cs).take 64
      let x2 := { x1 with comb := r.1, cs := cs }
      if 32 ≤ j && (j - 32) % k.rf == 0 && cs.length == 64 then
        let i := (j - 32) / k.rf
        let tick := ((k.rc : Int) * ((k.rf : Int) * i - 30) - 1).fdiv spt
        let y := firDecimate (x2.tapsAt active tick) cs
        ({ x2 with banks := x2.banks.filter fun b => decide (tick < (b.1 : Int)) }, some { idx := i, val := ofSigned 16 y.1, sat := y.2 })
      else (x2, none)
  | _ => (x, none)

/-! ### Outputs into the ring (R236 to R238, R243) -/

/-- The bytes of a block of outputs (R237). -/
def blockBytes (mode : Nat) (vs : List Nat) : List Byte :=
  match mode with
  | 0 => packSamples (vs.map (toSigned 12))
  | 1 => vs.flatMap pairBytes
  | _ => vs.flatMap fun v => [BitVec.ofNat 8 v, BitVec.ofNat 8 (v / 256)]

/-- Outputs that a chain's 1 MiB output buffer holds: those of the blocks that wait and of the block in progress (R243). -/
def Chain.held (x : Chain) : Nat :=
  (x.waiting.map fun w => w.vals.length - w.drops.length).sum + (x.block.length - x.blockDrops.length)

/-- Whether an output finds the output buffer full. -/
def Dev.deciFull (d : Dev) (c : Nat) : Bool := decide (2 ^ 21 < ((d.chain c).held + 1) * d.halfBytes (4 + c))

/-- Outputs are dropped (R243): DROP_COUNT, DROP, and a record of DROP_LOG for each run of outputs dropped one after another (DESIGN
CHOICE, log entry 17). -/
def Dev.deciDrop (d : Dev) (c first count : Nat) : Dev :=
  let at' := 4 * ((d.acq.dropSeq + 15) % 16)
  let w := fun k => d.tget 24 8 0 (at' + k)
  let goesOn := d.acq.dropSeq != 0 && w 0 % 16 == 4 + c && w 1 + 2 ^ 32 * w 2 + w 3 == first
  let d1 := if goesOn then d.tset 24 8 0 (at' + 3) (min (w 3 + count) (2 ^ 32 - 1))
    else { d with acq.dropSeq := d.acq.dropSeq + 1 }.tsetWords 24 8 0 (4 * (d.acq.dropSeq % 16))
      [4 + c + 16 * (d.acq.dropSeq % 2 ^ 28), first % 2 ^ 32, first / 2 ^ 32 % 2 ^ 32, count]
  (d1.finc Reg.deci_dch_DROP_COUNT count c).raise 24 Ev.deci_DROP

/-- The blocks that wait go to the capture write buffers, oldest first, while there is room; one whose outputs were all dropped takes none
(R243). `fuel` bounds their number. -/
def Dev.deciPump (c : Nat) : Nat → Dev → Dev
  | 0, d => d
  | fuel + 1, d =>
    match (d.chain c).waiting with
    | [] => d
    | w :: rest =>
      let none' := decide (w.vals.length ≤ w.drops.length)
      if !none' && d.wbufFull (4 + c) w.first then d
      else Dev.deciPump c fuel ((d.setChain c { d.chain c with waiting := rest }).issueBlock (4 + c) w.first w.vals.length
        (if none' then none else some (blockBytes (d.fget Reg.deci_dch_MODE c) w.vals)) (if none' then [] else w.drops))

/-- Move what waits in a chain's output buffer on. -/
def Dev.deciDrain (d : Dev) (c : Nat) : Dev := Dev.deciPump c (d.chain c).waiting.length d

/-- The write position of a chain's ring behind the blocks that wait. -/
def Dev.deciPos (d : Dev) (c : Nat) : Nat :=
  (d.chain c).waiting.foldl (fun pos _ => d.posAfter (4 + c) pos) (d.ring (4 + c)).pos

/-- An output that is written to the ring joins the block in progress, or is dropped where the buffer is full; a whole block goes on to the
write buffers (R237, R243). -/
def Dev.deciStore (d : Dev) (c : Nat) (o : ChainOut) : Dev :=
  let full := d.deciFull c
  let d1 := if full then d.deciDrop c o.idx 1 else d
  let y := d1.chain c
  let blk := y.block ++ [if full then 0 else o.val]
  let drops := if full then y.blockDrops ++ [y.block.length] else y.blockDrops
  if blk.length < (d1.blockOf (4 + c)).1 then d1.setChain c { y with block := blk, blockDrops := drops }
  else (d1.setChain c { y with
    block := []
    blockDrops := []
    waiting := y.waiting ++ [{ first := o.idx + 1 - blk.length, vals := blk, drops := drops }] }).deciDrain c

/-- An output that the chain produces: settling, saturation, and its place in the ring (R227, R233, R238). -/
def Dev.deciOutput (d : Dev) (c : Nat) (o : ChainOut) : Dev :=
  let x := d.chain c
  if o.idx < x.start then d
  else
    let d1 := if x.settled || decide (o.idx < d.fget64 Reg.deci_dch_SETTLE_INDEX_W0 Reg.deci_dch_SETTLE_INDEX_W1 c) then d
      else (d.setChain c { x with settled := true }).raise 24 (Ev.deci_SETTLE + c)
    let d2 := if !o.sat then d1
      else
        let d2 := d1.finc Reg.deci_dch_SAT_COUNT 1 c
        if x.satRaised then d2 else (d2.setChain c { d2.chain c with satRaised := true }).raise 24 Ev.deci_SAT
    let r := 4 + c
    let y := d2.chain c
    let b := (d2.blockOf r).1
    if !(d2.ring r).writing || decide (o.idx < d2.fget64 Reg.deci_dch_FIRST_OUT_W0 Reg.deci_dch_FIRST_OUT_W1 c) then d2
    else if y.block.isEmpty && o.idx % b != 0 then d2
    else if y.block.isEmpty && d2.stopsHere (d2.deciPos c) then d2.ringStop r
    else d2.deciStore c o

/-- A chain takes the samples of a weft one by one (R227). -/
def Dev.chainFeed (d : Dev) (c : Nat) (k : ChainCfg) (active : List Int) (n : Nat) : List Int → Dev
  | [] => d
  | v :: vs =>
    let r := (d.chain c).sample k (samplesPer d.mode) active n v
    let d1 := d.setChain c { r.1 with next := n + 1 }
    let d2 := match r.2 with
      | some o => d1.deciOutput c o
      | none => d1
    d2.chainFeed c k active (n + 1) vs

/-- What a chain has before a weft: its first stream index after a restart, or a fresh start where ticks without a weft came
between (R511; log entry 17). -/
def Dev.chainReady (d : Dev) (c : Nat) (k : ChainCfg) (n : Nat) : Dev :=
  let x := d.chain c
  match x.r0 with
  | none =>
    (d.setChain c { x with r0 := some n, next := n, start := k.settleIndex n }).fset64 Reg.deci_dch_SETTLE_INDEX_W0
      Reg.deci_dch_SETTLE_INDEX_W1 (k.settleIndex n) c
  | some _ =>
    if x.next = n then d
    else d.setChain c { x with next := n, start := k.settleIndex n, s := 0, s2 := 0, ext := none, integ := [], comb := [], cs := [], block := [], blockDrops := [] }

/-- A weft goes to the two chains of its stream (R226, R227). -/
def Dev.deciWeft (d : Dev) (w : Weft) : Dev :=
  [2 * w.input, 2 * w.input + 1].foldl (fun (d : Dev) c =>
    let k := d.chainCfg c
    if d.chainOn c && k.ok then
      let n := samplesPer d.mode * w.tick
      (d.chainReady c k n).chainFeed c k (if k.mode = 4 then d.firTaps c else []) n w.samples
    else d) d

/-! ### Configuration writes (R227, R245) -/

/-- Whether a field is locked while armed under R245. -/
def deciLocked (f : Field) : Bool :=
  f == Reg.deci_dch_EN || f == Reg.deci_dch_MODE || f == Reg.deci_dch_AC || f == Reg.deci_dch_CIC_ORDER || f == Reg.deci_dch_FIR_RF ||
    f == Reg.deci_dch_RATIO_M1 || f == Reg.deci_dch_PHASE

/-- Whether a write would change a locked field of the register at an offset (R509). -/
def Dev.changesLocked (d : Dev) (off val : Nat) (locked : Field → Bool) : Bool :=
  (regFields off).any fun fi => locked fi.1 && fi.1.held (fi.1.bitsOf val) != d.fget fi.1 fi.2

/-- A write to DCH_c.CFG, RATIO_M1 or PHASE at a page offset: discarded while armed, with CFG_REFUSED (R245); otherwise the
chain restarts and its ring is laid out afresh (R227). -/
def chainConfigWrite (who : Requester) (off val : Nat) (d : Dev) : Dev :=
  if d.flag Reg.hdr_FREEZE 24 then d.logDiscard who 24 off val
  else if d.armed then
    (if d.changesLocked (24 * 4096 + off) val deciLocked then (d.raise 24 Ev.deci_CFG_REFUSED).logDiscard who 24 off val else d.cfgEpoch 24)
  else
    let r := d.writeFields who (24 * 4096 + off) val (fun _ => false) fun _ => false
    ((if r.2 && decide (0x100 ≤ off) then r.1.reconfigureChain ((off - 0x100) / 0x40) else r.1)).cfgEpoch 24

/-- A write block reaches HBM (R198), and the room it leaves goes to the chains' output buffers (R243). -/
def captureBlockStored (rd : Nat → Nat) (r : Nat) (d : Dev) : Dev := (List.range 8).foldl Dev.deciDrain (d.blockStored rd r)

/-- CHAIN_CONFIG_WRITE (R227). -/
def execChainConfigWrite (who : Requester) (off : Nat) (val : Word) (s : State) : Host.Outcome State Fault Refusal :=
  .next (s.live fun s => s.onDev (chainConfigWrite who (off % 4096) val.toNat))

end Sys2Proof.Machine
end

