-- ==== Sys2Proof/Machine/AuxConv.lean ====
section
/-!
DEFINITION. The auxiliary converters: sequences, urgent triggers, groups, results and their numbers, alarms, the link to the
Ledger, delivery, and the QM7120 compatibility filter (R393 to R408).
-/

namespace Sys2Proof.Machine

/-- Converter c. -/
def Dev.auxc (d : Dev) (c : Nat) : AuxConv := KMap.at d.aux.conv {} c

/-- Replace converter c. -/
def Dev.setAuxc (d : Dev) (c : Nat) (x : AuxConv) : Dev := { d with aux.conv := KMap.put d.aux.conv c x }

/-- Whether converter c is enabled, and whether the compatibility filter has it (R403). -/
def Dev.auxOn (d : Dev) (c : Nat) : Bool := d.flag Reg.aux_auxc_EN c

/-- Whether the filter has converter c. -/
def Dev.fltOn (d : Dev) (c : Nat) : Bool := d.flag Reg.auxf_flt_EN c

/-- ISL_AUX runs on its fallback clock (R26, R54: index 42). -/
def Dev.auxSlow (d : Dev) : Bool := bitAt (d.fget Reg.clk_ISL_FALLBACK_W1) 10

/-- ns of a bit cycle: 150 ISL_AUX cycles at 200 MHz, or at 120 MHz (R394). -/
def Dev.auxBitNs (d : Dev) : Nat := if d.auxSlow then 1250 else 750

/-- ns of a conversion: the counted part, and the start-up where AUTO_PD is 1 (R394). -/
def Dev.auxConvNs (d : Dev) (c : Nat) : Nat := (if d.auxSlow then 1667 else 1000) + if d.flag Reg.aux_auxc_AUTO_PD c then 250 else 0

/-- A time in ns as 2^-16 nominal ticks (R58). -/
def Dev.nsTo16 (d : Dev) (ns : Nat) : Nat := ns * d.fget Reg.tbase_NOMINAL_FREQ * 65536 / 8000000

/-- The sampling instant of a conversion that ends now, on the slice clock in 2^-16 ticks, and its timestamp (R399; log entry
18). -/
def Dev.auxInstant (d : Dev) : Int × List Nat :=
  let back := d.nsTo16 d.auxBitNs
  let acc := (((d.tb.acc : Int) - back * (d.tb.inc : Int) / 65536) % (2 ^ 96 : Nat)).toNat
  ((d.loom.tick : Int) * 65536 - back, d.stampOf (acc / 2 ^ 32) (acc / 2 ^ 16 % 65536))

/-! ### Sequence entries (Table 16.2) -/

/-- Regular entry i of converter c, of the bank its pass uses. -/
def Dev.auxReg (d : Dev) (c i : Nat) : Nat := d.tget 26 c (d.auxc c).regBank i

/-- Injected entry i. -/
def Dev.auxInj (d : Dev) (c i : Nat) : Nat := d.tget 26 c (d.auxc c).injBank (32 + i)

/-- CHANNEL of an entry. -/
def entryChannel (w : Nat) : Nat := w % 64

/-- Conversions of an entry. -/
def entryConvs (w : Nat) : Nat := 2 ^ min 8 (bitField w 7 4)

/-- The result of an entry's sum, and SAT (R395). -/
def entryValue (w sum : Nat) : Nat × Bool :=
  let v := sum / 2 ^ min 8 (bitField w 11 4)
  (min v 65535, decide (65535 < v))

/-- Word 0 of a result record (Table 16.3). -/
def auxWord0 (value channel conv : Nat) (inj split timeout sat alarm filt unsettled slow : Bool) : Nat :=
  value + 65536 * channel + 2 ^ 22 * conv + 2 ^ 24 * Bool.bit inj + 2 ^ 25 * Bool.bit split + 2 ^ 26 * Bool.bit timeout +
    2 ^ 27 * Bool.bit sat + 2 ^ 28 * Bool.bit alarm + 2 ^ 29 * Bool.bit filt + 2 ^ 30 * Bool.bit unsettled + 2 ^ 31 * Bool.bit slow

/-- A result joins those that wait for their number. -/
def Dev.auxResult (d : Dev) (c word0 : Nat) : Dev :=
  let t := d.auxInstant
  { d with aux.waiting := d.aux.waiting ++ [{ at16 := t.1, conv := c, words := word0 :: t.2 }] }

/-- The alarm check of one conversion (R400): also whether it is an alarm. -/
def Dev.auxAlarm (d : Dev) (channel code : Nat) : Dev × Bool :=
  let w := d.tactive 26 4 channel
  let out := decide (channel < 40) && bitAt w 31 && (decide (code < bitField w 0 12) || decide (bitField w 16 12 < code))
  let was := KMap.at d.aux.outside false channel
  let d1 := if out = was then d else { d with aux.outside := KMap.put d.aux.outside channel out }
  if out && !was then
    ((({ d1 with aux.urgAlarm := d1.aux.urgAlarm + 1 }).fsetBit (if channel < 32 then Reg.aux_ALARM_W0 else Reg.aux_ALARM_W1)
      (channel % 32) true).raise 26 Ev.aux_ALARM, true)
  else (d1, false)

/-! ### The converters' order of work (R395 to R397) -/

/-- The converters that start and are injected together with converter c. -/
def Dev.auxGroup (d : Dev) (c : Nat) : List Nat :=
  if d.flag Reg.aux_auxc_SYNC c && d.auxOn c && !d.fltOn c then
    (List.range 4).filter fun k => d.auxOn k && d.flag Reg.aux_auxc_SYNC k && !d.fltOn k
  else [c]

/-- A regular entry starts. -/
def Dev.auxStartEntry (d : Dev) (c i : Nat) : Dev :=
  let x := d.auxc c
  ((d.setAuxc c { x with
      busy := true
      reg := {}
      finished := false
      idle := false
      fresh := false
      due := x.due && i != 0
      regBank := if i = 0 then (d.tctlOf 26 c).bank else x.regBank }).fset Reg.aux_auxc_STEP i c).fset Reg.aux_auxc_STATE 1 c

/-- The entry after the one that has finished: the next, entry 0 again, or the wait for the next pass (R395). -/
def Dev.auxNextEntry (d : Dev) (c : Nat) : Dev :=
  let x := d.auxc c
  let i := d.fget Reg.aux_auxc_STEP c
  if x.fresh then d.auxStartEntry c 0
  else if i < d.fget Reg.aux_auxc_REG_LEN_M1 c then d.auxStartEntry c (i + 1)
  else if d.fget Reg.aux_auxc_REG_PERIOD c = 0 || x.due then d.auxStartEntry c 0
  else (d.setAuxc c { x with idle := true, finished := false }).fset Reg.aux_auxc_STATE 3 c

/-- A converter goes on with its regular sequence where no group holds it back. -/
def Dev.auxContinue (d : Dev) (c : Nat) : Dev :=
  let x := d.auxc c
  if x.busy || x.idle || x.finished then d else (d.setAuxc c { x with busy := true }).fset Reg.aux_auxc_STATE 1 c

/-- A converter starts its injected sequence (R396); a filtered converter may be between filter conversions. -/
def Dev.auxStartInj (d : Dev) (c : Nat) : Dev :=
  let d0 := d.fbit Reg.aux_auxc_INJ_PENDING false c
  if d.fget Reg.aux_auxc_INJ_LEN c = 0 then d0
  else
    let x := d.auxc c
    (d0.setAuxc c { x with
      busy := true
      inj := some (0, {})
      injBank := (d.tctlOf 26 c).bank
      reg := { x.reg with split := x.reg.split || (x.reg.n != 0 && !x.finished) } }).fset Reg.aux_auxc_STATE 2 c

/-- A member's part in a new step of its group: its next entry, or the start of a pass that has fallen due. -/
def Dev.auxStep (d : Dev) (c : Nat) : Dev :=
  let x := d.auxc c
  if x.finished then d.auxNextEntry c else if x.idle && x.due then d.auxStartEntry c 0 else d

/-- What a group does once a conversion has ended, a pass has fallen due or a trigger has come: injected sequences start together when
no member converts, regular entries go on, and a new step starts when every member has finished its entry or is between passes. -/
def Dev.auxGo (d : Dev) (c : Nat) : Dev :=
  let g := d.auxGroup c
  let any := fun (t : Nat → Bool) => g.any t
  if any (fun k => (d.auxc k).inj.isSome) then d
  else if any (fun k => d.flag Reg.aux_auxc_INJ_PENDING k) then
    (if any (fun k => (d.auxc k).busy) then d else g.foldl Dev.auxStartInj d)
  else
    let d1 := g.foldl Dev.auxContinue d
    if g.all (fun k => ((d1.auxc k).finished || (d1.auxc k).idle) && !(d1.auxc k).busy) then g.foldl Dev.auxStep d1 else d1

/-- What becomes of an entry after a conversion: its new form, or its result's word. -/
def entryAfter (w : Nat) (e : AuxEntry) (conv : Nat) (inj : Bool) : Option Nat :=
  if e.n < entryConvs w then none
  else
    let v := entryValue w e.sum
    some (auxWord0 v.1 (entryChannel w) conv inj e.split false v.2 e.alarm false false e.slow)

/-- An injected entry is over: the next one, or the end of the injected sequence. -/
def Dev.auxInjNext (d : Dev) (c i : Nat) : Dev :=
  let x := d.auxc c
  if i + 1 < min 8 (d.fget Reg.aux_auxc_INJ_LEN c) then d.setAuxc c { x with busy := true, inj := some (i + 1, {}) }
  else
    let d1 := (d.setAuxc c { x with busy := false, inj := none }).fset Reg.aux_auxc_STATE (if x.idle then 3 else 1) c
    if d1.fltOn c then d1.fset Reg.aux_auxc_STATE 3 c else d1.auxGo c

/-- A conversion ends with a code (R394 to R396). -/
def auxConversionDone (c code0 : Nat) (d : Dev) : Dev :=
  let x := d.auxc c
  let code := min 4095 code0
  if !x.busy then d
  else match x.inj with
    | some (i, e) =>
      let w := d.auxInj c i
      let r := d.auxAlarm (entryChannel w) code
      let e1 := { e with n := e.n + 1, sum := e.sum + code, alarm := e.alarm || r.2, slow := e.slow || d.auxSlow }
      (match entryAfter w e1 c true with
      | none => r.1.setAuxc c { x with inj := some (i, e1) }
      | some w0 => (r.1.auxResult c w0).auxInjNext c i)
    | none =>
      let w := d.auxReg c (d.fget Reg.aux_auxc_STEP c)
      let r := d.auxAlarm (entryChannel w) code
      let e1 := { x.reg with n := x.reg.n + 1, sum := x.reg.sum + code, alarm := x.reg.alarm || r.2, slow := x.reg.slow || d.auxSlow }
      (match entryAfter w e1 c false with
      | none => (r.1.setAuxc c { x with busy := false, reg := e1 }).auxGo c
      | some w0 => ((r.1.auxResult c w0).setAuxc c { x with busy := false, reg := e1, finished := true }).auxGo c)

/-- A conversion has not ended within 2 µs (R398): the entry's result carries TIMEOUT, and the sequence goes on. -/
def auxConvTimeout (c : Nat) (d : Dev) : Dev :=
  let x := d.auxc c
  if !x.busy then d
  else
    let d1 := (((d.countTimeout 26).countRecovery 26).raise 26 (Ev.aux_CONV_TIMEOUT + c)).logErr 26 (Ev.aux_CONV_TIMEOUT + c) c 0
    match x.inj with
    | some (i, e) =>
      (d1.auxResult c (auxWord0 0 (entryChannel (d.auxInj c i)) c true e.split true false e.alarm false false e.slow)).auxInjNext c i
    | none =>
      ((d1.auxResult c (auxWord0 0 (entryChannel (d.auxReg c (d.fget Reg.aux_auxc_STEP c))) c false x.reg.split true false x.reg.alarm
        false false x.reg.slow)).setAuxc c { x with busy := false, finished := true }).auxGo c

/-- A pass of a converter falls due: one in progress is late (R395). -/
def Dev.passDue (d : Dev) (c : Nat) : Dev :=
  let x := d.auxc c
  let d1 := d.setAuxc c { x with due := true }
  if x.idle then d1 else d1.finc Reg.aux_auxc_LATE_PASS 1 c

/-- A scheduled pass falls due (R395): an idle converter starts it; otherwise it starts when the pass in progress ends. A group has one
schedule, that of its lowest member (log entry 18). -/
def regPeriodTimer (c : Nat) (d : Dev) : Dev :=
  let g := d.auxGroup c
  if !d.auxOn c || d.fltOn c || (d.fget Reg.aux_auxc_REG_PERIOD c == 0 && !(d.auxc c).idle) || g.headD c != c then d
  else (g.foldl Dev.passDue d).auxGo c

/-! ### Urgent triggers (R396, R405) -/

/-- Whether converter c has selected a source. -/
def Dev.auxSelects (d : Dev) (c : Nat) (src : UrgentSource) : Bool :=
  match src with
  | .main => d.flag Reg.aux_auxc_SRC_MAIN c
  | .trigIn k => bitAt (d.fget Reg.aux_auxc_SRC_TIN c) k
  | .alarm => d.flag Reg.aux_auxc_SRC_ALARM c

/-- The filter's input period in ns × 1: 1 / (64 f_n) (R403). -/
def filterPeriodNs (notch : Nat) : Nat := if notch = 0 then 312500 else if notch = 1 then 260417 else 39063

/-- ns that a converter's injected sequence takes. -/
def Dev.auxInjNs (d : Dev) (c : Nat) : Nat :=
  ((List.range (min 8 (d.fget Reg.aux_auxc_INJ_LEN c))).map fun i => entryConvs (d.tactive 26 c (32 + i))).sum * d.auxConvNs c

/-- Whether the gap in progress between filter conversions can hold the injected sequence (R405). -/
def Dev.filterGap (d : Dev) (c : Nat) : Bool :=
  let x := d.auxc c
  decide (d.nsTo16 (d.auxInjNs c + d.auxConvNs c) * 65536 + (d.tb.acc - x.lastAt) ≤
    d.nsTo16 (filterPeriodNs (d.fget Reg.auxf_flt_NOTCH c)) * 65536)

/-- Whether an injected sequence of a converter's group is pending or running. -/
def Dev.injecting (d : Dev) (c : Nat) : Bool := (d.auxGroup c).any fun k => d.flag Reg.aux_auxc_INJ_PENDING k || (d.auxc k).inj.isSome

/-- An urgent trigger reaches one converter: missed while one is pending or running, else pending until a conversion ends. -/
def Dev.auxUrgent (d : Dev) (c : Nat) (busy : Bool) : Dev :=
  if busy then
    (if d.fget Reg.aux_auxc_INJ_LEN c = 0 then d else (d.finc Reg.aux_auxc_INJ_MISSED 1 c).raise 26 (Ev.aux_INJ_MISSED + c))
  else if d.fltOn c then
    (if d.fget Reg.aux_auxc_INJ_LEN c = 0 then d
     else if d.filterGap c then d.auxStartInj c
     else (d.fbit Reg.aux_auxc_INJ_PENDING true c).finc Reg.aux_auxc_INJ_DEFERRED 1 c)
  else if (d.auxGroup c).all fun k => d.fget Reg.aux_auxc_INJ_LEN k == 0 then d
  else d.fbit Reg.aux_auxc_INJ_PENDING true c

/-- Urgent triggers of a source on their way. -/
def Dev.urgent (d : Dev) (src : UrgentSource) : Nat :=
  match src with
  | .main => d.aux.urgMain
  | .trigIn k => KMap.at d.aux.urgTin 0 k
  | .alarm => d.aux.urgAlarm

/-- One urgent trigger of a source has arrived. -/
def Dev.urgentTaken (d : Dev) (src : UrgentSource) : Dev :=
  match src with
  | .main => { d with aux.urgMain := d.aux.urgMain - 1 }
  | .trigIn k => { d with aux.urgTin := KMap.put d.aux.urgTin k (KMap.at d.aux.urgTin 0 k - 1) }
  | .alarm => { d with aux.urgAlarm := d.aux.urgAlarm - 1 }

/-- An urgent trigger reaches ISL_AUX (R396). -/
def urgentTrigger (src : UrgentSource) (d : Dev) : Dev :=
  if d.urgent src = 0 then d
  else
    let d1 := d.urgentTaken src
    let hit := (List.range 4).filter fun c => (d1.auxOn c || d1.fltOn c) && d1.auxSelects c src
    let d2 := hit.foldl (fun (d : Dev) c => d.auxUrgent c (d1.injecting c)) d1
    hit.foldl (fun (d : Dev) c => if d.fltOn c then d else d.auxGo c) d2

/-! ### Numbers, the HBM buffer, the queue (R399, R401, R402) -/

/-- Records that the HBM buffer holds. -/
def Dev.auxBufRecords (d : Dev) : Nat := max 1 (d.fget Reg.aux_BUF_SIZE) * 4096

/-- BATCH in force. -/
def Dev.auxBatch (d : Dev) : Nat := max 1 (d.fget Reg.aux_BATCH)

/-- Emit one STREAM record of at most BATCH waiting records, if it fits (R402). -/
def Dev.auxEmit (d : Dev) : Dev × Bool :=
  let q := d.fget Reg.aux_QUEUE
  let rs := d.aux.batch.take d.auxBatch
  if rs.isEmpty || !d.recordFits q (16 * rs.length) then (d, false)
  else (({ d with
      aux.batch := d.aux.batch.drop rs.length
      aux.batchFirst := d.aux.batchFirst + rs.length }).deliverRecord q
        { kind := 4, source := d.aux.batchFirst % 2 ^ 32, source2 := 0, payload := rs.flatten }, true)

/-- Emit STREAM records while a whole batch waits. -/
def Dev.auxEmitAll : Nat → Dev → Dev
  | 0, d => d
  | n + 1, d =>
    if d.aux.batch.length < d.auxBatch then d
    else
      let r := d.auxEmit
      if r.2 then Dev.auxEmitAll n r.1 else r.1

/-- The record of a number joins the queue's wait buffer, or is lost to the queue (R402). -/
def Dev.auxQueue (d : Dev) (q : Nat) (ws : List Nat) : Dev :=
  if !d.flag Reg.aux_QUEUE_EN then d
  else if d.aux.batch.length < 4096 then
    Dev.auxEmitAll 4096 { d with
      aux.batch := d.aux.batch ++ [ws]
      aux.batchFirst := if d.aux.batch.isEmpty then q else d.aux.batchFirst }
  else (d.finc Reg.aux_QUEUE_LOST).raise 26 Ev.aux_QUEUE_LOST

/-- The waiting result that is numbered next: the earliest, and of equal instants the one of the lowest converter (R399). -/
def earliestResult : List AuxResult → Option AuxResult
  | [] => none
  | r :: rs => match earliestResult rs with
    | none => some r
    | some m => if m.at16 < r.at16 || (m.at16 == r.at16 && decide (m.conv < r.conv)) then some m else some r

/-- A result is numbered: it goes to the HBM buffer and to the queue (R399, R401, R402). -/
def resultNumbered (d : Dev) : Dev :=
  match earliestResult d.aux.waiting with
  | none => d
  | some r =>
    let q := d.aux.next
    let cap := d.auxBufRecords
    let hbm := d.flag Reg.aux_HBM_EN
    let oldest := if hbm then max d.aux.oldest (q + 1 - cap) else q + 1
    let d1 := { d with
      aux.waiting := d.aux.waiting.erase r
      aux.next := q + 1
      aux.oldest := oldest
      aux.log := (r.at16, q) :: d.aux.log }
    let d2 := (d1.fset Reg.aux_NEXT_SEQ (q + 1)).fset Reg.aux_OLDEST_SEQ oldest
    let d3 := if hbm then d2.storeWords (d.fget Reg.aux_BUF_BASE * 65536 + 16 * (q % 2 ^ 32 % cap)) r.words else d2
    d3.auxQueue q r.words

/-- FLUSH_US have passed since the oldest waiting record was numbered (R402). -/
def auxFlushTimer (d : Dev) : Dev := if d.flag Reg.aux_QUEUE_EN then d.auxEmit.1 else d

/-- AUX_SEQ of a window whose first sample lies at an instant: the number of the first record at or after it (R401). -/
def Dev.auxSeqFor (d : Dev) (at16 : Int) : Nat :=
  if d.flag Reg.aux_LINK_EN && (List.range 4).any fun c => d.auxOn c || d.fltOn c then
    (match (d.aux.log.takeWhile fun p => decide (at16 ≤ p.1)).getLast? with
    | some p => p.2 % 2 ^ 32
    | none => (d.aux.next + (d.aux.waiting.filter fun r => decide (r.at16 < at16)).length) % 2 ^ 32)
  else 0xFFFFFFFF

/-! ### Enabling (R397, R403 to R405, R407) -/

/-- A write that only clears one bit of a register: EN or RUN. -/
def onlyClears (old new : Nat) : Bool := old % 2 == 1 && new + 1 == old

/-- Whether a converter's settings agree with those of the enabled members of the group (R397). -/
def Dev.auxGroupOk (d : Dev) (c : Nat) : Bool :=
  !d.flag Reg.aux_auxc_SYNC c || (List.range 4).all fun k =>
    k == c || !d.auxOn k || !d.flag Reg.aux_auxc_SYNC k ||
      (d.fget Reg.aux_auxc_AUTO_PD k == d.fget Reg.aux_auxc_AUTO_PD c && d.fget Reg.aux_auxc_REG_PERIOD k == d.fget Reg.aux_auxc_REG_PERIOD c &&
        d.fget Reg.aux_auxc_SRC_MAIN k == d.fget Reg.aux_auxc_SRC_MAIN c && d.fget Reg.aux_auxc_SRC_TIN k == d.fget Reg.aux_auxc_SRC_TIN c &&
        d.fget Reg.aux_auxc_SRC_ALARM k == d.fget Reg.aux_auxc_SRC_ALARM c)

/-- The word of a register from its fields. -/
def Dev.regWord (d : Dev) (off : Nat) : Nat := ((regFields off).map fun fi => d.fget fi.1 fi.2 * 2 ^ fi.1.lsb).sum

/-- The RW bits of a register at an offset. -/
def rwMask (off : Nat) : Nat := ((regFields off).map fun fi => if fi.1.acc == .rw then (2 ^ fi.1.width - 1) * 2 ^ fi.1.lsb else 0).sum

/-- A converter goes off: nothing in progress. -/
def Dev.auxOff (d : Dev) (c : Nat) : Dev :=
  (((d.setAuxc c {}).fset Reg.aux_auxc_STATE 0 c).fset Reg.aux_auxc_STEP 0 c).fbit Reg.aux_auxc_INJ_PENDING false c

/-- A converter begins its regular sequence; one that joins a running group waits for its next step (R397). -/
def Dev.auxBegin (d : Dev) (c : Nat) : Dev :=
  if (d.auxGroup c).all fun k => k == c || (d.auxc k).idle then (d.setAuxc c {}).auxStartEntry c 0
  else ((d.setAuxc c { finished := true, fresh := true }).fset Reg.aux_auxc_STATE 1 c).auxGo c

/-- A write to AUXC_c.CFG (R397, R407). -/
def auxEnable (who : Requester) (c val : Nat) (d : Dev) : Dev :=
  let off := 0x100 + 0x20 * c
  if d.flag Reg.hdr_FREEZE 26 then d.logDiscard who 26 off val
  else
    let old := d.regWord (26 * 4096 + off)
    let new := val &&& rwMask (26 * 4096 + off)
    let w := (d.writeFields who (26 * 4096 + off) val (fun _ => false) fun _ => false).1
    let bad := if d.auxOn c then !onlyClears old new && old != new
      else decide (8 < bitField val 8 4) || (bitAt val 0 && !w.auxGroupOk c)
    if bad then (d.raise 26 Ev.aux_CFG_REFUSED).logDiscard who 26 off val
    else
      let d1 := if d.auxOn c && !bitAt new 0 then w.auxOff c
        else if !d.auxOn c && bitAt new 0 then w.auxBegin c else w
      d1.cfgEpoch 26

/-- A write to AUXF.FLT_c.CFG (R403 to R405). -/
def filterEnable (who : Requester) (c val : Nat) (d : Dev) : Dev :=
  let off := 0x100 + 0x10 * c
  if d.flag Reg.hdr_FREEZE 27 then d.logDiscard who 27 off val
  else
    let old := d.regWord (27 * 4096 + off)
    let new := val &&& rwMask (27 * 4096 + off)
    let slow := decide (filterPeriodNs (bitField val 2 2) < d.auxInjNs c + d.auxConvNs c)
    let bad := if d.fltOn c then !onlyClears old new && old != new else bitField val 2 2 == 3 || (bitAt val 0 && slow)
    if bad then (d.raise 27 Ev.auxf_CFG_REFUSED).logDiscard who 27 off val
    else
      let w := (d.writeFields who (27 * 4096 + off) val (fun _ => false) fun _ => false).1
      let d1 := if d.fltOn c && !bitAt new 0 then
          (if w.auxOn c then (w.auxOff c).auxBegin c else w.auxOff c)
        else if !d.fltOn c && bitAt new 0 then
          (((w.auxOff c).fset Reg.aux_auxc_STATE 3 c).fset Reg.auxf_flt_OUTPUTS 0 c).fbit Reg.auxf_flt_SETTLED false c
        else w
      d1.cfgEpoch 27

/-- Boxcars of the filter's ORDER. -/
def Dev.filterOrder (d : Dev) (c : Nat) : Nat := if d.flag Reg.auxf_flt_ORDER c then 4 else 3

/-- A conversion of the filter (R403 to R405): every 64th gives an output. -/
def filterConversion (c : Nat) (code0 : Int) (d : Dev) : Dev :=
  if !d.fltOn c then d
  else
    let code := (clampInt 0 4095 code0).toNat
    let k := d.filterOrder c
    let x := d.auxc c
    let integ := integrate code (if x.integ.isEmpty then List.replicate k 0 else x.integ)
    let n := x.count + 1
    let ch := d.fget Reg.auxf_flt_CHANNEL c
    let r := d.auxAlarm ch code
    let d1 := r.1.setAuxc c { x with integ := integ, count := n, lastAt := d.tb.acc }
    let d2 := if n % 64 != 0 then d1
      else
        let b := combStep (integ.getLastD 0) (if x.comb.isEmpty then List.replicate k 0 else x.comb)
        let y := (16 * b.2 + 64 ^ k / 2) / 64 ^ k
        let out := n / 64
        let d2 := ((d1.setAuxc c { d1.auxc c with comb := b.1 }).finc Reg.auxf_flt_OUTPUTS 1 c).fset Reg.auxf_flt_LAST y c
        let d3 := d2.auxResult c (auxWord0 (y % 65536) ch c false false false false r.2 true (decide (out < k)) d.auxSlow)
        if out = k then (d3.fbit Reg.auxf_flt_SETTLED true c).raise 27 (Ev.auxf_SETTLED + c) else d3
    if d2.flag Reg.aux_auxc_INJ_PENDING c then d2.auxStartInj c else d2

/-! ### Commands -/

/-- AUX_ENABLE (R397). -/
def execAuxEnable (who : Requester) (c : Fin 4) (val : Word) (s : State) : Host.Outcome State Fault Refusal :=
  .next (s.live fun s => s.onDev (auxEnable who c val.toNat))

/-- AUX_CONVERSION_DONE (R394). -/
def execAuxConversionDone (c : Fin 4) (code : Nat) (s : State) : Host.Outcome State Fault Refusal :=
  .next (s.live fun s => s.onDev (auxConversionDone c code))

/-- REG_PERIOD_TIMER (R395). -/
def execRegPeriodTimer (c : Fin 4) (s : State) : Host.Outcome State Fault Refusal := .next (s.live fun s => s.onDev (regPeriodTimer c))

/-- URGENT_TRIGGER (R396). -/
def execUrgentTrigger (src : UrgentSource) (s : State) : Host.Outcome State Fault Refusal := .next (s.live fun s => s.onDev (urgentTrigger src))

/-- AUX_CONV_TIMEOUT (R398). -/
def execAuxConvTimeout (c : Fin 4) (s : State) : Host.Outcome State Fault Refusal := .next (s.live fun s => s.onDev (auxConvTimeout c))

/-- RESULT_NUMBERED (R399). -/
def execResultNumbered (s : State) : Host.Outcome State Fault Refusal := .next (s.live fun s => s.onDevHbm resultNumbered)

/-- AUX_FLUSH_TIMER (R402). -/
def execAuxFlushTimer (s : State) : Host.Outcome State Fault Refusal := .next (s.live fun s => s.onDev auxFlushTimer)

/-- FILTER_ENABLE (R403). -/
def execFilterEnable (who : Requester) (c : Fin 4) (val : Word) (s : State) : Host.Outcome State Fault Refusal :=
  .next (s.live fun s => s.onDev (filterEnable who c val.toNat))

/-- FILTER_CONVERSION (R403). -/
def execFilterConversion (c : Fin 4) (code : Int) (s : State) : Host.Outcome State Fault Refusal :=
  .next (s.live fun s => s.onDev (filterConversion c code))

end Sys2Proof.Machine
end

