-- ==== Sys2Proof/Machine/Arm.lean ====
section
/-!
DEFINITION. Arming and stopping (R35, R36, R199 to R202, R238, R244), and the configuration registers of rings, windows, the
Ledger and the spill tier (R194, R201, R209, R211, R216).
-/

namespace Sys2Proof.Machine

/-! ### Spans of record space -/

/-- Whether two spans (start, length) share a byte. -/
def spansMeet (a b : Nat × Nat) : Bool := decide (a.1 < b.1 + b.2) && decide (b.1 < a.1 + a.2)

/-- The span of ring r in bytes. -/
def Dev.ringSpan (d : Dev) (r : Nat) : Nat × Nat := (d.fget Reg.acq_ring_BASE r * 65536, d.fget Reg.acq_ring_SIZE r * 65536)

/-- The enabled rings. -/
def Dev.ringsOn (d : Dev) : List Nat := (List.range 12).filter d.ringOn

/-- The Ledger region (R209). -/
def Dev.ledgSpan (d : Dev) : Nat × Nat := (d.fget Reg.ledg_BASE * 65536, 2 ^ d.resLog2 * 64)

/-- Whether a span lies past 45 GiB, or overlaps an enabled ring or the Ledger region, as R200 checks them. -/
def Dev.spanBad (d : Dev) (s : Nat × Nat) : Bool :=
  decide (hbmSize < s.1 + s.2) || (d.ringsOn.any fun r => spansMeet s (d.ringSpan r)) || spansMeet s d.ledgSpan

/-- Spill region k in 2 MiB units, where it is in use (R216): the spill ring of ring k below 12, the spill Ledger (12), the segment
spill area (13). -/
def Dev.spillRegion (d : Dev) (k : Nat) : Option (Nat × Nat) :=
  if k < 12 then
    (if d.flag Reg.acq_ring_STREAM_EN k && d.fget Reg.acq_ring_SPILL_SIZE k != 0 then
      some (d.fget Reg.acq_ring_SPILL_BASE k, d.fget Reg.acq_ring_SPILL_SIZE k) else none)
  else if k = 12 then
    (if d.flag Reg.ledg_SPILL_LEDGER_EN then some (d.fget Reg.ledg_SPILL_LEDGER_BASE, 2 ^ (d.spillLog2 - 15)) else none)
  else if d.fget Reg.ledg_SEGSPILL_SIZE = 0 then none
  else some (d.fget Reg.ledg_SEGSPILL_BASE, d.fget Reg.ledg_SEGSPILL_SIZE)

/-- The spill regions in use (R216). -/
def Dev.spillRegions (d : Dev) : List (Nat × Nat) := (List.range 14).filterMap d.spillRegion

/-- Whether spill region k overlaps one of some other regions. -/
def Dev.spillMeets (d : Dev) (k : Nat) (others : List Nat) : Bool :=
  match d.spillRegion k with
  | none => false
  | some s => others.any fun j => j != k && ((d.spillRegion j).any fun x => spansMeet s x)

/-- Whether spill region k lies beyond the spill size. -/
def Dev.spillBeyond (d : Dev) (k : Nat) : Bool := (d.spillRegion k).any fun s => decide (d.spillUnits < s.1 + s.2)

/-- Whether a write that makes `new` of a device makes two spill regions overlap, or places one beyond the spill size (R216): a region
that the write leaves as it was is not placed by it. -/
def Dev.spillWorse (d new : Dev) : Bool :=
  (List.range 14).any fun k => new.spillRegion k != d.spillRegion k && (new.spillBeyond k || new.spillMeets k (List.range 14))

/-! ### The checks of an arm (R200, R203, R219, R242, R244, R383) -/

/-- A field that an arm finds wrong: element, field, and whether the DECI page records it as well (R244). -/
structure ArmFault where
  elem : Nat
  field : Field
  deci : Bool := false

/-- The first fault of a list of checks. -/
def firstFault : List (Bool × ArmFault) → Option ArmFault
  | [] => none
  | (b, f) :: t => if b then some f else firstFault t

/-- The checks on one ring: enabled where its input is sampled, within record space, clear of the Ledger and of earlier
rings. -/
def Dev.ringChecks (d : Dev) (r : Nat) : List (Bool × ArmFault) :=
  [(r < 4 && (sampledInputs d.mode).contains r != d.ringOn r, { elem := r, field := Reg.acq_ring_SIZE }),
   (d.ringOn r && (decide (hbmSize < (d.ringSpan r).1 + (d.ringSpan r).2) || spansMeet (d.ringSpan r) d.ledgSpan ||
      (d.ringsOn.any fun q => decide (q < r) && spansMeet (d.ringSpan q) (d.ringSpan r))), { elem := r, field := Reg.acq_ring_BASE }),
   (d.spillBeyond r || d.spillMeets r [12, 13], { elem := r, field := Reg.acq_ring_SPILL_BASE })]

/-- The checks on one chain (R244). -/
def Dev.chainChecks (d : Dev) (c : Nat) : List (Bool × ArmFault) :=
  let k := d.chainCfg c
  let on := d.chainOn c
  [(!on && d.ringOn (4 + c), { elem := c, field := Reg.deci_dch_EN, deci := true }),
   (on && (!d.chainSampled c || !d.ringOn (4 + c)), { elem := c, field := Reg.deci_dch_EN, deci := true }),
   (on && decide (4 < k.mode), { elem := c, field := Reg.deci_dch_MODE, deci := true }),
   (on && !k.orderOk, { elem := c, field := Reg.deci_dch_CIC_ORDER, deci := true }),
   (on && !k.ratioOk, { elem := c, field := Reg.deci_dch_RATIO_M1, deci := true }),
   (on && !k.rfOk, { elem := c, field := Reg.deci_dch_FIR_RF, deci := true })]

/-- The window lengths fit every ring of SEG_RINGS, or DELAYED_WINDOW lifts the check (R203, R204, R240). -/
def Dev.windowFits (d : Dev) : Bool := d.flag Reg.acq_DELAYED_WINDOW || decide (d.preLen + d.postLen ≤ d.minCap)

/-- The first fault that refuses an arm, in the order of R200, R219, R244, R383. -/
def Dev.armFault (d : Dev) : Option ArmFault :=
  let seg := d.fget Reg.acq_SEG_RINGS
  firstFault (((List.range 12).flatMap d.ringChecks) ++
    [(seg == 0 || (ringsOf seg).any fun r => !d.ringOn r, { elem := 0, field := Reg.acq_SEG_RINGS }),
     (!d.windowFits, { elem := 0, field := Reg.acq_POST_LEN_W0 }),
     (d.flag Reg.ledg_SPILL_LEDGER_EN && decide (d.spillUnits < d.fget Reg.ledg_SPILL_LEDGER_BASE + 2 ^ (d.spillLog2 - 15)),
       { elem := 0, field := Reg.ledg_SPILL_LEDGER_BASE }),
     (d.flag Reg.cas_TRIG_TX && decide (d.fget Reg.cas_H_TICKS < d.fget Reg.tseq_QUAL_TIME), { elem := 0, field := Reg.tseq_QUAL_TIME })] ++
    ((List.range 8).flatMap d.chainChecks) ++
    [(decide (d.fget Reg.deci_RATE_LIMIT < d.rateTotal), { elem := 0, field := Reg.deci_RATE_TOTAL, deci := true })])

/-- Record a refused arm: ARM_REFUSED, the field in the ACQ page, and in the DECI page for a field of a chain (R200, R244,
R514). -/
def Dev.armRefused (d : Dev) (f : ArmFault) : Dev :=
  let d1 := (d.raise 22 Ev.acq_ARM_REFUSED).logErr 22 Ev.acq_ARM_REFUSED f.elem (fieldLocator f.field f.elem)
  if f.deci then d1.logErr 24 0xF2 f.elem (fieldLocator f.field f.elem) else d1

/-- Whether an arm may be asked for at all (R35, R72). -/
def Dev.armReady (d : Dev) : Bool := d.flag Reg.top_READY && d.flag Reg.loom_MODE_READY

/-- An arm is accepted: armed from this moment; foreground runs that were to start are deferred (R107, R199). -/
def Dev.armAccept (d : Dev) : Dev :=
  let d1 := { d with acq.armPending := true, acq.stopTaken := false, acq.stopAt := none }.fbit Reg.acq_ARMED true
  ((List.range 4).filter fun g => bitAt d1.assay.fgDue g).foldl (fun (d : Dev) g => d.fgDefer g false) d1

/-- H follows the horizon that the next arm uses: ceil(HORIZON_NS × f_nom / 8 / 10^9) ticks (R381). -/
def Dev.takeHorizon (d : Dev) : Dev :=
  if d.armed then d
  else
    d.fset Reg.cas_H_TICKS ((d.fget Reg.cas_HORIZON_NS * d.fget Reg.tbase_NOMINAL_FREQ + 7999999) / 8000000)

/-- A write of 1 to ACQ.CTRL.ARM (R199, R35). -/
def armWrite (who : Requester) (val : Nat) (d0 : Dev) : Dev :=
  let d := d0.takeHorizon
  if d.armed then d
  else if !d.armReady then d.logDiscard who 22 0x040 val
  else match d.armFault with
    | some f => d.armRefused f
    | none => d.armAccept

/-- The ARM command (Table 12.3, R35, R199). While the device is both armed and FAILED, ARMED is tested first (DESIGN CHOICE, log entry 33). -/
def armCommand (id : Nat) (d0 : Dev) : Dev :=
  let d := d0.takeHorizon
  if d.armed then
    (if d.flag Reg.acq_STOPPING then d.finishCmd id 7 0
     else if d.acq.armPending then { d with acq.armCmds := d.acq.armCmds ++ [id] }
     else d.finishCmd id 0 d.armIndex)
  else if d.flag Reg.top_FAILED then d.finishCmd id 2 0
  else if !d.armReady then d.finishCmd id 7 0
  else match d.armFault with
    | some f => (d.armRefused f).finishCmd id 1 0
    | none => ({ d with acq.armCmds := d.acq.armCmds ++ [id] }).armAccept

/-! ### The arm boundary (R36, R199, R238) -/

/-- The first index that ring r writes in an arm: ARM_INDEX, or d0 of a decimator ring (R199, R238). -/
def Dev.firstIndex (d : Dev) (r armIndex : Nat) : Nat :=
  if r < 4 then armIndex
  else
    let c := r - 4
    let k := d.chainCfg c
    let b := (d.blockOf r).1
    let settle := if (d.chain c).r0.isSome then (d.chain c).start else k.settleIndex armIndex
    let m := max ((armIndex + k.ratio - 1) / k.ratio) settle
    (m + b - 1) / b * b

/-- A ring at the arm boundary: its ANCHOR is set and it writes from its write position (R199); what it stored before and has not written
to its spill ring still goes there first, or is lost (R222). -/
def Dev.ringArm (d : Dev) (armIndex : Nat) (writes : Bool) (r : Nat) : Dev :=
  if !d.ringOn r then d.setRing r { d.ring r with writing := false }
  else
    let x := d.ring r
    let i := d.firstIndex r armIndex
    let blk := d.blockOf r
    let waits := d.flag Reg.acq_ring_STREAM_EN r && decide (x.spill < x.write)
    let d1 := (d.setRing r { x with
      anchor := (i : Int) - (x.pos / blk.2 * blk.1 : Nat)
      armFirst := if x.fresh then i else x.armFirst
      fresh := false
      issued := i
      write := i
      spill := if waits then x.spill else i
      past := if waits then x.past ++ [(x.write, x.anchor, i)] else []
      writing := writes }).spillCheck r
    if r < 4 then d1 else d1.fset64 Reg.deci_dch_FIRST_OUT_W0 Reg.deci_dch_FIRST_OUT_W1 i (r - 4)

/-- The end of an armed period: every ring has stopped (R202). -/
def Dev.armEnd (d : Dev) : Dev :=
  let d1 := ({ d with acq.stopTaken := false, acq.stopAt := none, acq.evaluating := false, acq.stopCmds := [] }.fbit Reg.acq_ARMED false).fbit
    Reg.acq_STOPPING false
  (d1.raise 22 Ev.acq_STOP_DONE).finishCmds 0 0 d.acq.stopCmds

/-- The arm boundary at the tick of the next weft (R36, R199). A stop that was asked for before it takes effect here (R202). -/
def Dev.armTake (d : Dev) : Dev :=
  let stop := d.flag Reg.acq_STOPPING
  let i := samplesPer d.mode * d.loom.tick
  let d1 := { d with acq.armPending := false, acq.evaluating := !stop, acq.armCmds := [] }.fset64 Reg.acq_ARM_INDEX_W0
    Reg.acq_ARM_INDEX_W1 i
  let d2 := (List.range 12).foldl (fun (d : Dev) r => d.ringArm i (!stop) r) d1
  let d3 := d2.finishCmds 0 i d.acq.armCmds
  if stop then d3.armEnd else d3

/-! ### Stopping (R202) -/

/-- A stop is asked for; ignored while not armed. -/
def Dev.stopRequest (d : Dev) : Dev := if d.armed then d.fbit Reg.acq_STOPPING true else d

/-- The STOP command (Table 12.3). -/
def stopCommand (id : Nat) (d : Dev) : Dev :=
  if d.armed then ({ d with acq.stopCmds := d.acq.stopCmds ++ [id] }).stopRequest else d.finishCmd id 0 1

/-- The stop boundary (R202, R515): trigger evaluation ends. -/
def stopBoundary (d : Dev) : Dev :=
  if d.flag Reg.acq_STOPPING && !d.acq.armPending && !d.acq.stopTaken then { d with
    acq.evaluating := false
    acq.stopTaken := true
    acq.stopAt := some (d.tb.acc / 2 ^ 16) } else d

/-- Every ring has stopped and what it issued is stored (R202). -/
def Dev.ringsStopped (d : Dev) : Bool :=
  (List.range 12).all fun r => !(d.ring r).writing && (d.ring r).buf.isEmpty && (r < 4 || (d.chain (r - 4)).waiting.isEmpty)

/-- The rings have stopped: the device is no longer armed (R202). -/
def stopDone (d : Dev) : Dev := if d.acq.stopTaken && d.ringsStopped && d.windowsDone then d.armEnd else d

/-! ### Configuration writes -/

/-- The fields of the ACQ and LEDG pages that are locked while armed (R201, R209). -/
def acqLocked (f : Field) : Bool :=
  f == Reg.acq_ring_BASE || f == Reg.acq_ring_SIZE || f == Reg.acq_SEG_RINGS || f == Reg.acq_PRE_LEN_W0 || f == Reg.acq_PRE_LEN_W1 ||
    f == Reg.acq_POST_LEN_W0 || f == Reg.acq_POST_LEN_W1 || f == Reg.ledg_BASE || f == Reg.ledg_RES_LOG2

/-- The staging key of a requester's higher word (R21). -/
def stageKey (who : Requester) (off : Nat) : Nat := who.code * 2 ^ 24 + off

/-- Stage a higher word (R21, R22). -/
def Dev.stage (d : Dev) (who : Requester) (off val : Nat) : Dev :=
  { d with bus.staged := KMap.put d.bus.staged (stageKey who off) val }

/-- Commit the staged higher words of some offsets into their registers (R21). -/
def Dev.commitStaged (d : Dev) (who : Requester) (offs : List Nat) : Dev :=
  offs.foldl (fun (d : Dev) off =>
    match KMap.find d.bus.staged (stageKey who off) with
    | none => d
    | some v =>
      let d1 := { d with bus.staged := KMap.del d.bus.staged (stageKey who off) }
      (regFields off).foldl (fun (d : Dev) fi =>
        if fi.1.acc == .w1c then d.fset fi.1 (andNot (d.fget fi.1 fi.2) (fi.1.bitsOf v)) fi.2
        else d.fset fi.1 (fi.1.held (fi.1.bitsOf v)) fi.2) d1) d

/-- A ring's BASE or SIZE has changed: the ring is laid out afresh (R201). -/
def Dev.relayIf (old : Dev) (d : Dev) (r : Nat) : Dev :=
  if d.ringSpan r = old.ringSpan r then d else d.layRing r

/-- A write to the ACQ page's configuration at a page offset (R194, R201, R216): ring blocks, PRE_LEN, POST_LEN, SEG_RINGS and
the rest, but not ARM and STOP. -/
def acqConfigWrite (who : Requester) (off val : Nat) (d : Dev) : Dev :=
  if d.flag Reg.hdr_FREEZE 22 then d.logDiscard who 22 off val
  else
    let lock := fun f => d.armed && acqLocked f
    let r := d.writeFields who (22 * 4096 + off) val (fun _ => false) lock
    let ring := (off - 0x100) / 0x40
    let isRing := decide (0x100 ≤ off) && decide (off < 0x400)
    if isRing && decide (0x2C ≤ (off - 0x100) % 0x40) && d.spillWorse r.1 then d.logDiscard who 22 off val
    else
      let d1 := if isRing then d.relayIf r.1 ring else r.1
      if r.2 then d1.cfgEpoch 22 else d1

/-- A write to PRE_LEN or POST_LEN (R21, R201): W1 is staged, W0 commits; both are discarded while armed. -/
def lenWrite (who : Requester) (off val : Nat) (d : Dev) : Dev :=
  if d.flag Reg.hdr_FREEZE 22 then d.logDiscard who 22 off val
  else if d.armed && d.changesLocked (22 * 4096 + off) val acqLocked then d.logDiscard who 22 off val
  else if off % 8 = 4 then (d.stage who (22 * 4096 + off) val).cfgEpoch 22
  else if d.armed then d.cfgEpoch 22
  else ((d.commitStaged who [22 * 4096 + off + 4]).writeFields who (22 * 4096 + off) val (fun _ => false) fun _ => false).1.cfgEpoch 22

/-- A write to the LEDG page's configuration (R194, R209, R216, R219, R221). -/
def ledgConfigWrite (who : Requester) (off val : Nat) (d : Dev) : Dev :=
  if d.flag Reg.hdr_FREEZE 23 then d.logDiscard who 23 off val
  else
    let lock := fun f => d.armed && acqLocked f
    let r := d.writeFields who (23 * 4096 + off) val (fun _ => false) lock
    if (off = 0x040 || off = 0x048 || off = 0x080 || off = 0x084) && d.spillWorse r.1 then d.logDiscard who 23 off val
    else if r.2 then r.1.cfgEpoch 23 else r.1

/-- A write of W0 of RELEASE (R211, R224): with the staged W1, it names one segment. -/
def ledgRelease (who : Requester) (val : Nat) (d : Dev) : Dev :=
  d.writeGate who 23 0x060 val false fun d =>
    let d1 := d.commitStaged who [23 * 4096 + 0x064]
    d1.releaseOne (val + 2 ^ 32 * d1.fget Reg.ledg_RELEASE_W1)

/-- A write of W0 of RELEASE_UPTO (R211, R224): every segment below the value. -/
def releaseUptoWrite (who : Requester) (val : Nat) (d : Dev) : Dev :=
  d.writeGate who 23 0x068 val false fun d =>
    let d1 := d.commitStaged who [23 * 4096 + 0x06C]
    d1.releaseUpto (val + 2 ^ 32 * d1.fget Reg.ledg_RELEASE_UPTO_W1)

/-- A write to a ring block, to PRE_LEN or POST_LEN, or to another configuration register of the ACQ page. -/
def ringConfigWrite (who : Requester) (off val : Nat) (d : Dev) : Dev :=
  if 0x048 ≤ off ∧ off < 0x058 then lenWrite who off val d else acqConfigWrite who off val d

/-! ### Commands -/

/-- CTRL_ARM (R199). -/
def execCtrlArm (who : Requester) (s : State) : Host.Outcome State Fault Refusal :=
  .next (s.live fun s => s.onDev fun d => d.writeGateIf who 22 0x040 1 (fun d => !d.armed && (!d.armReady || d.takeHorizon.armFault.isSome)) (armWrite who 1))

/-- CTRL_STOP (R202). -/
def execCtrlStop (who : Requester) (s : State) : Host.Outcome State Fault Refusal :=
  .next (s.live fun s => s.onDev fun d => d.writeGate who 22 0x040 2 false Dev.stopRequest)

/-- STOP_BOUNDARY (R515). -/
def execStopBoundary (s : State) : Host.Outcome State Fault Refusal := .next (s.live fun s => s.onDev stopBoundary)

/-- STOP_DONE (R202). -/
def execStopDone (s : State) : Host.Outcome State Fault Refusal := .next (s.live fun s => s.onDev stopDone)

/-- LEDG_RELEASE (R211). -/
def execLedgRelease (who : Requester) (val : Word) (s : State) : Host.Outcome State Fault Refusal :=
  .next (s.live fun s => s.onDev (ledgRelease who val.toNat))

/-- RELEASE_UPTO (R211). -/
def execReleaseUpto (who : Requester) (val : Word) (s : State) : Host.Outcome State Fault Refusal :=
  .next (s.live fun s => s.onDev (releaseUptoWrite who val.toNat))

/-- RING_CONFIG_WRITE (R201). -/
def execRingConfigWrite (who : Requester) (off : Nat) (val : Word) (s : State) : Host.Outcome State Fault Refusal :=
  .next (s.live fun s => s.onDev (ringConfigWrite who (off % 4096) val.toNat))

end Sys2Proof.Machine
end

