-- ==== Sys2Proof/Machine/Timebase.lean ====
section
/-!
DEFINITION. The timebase: discipline, coasting, slewing, PPS alignment, epochs and the EPOCH table (R58 to R68).
-/

namespace Sys2Proof.Machine

/-! ### Epochs -/

/-- The eight words of an EPOCH entry (Table 02.12): causes at [23:16], first tick, offset in fraction LSBs, CRC. -/
def epochEntry (e causes tick : Nat) (off : Int) : List Nat :=
  let o := ofSigned 80 off
  let ws := [e % 65536 + 65536 * causes, tick % 2 ^ 32, tick / 2 ^ 32 % 2 ^ 32, o / 2 ^ 16 % 2 ^ 32, o / 2 ^ 48 % 2 ^ 32, o % 2 ^ 16, 0]
  ws ++ [crc32c ws]

/-- Bit numbers of CAUSE within [23:16] of an EPOCH entry (Table 02.12). -/
def causeRefStep : Nat := 0
/-- CLK_S gap. -/
def causeGap : Nat := 1
/-- TBASE.SET. -/
def causeSet : Nat := 2
/-- PPS load. -/
def causePps : Nat := 3
/-- Cascade uplink step. -/
def causeUplink : Nat := 4
/-- Nominal frequency change. -/
def causeNominal : Nat := 5

/-- A discontinuity takes effect: the epoch increments and its entry is written; one that falls in the same tick as another
is combined with it in one entry (R65, R67). -/
def Dev.beginEpoch (d : Dev) (cause : Nat) (off : Int) : Dev :=
  match d.tb.openEntry with
  | some (c, o) =>
    let causes := c ||| 2 ^ cause
    ({ d with tb.openEntry := some (causes, o + off) }).tsetWords 6 0 0 (d.fget Reg.tbase_EPOCH % 4096 * 8)
      (epochEntry (d.fget Reg.tbase_EPOCH) causes d.nowTick (o + off))
  | none =>
    let e := (d.fget Reg.tbase_EPOCH + 1) % 65536
    let d1 := { d with
      tb.openEntry := some (2 ^ cause, off)
      tb.epochs := d.tb.epochs + 1
      tb.changes := (d.loom.tick :: d.tb.changes).take 4096 }
    let d2 := ((d1.fset Reg.tbase_EPOCH e).tsetWords 6 0 0 (e % 4096 * 8) (epochEntry e (2 ^ cause) d.nowTick off)).raise 6
      Ev.tbase_EPOCH_INC
    if 4096 ≤ d.tb.epochs then d2.raise 6 Ev.tbase_EPOCH_WRAP else d2

/-- Load the accumulator and begin an epoch whose offset is the step taken (R64, R65). -/
def Dev.loadAcc (d : Dev) (acc cause : Nat) : Dev :=
  ({ d with tb.acc := acc % 2 ^ 96 }).beginEpoch cause ((acc / 2 ^ 16 : Nat) - (d.tb.acc / 2 ^ 16 : Nat))

/-- Step the accumulator by a phase error in fraction LSBs and begin an epoch (R63). -/
def Dev.stepAcc (d : Dev) (e : Int) (cause : Nat) : Dev :=
  ({ d with tb.acc := (((d.tb.acc : Int) + e * 65536) % (2 ^ 96 : Nat)).toNat }).beginEpoch cause e

/-! ### Discipline -/

/-- RATIO for an INC: (1 / INC − 1) × 10^12, rounded and saturating (Table in R68). -/
def ratioOf (inc : Nat) : Int :=
  clampInt (-2147483648) 2147483647 (roundDivAway (((2 ^ 32 : Nat) - (inc : Int)) * 1000000000000) (max 1 inc))

/-- Discipline sets INC, and RATIO with it. -/
def Dev.setInc (d : Dev) (inc : Nat) : Dev := ({ d with tb.inc := inc }).fsetS Reg.tbase_RATIO (ratioOf inc)

/-- COAST_TIME: the time that has passed in the coast, whatever was loaded meanwhile (R62). -/
def Dev.coastUs (d : Dev) : Nat := min (2 ^ 32 - 1) (d.tb.coastBase + d.ticksToUs (d.tb.coast / 2 ^ 32))

/-- The discipline source is lost: the timebase coasts with INC frozen; a slew stops at the correction already applied (R62,
R63). -/
def refLost (d : Dev) : Dev :=
  if d.flag Reg.tbase_REF_VALID then
    ((((({ d with tb.coast := 0, tb.coastBase := 0, tb.slew := 0 }).fbit Reg.tbase_REF_VALID false).fbit Reg.tbase_COASTING true).fbit
      Reg.tbase_SLEWING false).fset Reg.tbase_COAST_TIME 0).raise 6 Ev.tbase_REF_LOST
  else d

/-- A step of the second-order loop on a tracked source (R61): it sets INC and corrects phase, at no more than 1 ps per µs. -/
def Dev.track (d : Dev) (inc : Nat) (phase : Int) : Dev :=
  (({ d with tb.slew := if d.flag Reg.tbase_SLEWING then d.tb.slew else phase * 65536 }).setInc
    (Config.loopInc (d.fget Reg.tbase_LOOP_BW) phase inc d.tb.inc)).fsetS Reg.tbase_PHASE_ERR (clampInt (-2147483648) 2147483647 phase)

/-- Whether there is no source to discipline to: REF_SEL is 0, the device yields to another root (R377), or the cascade's SYNC source has
not become valid (R378). -/
def Dev.noSource (d : Dev) : Bool :=
  d.fget Reg.tbase_REF_SEL == 0 || d.cas.yields || (d.fget Reg.tbase_REF_SEL == 3 && !d.flag Reg.cas_SYNCED)

/-- A discipline source is found valid after 100 µs, or is outside ±200 ppm and not used, so that the timebase coasts (R61, R66). A source
that has become valid sets INC to the rate measured; while it is tracked the loop follows it, the cascade at each of its exchanges
(R378). After a coast REF_RETURN is raised and the phase measurement follows (Table 02.11). -/
def disciplineSourceValid (inRange : Bool) (inc : Nat) (phase : Int) (d : Dev) : Dev :=
  if d.noSource then d
  else if !inRange then (refLost d).fbit Reg.tbase_REF_MISMATCH true
  else
    let d1 := (d.fbit Reg.tbase_REF_MISMATCH false).fbit Reg.tbase_REF_VALID true
    if d.flag Reg.tbase_COASTING then (if d.flag Reg.tbase_REF_VALID then d1 else d1.raise 6 Ev.tbase_REF_RETURN)
    else if !d.flag Reg.tbase_REF_VALID then d1.setInc inc
    else if d.fget Reg.tbase_REF_SEL = 3 then d1
    else d1.track inc phase

/-- Whether a phase error in fraction LSBs is at most 100 ps: |e| × 8 × 10^9 / (65,536 f_nom) with f_nom in kHz (R63). -/
def within100ps (e : Int) (fNomKhz : Nat) : Bool := decide (e.natAbs * 8000000000 ≤ 100 * 65536 * fNomKhz)

/-- PHASE_ERR has been measured over 10 µs after a return: slew up to 100 ps, else step and begin an epoch (R63). -/
def refReturn (e : Int) (d : Dev) : Dev :=
  if d.flag Reg.tbase_COASTING && d.flag Reg.tbase_REF_VALID then
    let d1 := ((d.fset Reg.tbase_COAST_TIME d.coastUs).fbit Reg.tbase_COASTING false).fsetS Reg.tbase_PHASE_ERR
      (clampInt (-2147483648) 2147483647 e)
    if within100ps e (d.fget Reg.tbase_NOMINAL_FREQ) then ({ d1 with
      tb.slew := e * 65536
      tb.slews := d1.tb.slews + 1 }).fbit Reg.tbase_SLEWING true
    else d1.stepAcc e (if d.fget Reg.tbase_REF_SEL = 3 then causeUplink else causeRefStep)
  else d

/-- The slew completes: what remains of it is applied (R63). -/
def slewDone (d : Dev) : Dev :=
  if d.flag Reg.tbase_SLEWING then
    (({ d with
        tb.acc := (((d.tb.acc : Int) + d.tb.slew) % (2 ^ 96 : Nat)).toNat
        tb.slew := 0 }).fbit Reg.tbase_SLEWING false).raise 6 Ev.tbase_SLEW_DONE
  else d

/-! ### PPS, SET, NOMINAL_FREQ -/

/-- A write of 1 to PPS_ARM; while an arm is pending it has no effect (R64). -/
def ppsArm (d : Dev) : Dev :=
  if d.flag Reg.tbase_PPS_ARM then d else ({ d with tb.ppsMissing := false }).fbit Reg.tbase_PPS_ARM true

/-- A rising PPS_IN edge: recorded in PPS_STAMP, and a pending arm loads the tick count (R64). -/
def ppsInEdge (d : Dev) : Dev :=
  let st := d.stampOf d.nowTick 0
  let d1 := ((d.fset Reg.tbase_PPS_STAMP_W0 (st.getD 0 0)).fset Reg.tbase_PPS_STAMP_W1 (st.getD 1 0)).fset Reg.tbase_PPS_STAMP_W2
    (st.getD 2 0)
  if d.flag Reg.tbase_PPS_ARM then
    (d1.fbit Reg.tbase_PPS_ARM false).loadAcc (d.fget64 Reg.tbase_PPS_LOAD_W0 Reg.tbase_PPS_LOAD_W1 * 2 ^ 32) causePps
  else d1

/-- No PPS_IN edge within 1.1 s of the arm: PPS_MISSING once for that arm (R64). -/
def ppsMissing (d : Dev) : Dev :=
  if d.flag Reg.tbase_PPS_ARM && !d.tb.ppsMissing then ({ d with tb.ppsMissing := true }).raise 6 Ev.tbase_PPS_MISSING else d

/-- SET_COMMIT loads TBASE.SET into the tick count and fraction (Table 02.13, R65). -/
def setCommit (d : Dev) : Dev :=
  d.loadAcc (d.fget64 Reg.tbase_SET_W1 Reg.tbase_SET_W2 * 2 ^ 32 + d.fget Reg.tbase_SET_W0 / 65536 * 65536) causeSet

/-- A change of NOMINAL_FREQ begins an epoch with offset 0 (R66); the current value written again is no change (R509). -/
def nominalFreqWrite (val : Nat) (d : Dev) : Dev :=
  if val % 2 ^ 32 = d.fget Reg.tbase_NOMINAL_FREQ then d
  else ({ d with tb.coastBase := d.tb.coastBase + d.ticksToUs (d.tb.coast / 2 ^ 32), tb.coast := 0 }.fset Reg.tbase_NOMINAL_FREQ
    val).beginEpoch causeNominal 0

/-- A new REF_SEL: with none INC is exactly 1.0 and RATIO 0; another source starts out neither valid nor coasting (R61). A coast that it
ends keeps its time in COAST_TIME. -/
def refSelChanged (d0 : Dev) : Dev :=
  let d := if d0.flag Reg.tbase_COASTING then d0.fset Reg.tbase_COAST_TIME d0.coastUs else d0
  let d1 := (((({ d with tb.slew := 0 }).fbit Reg.tbase_REF_VALID false).fbit Reg.tbase_COASTING false).fbit Reg.tbase_SLEWING
    false).fbit Reg.tbase_REF_MISMATCH false
  if d.fget Reg.tbase_REF_SEL = 0 then d1.setInc (2 ^ 32) else d1

/-! ### Commands -/

/-- DISCIPLINE_SOURCE_VALID (R61). -/
def execDisciplineSourceValid (inRange : Bool) (found : Nat × Int) (s : State) : Host.Outcome State Fault Refusal :=
  .next (s.live fun s => s.onDev (disciplineSourceValid inRange found.1 found.2))

/-- REF_LOST (R62). -/
def execRefLost (s : State) : Host.Outcome State Fault Refusal := .next (s.live fun s => s.onDev refLost)

/-- REF_RETURN (R63). -/
def execRefReturn (phaseErr : Int) (s : State) : Host.Outcome State Fault Refusal := .next (s.live fun s => s.onDev (refReturn phaseErr))

/-- SLEW_DONE (R63). -/
def execSlewDone (s : State) : Host.Outcome State Fault Refusal := .next (s.live fun s => s.onDev slewDone)

/-- PPS_ARM (R64). -/
def execPpsArm (who : Requester) (s : State) : Host.Outcome State Fault Refusal :=
  .next (s.live fun s => s.onDev fun d => d.writeGate who 6 0x040 4 false ppsArm)

/-- PPS_IN_EDGE (R64). -/
def execPpsInEdge (s : State) : Host.Outcome State Fault Refusal := .next (s.live fun s => s.onDev ppsInEdge)

/-- PPS_MISSING (R64). -/
def execPpsMissing (s : State) : Host.Outcome State Fault Refusal := .next (s.live fun s => s.onDev ppsMissing)

/-- SET_COMMIT (R65): an expert field. -/
def execSetCommit (who : Requester) (s : State) : Host.Outcome State Fault Refusal :=
  .next (s.live fun s => s.onDev fun d => d.writeGate who 6 0x040 8 true setCommit)

/-- NOMINAL_FREQ_WRITE (R66). -/
def execNominalFreqWrite (who : Requester) (val : Word) (s : State) : Host.Outcome State Fault Refusal :=
  .next (s.live fun s => s.onDev fun d => d.writeGate who 6 0x048 val.toNat false (nominalFreqWrite val.toNat))

end Sys2Proof.Machine
end

