-- ==== Sys2Proof/Machine/Clock.lean ====
section
/-!
DEFINITION. The sample clock: DLLs, island clocks and their reference, the frequency monitor (R2, R44 to R57, R507, R510).
-/

namespace Sys2Proof.Machine

/-! ### Dither seeds (R50) -/

/-- A 32-bit rotation to the left. -/
def rotl32 (w k : Nat) : Nat := w * 2 ^ (k % 32) % 2 ^ 32 + w / 2 ^ (32 - k % 32)

/-- The seed of DLL_g (R50): DITHER_SEED rotated left by 8g; 0 is replaced by the reset value. -/
def ditherSeed (seed g : Nat) : Nat := rotl32 (if seed = 0 then 0x5A3C96E1 else seed) (8 * g)

/-! ### DLLs -/

/-- The DLL_STATE code of a phase (Table 02.5). -/
def DllPhase.code : DllPhase → Nat
  | .noClock => 0 | .searching => 1 | .locked => 2 | .hold => 3

/-- Replace DLL_g, and with it what DLL_STATE, ALL_LOCKED and DLL_CODE_g show; GOOD only where FINE and BAND hold the last good code
(Table 02.7). -/
def Dev.setDll (d : Dev) (g : Nat) (x : Dll) : Dev :=
  let d1 := { d with clk.dlls := KMap.put d.clk.dlls g x }
  let d2 := d1.fset Reg.clk_DLL_STATE (((List.range 4).map fun k => (d1.dll k).phase.code * 4 ^ k).sum)
  ((((d2.fbit Reg.clk_ALL_LOCKED d1.allLocked).fset Reg.clk_FINE x.fine g).fset Reg.clk_BAND x.band g).fbit Reg.clk_GOOD
    (x.good == some (x.band, x.fine)) g)

/-- The CLK_S range of a coarse band in kHz (Table 02.3). -/
def bandRange (b : Nat) : Nat × Nat :=
  match b with
  | 0 => (4000000, 4620000) | 1 => (4480000, 5180000) | 2 => (5030000, 5820000) | 3 => (5650000, 6530000)
  | 4 => (6340000, 7330000) | 5 => (7120000, 8230000) | 6 => (7990000, 9240000) | _ => (8970000, 10370000)

/-- The lowest band whose range contains a frequency (DEDUCED where bands overlap, log entry 10). -/
def bandOf (khz : Nat) : Option Nat :=
  (List.range 8).find? fun b => decide ((bandRange b).1 ≤ khz) && decide (khz ≤ (bandRange b).2)

/-- The nominal fine code of a band at a CLK_S frequency in kHz (R510), held within 16 bits. -/
def nominalFine (b khz : Nat) : Nat :=
  let lo := (bandRange b).1
  let hi := (bandRange b).2
  clampNat 0 65535 (roundDivAway (65535 * lo * ((hi : Int) - khz)) (max 1 (khz * (hi - lo)))).toNat

/-- A fine code that departs from the nominal one by at most 4,096 codes (R510). -/
def nearNominal (b khz fine : Nat) : Nat :=
  clampNat (nominalFine b khz - 4096) (min 65535 (nominalFine b khz + 4096)) fine

/-- The CLK_S frequency in kHz that a code stands for, by the nominal relation (R510). -/
def codeKhz (b fine : Nat) : Nat :=
  let lo := (bandRange b).1
  let hi := (bandRange b).2
  65535 * lo * hi / (65535 * lo + fine * (hi - lo))

/-- The highest CLK_S frequency of the part in kHz (Table 00.1). -/
def maxKhz : Nat := if Config.partBE then 8192000 else 10240000

/-- Whether a CLK_S frequency in kHz lies outside the part's range (R2). -/
def khzOut (khz : Nat) : Bool := decide (khz < 4000000) || decide (maxKhz < khz)

/-- The bands a search tries, in order: with a frequency reference the measured band, the one above, the one below; without
one, 7 down to 0 (R45). A measured frequency that lies in no band is taken as no measurement (DESIGN CHOICE, log entry 10). -/
def trialBands (khz : Option Nat) : List Nat :=
  match khz.bind bandOf with
  | some b => [b] ++ (if b < 7 then [b + 1] else []) ++ (if 0 < b then [b - 1] else [])
  | none => [7, 6, 5, 4, 3, 2, 1, 0]

/-- The DLL as its search starts: with a frequency reference its bands follow from the measurement that the search makes, without one
they are known (R45); the dither as configured (R50). -/
def Dev.searching (d : Dev) (g : Nat) (x : Dll) : Dll :=
  { x with
    phase := .searching
    trials := if d.freqRef then [] else trialBands none
    measuring := d.freqRef
    dither := d.flag Reg.clk_DITHER_EN
    lfsr := if d.flag Reg.clk_DITHER_EN then ditherSeed (d.fget Reg.clk_DITHER_SEED) g else x.lfsr }

/-- Start a band search of DLL_g. -/
def Dev.startSearch (d : Dev) (g : Nat) : Dev := d.setDll g (d.searching g (d.dll g))

/-- A band search starts (R45): on a DLL that has clock and is not locked. -/
def dllBandSearch (g : Nat) (d : Dev) : Dev :=
  if d.flag Reg.clk_CLKS_PRESENT && (d.dll g).phase != .locked && (d.dll g).phase != .hold then d.startSearch g else d

/-- The 10 µs measurement of a search is over: its bands are known (R45). The measurement is the monitor's gate that ends next after the
search starts (DESIGN CHOICE, log entry 10). -/
def Dev.searchMeasured (d : Dev) (khz : Option Nat) : Dev :=
  (List.range 4).foldl (fun (d : Dev) g =>
    let x := d.dll g
    if x.measuring then { d with clk.dlls := KMap.put d.clk.dlls g { x with measuring := false, trials := trialBands khz } } else d) d

/-- A 3 µs band trial ends: the DLL goes on to fine lock in the band, or to the next band (R45). -/
def dllBandTrialEnd (g : Nat) (found : Bool) (d : Dev) : Dev :=
  let x := d.dll g
  match x.phase, x.trials with
  | .searching, b :: rest => d.setDll g (if found then { x with band := b, trials := [b] } else { x with trials := rest })
  | _, _ => d

/-- DLL_g declares lock (R45): not while CLK_S is out of range (R2), at a code that departs from the nominal one of the measured
frequency as R510 allows. It clears its part of DEGRADED (R49); with all four locked DLL_LOCK of START_STATE sets; the first DLL lock
after cold reset begins a stream run (R511). -/
def dllLock (g code : Nat) (d : Dev) : Dev :=
  let x := d.dll g
  if x.phase == .searching && d.sliceClock then
    let fine := match d.lastKhz with
      | some khz => nearNominal x.band khz code
      | none => code
    let d1 := (d.setDll g { x with
      phase := .locked
      fine := fine
      good := some (x.band, fine)
      trials := []
      measuring := false
      expiries := 0 }).degrade 5 g false
    let d2 := if d1.loom.everRun then d1 else ({ d1 with loom.everRun := true }).beginRun
    if d2.allLocked && !d2.flag Reg.top_DLL_LOCK then (d2.startSet Reg.top_DLL_LOCK).startupCal else d2
  else d

/-- A locked DLL leaves the locked state and starts a band search (R48). -/
def dllUnlock (g : Nat) (d : Dev) : Dev :=
  if (d.dll g).phase == .locked then
    let d1 := (d.startSearch g).raise 5 (Ev.clk_DLL_UNLOCK + g)
    if !d1.freqRef then d1.discardTraining fun _ => true else d1
  else d

/-- Whether tracking has brought a fine code within 1.5 % of the edge of its band towards the band above (the short delays), or the one
below (R47, R510). -/
def nearEdge (up : Bool) (fine : Nat) : Bool := if up then decide (fine * 1000 ≤ 15 * 65535) else decide ((65535 - fine) * 1000 ≤ 15 * 65535)

/-- A band handover at a weft boundary (R47): near the edge of its band the DLL moves to the adjacent one, at the code that the code map
of DLL_BAND_MAP gives, and stays locked; it counts in the CLK group of the Tally (at a counter that log entry 7 leaves open). The new
band and code are its last good code from then on (DESIGN CHOICE, log entry 10). -/
def dllHandover (g : Nat) (up : Bool) (d : Dev) : Dev :=
  let x := d.dll g
  if x.phase == .locked && nearEdge up x.fine && (if up then decide (x.band < 7) else decide (0 < x.band)) then
    let w := d.tget 17 2 0 (8 * g + x.band)
    let b := if up then x.band + 1 else x.band - 1
    let f := if up then bitField w 0 16 else bitField w 16 16
    (d.setDll g { x with band := b, fine := f, good := some (b, f) }).tallyCount 19 (1 + Config.handoverCounter % 63) 1
  else d

/-- The locked DLLs follow a change of CLK_S from one 10 µs measurement to the next (R46): the departure of the code from the nominal one
stays, within what R510 allows. -/
def Dev.dllsFollow (d : Dev) (old new : Nat) : Dev :=
  (List.range 4).foldl (fun (d : Dev) g =>
    let x := d.dll g
    if x.phase == .locked && old != new then
      let f := nearNominal x.band new ((x.fine : Int) - nominalFine x.band old + nominalFine x.band new).toNat
      d.setDll g { x with fine := f, good := some (x.band, f) }
    else d) d

/-- A band search has not locked within 50 µs (R49): it restarts; the third consecutive expiry raises DLL_FAIL and leads to
HOLD on the last good code, or to a search every 1 ms. Without a last good code every later expiry raises DLL_FAIL again (DESIGN CHOICE,
log entry 10). -/
def dllLockTimeout (g : Nat) (d : Dev) : Dev :=
  let x := d.dll g
  if x.phase == .searching then
    let n := x.expiries + 1
    let d1 := d.countTimeout 5
    if n < 3 then ((d1.setDll g (d.searching g { x with expiries := n })).countRecovery 5).logErr 5 0xF1 g 0
    else
      let d2 := d1.raise 5 (Ev.clk_DLL_FAIL + g)
      match x.good with
      | some (b, f) =>
        (((d2.setDll g { x with phase := .hold, band := b, fine := f, trials := [], measuring := false, expiries := 0 }).countRecovery
          5).faultDegrades 5 15 g).logErr 5 (Ev.clk_DLL_FAIL + g) g 0
      | none => (d2.setDll g { x with trials := [], measuring := false, expiries := n }).logErr 5 (Ev.clk_DLL_FAIL + g) g 0
  else d

/-- A DLL without a last good code repeats its search every 1 ms (R49). -/
def dllRetryTimer (g : Nat) (d : Dev) : Dev :=
  let x := d.dll g
  if x.phase == .searching && x.good.isNone && decide (3 ≤ x.expiries) then (d.startSearch g).countRecovery 5 else d

/-- RELOCK starts a band search on every DLL in HOLD (Table 02.6). -/
def relock (d : Dev) : Dev :=
  (List.range 4).foldl (fun (d : Dev) g =>
    if (d.dll g).phase == .hold then d.setDll g (d.searching g { d.dll g with expiries := 0 }) else d) d

/-- RESEED reloads all four LFSRs (R50); the locked state is not disturbed. -/
def reseed (d : Dev) : Dev :=
  (List.range 4).foldl (fun (d : Dev) g =>
    let x := d.dll g
    d.setDll g { x with
      dither := d.flag Reg.clk_DITHER_EN
      lfsr := if d.flag Reg.clk_DITHER_EN then ditherSeed (d.fget Reg.clk_DITHER_SEED) g else x.lfsr }) d

/-! ### CLK_S -/

/-- Take CLK_S away from every DLL. -/
def Dev.dllsStop (d : Dev) : Dev :=
  (List.range 4).foldl (fun (d : Dev) g => d.setDll g { d.dll g with phase := .noClock, trials := [], measuring := false, expiries := 0 }) d

/-- Which islands take CLK_S divided by 64: while none of the three sources is valid, CLK_S is present and some PLL has never locked
(R52). -/
def Dev.islClksUpdate (d : Dev) : Dev :=
  let on := ((List.range 3).all fun k => !KMap.at d.clk.srcValid false k) && d.flag Reg.clk_CLKS_PRESENT && d.clk.everLocked != 2 ^ 44 - 1
  let d1 := d.fbit Reg.clk_ISLREF_CLKS on
  if on then d1.fbit Reg.clk_ISLREF_HOLDOVER false
  else if d.fget Reg.clk_ISLREF_SRC = 3 then d1.fbit Reg.clk_ISLREF_HOLDOVER true else d1

/-- CLK_S has been absent for 1 µs (R2, R25): the slice-clock islands stop, the stream run ends. The measurements of the clock that has
gone are dropped, so STEADY and FREQ_MEAS read 0 until it is measured again (DESIGN CHOICE, log entry 25). -/
def clksLost (d : Dev) : Dev :=
  if d.flag Reg.clk_CLKS_PRESENT then
    ((((((({ d with clk.gates := [] }).clockStops.dllsStop.fbit Reg.clk_CLKS_PRESENT false).fbit Reg.clk_CLKS_RANGE_ERR false).fbit
      Reg.clk_STEADY false).fset Reg.clk_KHZ 0).islClksUpdate).raise 5 Ev.clk_CLKS_LOST)
  else d

/-- CLK_S is out of range (R2): the DLLs do not declare lock and search; the slice-clock islands receive no clock. A CLK_S that arrives
out of range is present too. -/
def Dev.clksOut (d : Dev) : Dev :=
  let d1 := (List.range 4).foldl (fun (d : Dev) g => if (d.dll g).phase == .locked then d.startSearch g else d) d.clockStops
  ((((({ d1 with clk.seen := true }).fbit Reg.clk_CLKS_PRESENT true).fbit Reg.clk_CLKS_RANGE_ERR true).islClksUpdate).raise 5
    Ev.clk_CLKS_RANGE)

/-- Whether CLKS_RANGE_ERR can become 1 now (Table 02.5): with a valid island reference the frequency monitor decides; without one the
code of a locked DLL, to ±1 %. Until a measurement has been made the monitor may find anything. -/
def Dev.rangeDecides (d : Dev) : Bool :=
  if d.freqRef then (match d.clk.gates.head? with
    | some khz => khzOut khz
    | none => true)
  else (List.range 4).any fun g =>
    let x := d.dll g
    x.phase == .locked && (khzOut (codeKhz x.band x.fine * 99 / 100) || khzOut (codeKhz x.band x.fine * 101 / 100))

/-- CLK_S is found out of range (R2). -/
def clksRange (d : Dev) : Dev := if !d.flag Reg.clk_CLKS_RANGE_ERR && d.rangeDecides then d.clksOut else d

/-- CLK_S returns, after an absence or within range (R66): the epoch increments with OFFSET −gap, 0 where no island reference
was valid, and with the phase correction of R63 where a discipline source is valid; a DLL in HOLD starts a search (R49), and a stream
run begins (R511). The first CLK_S since cold reset is no return (DESIGN CHOICE, log entry 25). `gap` is in nominal ticks, `phase` in
fraction LSBs. -/
def clksReturn (gap : Nat) (phase : Int) (d : Dev) : Dev :=
  if d.clksOk || (d.lastKhz.any khzOut) then d
  else
    let d0 := ((({ d with clk.seen := true }).fbit Reg.clk_CLKS_PRESENT true).fbit Reg.clk_CLKS_RANGE_ERR false).islClksUpdate
    let d1 := (List.range 4).foldl (fun (d : Dev) g =>
      if (d.dll g).phase == .hold then d.setDll g (d.searching g { d.dll g with expiries := 0 }) else d) d0
    if !d.clk.seen then d1
    else
      let off : Int := if d.fget Reg.clk_ISLREF_SRC = 3 then 0 else - (gap : Int) * 65536
      let ph : Int := if d.flag Reg.tbase_REF_VALID then phase else 0
      (({ d1 with tb.acc := (((d1.tb.acc : Int) + ph * 65536) % (2 ^ 96 : Nat)).toNat }).beginEpoch causeGap (off + ph)).beginRun

/-! ### Island clocks -/

/-- Set or clear an island's bit in a pair of bit maps (R54). -/
def Dev.islBit (d : Dev) (f0 f1 : Field) (i : Nat) (b : Bool) : Dev :=
  if i < 32 then d.fsetBit f0 i b else d.fsetBit f1 (i - 32) b

/-- Whether an island's PLL is locked. -/
def Dev.islLocked (d : Dev) (i : Nat) : Bool := bitAt (d.fget64 Reg.clk_ISL_LOCK_W0 Reg.clk_ISL_LOCK_W1) i

/-- An island PLL locks (R26, R53): the island leaves its fallback clock; DEGRADED clears with the last slow relock. With all
44 locked once, ISL_PLL_LOCK of START_STATE sets. -/
def islPllLock (i : Nat) (d : Dev) : Dev :=
  let d1 := { d with clk.everLocked := d.clk.everLocked ||| 2 ^ i, clk.slowRelock := andNot d.clk.slowRelock (2 ^ i) }
  let d2 := (((d1.islBit Reg.clk_ISL_LOCK_W0 Reg.clk_ISL_LOCK_W1 i true).islBit Reg.clk_ISL_FALLBACK_W0 Reg.clk_ISL_FALLBACK_W1 i
    false).degrade 5 4 (d1.clk.slowRelock != 0))
  if d2.clk.everLocked = 2 ^ 44 - 1 && !d2.flag Reg.top_ISL_PLL_LOCK then d2.startSet Reg.top_ISL_PLL_LOCK else d2

/-- An island PLL loses lock: the island runs on its fallback clock until the switch back (R26, R53). -/
def islClkFallback (i : Nat) (d : Dev) : Dev :=
  (((((d.islBit Reg.clk_ISL_LOCK_W0 Reg.clk_ISL_LOCK_W1 i false).islBit Reg.clk_ISL_FALLBACK_W0 Reg.clk_ISL_FALLBACK_W1 i true
    ).countRecovery 5).logErr 5 Ev.clk_ISL_CLK_FALLBACK i 0).raise 5 Ev.clk_ISL_CLK_FALLBACK)

/-- An island PLL has not relocked within 1 ms, and then repeats its search every 10 ms (R53): DEGRADED until it relocks. -/
def islPllRetry (i : Nat) (d : Dev) : Dev :=
  if d.islLocked i then d
  else
    let d1 := ({ d with clk.slowRelock := d.clk.slowRelock ||| 2 ^ i }).countTimeout 5
    if bitAt d.clk.slowRelock i then d1 else d1.faultDegrades 5 16 4

/-- The source that the order, or FORCE, selects: 3 for none (R52). -/
def Dev.islrefSelect (d : Dev) : Nat :=
  let f := d.fget Reg.clk_FORCE
  let ok := fun k => KMap.at d.clk.srcValid false k
  if f = 0 then (if ok 0 then 0 else if ok 1 then 1 else if ok 2 then 2 else 3) else if ok (f - 1) then f - 1 else 3

/-- Move the island reference to what is selected (R52): a change raises ISLREF_CHANGE; from a lost source, or from none, the
PLLs are in holdover until they resume tracking. Without a source the frequency monitor has no reference (R55). -/
def Dev.islrefUpdate (d : Dev) : Dev :=
  let old := d.fget Reg.clk_ISLREF_SRC
  let new := d.islrefSelect
  if new = old then d
  else
    let lost := old = 3 || !KMap.at d.clk.srcValid false old
    let d1 := d.fset Reg.clk_ISLREF_SRC new
    let d2 := if lost then d1.fbit Reg.clk_ISLREF_HOLDOVER true else d1
    let d3 := if new = 3 then (({ d2 with clk.gates := [] }.fset Reg.clk_KHZ 0).fbit Reg.clk_STEADY false).searchMeasured none else d2
    d3.islClksUpdate.raise 5 Ev.clk_ISLREF_CHANGE

/-- A source of the island reference becomes invalid. -/
def islrefLost (src : Nat) (d : Dev) : Dev := ({ d with clk.srcValid := KMap.put d.clk.srcValid src false }).islrefUpdate

/-- A source of the island reference becomes valid. -/
def islrefSourceValid (src : Nat) (d : Dev) : Dev := ({ d with clk.srcValid := KMap.put d.clk.srcValid src true }).islrefUpdate

/-- The island PLLs resume tracking on the source in use. -/
def islrefResume (d : Dev) : Dev := if d.fget Reg.clk_ISLREF_SRC = 3 then d else d.fbit Reg.clk_ISLREF_HOLDOVER false

/-! ### Frequency monitor -/

/-- Whether 100 gates all lie within ±20 ppm of their mean (R55). -/
def steadyGates (g : List Nat) : Bool :=
  decide (g.length = 100) && g.all fun v => decide (((100 * v : Nat) - (g.sum : Int)).natAbs * 1000000 ≤ 20 * g.sum)

/-- A 10 µs gate ends (R55, R56): FREQ_MEAS is the mean of the last 100 gates, STEADY follows, a search that waits for its measurement has
it (R45), locked DLLs follow (R46), a CLK_S outside the part's range sets CLKS_RANGE_ERR (R2), and a change of more than 100 ppm from
the measurement with which a run began to gather discards its training data. -/
def freqGateEnd (khz : Nat) (d : Dev) : Dev :=
  if d.fget Reg.clk_ISLREF_SRC = 3 then d
  else
    let gs := (khz :: d.clk.gates).take 100
    let d1 := ((({ d with clk.gates := gs }).fset Reg.clk_KHZ ((2 * gs.sum + gs.length) / (2 * gs.length))).fbit Reg.clk_STEADY
      (steadyGates gs)).searchMeasured (some khz)
    let d2 := match d.clk.gates.head? with
      | some old => d1.dllsFollow old khz
      | none => d1
    let d3 := (d2.discardTraining fun k => k != 0 && decide (100 * k < ((khz : Int) - k).natAbs * 1000000)).gatherBase khz
    if khzOut khz && d3.clksOk then d3.clksOut else d3

/-! ### Commands -/

/-- CLKS_LOST (R2). -/
def execClksLost (s : State) : Host.Outcome State Fault Refusal := .next (s.live fun s => s.onDev clksLost)

/-- CLKS_RANGE (R2). -/
def execClksRange (s : State) : Host.Outcome State Fault Refusal := .next (s.live fun s => s.onDev clksRange)

/-- CLKS_RETURN (R66). -/
def execClksReturn (gap : Nat) (phase : Int) (s : State) : Host.Outcome State Fault Refusal :=
  .next (s.live fun s => s.onDev (clksReturn gap phase))

/-- DLL_BAND_SEARCH (R45). -/
def execDllBandSearch (g : Fin 4) (s : State) : Host.Outcome State Fault Refusal := .next (s.live fun s => s.onDev (dllBandSearch g))

/-- DLL_BAND_TRIAL_END (R45). -/
def execDllBandTrialEnd (g : Fin 4) (found : Bool) (s : State) : Host.Outcome State Fault Refusal :=
  .next (s.live fun s => s.onDev (dllBandTrialEnd g found))

/-- DLL_LOCK (R45). -/
def execDllLock (g : Fin 4) (fine : BitVec 16) (s : State) : Host.Outcome State Fault Refusal :=
  .next (s.live fun s => s.onDev (dllLock g fine.toNat))

/-- DLL_UNLOCK (R48). -/
def execDllUnlock (g : Fin 4) (s : State) : Host.Outcome State Fault Refusal := .next (s.live fun s => s.onDev (dllUnlock g))

/-- DLL_HANDOVER (R47). -/
def execDllHandover (g : Fin 4) (up : Bool) (s : State) : Host.Outcome State Fault Refusal := .next (s.live fun s => s.onDev (dllHandover g up))

/-- DLL_LOCK_TIMEOUT (R49). -/
def execDllLockTimeout (g : Fin 4) (s : State) : Host.Outcome State Fault Refusal := .next (s.live fun s => s.onDev (dllLockTimeout g))

/-- DLL_RETRY_TIMER (R49). -/
def execDllRetryTimer (g : Fin 4) (s : State) : Host.Outcome State Fault Refusal := .next (s.live fun s => s.onDev (dllRetryTimer g))

/-- RELOCK (R49). -/
def execRelock (who : Requester) (s : State) : Host.Outcome State Fault Refusal :=
  .next (s.live fun s => s.onDev fun d => d.writeGate who 5 0x044 4 false relock)

/-- RESEED (R50). -/
def execReseed (who : Requester) (s : State) : Host.Outcome State Fault Refusal :=
  .next (s.live fun s => s.onDev fun d => d.writeGate who 5 0x044 2 false reseed)

/-- ISL_CLK_FALLBACK (R53). -/
def execIslClkFallback (i : Fin 44) (s : State) : Host.Outcome State Fault Refusal := .next (s.live fun s => s.onDev (islClkFallback i))

/-- ISL_PLL_RETRY (R53). -/
def execIslPllRetry (i : Fin 44) (s : State) : Host.Outcome State Fault Refusal := .next (s.live fun s => s.onDev (islPllRetry i))

/-- ISLREF_LOST (R52). -/
def execIslrefLost (src : IslSource) (s : State) : Host.Outcome State Fault Refusal := .next (s.live fun s => s.onDev (islrefLost src.code))

/-- ISLREF_SOURCE_VALID (R52). -/
def execIslrefSourceValid (src : IslSource) (s : State) : Host.Outcome State Fault Refusal :=
  .next (s.live fun s => s.onDev (islrefSourceValid src.code))

/-- ISLREF_RESUME (R52). -/
def execIslrefResume (s : State) : Host.Outcome State Fault Refusal := .next (s.live fun s => s.onDev islrefResume)

/-- FREQ_GATE_END (R55). -/
def execFreqGateEnd (khz : Nat) (s : State) : Host.Outcome State Fault Refusal := .next (s.live fun s => s.onDev (freqGateEnd khz))

end Sys2Proof.Machine
end

