-- ==== Sys2Proof/Machine/Assay.lean ====
section
/-!
DEFINITION. The Assayer: due slices, background and foreground runs, quality figures, continuous DLL calibration, blackouts
(R97 to R110, R116, R516).
-/

namespace Sys2Proof.Machine

/-! ### Due slices (R97, R98) -/

/-- T_NOW less T_LAST of a slice, as a magnitude in 0.01 °C (Table 04.10). -/
def Dev.tempDiff (d : Dev) (s : Nat) : Nat :=
  let w := d.quality s 1
  (toSigned 16 (w / 65536) - toSigned 16 w).natAbs

/-- Whether a slice may be run: active, spare idle or standby, and not part of a planned retirement (R97). -/
def Dev.eligible (d : Dev) (g i : Nat) : Bool :=
  (d.role g i == 0 || d.role g i == 1 || d.role g i == 3) &&
  !(d.loom.brings.any fun b => b.group == g && b.kind == .retire && (b.phys == i || d.alloc g b.pos == i)) &&
  KMap.find d.loom.retireWait g != some i

/-- Due by temperature. -/
def Dev.dueByTemp (d : Dev) (g i : Nat) : Bool := d.eligible g i && decide (d.fget Reg.assay_DELTA_T < d.tempDiff (34 * g + i))

/-- Due by MAX_INTERVAL. -/
def Dev.dueByAge (d : Dev) (g i : Nat) : Bool :=
  d.eligible g i && d.fget Reg.assay_MAX_INTERVAL != 0 &&
    decide (d.fget Reg.assay_MAX_INTERVAL * 1000 < KMap.at d.assay.ageMs 0 (34 * g + i))

/-- A slice due for a background run (R97). -/
def Dev.due (d : Dev) (g i : Nat) : Bool := d.dueByTemp g i || d.dueByAge g i

/-- A slice whose temperature difference overrides a blackout (R116). -/
def Dev.overrides (d : Dev) (g i : Nat) : Bool := decide (3 * d.fget Reg.assay_DELTA_T ≤ d.tempDiff (34 * g + i))

/-- The group is under blackout. -/
def Dev.blackout (d : Dev) (g : Nat) : Bool := bitAt (d.fget Reg.assay_BLACKOUT) g

/-- DUE_COUNT, BLACKOUT_HELD and the end of OVERRIDDEN of a group (Table 04.7, R116). -/
def Dev.dueStatus (d : Dev) (g : Nat) : Dev :=
  let due := (List.range 34).filter fun i => d.due g i
  let held := if d.blackout g then due.filter (fun i => !d.overrides g i) else []
  let forced := (d.runnable g).any fun i => d.overrides g i
  ((d.fset Reg.assay_DUE_COUNT due.length g).fset Reg.assay_BLACKOUT_HELD held.length g).fbit Reg.assay_OVERRIDDEN
    (d.flag Reg.assay_OVERRIDDEN g && forced) g

/-- The thermal diodes are sampled (R97): the slices' temperatures, in 0.01 °C by slice number, and a millisecond of age. -/
def sliceTempSample (temps : List Int) (d : Dev) : Dev :=
  let d1 := (List.range 136).foldl (fun (d : Dev) s =>
    let t := temps.getD s (toSigned 16 (d.quality s 1 / 65536))
    { d.setQuality s 1 (d.quality s 1 % 65536 + 65536 * ofSigned 16 t) with
      assay.ageMs := KMap.put d.assay.ageMs s (KMap.at d.assay.ageMs 0 s + 1) }) d
  [0, 1, 2, 3].foldl Dev.dueStatus d1

/-! ### Choosing and starting a run (R98, R99, R101, R102) -/

/-- Of two due slices the one that comes first (R98): by temperature before by age alone, then the larger difference, then the
lower index. -/
def Dev.firstOf (d : Dev) (g : Nat) (a : Option Nat) (i : Nat) : Option Nat :=
  match a with
  | none => some i
  | some j =>
    if d.dueByTemp g i && !d.dueByTemp g j then some i
    else if d.dueByTemp g j && !d.dueByTemp g i then some j
    else if d.tempDiff (34 * g + j) < d.tempDiff (34 * g + i) then some i
    else some j

/-- Whether the Assayer can run a slice now (R78, R101, R116). -/
def Dev.canRun (d : Dev) (g i : Nat) : Bool :=
  d.eligible g i && !(d.blackout g && !d.overrides g i) &&
  (d.role g i != 0 || d.flag Reg.loom_BORROW_STOPPED g || (!d.retiring g && (d.freeSpare g 1).isSome))

/-- The slice to run next: in a background-only cycle the next of that cycle, else the first due slice; abandoned slices after
the others, oldest first (R98, R102, R106). -/
def Dev.nextRun (d : Dev) (g : Nat) : Option Nat :=
  match KMap.find d.assay.bgOnly g with
  | some l => l.find? fun i => d.canRun g i
  | none =>
    let tail := KMap.at d.assay.tail [] g
    match ((List.range 34).filter fun i => d.due g i && d.canRun g i && !tail.contains i).foldl (d.firstOf g) none with
    | some i => some i
    | none => tail.find? fun i => d.due g i && d.canRun g i

/-- Whether a background run may start in a group at all: its clock runs, its coefficients are loaded, no run or foreground
request holds it, and its loom is not bypassed (R85, R98, R107). -/
def Dev.groupFree (d : Dev) (g : Nat) : Bool :=
  d.sliceClock && d.loom.run.isSome && d.flag Reg.top_CAL_LOADED && (KMap.find d.assay.runs g).isNone &&
  (KMap.find d.assay.fg g).isNone && !bitAt d.assay.fgDue g && !d.bypassed g

/-- The phase in which gathering starts: the live phase, or the wait for the DLLs where R56 does not let it gather. -/
def Dev.gather (d : Dev) (g : Nat) (r : AssayRun) : Dev :=
  { d with assay.runs := KMap.put d.assay.runs g { r with
      phase := if d.gatherOk then .live else .waitSteady
      khz := d.lastKhz.getD 0 } }.fbit Reg.assay_WAIT_STEADY (!d.gatherOk) g

/-- Start a background run of a slice (R98, R99): an active slice is borrowed, a spare is run in place; the active slices of a group
without a calibration spare have a live phase alone, in place (R101). -/
def Dev.runStart (d : Dev) (g i : Nat) : Dev :=
  let s := 34 * g + i
  let t := toSigned 16 (d.quality s 1 / 65536)
  let borrow := d.role g i == 0 && !d.flag Reg.loom_BORROW_STOPPED g
  let r : AssayRun := {
    phys := i
    pos := if borrow then some (d.posOf g i) else none
    phase := if borrow then .bringing else .dc
    temp := t }
  let d0 := if d.role g i == 0 && !borrow then d.gather g r else { d with assay.runs := KMap.put d.assay.runs g r }
  let d1 := (d0.fbit Reg.assay_RUN_ACTIVE true g).fset Reg.assay_RUN_INDEX i g
  let d2 := match d1.freeSpare g 1 with
    | some cs => if borrow then d1.bring g cs (d.posOf g i) 16 .borrow else d1
    | none => d1
  if d.blackout g then (d2.fbit Reg.assay_OVERRIDDEN true g).raise 17 Ev.assay_POLICY_CONFLICT else d2

/-- The Assayer starts the next background run of a group (R98, R99); the schedule stops in ROM recovery (R419). -/
def assayRunStart (g : Nat) (d : Dev) : Dev :=
  if d.groupFree g && !d.romRecovery then
    match d.nextRun g with
    | some i => d.runStart g i
    | none => d
  else d

/-- Replace the run of a group. -/
def Dev.setRun (d : Dev) (g : Nat) (r : AssayRun) : Dev := { d with assay.runs := KMap.put d.assay.runs g r }

/-- The nine levels of the reference DAC in code LSB: −7/8, −3/4, −1/2, −1/4, 0, +1/4, +1/2, +3/4 and +7/8 of FS / 2 (R99). -/
def dacLevels : List Int := [-1792, -1536, -1024, -512, 0, 512, 1024, 1536, 1792]

/-- Offset and gain of a slice from the least-squares fit code = a + s × level of its nine mean codes, given in 1/256 code LSB (R99): the
offset is 16 a in 1/16 LSB and the gain 2^22 / s, rounded to nearest and held within their fields (DESIGN CHOICE, log entry 42); for a
fit that does not rise no gain is stated, and it is the free value `open_`. -/
def dacFit (codes : List Int) (open_ : Nat) : Int × Int :=
  let c := dacLevels.zip codes
  let sq := (dacLevels.map fun l => l * l).sum
  let cross := (c.map fun p => p.1 * p.2).sum
  (clampInt (-32768) 32767 (roundDiv (16 * ((c.map Prod.snd).sum)) (9 * 256)),
    if 0 < cross then clampInt 0 (2 ^ 24 - 1) (roundDiv (2 ^ 22 * 256 * sq) cross.toNat) else (open_ % 2 ^ 24 : Nat))

/-- The DC phase ends (R99): offset and gain follow from the mean codes at the nine DAC levels, and the live phase begins. -/
def dcPhaseEnd (g : Nat) (codes : List Int) (d : Dev) : Dev :=
  match KMap.find d.assay.runs g with
  | some r =>
    if r.phase == .dc then
      let x := d.free
      x.2.gather g { r with dc := some (dacFit codes x.1) }
    else d
  | none => d

/-- Skew and FIR are observable where the estimated standard error of the skew is below 1 fs (R100), given in attoseconds. -/
def skewObservable (stdErr : Nat) : Bool := decide (stdErr < 1000)

/-- The live phase ends (R99, R100): trim and FIR are known where the input made them observable; a borrowed slice is brought back. The
comparison between neighbours of R101 gives offset and gain too, where it observes them, and no FIR. -/
def livePhaseEnd (g stdErr : Nat) (trim : Int) (fir : List Int) (neighbours : Option (Int × Int)) (d : Dev) : Dev :=
  match KMap.find d.assay.runs g with
  | some r =>
    if r.phase == .live then
      let alone := r.pos.isNone && d.role g r.phys == 0
      let d1 := d.setRun g { r with
        phase := .returning
        dc := if alone then neighbours else r.dc
        fine := if skewObservable stdErr then some (trim, if alone then [] else fir) else none
        results := true }
      match r.pos with
      | some p => d1.bring g r.phys p 16 .giveBack
      | none => d1
    else d
  | none => d

/-- Whether a run that waits may gather again: STEADY, or without a frequency reference all DLLs locked (R56). -/
def Dev.steadyAgain (d : Dev) : Bool := if d.freqRef then d.flag Reg.clk_STEADY else d.allLocked

/-- After STEADY has been 1 for 1 ms a run that waits restarts its live phase, and a foreground run its measurement (R56, R102). -/
def livePhaseRestart (g : Nat) (d : Dev) : Dev :=
  if !d.steadyAgain then d
  else match KMap.find d.assay.runs g, KMap.find d.assay.fg g with
    | some r, _ => if r.phase == .waitSteady then d.gather g r else d
    | none, some i => if d.flag Reg.assay_WAIT_STEADY g then d.fgSlice g i else d
    | none, none => d

/-! ### Coefficients and quality -/

/-- Whether the Assayer writes the coefficients of a group (R85, R110). -/
def Dev.owns (d : Dev) (g : Nat) : Bool :=
  !bitAt (d.fget Reg.assay_MANUAL) g && !d.bypassed g

/-- Write offset and gain of a slice in the active bank of SLICE_CORR (Table 03.11). -/
def Dev.putCorr (d : Dev) (g i : Nat) (offset gain : Int) : Dev :=
  d.tsetWords (12 + g) 0 (d.tctlOf (12 + g) 0).bank (2 * i) [ofSigned 16 offset, ofSigned 24 gain]

/-- The words of a FIR entry from its 16 taps. -/
def firWords : List Int → List Nat
  | a :: b :: t => (ofSigned 16 a + 65536 * ofSigned 16 b) :: firWords t
  | _ => []

/-- Write skew trim, at the tap the slice uses, and the FIR of the mode in force, where there is one. -/
def Dev.putFine (d : Dev) (g i p : Nat) (trim : Int) (fir : List Int) : Dev :=
  let tap := tapOf d.mode g p
  let s := 34 * g + i
  let d1 := d.tset 16 0 (d.tctlOf 16 0).bank (4 * s + tap / 4)
    (setByte (d.tactive 16 0 (4 * s + tap / 4)) (tap % 4) (ofSigned 8 (clampInt (-100) 100 trim)))
  d1.tsetWords (12 + g) (1 + d.mode) (d.tctlOf (12 + g) (1 + d.mode)).bank (8 * i) (firWords (fir.take 16))

/-- Whether the residuals of a slice are out of limit (R109). -/
def Dev.residOut (d : Dev) (f : QualityFigures) : Bool :=
  decide (d.fget Reg.assay_OFFSET_LIMIT < f.offsetResid.natAbs) || decide (d.fget Reg.assay_GAIN_LIMIT < f.gainResid.natAbs)

/-- The floor of log10 of a positive number below 10^(2^k): the bits of the exponent from bit k − 1 down. -/
def log10Bits (n : Nat) : Nat → Nat → Nat
  | 0, e => e
  | k + 1, e => log10Bits n k (if 10 ^ (e + 2 ^ k) ≤ n then e + 2 ^ k else e)

/-- SPUR in 0.1 dBc (Table 04.3): 10 log10 (2 (ε_g² + (2π f_ref ε_t)²) / N), rounded to nearest (DEDUCED from the example of R109, log
entry 42), from the sums over the N positions of the squared gain residuals in 0.1 ppm and skew residuals in attoseconds, with f_ref
in MHz. None where both sums are 0, whose logarithm the manual does not state. -/
def spurOf (n gainSq skewSq fref : Nat) : Option Int :=
  let num := 2 * (gainSq * 10 ^ 40 + 4 * 3141592653589793 ^ 2 * fref ^ 2 * skewSq)
  let den := n ^ 2 * 10 ^ 54
  if num = 0 then none else some ((((log10Bits (num ^ 200 * 10 ^ 6000 / den ^ 200) 14 0 : Nat) : Int) - 6000 + 1).fdiv 2)

/-- The slices that serve the 32 positions of a loom. -/
def Dev.servers (d : Dev) (g : Nat) : List Nat := (List.range 32).map fun p => 34 * g + d.servingPhys g p

/-- The sum of the squared skew residuals of a loom's positions, in square attoseconds. -/
def Dev.skewSq (d : Dev) (g : Nat) : Nat := ((d.servers g).map fun s => (KMap.at d.assay.skewRes 0 s).natAbs ^ 2).sum

/-- The sum of the squared gain residuals of a loom's positions. -/
def Dev.gainSq (d : Dev) (g : Nat) : Nat := ((d.servers g).map fun s => (toSigned 16 (d.quality s 0 / 65536)).natAbs ^ 2).sum

/-- Update SKEW_RMS of a group (Table 04.3). -/
def Dev.skewFigure (d : Dev) (g : Nat) : Dev :=
  let x := d.free
  x.2.fset Reg.assay_SKEW_RMS (min 65535 (rootOf (d.skewSq g) (32 * 10000) x.1)) g

/-- Update SPUR of a group, over the positions of the stream that its loom contributes to (Table 04.3). -/
def Dev.spurFigure (d : Dev) (g : Nat) : Dev :=
  let looms := groupsOf d.mode (inputOf d.mode g)
  let x := d.free
  let v := spurOf (samplesPer d.mode) ((looms.map d.gainSq).sum) ((looms.map d.skewSq).sum) (d.fget Reg.assay_SPUR_REF_FREQ)
  { x.2 with assay.figured := x.2.assay.figured ||| 2 ^ g }.fsetS Reg.assay_SPUR (clampInt (-32768) 32767 (v.getD (toSigned 16 x.1))) g

/-- Whether a group's SPUR, once it has been computed, is out of limit. -/
def Dev.spurOut (d : Dev) (g : Nat) : Bool :=
  bitAt d.assay.figured g && decide (toSigned 16 (d.fget Reg.assay_SPUR_LIMIT) < d.fgetS Reg.assay_SPUR g)

/-- Whether a group's SKEW_RMS is out of limit. -/
def Dev.skewOut (d : Dev) (g : Nat) : Bool := decide (d.fget Reg.assay_SKEW_LIMIT < d.fget Reg.assay_SKEW_RMS g)

/-- OUT_OF_LIMIT of a group follows its figures (R109). -/
def Dev.groupLimits (d : Dev) (g : Nat) : Dev :=
  d.fbit Reg.assay_OUT_OF_LIMIT (d.spurOut g || d.skewOut g || (List.range 34).any fun i =>
    d.role g i != 5 && d.role g i != 6 && bitAt (d.quality (34 * g + i) 3) 2) g

/-- Record the figures of a completed run of a slice: residuals, T_LAST, METHOD, the group's SKEW_RMS, the SPUR of every loom of its stream;
QUALITY_LIMIT when a figure goes out of limit (R109, Table 04.10). -/
def Dev.recordQuality (d : Dev) (g i : Nat) (temp : Int) (method : Nat) (f : QualityFigures) : Dev :=
  let s := 34 * g + i
  let out := d.residOut f
  let looms := groupsOf d.mode (inputOf d.mode g)
  let d1 := ((d.setQuality s 0 (ofSigned 16 f.offsetResid + 65536 * ofSigned 16 f.gainResid)).setQuality s 1
    (d.quality s 1 / 65536 * 65536 + ofSigned 16 temp)).setQuality s 3 (method + 4 * Bool.bit out)
  let d2 := { d1 with
    assay.ageMs := KMap.put d1.assay.ageMs s 0
    assay.skewRes := KMap.put d1.assay.skewRes s f.skewResid }
  let d3 := looms.foldl Dev.groupLimits (looms.foldl Dev.spurFigure (d2.skewFigure g))
  if (out && !bitAt (d.quality s 3) 2) || (d3.skewOut g && !d.skewOut g) || looms.any fun k => d3.spurOut k && !d.spurOut k then
    d3.raise 17 Ev.assay_QUALITY_LIMIT |>.planSoon
  else d3

/-- The results of a background run take effect and its figures are recorded (R99, R100, R109). -/
def Dev.applyRun (d : Dev) (g : Nat) (r : AssayRun) (f : QualityFigures) : Dev :=
  let p := r.pos.getD (d.posOf g r.phys)
  let d1 := if d.owns g then
      let a := match r.dc with
        | some (o, gn) => d.putCorr g r.phys o gn
        | none => d
      let b := match r.fine with
        | some (t, fir) => a.putFine g r.phys p t fir
        | none => a
      { b with assay.changed := b.assay.changed ||| (if r.dc.isSome || r.fine.isSome then 2 ^ g else 0) }
    else d
  let d2 := d1.recordQuality g r.phys r.temp (if r.fine.isSome then 2 else 3) f
  { d2 with assay.tail := KMap.put d2.assay.tail g ((KMap.at d2.assay.tail [] g).filter (· != r.phys)) }

/-- The borrowed slice returns with its new coefficients at a substitution boundary, and the quality figures are updated; a
slice run in place ends likewise (R99). -/
def assayRunReturn (g : Nat) (f : QualityFigures) (d : Dev) : Dev :=
  match KMap.find d.assay.runs g with
  | none => d
  | some r =>
    let back := d.bringOf g fun b => b.kind == .giveBack && decide (b.ready ≤ d.sampTick)
    if r.phase == .returning && r.results && (r.pos.isNone || back.isSome) then
      let d1 := d.applyRun g r f
      let d2 := if r.pos.isSome then (d1.dropBrings g fun b => b.kind == .giveBack).returned g r.phys else (d1.endRunOf g).runGone g
      let d3 := if bitAt (d2.fget Reg.assay_MANUAL) g then d2.fset Reg.assay_METHOD 3 g else d2
      ((d3.cycleMark g r.phys).bgOnlyCheck g (some r.phys)).dueStatus g
    else d

/-- A run that has not returned its slice 50 ms after its first substitution boundary is abandoned (R102). -/
def runAbandoned (g : Nat) (d : Dev) : Dev :=
  match KMap.find d.assay.runs g with
  | none => d
  | some r =>
    if r.pos.isNone || r.phase == .bringing then d
    else
      let s := 34 * g + r.phys
      let w := d.quality s 3
      let d1 := d.setQuality s 3 (w % 8 + 8 + 16 * min 15 (bitField w 4 4 + 1))
      let d2 := { d1 with
        assay.tail := KMap.put d1.assay.tail g ((KMap.at d1.assay.tail [] g).filter (· != r.phys) ++ [r.phys])
        assay.bgOnly := match KMap.find d1.assay.bgOnly g with
          | some l => if l.contains r.phys then KMap.put d1.assay.bgOnly g (l.filter (· != r.phys) ++ [r.phys]) else d1.assay.bgOnly
          | none => d1.assay.bgOnly }
      let d3 := (((d2.countTimeout 17).countRecovery 17).logErr 17 Ev.assay_RUN_ABANDONED s 0).raise 17 Ev.assay_RUN_ABANDONED
      d3.giveBack g r

/-! ### DLL calibration (R103) -/

/-- Byte trims of a DLL, each moved toward its measured value by at most 2 ps (R103). -/
def trimWords (old : List Nat) (new : List Int) : Nat → List Nat
  | 0 => []
  | n + 1 =>
    let w := old.headD 0
    let step := fun (k : Nat) =>
      let o := toSigned 8 (byteOf w k)
      ofSigned 8 (clampInt (-128) 127 (o + clampInt (-40) 40 (new.getD k o - o))) * 2 ^ (8 * k)
    (step 0 + step 1 + step 2 + step 3) :: trimWords (old.drop 1) (new.drop 4) n

/-- The words of DLL_BAND_MAP of a DLL: band 7 has no band above and band 0 none below (Table 04.10). -/
def bandMapWords (w : List Nat) : List Nat :=
  (List.range 8).map fun b => (if b = 7 then 0 else w.getD b 0 % 65536) + (if b = 0 then 0 else w.getD b 0 / 65536 % 65536 * 65536)

/-- The Assayer's measurement of a DLL's taps and handover points, of the last 1 ms, is over (R103): the trims await the next weft
boundary. It is discarded where R56 would discard training data: a 10 µs measurement has differed by more than 100 ppm from that with
which it began and STEADY has not come back, or without a frequency reference a DLL was not locked. The next one begins. -/
def dllTapMeasure (g : Nat) (trims : List Int) (bandMap : List Nat) (d : Dev) : Dev :=
  let x := d.dll g
  let d1 := if x.tapBad || !d.gatherOk then d
    else
      let old := (List.range 4).map fun k => d.tget 17 1 0 (4 * g + k)
      { d with clk.dlls := KMap.put d.clk.dlls g { x with trims := some (trimWords old trims 4) } }.tsetWords 17 2 0 (8 * g) (bandMapWords
        bandMap)
  { d1 with clk.dlls := KMap.put d1.clk.dlls g { d1.dll g with
      tapBad := x.tapBad && !d.steadyAgain
      tapKhz := d.lastKhz.getD 0 } }

/-! ### Foreground runs (R105 to R108) -/

/-- A request for foreground runs of a set of groups (R105): the status that refuses it (Table 04.2), or the accepted request
with its quiet checks. -/
def Dev.fgRequest (d : Dev) (groups : Nat) : Nat × Dev :=
  if groups % 16 = 0 then (1, d)
  else if d.armed then (2, d)
  else if d.fget Reg.assay_FG_BUSY &&& groups != 0 then (7, d)
  else
    let d1 := ({ d with assay.fgWait := d.assay.fgWait ||| (groups % 16) }).fset Reg.assay_FG_BUSY
      (d.fget Reg.assay_FG_BUSY ||| (groups % 16))
    let d2 := d1.assayQuietFor (groups % 16)
    (0, if d2.clksOk then d2 else [0, 1, 2, 3].foldl (fun (d : Dev) x => d.quietAbort x true) d2)

/-- A write of 1 to FG_CTRL.START for the groups in FG_CTRL.GROUPS: a refused START is recorded (R105, R514). -/
def fgStart (groups : Nat) (d : Dev) : Dev :=
  let r := d.fgRequest groups
  if r.1 = 0 then r.2 else r.2.logErr 17 0xF2 0 0

/-- The next slice of a foreground run after physical index i: retired and failed slices are not run (R97). -/
def Dev.fgNext (d : Dev) (g i : Nat) : Option Nat :=
  ((List.range 34).drop (i + 1)).find? fun k => d.role g k != 5 && d.role g k != 6

/-- A foreground run of one slice is complete (R105, R108): its coefficients, T_LAST, and the next slice; with the last one
METHOD 1, FG_DONE and what that completes. While R56 makes it wait for STEADY it is not complete (R102). -/
def fgSliceDone (g : Nat) (c : SliceCoeffs) (f : QualityFigures) (d : Dev) : Dev :=
  match KMap.find d.assay.fg g with
  | none => d
  | some i =>
    let run := d.role g i != 5 && d.role g i != 6
    if run && d.flag Reg.assay_WAIT_STEADY g then d else
    let d1 := if run && d.owns g then
        let e := (d.putCorr g i c.offset c.gain).putFine g i (d.posOf g i) c.trim c.fir
        { e with assay.changed := e.assay.changed ||| 2 ^ g }
      else d
    let d2 := if run then (d1.recordQuality g i (KMap.at d.assay.fgTemp 0 g) 1 f).cycleMark g i else d1
    match d2.fgNext g i with
    | some k => d2.fgSlice g k
    | none =>
      let d3 := { d2 with assay.fg := KMap.del d2.assay.fg g }
      ((((d3.fbit Reg.assay_RUN_ACTIVE false g).fsetBit Reg.assay_FG_BUSY g false).setMethod g 1).raise 17 Ev.assay_FG_DONE).calGroupDone g
        false |>.dueStatus g

/-- The quiet checks of pending groups are repeated (R107). -/
def quietRetryTimer (d : Dev) : Dev :=
  let d1 := d.assayQuietFor (d.fget Reg.assay_PENDING)
  if d1.clksOk then d1 else [0, 1, 2, 3].foldl (fun (d : Dev) x => d.quietAbort x true) d1

/-- A write of 1 to FG_CTRL.CANCEL (R107): PENDING clears and calibration commands end with ABORTED. -/
def fgCancel (d : Dev) : Dev :=
  let p := d.fget Reg.assay_PENDING
  let cmds := d.assay.cmds.map fun (c : CalCmd) => c.cmd
  let d1 := { d with
    assay.fgDue := andNot d.assay.fgDue p
    assay.cmds := [] }
  (d1.fset Reg.assay_PENDING 0).finishCmds 4 0 cmds

/-! ### Commands -/

/-- SLICE_TEMP_SAMPLE (R97). -/
def execSliceTempSample (temps : List Int) (s : State) : Host.Outcome State Fault Refusal := .next (s.live fun s => s.onDev (sliceTempSample temps))

/-- ASSAY_RUN_START (R99). -/
def execAssayRunStart (g : Fin 4) (s : State) : Host.Outcome State Fault Refusal := .next (s.live fun s => s.onDev (assayRunStart g))

/-- DC_PHASE_END (R99). -/
def execDcPhaseEnd (g : Fin 4) (below above : List Int) (s : State) : Host.Outcome State Fault Refusal :=
  .next (s.live fun s => s.onDev (dcPhaseEnd g (below ++ above)))

/-- LIVE_PHASE_END (R99, R100, R101). -/
def execLivePhaseEnd (g : Fin 4) (skew : Nat × Int) (fir : List Int) (neighbours : Option (Int × Int)) (s : State) :
    Host.Outcome State Fault Refusal :=
  .next (s.live fun s => s.onDev (livePhaseEnd g skew.1 skew.2 fir neighbours))

/-- ASSAY_RUN_RETURN (R99). -/
def execAssayRunReturn (g : Fin 4) (fig : QualityFigures) (s : State) : Host.Outcome State Fault Refusal :=
  .next (s.live fun s => s.onDev (assayRunReturn g fig))

/-- RUN_ABANDONED (R102). -/
def execRunAbandoned (g : Fin 4) (s : State) : Host.Outcome State Fault Refusal := .next (s.live fun s => s.onDev (runAbandoned g))

/-- LIVE_PHASE_RESTART (R102). -/
def execLivePhaseRestart (g : Fin 4) (s : State) : Host.Outcome State Fault Refusal := .next (s.live fun s => s.onDev (livePhaseRestart g))

/-- DLL_TAP_MEASURE (R103). -/
def execDllTapMeasure (g : Fin 4) (trims : List Int) (bandMap : List Nat) (s : State) : Host.Outcome State Fault Refusal :=
  .next (s.live fun s => s.onDev (dllTapMeasure g trims bandMap))

/-- FG_START (R105): GROUPS and START in one write. -/
def execFgStart (who : Requester) (groups : BitVec 4) (s : State) : Host.Outcome State Fault Refusal :=
  .next (s.live fun s => s.onDev fun d => d.writeGate who 17 0x050 (groups.toNat + 16) false fun d =>
    fgStart groups.toNat (d.fset Reg.assay_GROUPS groups.toNat))

/-- FG_SLICE_DONE (R105). -/
def execFgSliceDone (g : Fin 4) (coeffs : SliceCoeffs) (fig : QualityFigures) (s : State) : Host.Outcome State Fault Refusal :=
  .next (s.live fun s => s.onDev (fgSliceDone g coeffs fig))

/-- QUIET_RETRY_TIMER (R107). -/
def execQuietRetryTimer (s : State) : Host.Outcome State Fault Refusal := .next (s.live fun s => s.onDev quietRetryTimer)

/-- CANCEL (R107): the GROUPS field of the register is written with its current value. -/
def execCancel (who : Requester) (s : State) : Host.Outcome State Fault Refusal :=
  .next (s.live fun s => s.onDev fun d => d.writeGate who 17 0x050 (32 + d.fget Reg.assay_GROUPS) false fgCancel)

end Sys2Proof.Machine
end

