-- ==== Sys2Proof/Machine/Banks.lean ====
section
/-!
DEFINITION. The calibration banks in MRAM: commits, retries, the load at cold reset (R111 to R115, R517), and the lock of the
island PLLs, at which the load completes (Table 01.7).
-/

namespace Sys2Proof.Machine

/-- The two CALB banks by number. -/
def NonVolatile.calb (nv : NonVolatile) (b : Nat) : Bank := if b = 0 then nv.calb0 else nv.calb1

/-- Replace a CALB bank. -/
def NonVolatile.setCalb (nv : NonVolatile) (b : Nat) (x : Bank) : NonVolatile :=
  if b = 0 then { nv with calb0 := x } else { nv with calb1 := x }

/-- BANK_STATUS and the SEQ registers show the banks (Table 04.7). -/
def Dev.showBanks (d : Dev) (nv : NonVolatile) : Dev :=
  ((((d.fbit Reg.assay_CALB0_VALID nv.calb0.valid).fbit Reg.assay_CALB1_VALID nv.calb1.valid).fbit Reg.assay_FCAL_VALID
    nv.fcal.valid).fset Reg.assay_CALB0_SEQ (if nv.calb0.valid then nv.calb0.seq else 0)).fset Reg.assay_CALB1_SEQ
    (if nv.calb1.valid then nv.calb1.seq else 0)

/-- Whether a CALB bank is marked failed (R115). -/
def Dev.bankFailed (d : Dev) (b : Nat) : Bool := d.flag (if b = 0 then Reg.assay_CALB0_FAILED else Reg.assay_CALB1_FAILED)

/-- Word w of 0 to 8,187 of a bank: the tables of Table 04.4, the rest 0. -/
def Bank.data (b : Bank) (w : Nat) : Nat := if w < 4288 then b.word w else 0

/-- The commit record of a bank: SEQ, DATA_CRC, layout version 1 with the data length, COMMIT_CRC (Table 04.4). -/
def Bank.record (b : Bank) : List Nat :=
  let r := [b.seq, crc32c ((List.range 8188).map b.data), 1 + 65536 * 8188]
  r ++ [crc32c r]

/-- A word of a bank as it stands in MRAM: an invalid bank's block 511 is zeroed (R112, R517). -/
def Bank.stored (b : Bank) (w : Nat) : Nat := if w < 8188 then b.data w else if b.valid then b.record.getD (w - 8188) 0 else 0

/-- A bank is valid when COMMIT_CRC and DATA_CRC match, the layout version is 1 and SEQ is not 0 (R111). -/
def wordsValid (m : Nat → Nat) : Bool :=
  m 8191 == crc32c [m 8188, m 8189, m 8190] && m 8189 == crc32c ((List.range 8188).map m) && m 8190 % 65536 == 1 && m 8188 != 0

/-! ### The load at cold reset (R114) -/

/-- The bank to load and its CAL_BANK_SRC; none where FCAL is not valid either. -/
def loadChoice (nv : NonVolatile) : Option (Bank × Nat) :=
  if nv.calb0.valid && (!nv.calb1.valid || decide (nv.calb1.seq ≤ nv.calb0.seq)) then some (nv.calb0, 0)
  else if nv.calb1.valid then some (nv.calb1, 1)
  else if nv.fcal.valid then some (nv.fcal, 2)
  else none

/-- BANK_FALLBACK: the source is not the bank with the higher SEQ, or is FCAL (R114). -/
def loadFallback (nv : NonVolatile) : Bool :=
  match loadChoice nv with
  | some (_, 0) => decide (nv.calb0.seq < nv.calb1.seq)
  | some (_, 1) => decide (nv.calb1.seq < nv.calb0.seq)
  | _ => true

/-- The roles of a group that the loaded allocation implies (R75; DEDUCED, log entry 14): slices that serve a position are
active; of the others index 33 is the standby and 32 the calibration spare, 33 taking its place where 32 serves; a lower index
without a position has been retired. -/
def Dev.rolesFromAlloc (d : Dev) (g : Nat) : Dev :=
  let used := (List.range 32).map fun p => d.alloc g p
  let d1 := (List.range 34).foldl (fun (d : Dev) i =>
    d.setRole g i (if used.contains i then 0 else if i = 32 then 1 else if i = 33 then (if used.contains 32 then 1 else 3) else 5)) d
  let d2 := (List.range 32).foldl (fun (d : Dev) p => d.fset Reg.slice_LOGICAL_POS p (34 * g + d.alloc g p)) d1
  let left := ((List.range 34).filter fun i => d2.role g i == 1 || d2.role g i == 3).length
  let d3 := d2.fset Reg.loom_SPARES_LEFT left g
  let d4 := if left < 2 then d3.degrade (12 + g) 1 true else d3
  if left = 0 then d4.stopBorrow g else d4

/-- The coefficients are loaded from the bank that R114 chooses; without one the identity set serves and the fault is
contained. -/
def Dev.loadCalibration (d : Dev) (nv : NonVolatile) : Dev :=
  let r := (loadChoice nv).getD ({ base := .identity }, 2)
  let d1 := { d with assay.loaded := some r.1 }
  let d2 := ([0, 1, 2, 3].foldl Dev.rolesFromAlloc d1).showBanks nv
  let d3 := (d2.fset Reg.assay_ACTIVE r.2).fset Reg.top_CAL_BANK_SRC r.2
  let d4 := (if (loadChoice nv).isNone then d3.contain 17 0 true else d3).staleAny
  let d5 := if loadFallback nv then d4.raise 17 Ev.assay_BANK_FALLBACK else d4
  d5.startSet Reg.top_CAL_LOADED

/-- An island PLL locks (R26, R53). With all 44 locked once the coefficients are loaded, and start-up calibration can begin
(Table 01.7). -/
def islPllLockAll (i : Nat) (d : Dev) (nv : NonVolatile) : Dev × NonVolatile :=
  let d1 := islPllLock i d
  if d1.flag Reg.top_ISL_PLL_LOCK && !d1.flag Reg.top_CAL_LOADED then ((d1.loadCalibration nv).startupCal, nv) else (d1, nv)

/-! ### Commits (R112, R113, R115) -/

/-- A word of SLICE.ALLOC as commits write it: without the substitutions that injections made (R424). -/
def Dev.allocCommitted (d : Dev) (addr v : Nat) : Nat :=
  if d.fore.injAlloc.isEmpty then v
  else ((List.range 4).map fun q => (match KMap.find d.fore.injAlloc (32 * (addr / 8) + (4 * (addr % 8) + q)) with
    | some i => i
    | none => bitField v (8 * q) 8) * 2 ^ (8 * q)).sum

/-- The active bank: 0 CALB_0, 1 CALB_1, 2 FCAL. -/
def Dev.activeBank (d : Dev) (nv : NonVolatile) : Bank :=
  match d.fget Reg.assay_ACTIVE with
  | 0 => nv.calb0
  | 1 => nv.calb1
  | _ => nv.fcal

/-- The group whose SLICE_CORR, FIR or SKEW_TRIM entries a bank word holds (Table 04.4). -/
def wordGroup (w : Nat) : Option Nat :=
  if w < 272 then some (w / 68) else if w < 3536 then some ((w - 272) / 816) else if w < 4080 then some ((w - 3536) / 136) else none

/-- What a commit writes: the working coefficients, over what was loaded (R111, R118). Manual coefficients of a group reach MRAM only
through COMMIT_NOW or the admin command: other commits keep what the active bank holds (R110). -/
def Dev.bankImage (d : Dev) (nv : NonVolatile) (seq : Nat) : Bank :=
  let b := d.assay.loaded.getD { base := .identity }
  let kept := fun w => !d.assay.commitManual && (wordGroup w).any fun g => bitAt (d.fget Reg.assay_MANUAL) g
  let words := (List.range 4288).foldl (fun (m : KMap Nat) w =>
    match bankPlace w with
    | none => m
    | some (page, sel, addr) =>
      if kept w then KMap.put m w ((d.activeBank nv).word w) else
      let bank := if page = 17 then 0 else (d.tctlOf page sel).bank
      match KMap.find d.tabs (tkey page sel bank addr) with
      | some v => KMap.put m w (if page = 16 ∧ sel = 1 then d.allocCommitted addr v else v)
      | none => m) b.words
  { words := words, base := b.base, seq := seq, valid := seq != 0 }

/-- SEQ of the active bank: that of FCAL is the factory's. -/
def Dev.activeSeq (d : Dev) (nv : NonVolatile) : Nat :=
  match d.fget Reg.assay_ACTIVE with
  | 0 => nv.calb0.seq
  | 1 => nv.calb1.seq
  | _ => Config.fcalWord 8188 % 2 ^ 32

/-- The bank a commit writes: the inactive one, or the remaining one (R112, R115); none where both have failed. With FCAL
active it is CALB_0 (DESIGN CHOICE, log entry 15). -/
def Dev.commitTarget (d : Dev) : Option Nat :=
  let t := if d.fget Reg.assay_ACTIVE = 0 then 1 else 0
  if !d.bankFailed t then some t else if !d.bankFailed (1 - t) then some (1 - t) else none

/-- Whether COMMIT_MIN_GAP has passed, or the commit is for ALLOC (R113). -/
def Dev.commitGapOver (d : Dev) : Bool :=
  d.assay.commitAlloc || (match d.assay.lastCommit with
    | none => true
    | some t => decide (d.fget Reg.assay_COMMIT_MIN_GAP * 1000 ≤ d.ticksToUs (d.nowTick - t)))

/-- A requested commit starts (R112, R113). -/
def bankCommitStart (d : Dev) (nv : NonVolatile) : Dev × NonVolatile :=
  if d.assay.commit.isSome || !d.assay.commitReq || !d.commitGapOver || d.assay.loaded.isNone then (d, nv)
  else match d.commitTarget with
    | none => (({ d with
        assay.commitReq := false
        assay.commitAlloc := false
        assay.commitManual := false
        assay.commitCmds := [] }).finishCmds 4 0 d.assay.commitCmds, nv)
    | some t =>
      let c : Commit := {
        target := t
        step := 0
        retried := false
        serves := d.assay.commitCmds
        image := d.bankImage nv ((d.activeSeq nv + 1) % 2 ^ 32) }
      (({ d with
        assay.commit := some c
        assay.commitReq := false
        assay.commitAlloc := false
        assay.commitManual := false
        assay.commitCmds := [] }).fbit Reg.assay_COMMIT_BUSY true, nv)

/-- A block write of the commit completes (R112): the zeroing invalidates the target; the last block makes it the active
bank. -/
def mramBlockWriteDone (d : Dev) (nv : NonVolatile) : Dev × NonVolatile :=
  match d.assay.commit with
  | none => (d, nv)
  | some c =>
    let nv := { nv with mramWrites := nv.mramWrites + 1 }
    let next := { d with assay.commit := some { c with step := c.step + 1, retried := false } }
    if c.step = 0 then
      let nv1 := nv.setCalb c.target { nv.calb c.target with valid := false, seq := 0 }
      (next.showBanks nv1, nv1)
    else if c.step < 512 then (next, nv)
    else
      let nv1 := nv.setCalb c.target c.image
      let d1 := ({ d with assay.commit := none, assay.lastCommit := some d.nowTick }.fbit Reg.assay_COMMIT_BUSY false).fset
        Reg.assay_ACTIVE c.target
      (((d1.showBanks nv1).raise 17 Ev.assay_COMMIT_DONE).finishCmds 0 c.image.seq c.serves, nv1)

/-- A block write has not completed within 20 µs (R115): it is retried once; then the commit moves to the other bank, or ends
where that one has failed too. Each failure counts in the MRAM error rates of the margin plan (Table 18.2, R430). -/
def mramRetry (d0 : Dev) : Dev :=
  match d0.assay.commit with
  | none => d0
  | some c =>
    let d := { d0 with fore.mramFails := d0.fore.mramFails + 1 }
    let d1 := d.countTimeout 17
    if !c.retried then { d1 with assay.commit := some { c with retried := true } }.countRecovery 17
    else
      let d2 := (((d1.fbit (if c.target = 0 then Reg.assay_CALB0_FAILED else Reg.assay_CALB1_FAILED) true).raise 17
        Ev.assay_MRAM_RETRY).faultDegrades 17 1 0).logErr 17 Ev.assay_MRAM_RETRY c.target 0
      if d2.bankFailed (1 - c.target) then
        (({ d2 with assay.commit := none }.fbit Reg.assay_COMMIT_BUSY false).contain 17 1 true).finishCmds 4 0 c.serves
      else { d2 with assay.commit := some { c with target := 1 - c.target, step := 0, retried := false } }.countRecovery 17

/-- A write of 1 to COMMIT_NOW (R113). -/
def commitNow (d : Dev) : Dev := { d with assay.commitReq := true, assay.commitManual := true }

/-! ### Commands -/

/-- ISL_PLL_LOCK (R26). -/
def execIslPllLock (i : Fin 44) (s : State) : Host.Outcome State Fault Refusal := .next (s.live fun s => s.onDevNv (islPllLockAll i))

/-- COMMIT_NOW (R113): the other fields of the register are written with their current values. -/
def execCommitNow (who : Requester) (s : State) : Host.Outcome State Fault Refusal :=
  .next (s.live fun s => s.onDev fun d => d.writeGate who 17 0x040 (256 + d.fget Reg.assay_BLACKOUT + 16 * d.fget Reg.assay_MANUAL) false commitNow)

/-- BANK_COMMIT_START (R112, R113). -/
def execBankCommitStart (s : State) : Host.Outcome State Fault Refusal := .next (s.live fun s => s.onDevNv bankCommitStart)

/-- MRAM_BLOCK_WRITE_DONE (R112). -/
def execMramBlockWriteDone (s : State) : Host.Outcome State Fault Refusal := .next (s.live fun s => s.onDevNv mramBlockWriteDone)

/-- MRAM_RETRY (R115). -/
def execMramRetry (s : State) : Host.Outcome State Fault Refusal := .next (s.live fun s => s.onDev mramRetry)

end Sys2Proof.Machine
end

