-- ==== Sys2Proof/Machine/Float.lean ====
section
/-!
DEFINITION. IEEE 754 binary32 and binary64 as the journeymen use them (R276, R287): numbers as exact fractions with their
sign, rounded to nearest with ties to even.
-/

namespace Sys2Proof.Machine

/-- A format: precision in bits and exponent width. -/
structure FloatFmt where
  prec : Nat
  ebits : Nat
  deriving DecidableEq, Repr

/-- binary32. -/
def binary32 : FloatFmt := ⟨24, 8⟩
/-- binary64. -/
def binary64 : FloatFmt := ⟨53, 11⟩

/-- The exponent field's largest finite step. -/
def FloatFmt.infBits (f : FloatFmt) : Nat := (2 ^ f.ebits - 1) * 2 ^ (f.prec - 1)

/-- The sign bit's weight. -/
def FloatFmt.signBit (f : FloatFmt) : Nat := 2 ^ (f.prec - 1 + f.ebits)

/-- The quiet NaN of R288. -/
def FloatFmt.qnan (f : FloatFmt) : Nat := f.infBits + 2 ^ (f.prec - 2)

/-- The smallest exponent, as a negative count: 126 or 1,022. -/
def FloatFmt.emin (f : FloatFmt) : Nat := 2 ^ (f.ebits - 1) - 2

/-- A number: not a number, an infinity, or a sign and a fraction. -/
inductive Num where
  | nan
  | inf (neg : Bool)
  | fin (neg : Bool) (n d : Nat)
  deriving DecidableEq, Repr

/-- The number of an integer. -/
def Num.ofInt (i : Int) : Num := .fin (decide (i < 0)) i.natAbs 1

/-- The number of a fraction. -/
def Num.ofFrac (i : Int) (d : Nat) : Num := .fin (decide (i < 0)) i.natAbs (max 1 d)

/-- Whether a number is below zero, or a negative zero or infinity. -/
def Num.neg : Num → Bool
  | .nan => false
  | .inf s => s
  | .fin s _ _ => s

/-- Round a / b to the nearest integer, ties to even. -/
def roundEven (a b : Nat) : Nat :=
  let q := a / b
  let r := 2 * (a % b)
  if b < r then q + 1 else if r = b then q + q % 2 else q

/-- The exponent of a positive fraction: the largest e with 2^e ≤ n / d. -/
def fracExp (n d : Nat) : Int :=
  let e : Int := (Nat.log2 n : Int) - Nat.log2 d
  if (if 0 ≤ e then decide (d * 2 ^ e.toNat ≤ n) else decide (d ≤ n * 2 ^ (-e).toNat)) then e else e - 1

/-- The bits of a rounded magnitude with exponent e: the significand is `sig u`, the value in units of 2^u, rounded. -/
def FloatFmt.pack (f : FloatFmt) (e : Int) (sig : Int → Nat) : Nat :=
  let e1 := max e (-(f.emin : Int))
  let m := sig (e1 - (f.prec - 1 : Nat))
  min f.infBits ((e1 + f.emin).toNat * 2 ^ (f.prec - 1) + m)

/-- Round a number to a format, ties to even. -/
def FloatFmt.round (f : FloatFmt) : Num → Nat
  | .nan => f.qnan
  | .inf s => f.infBits + if s then f.signBit else 0
  | .fin s n d =>
    (if s then f.signBit else 0) +
      if n = 0 then 0
      else f.pack (fracExp n d) fun u => if 0 ≤ u then roundEven n (d * 2 ^ u.toNat) else roundEven (n * 2 ^ (-u).toNat) d

/-- The number that bits of a format stand for. -/
def FloatFmt.num (f : FloatFmt) (b : Nat) : Num :=
  let s := b / f.signBit % 2 == 1
  let e := b / 2 ^ (f.prec - 1) % 2 ^ f.ebits
  let m := b % 2 ^ (f.prec - 1)
  if e = 2 ^ f.ebits - 1 then (if m = 0 then .inf s else .nan)
  else
    let sig := if e = 0 then m else m + 2 ^ (f.prec - 1)
    let x : Int := (max e 1 : Nat) - (f.emin + f.prec : Nat)
    if 0 ≤ x then .fin s (sig * 2 ^ x.toNat) 1 else .fin s sig (2 ^ (-x).toNat)

/-- Negate. -/
def Num.negate : Num → Num
  | .nan => .nan
  | .inf s => .inf !s
  | .fin s n d => .fin (!s) n d

/-- The signed numerator of a fraction. -/
def signedNum (s : Bool) (n : Nat) : Int := if s then -(n : Int) else n

/-- The exact sum; the sign of a zero sum is that of IEEE 754. -/
def Num.add : Num → Num → Num
  | .nan, _ => .nan
  | _, .nan => .nan
  | .inf s, .inf t => if s == t then .inf s else .nan
  | .inf s, _ => .inf s
  | _, .inf t => .inf t
  | .fin s n d, .fin t m e =>
    let i := signedNum s n * e + signedNum t m * d
    if i = 0 then .fin (s && t) 0 1 else .fin (decide (i < 0)) i.natAbs (d * e)

/-- The exact product. -/
def Num.mul : Num → Num → Num
  | .nan, _ => .nan
  | _, .nan => .nan
  | .inf s, .inf t => .inf (s != t)
  | .inf s, .fin t m _ => if m = 0 then .nan else .inf (s != t)
  | .fin s n _, .inf t => if n = 0 then .nan else .inf (s != t)
  | .fin s n d, .fin t m e => .fin (s != t) (n * m) (d * e)

/-- The exact quotient. -/
def Num.div : Num → Num → Num
  | .nan, _ => .nan
  | _, .nan => .nan
  | .inf _, .inf _ => .nan
  | .inf s, .fin t _ _ => .inf (s != t)
  | .fin s _ _, .inf t => .fin (s != t) 0 1
  | .fin s n d, .fin t m e =>
    if m = 0 then (if n = 0 then .nan else .inf (s != t)) else .fin (s != t) (n * e) (d * m)

/-- Whether a < b; a NaN compares false. -/
def Num.lt : Num → Num → Bool
  | .nan, _ => false
  | _, .nan => false
  | .inf s, .inf t => s && !t
  | .inf s, .fin _ _ _ => s
  | .fin _ _ _, .inf t => !t
  | .fin s n d, .fin t m e => decide (signedNum s n * e < signedNum t m * d)

/-- Whether a = b. -/
def Num.eq : Num → Num → Bool
  | .nan, _ => false
  | _, .nan => false
  | .inf s, .inf t => s == t
  | .inf _, .fin _ _ _ => false
  | .fin _ _ _, .inf _ => false
  | .fin s n d, .fin t m e => decide (signedNum s n * e = signedNum t m * d)

/-- Whether a ≤ b. -/
def Num.le (a b : Num) : Bool := a.lt b || a.eq b

/-- floor(v + 1/2) as an integer (R83); none for a NaN or an infinity. -/
def Num.roundInt : Num → Option Int
  | .fin s n d => some (roundDiv (signedNum s n) d)
  | _ => none

/-- The square root of n / d, rounded to nearest in a format. -/
def FloatFmt.sqrt (f : FloatFmt) (n d : Nat) : Nat :=
  if n = 0 then 0
  else
    let e := (fracExp n d).fdiv 2
    f.pack e fun u =>
      let a := if 0 ≤ u then n else n * 2 ^ (2 * (-u).toNat)
      let b := if 0 ≤ u then d * 2 ^ (2 * u.toNat) else d
      let r := isqrt (a / b)
      if (2 * r + 1) * (2 * r + 1) * b < 4 * a then r + 1
      else if (2 * r + 1) * (2 * r + 1) * b = 4 * a then r + r % 2 else r

end Sys2Proof.Machine
end

