-- ==== Sys2Proof/Machine/CasOps.lean ====
section
/-!
DEFINITION. Frames of the cascade links: how a frame is built and sent (R373, R374), trigger messages (R384), and the instants
that they carry.
-/

namespace Sys2Proof.Machine

/-- The low and high 32-bit halves of 64-bit words, low first. -/
def halves (ws : List Nat) : List Nat := ws.flatMap fun w => [w % 2 ^ 32, w / 2 ^ 32 % 2 ^ 32]

/-- A frame's header word (R373). -/
def frameHeader (cls src dst len seq : Nat) : Nat :=
  cls % 16 + 16 * (src % 1024) + 2 ^ 14 * (dst % 1024) + 2 ^ 24 * (len % 256) + 2 ^ 32 * (seq % 2 ^ 32)

/-- A whole frame: header, payload, CRC trailer (R373). -/
def frameWords (cls src dst seq : Nat) (payload : List Nat) : List Nat :=
  let ws := frameHeader cls src dst payload.length seq :: payload
  ws ++ [crc32c (halves ws)]

/-- Whether a frame class is acknowledged (Table 15.1). -/
def ackedClass (cls : Nat) : Bool := cls == 2 || cls == 3 || cls == 4

/-- A frame as it leaves a port. -/
def frameOut (port cls seq : Nat) (c : FrameContent) : Output :=
  match c with
  | .words src dst ws => .frame port cls seq (frameWords cls src dst seq ws)
  | .mgmt m => .mgmt port seq m
  | .data src dst p => .data port seq src dst p

/-- Send a frame on a port; an acknowledged one is held until it is acknowledged (R373, R374). -/
def Dev.sendFrame (d : Dev) (port cls : Nat) (c : FrameContent) : Dev :=
  let k := port * 16 + cls
  let seq := KMap.at d.cas.tx 0 k
  ({ d with
    cas.tx := KMap.put d.cas.tx k ((seq + 1) % 2 ^ 32)
    cas.held := if ackedClass cls then d.cas.held ++ ([{ port := port, cls := cls, seq := seq, what := c }] : List HeldFrame)
      else d.cas.held }).emit (frameOut port cls seq c)

/-- A port beside its registers. -/
def Dev.casPort (d : Dev) (n : Nat) : CasPort := KMap.at d.cas.ports {} n

/-- Replace it. -/
def Dev.setCasPort (d : Dev) (n : Nat) (p : CasPort) : Dev := { d with cas.ports := KMap.put d.cas.ports n p }

/-- Whether a port is up: state 3 of Table 15.7. -/
def Dev.portUp (d : Dev) (n : Nat) : Bool := d.fget Reg.cas_port_STATE n == 3

/-- The ports that are up. -/
def Dev.upPorts (d : Dev) : List Nat := (List.range 4).filter d.portUp

/-- The port in an uplink role, if one is (R376). -/
def Dev.uplink (d : Dev) (role : Nat) : Option Nat := (List.range 4).find? fun n => d.fget Reg.cas_port_ROLE n == role

/-- The uplink in use: the alternate while ALT_ACTIVE is 1, else the primary; a root has none (R376, R379). -/
def Dev.activeUplink (d : Dev) : Option Nat :=
  if d.flag Reg.cas_ROOT then none else d.uplink (if d.flag Reg.cas_ALT_ACTIVE then 2 else 1)

/-- Whether a port is a downlink that is up. -/
def Dev.downUp (d : Dev) (n : Nat) : Bool := d.fget Reg.cas_port_ROLE n == 3 && d.portUp n

/-- The devices below a port, with their hops below this device. -/
def Dev.belowPort (d : Dev) (n : Nat) : List (Nat × Nat) :=
  if d.downUp n then ((d.casPort n).peer.map fun m => (m.devId, 1) :: m.below.map fun e => (e.1, e.2 + 1)).getD [] else []

/-- The port toward a device: down the tree into its subtree, else up (R388). -/
def Dev.pathTo (d : Dev) (dst : Nat) : Option Nat :=
  match (List.range 4).find? fun n => (d.belowPort n).any fun e => e.1 == dst with
  | some n => some n
  | none => d.activeUplink.filter d.portUp

/-- Send a DATA frame toward a device; with no path it is lost (log entry 34). -/
def Dev.sendData (d : Dev) (src dst : Nat) (part : DataPart) : Dev :=
  match d.pathTo dst with
  | some n => d.sendFrame n 4 (.data src dst part)
  | none => d

/-- A list in pieces of at most 128 words: 64 payload words of 64 bits (Table 15.1). -/
def chunk128 : Nat → List Nat → List (List Nat)
  | 0, _ => []
  | fuel + 1, l => if l.isEmpty then [] else l.take 128 :: chunk128 fuel (l.drop 128)

/-- Entry k of XACC (R387). -/
def Dev.xaccWord (d : Dev) (k : Nat) : Nat := d.tactive 69 0 k

/-- A dump of partition k is also sent to another device, where XACC says so: its header and its image (R387). -/
def Dev.xaccSend (d : Dev) (k : Nat) (words : List Nat) : Dev :=
  let w := d.xaccWord k
  if !bitAt w 0 then d
  else
    let cs := chunk128 words.length words
    ((List.range cs.length).zip cs).foldl (fun (d : Dev) c =>
      d.sendData (d.fget Reg.cas_DEV_ID) (bitField w 1 10) (.image (bitField w 11 4) (128 * c.1) c.2)) d

/-- The payload word of a trigger message (Table 15.3); the instant in 2^-16 nominal ticks. -/
def trigPayload (typ origin seqT stamp : Nat) : Nat :=
  typ % 4 + 4 * (origin % 1024) + 2 ^ 12 * (seqT % 4096) + 2 ^ 24 * (stamp % 65536) + 2 ^ 40 * (stamp / 65536 % 2 ^ 24)

/-- The device sends a trigger message of its own on every port that is up, with TRIG_TX at 1 (R384). -/
def Dev.trigMsg (d : Dev) (typ seqT stamp : Nat) : Dev :=
  if !d.flag Reg.cas_TRIG_TX then d
  else
    let id := d.fget Reg.cas_DEV_ID
    d.upPorts.foldl (fun (d : Dev) n => d.sendFrame n 2 (.words id 0x3FF [trigPayload typ id seqT stamp])) d

end Sys2Proof.Machine
end

