-- ==== Sys2Proof/Machine/Till.lean ====
section
/-!
DEFINITION. The Till: partitions and their banks, binding, record reads in the five modes, result records, clears, dumps,
snapshots and loads, running and stopping, bank protection (R248 to R275).
-/

namespace Sys2Proof.Machine

/-- Partition k. -/
def Dev.part (d : Dev) (k : Nat) : TillPart := KMap.at d.till.parts {} k

/-- Replace partition k; BACKLOG follows its bound segments. -/
def Dev.setPart (d : Dev) (k : Nat) (p : TillPart) : Dev :=
  ({ d with till.parts := KMap.put d.till.parts k p }).fset Reg.accu_part_BACKLOG p.bound.length k

/-- Set STATE of a partition; RUNNING follows (Table 10.5). -/
def Dev.partState (d : Dev) (k st : Nat) : Dev :=
  (d.fset Reg.accu_part_STATE st k).fsetBit Reg.accu_RUNNING k (st != 0)

/-- STATE of a partition: 0 idle, 1 running, 2 draining, 3 clearing. -/
def Dev.partIs (d : Dev) (k : Nat) : Nat := d.fget Reg.accu_part_STATE k

/-! ### Shape (R249, R250, Table 10.7) -/

/-- What a partition's image looks like. -/
structure TillShape where
  mode : Nat
  points : Nat
  rows : Nat
  /-- UNITS and BASE_UNIT. -/
  units : Nat
  base : Nat
  deriving DecidableEq, Repr

/-- COLS or ROWS of a selection. -/
def tillSel (s : Nat) : Nat := 256 * 2 ^ s

/-- COLS and ROWS of a DENSITY partition. -/
def Dev.partMap (d : Dev) (k : Nat) : Nat × Nat :=
  let w := d.fget Reg.accu_part_PARAM2 k
  (tillSel (bitField w 0 3), tillSel (bitField w 3 3))

/-- The shape of a partition in a mode. -/
def Dev.shapeIn (d : Dev) (k mode : Nat) : TillShape :=
  let m := d.partMap k
  { mode := mode
    points := if mode = 2 then m.1 else if mode = 4 then 0 else d.fget Reg.accu_part_POINTS k
    rows := if mode = 2 then m.2 else 0
    units := d.fget Reg.accu_part_UNITS k
    base := d.fget Reg.accu_part_BASE_UNIT k }

/-- The shape of a partition. -/
def Dev.shape (d : Dev) (k : Nat) : TillShape := d.shapeIn k (d.fget Reg.accu_part_MODE k)

/-- Words of one point: B / 4 (R250). -/
def TillShape.perPoint (t : TillShape) : Nat := if t.mode = 2 then t.rows else if t.mode = 3 then 2 else 1

/-- Words of the image (Table 10.4). -/
def TillShape.words (t : TillShape) : Nat := if t.mode = 4 then 4 else t.points * t.perPoint

/-- Islands that the partition spans: I (R249). -/
def TillShape.islands (t : TillShape) : Nat := max 1 (min t.units 4)

/-- Points on die: whole blocks of 32 per island (R250). -/
def TillShape.capacity (t : TillShape) : Nat :=
  (t.units / t.islands) * 262144 / (32 * max 1 t.perPoint) * t.islands * 32

/-- Whether the points fit on die (R250). -/
def TillShape.fits (t : TillShape) : Bool :=
  t.mode == 4 || decide (((t.points + 31) / 32 + t.islands - 1) / t.islands * 32 * (4 * t.perPoint) ≤ t.units / t.islands * 2 ^ 20)

/-- Where an image word stands: in the extension area, at an HBM-tier offset, or in a bank. -/
inductive TillPlace where
  | bank (key : Nat)
  | ext (off : Nat)
  /-- Beyond the banks, and without an extension: nothing holds it. -/
  | none
  deriving DecidableEq, Repr

/-- The place of a word of a point: block b of 32 points is dealt to unit BASE_UNIT + (b mod I) as local block b div I, and goes
on in every fourth unit; with HBM_EXT (`ext`), points of AVERAGE and ENVELOPE beyond the capacity lie in the extension area (R249, R250,
R264). -/
def TillShape.place (t : TillShape) (ext : Option Nat) (p sub : Nat) : TillPlace :=
  let onDie := fun (key : Nat) => if key < 96 * 262144 then TillPlace.bank key else .none
  if t.mode = 4 then onDie (t.base * 262144 + sub)
  else if t.capacity ≤ p then (match ext with
    | some base => if t.mode ≤ 1 then .ext (base * 65536 + 4 * (p - t.capacity)) else .none
    | Option.none => .none)
  else
    let b := p / 32
    let w := (b / t.islands * 32 + p % 32) * t.perPoint + sub
    onDie ((t.base + b % t.islands + 4 * (w / 262144)) * 262144 + w % 262144)

/-- The point of an image word, and the word within it (Table 10.4). -/
def TillShape.wordOf (t : TillShape) (w : Nat) : Nat × Nat :=
  if t.mode = 4 then (0, w)
  else if t.mode = 2 then (w % max 1 t.points, w / max 1 t.points)
  else (w / t.perPoint, w % t.perPoint)

/-- The place of image word w of partition k. -/
def Dev.tillPlace (d : Dev) (k : Nat) (t : TillShape) (w : Nat) : TillPlace :=
  t.place (if d.flag Reg.accu_part_HBM_EXT k then some (d.fget Reg.accu_part_EXT_BASE k) else none) (t.wordOf w).1 (t.wordOf w).2

/-- Image word w of partition k. -/
def State.tillGet (s : State) (k : Nat) (t : TillShape) (w : Nat) : Nat :=
  match s.dev.tillPlace k t w with
  | .bank key => KMap.at s.dev.till.banks 0 key
  | .ext off => s.hbmWord off
  | .none => 0

/-- Set a bank word. -/
def Dev.bankSet (d : Dev) (key v : Nat) : Dev :=
  { d with till.banks := if v % 2 ^ 32 = 0 then KMap.del d.till.banks key else KMap.put d.till.banks key (v % 2 ^ 32) }

/-- Set image word w of partition k. -/
def State.tillSet (s : State) (k : Nat) (t : TillShape) (w v : Nat) : State :=
  match s.dev.tillPlace k t w with
  | .bank key => s.onDev fun d => d.bankSet key v
  | .ext off => s.hbmStore off [v % 2 ^ 32]
  | .none => s

/-- Set image words from w on. -/
def State.tillSetWords (s : State) (k : Nat) (t : TillShape) (w : Nat) : List Nat → State
  | [] => s
  | v :: vs => (s.tillSet k t w v).tillSetWords k t (w + 1) vs

/-- The image of a partition. -/
def State.tillImage (s : State) (k : Nat) (t : TillShape) : List Nat := (List.range t.words).map (s.tillGet k t)

/-- What image word w holds after a clear; none where a clear keeps it (Table 10.2). A PRODUCT image is TOTAL and SEGMENTS, which
R265 sets to 0. -/
def TillShape.cleared (t : TillShape) (w : Nat) : Option Nat :=
  if t.mode = 1 then some 0x80007FFF else if t.mode = 3 && w % 2 == 0 then none else some 0

/-- Set every point to its clear value. -/
def State.tillWipe (s : State) (k : Nat) (t : TillShape) : State :=
  (List.range t.words).foldl (fun (s : State) w => match t.cleared w with
    | some v => s.tillSet k t w v
    | none => s) s

/-! ### Sources -/

/-- The kind of a source ring: 0 12-bit codes (a stream ring or SAMPLE), 1 PEAK, 2 HIRES or FILTERED, 3 none that the Till reads. -/
def Dev.srcKind (d : Dev) (r : Nat) : Nat :=
  if r < 4 then 0
  else if 12 ≤ r then 3
  else match d.fget Reg.deci_dch_MODE (r - 4) with
    | 0 => 0
    | 1 => 1
    | 2 => 2
    | 4 => 2
    | _ => 3

/-- Whether a mode accepts a source ring. -/
def Dev.srcOk (d : Dev) (mode r : Nat) : Bool :=
  let k := d.srcKind r
  k == 0 || k == 2 || (k == 1 && mode == 1)

/-- Whether two rings may be multiplied: both stream rings, or decimator rings of equal mode and ratio (R261), and not one ring
twice (R270). -/
def Dev.pairOk (d : Dev) (r q : Nat) : Bool :=
  r != q && d.srcOk 4 q &&
    ((decide (r < 4) && decide (q < 4)) || (decide (4 ≤ r) && decide (4 ≤ q) &&
      d.fget Reg.deci_dch_MODE (r - 4) == d.fget Reg.deci_dch_MODE (q - 4) && d.ratio (r - 4) == d.ratio (q - 4)))

/-- The source value at window position j of a segment in ring r: minimum and maximum for PEAK, the same value twice
otherwise. -/
def State.srcValue (s : State) (g : Segment) (r j : Nat) : Int × Int :=
  let d := s.dev
  let n := (d.windowIn r g.first g.last).1 + j
  let anchor := g.anchors.getD r 0
  let a := d.fget Reg.acq_ring_BASE r * 65536 + d.byteAt anchor r n
  let v := s.hbmByte a + 256 * s.hbmByte (a + 1) + 65536 * s.hbmByte (a + 2)
  match d.srcKind r with
  | 0 => if ((n : Int) - anchor) % 2 == 1 then ((unpackPair v).2, (unpackPair v).2) else ((unpackPair v).1, (unpackPair v).1)
  | 1 => unpackPair v
  | _ => (toSigned 16 v, toSigned 16 v)

/-- Positions of a segment's window in ring r. -/
def Dev.windowLen (d : Dev) (g : Segment) (r : Nat) : Nat :=
  let w := d.windowIn r g.first g.last
  w.2 + 1 - w.1

/-- The trigger's position in the window of ring r (R258, R261; for a decimator ring, in its outputs; DEDUCED, log entry 22). -/
def Dev.trigIn (d : Dev) (g : Segment) (r : Nat) : Int :=
  if r < 4 then g.trigIndex
  else (((g.first : Int) + g.trigIndex).fdiv (d.ratio (r - 4))) - ((d.windowIn r g.first g.last).1 : Nat)

/-- The record limit of an AVERAGE partition (R256). -/
def Dev.recordLimit (d : Dev) (k : Nat) : Nat := if d.srcKind (d.fget Reg.accu_part_SRC k) = 0 then 2 ^ 20 else 2 ^ 16

/-- DUMP_RECORDS in force (R266). -/
def Dev.dumpRecords (d : Dev) (k : Nat) : Nat :=
  let n := d.fget Reg.accu_part_PARAM0 k % 2 ^ 21
  if n = 0 then d.recordLimit k else min n (d.recordLimit k)

/-! ### Binding (R252, R254) -/

/-- Whether a partition binds a segment of a CAUSE and SEG_RINGS. -/
def Dev.binds (d : Dev) (k rings cause : Nat) : Bool :=
  d.partIs k == 1 && bitAt rings (d.fget Reg.accu_part_SRC k) &&
    (d.fget Reg.accu_part_MODE k != 4 || bitAt rings (d.fget Reg.accu_part_SRC2 k)) &&
    (cause &&& d.fget Reg.accu_part_CAUSE_MASK k) != 0

/-- Bind a segment to partition k, or count it in MISSED (R254). -/
def Dev.bindTo (d : Dev) (g : Segment) (k : Nat) : Dev :=
  if !d.binds k g.rings g.cause then d
  else
    let p := d.part k
    if 8192 ≤ p.bound.length then (d.finc Reg.accu_part_MISSED 1 k).raise 25 Ev.accu_BEHIND
    else (d.setPart k { p with bound := p.bound ++ [g.num] }).readSeg g.num true

/-- Every running partition binds a segment at its commit (R252). -/
def Dev.tillBind (d : Dev) (n : Nat) : Dev :=
  match d.seg n with
  | none => d
  | some g => (List.range 16).foldl (fun (d : Dev) k => d.bindTo g k) d

/-- A draining partition with nothing left to read, and no sweep left to end, is idle (R267, R271). -/
def Dev.partDrained (d : Dev) (k : Nat) : Dev :=
  let p := d.part k
  if d.partIs k == 2 && p.bound.isEmpty && p.sweep.isNone && p.due.isNone then d.partState k 0 else d

/-- Unbind a segment. -/
def Dev.unbind (d : Dev) (k n : Nat) : Dev :=
  let p := d.part k
  if p.bound.contains n then
    ((d.setPart k { p with bound := p.bound.filter (· != n) }).readSeg n false).partDrained k
  else d

/-- A retracted segment is unbound at once (R253). -/
def Dev.tillRetract (d : Dev) (n : Nat) : Dev := (List.range 16).foldl (fun (d : Dev) k => d.unbind k n) d

/-- A bound segment is skipped: counted, and unbound unread. -/
def Dev.tillSkip (d : Dev) (k n : Nat) : Dev :=
  let p := d.part k
  ((d.setPart k { p with cur := none, skipSince := satAdd 32 p.skipSince 1 }).finc Reg.accu_part_SKIPPED 1 k).unbind k n

/-! ### Sweeps and dumps (R266 to R268) -/

/-- Bytes and slot size of a dump image: SLOT_UNITS × 65,536 (R268). -/
def TillShape.slotBytes (t : TillShape) : Nat := (64 + 4 * t.words + 65535) / 65536 * 65536

/-- Word 7 of a dump header: COLS of a DENSITY partition, POINTS of any other (Table 10.3). -/
def Dev.headerPoints (d : Dev) (k : Nat) (t : TillShape) : Nat := if t.mode = 2 then t.points else d.fget Reg.accu_part_POINTS k

/-- The header of a dump (Table 10.3). -/
def Dev.dumpHeader (d : Dev) (k : Nat) (t : TillShape) (auto clear : Bool) (image : List Nat) : List Nat :=
  let p := d.part k
  let seg := p.range.getD (0, 0)
  let ws := [k + 16 * t.mode + 256 * Bool.bit auto + 512 * Bool.bit clear + 1024 * Bool.bit p.torn + 2048 * Bool.bit p.sat +
      4096 * Bool.bit p.eccLost,
    p.dumpSeq % 2 ^ 32, seg.1 % 2 ^ 32, seg.1 / 2 ^ 32, seg.2 % 2 ^ 32, seg.2 / 2 ^ 32, d.fget Reg.accu_part_RECORDS k, d.headerPoints k t, t.rows,
    if t.mode = 2 then p.outside else if t.mode = 3 then p.pass else 0, if t.mode = 3 then p.fail else 0, p.skipSince, 0,
    4 * t.words, crc32c image]
  ws ++ [crc32c ws]

/-- What a clear sets beside the points: RECORDS, the counts of the image, the saturation memory (R265, R266). -/
def Dev.countsClear (d : Dev) (k : Nat) : Dev :=
  (d.setPart k { d.part k with outside := 0, pass := 0, fail := 0, range := none, satSeen := false }).fset Reg.accu_part_RECORDS 0 k

/-- The image that a dump takes: a point whose value was lost reads 0, or its clear value (R272). -/
def State.tillShown (s : State) (k : Nat) (t : TillShape) : List Nat :=
  (List.range t.words).map fun w =>
    if (s.dev.part k).lostPoints.contains (t.wordOf w).1 then (t.cleared w).getD (s.tillGet k t w) else s.tillGet k t w

/-- The sweep that has fallen due starts, once no other runs: the image is what the points hold at the boundary, and a clearing sweep leaves them
cleared for the records that follow (R266, R267). -/
def State.sweepStart (s : State) (k : Nat) : State :=
  let p := s.dev.part k
  match p.due with
  | none => s
  | some (auto, clear) =>
    if p.sweep.isSome then s else
    let t := s.dev.shape k
    let image := s.tillShown k t
    let slots := s.dev.fget Reg.accu_part_DUMP_SLOTS k
    let head := if slots = 0 then 0 else s.dev.fget Reg.accu_part_DUMP_HEAD k % slots
    let slot := s.dev.fget Reg.accu_part_DUMP_BASE k * 65536 + head * t.slotBytes
    let h := s.dev.dumpHeader k t auto clear image
    let s1 := s.onDev fun d => (d.setPart k { p with
      due := none
      sweep := some { header := h, image := image, slot := slot, auto := auto }
      lostPoints := []
      torn := false
      sat := false
      eccLost := false
      skipSince := 0
      dumpSeq := p.dumpSeq + 1 }).fbit Reg.accu_part_SWEEP true k
    if clear then (s1.onDev fun d => d.countsClear k).tillWipe k t else s1

/-- At a record boundary, or at once while no record is read, a requested snapshot falls due, behind a sweep in progress; one requested
during an automatic sweep waits for a boundary (R267). -/
def Dev.snapDue (d : Dev) (k : Nat) (boundary : Bool := false) : Dev :=
  let p := d.part k
  match p.snap with
  | some c =>
    if p.cur.isNone && p.due.isNone && p.sweep.isNone && (boundary || !p.snapLate) then
      d.setPart k { p with snap := none, snapLate := false, due := some (false, c) }
    else d
  | none => d

/-- The image and then the header are written to the slot, DUMP_HEAD moves on, DUMP_DONE is raised (R268); XACC may send it to another
device (R387). -/
def State.dumpDone (s : State) (k : Nat) : State :=
  let p := s.dev.part k
  match p.sweep with
  | none => s
  | some w =>
    let s1 := (s.hbmStore (w.slot + 64) w.image).hbmStore w.slot w.header
    s1.onDev fun d =>
      let slots := d.fget Reg.accu_part_DUMP_SLOTS k
      let head := if slots = 0 then 0 else (d.fget Reg.accu_part_DUMP_HEAD k % slots + 1) % slots
      ((((d.setPart k { p with sweep := none }).fbit Reg.accu_part_SWEEP false k).fset Reg.accu_part_DUMP_HEAD head k |>.raise 25
        (Ev.accu_DUMP_DONE + k) |>.xaccSend k (w.header ++ w.image)).snapDue k).partDrained k

/-! ### Accumulation (R256 to R262) -/

/-- A saturation: SAT in the next dump header, and SAT raised on the first since the last clear (R259). -/
def Dev.tillSat (d : Dev) (k : Nat) : Dev :=
  let p := d.part k
  if p.satSeen then d else (d.setPart k { p with satSeen := true, sat := true }).raise 25 Ev.accu_SAT

/-- AVERAGE: add a value into the sum of a point. -/
def State.addAverage (s : State) (k : Nat) (t : TillShape) (j : Nat) (v : Int) : State :=
  s.tillSet k t j (ofSigned 32 (toSigned 32 (s.tillGet k t j) + v))

/-- ENVELOPE: take the smaller minimum and the larger maximum. -/
def State.addEnvelope (s : State) (k : Nat) (t : TillShape) (j : Nat) (v : Int × Int) : State :=
  let x := s.tillGet k t j
  s.tillSet k t j (ofSigned 16 (min (toSigned 16 x) v.1) + 65536 * ofSigned 16 (max (toSigned 16 (x / 65536)) v.2))

/-- The phase of the trigger after its sample, in 1/256 sample (R258). -/
def densityPhase (stream : Bool) (f16 t n : Nat) : Int :=
  if stream then clampInt 0 255 ((f16 * n / 256 : Nat) - (256 * (t % n) : Nat)) else 0

/-- DENSITY: count a sample's cell, or OUTSIDE (R258, R259). -/
def State.addDensity (s : State) (k : Nat) (t : TillShape) (g : Segment) (r j : Nat) (v : Int) : State :=
  let d := s.dev
  let p2 := d.fget Reg.accu_part_PARAM2 k
  let trig := (g.first : Int) + g.trigIndex
  let phase := densityPhase (decide (r < 4)) (g.stamp.getD 0 0 / 65536) trig.toNat (samplesPer d.mode)
  let tj := ((j : Int) - d.trigIn g r) * 256 - phase
  let c := (tj - d.fgetS Reg.accu_part_PARAM0 k).fdiv (2 ^ bitField p2 6 5 : Nat)
  let row := (v - toSigned 16 (d.fget Reg.accu_part_PARAM1 k)).fdiv (2 ^ bitField p2 11 4 : Nat)
  if c < 0 || (t.points : Int) ≤ c then s
  else if row < 0 || (t.rows : Int) ≤ row then
    s.onDev fun d => d.setPart k { d.part k with outside := satAdd 32 (d.part k).outside 1 }
  else
    let w := row.toNat * t.points + c.toNat
    let x := s.tillGet k t w
    if x = 2 ^ 32 - 1 then s.onDev fun d => d.tillSat k else s.tillSet k t w (x + 1)

/-- MASK: a sample fails outside LO to HI (R260). -/
def State.addMask (s : State) (k : Nat) (t : TillShape) (j : Nat) (v : Int) : State :=
  let x := s.tillGet k t (2 * j)
  if v < toSigned 16 x || toSigned 16 (x / 65536) < v then
    (s.tillSet k t (2 * j + 1) (satAdd 32 (s.tillGet k t (2 * j + 1)) 1)).onDev fun d =>
      d.setPart k { d.part k with cur := (d.part k).cur.map fun c =>
        { c with fails := c.fails + 1, firstFail := some (c.firstFail.getD j) } }
  else s

/-! ### PRODUCT (R261, R262) -/

/-- A value held within 64-bit signed range. -/
def clamp64 (v : Int) : Int := clampInt (-9223372036854775808) 9223372036854775807 v

/-- Where a PRODUCT record may have its markers: lo, hi, TRIG_INDEX + MARK0, TRIG_INDEX + MARK1 (R261). -/
structure ProductSpan where
  lo : Int
  hi : Int
  a : Int
  b : Int

/-- DESKEW of a partition. -/
def Dev.deskew (d : Dev) (k : Nat) : Int := toSigned 7 (bitField (d.fget Reg.accu_part_PARAM2 k) 8 7)

/-- The span of a record in partition k. -/
def Dev.productSpan (d : Dev) (k : Nat) (g : Segment) : ProductSpan :=
  let r := d.fget Reg.accu_part_SRC k
  let p0 := d.fget Reg.accu_part_PARAM0 k
  let dk := d.deskew k
  let lo := max 0 (-dk)
  { lo := lo
    hi := max lo ((d.windowLen g r : Int) - max 0 dk)
    a := d.trigIn g r + toSigned 16 p0
    b := d.trigIn g r + toSigned 16 (p0 / 65536) }

/-- The markers of MARK_MODE 0, held within the span. -/
def ProductSpan.fixed (p : ProductSpan) : Int × Int := (clampInt p.lo p.hi p.a, clampInt p.lo p.hi p.b)

/-- Whether a value has passed a level in a direction. -/
def passed (falling : Bool) (lvl v : Int) : Bool := if falling then decide (v < lvl) else decide (lvl < v)

/-- Add a pair's product into the sum of a record, saturating (R262). -/
def TillRec.add (c : TillRec) (p : Int) : TillRec := { c with sum := clamp64 (c.sum + p), sat := c.sat || clamp64 (c.sum + p) != c.sum + p }

/-- A PRODUCT record reads the pair v and i of position j (R261): the product is added between the markers, and in MARK_MODE 1 the markers
are looked for. The marker source i is read at j + DESKEW, as the sum pairs it (DEDUCED, log entry 22). -/
def TillRec.pair (c : TillRec) (p : ProductSpan) (p1 p2 : Nat) (j : Nat) (v i : Int) : TillRec :=
  if (j : Int) < p.lo ∨ p.hi ≤ j then c
  else if !bitAt p2 0 then (if p.fixed.1 ≤ j ∧ (j : Int) < p.fixed.2 then c.add (v * i) else c)
  else
    let src := fun (bit : Nat) => if bitAt p2 bit then i else v
    match c.m0, c.m1 with
    | none, _ =>
      if p.a ≤ j ∧ passed (bitAt p2 3) (toSigned 16 p1) (src 1) = true then { c with m0 := some j }.add (v * i) else c
    | some _, none =>
      if p.b ≤ j then c
      else if passed (bitAt p2 4) (toSigned 16 (p1 / 65536)) (src 2) then { c with m1 := some j }
      else c.add (v * i)
    | some _, some _ => c

/-- PRODUCT: position j of the record in progress. -/
def State.addProduct (s : State) (k : Nat) (g : Segment) (j : Nat) (v : Int) : State :=
  let d := s.dev
  let i := (s.srcValue g (d.fget Reg.accu_part_SRC2 k) ((j : Int) + d.deskew k).toNat).1
  let step := fun (c : TillRec) => c.pair (d.productSpan k g) (d.fget Reg.accu_part_PARAM1 k) (d.fget Reg.accu_part_PARAM2 k) j v i
  s.onDev fun d => d.setPart k { d.part k with cur := (d.part k).cur.map step }

/-- Accumulate window position j of a segment. -/
def State.addPosition (s : State) (k : Nat) (t : TillShape) (g : Segment) (r j : Nat) : State :=
  let v := s.srcValue g r j
  match t.mode with
  | 0 => s.addAverage k t j v.1
  | 1 => s.addEnvelope k t j v
  | 2 => s.addDensity k t g r j v.1
  | 3 => s.addMask k t j v.1
  | _ => s.addProduct k g j v.1

/-- The positions of a window that a partition reads: all, or those below its points (R253). -/
def Dev.needed (d : Dev) (k : Nat) (t : TillShape) (g : Segment) : Nat :=
  let n := d.windowLen g (d.fget Reg.accu_part_SRC k)
  if t.mode = 2 || t.mode = 4 then n else min n t.points

/-- What a PRODUCT record came to: markers, SUM, NO_MARK, EDGE, SAT. -/
structure TillProduct where
  m0 : Nat := 0
  m1 : Nat := 0
  sum : Int := 0
  noMark : Bool := false
  edge : Bool := false
  sat : Bool := false

/-- What a PRODUCT record that has been read came to (R261, R262); a level marker that was not found leaves NO_MARK and SUM 0. -/
def Dev.productOf (d : Dev) (k : Nat) (g : Segment) (c : TillRec) : TillProduct :=
  let p := d.productSpan k g
  if !bitAt (d.fget Reg.accu_part_PARAM2 k) 0 then
    { m0 := p.fixed.1.toNat, m1 := p.fixed.2.toNat, sum := c.sum, edge := p.fixed.1 != p.a || p.fixed.2 != p.b, sat := c.sat }
  else match c.m0, c.m1 with
    | some m0, some m1 => { m0 := m0, m1 := m1, sum := c.sum, sat := c.sat }
    | _, _ => { noMark := true }

/-! ### Result records (R263) -/

/-- The eight words of a result record (Table 10.1). -/
def resultWords (seg value m0 m1 w6 : Nat) : List Nat :=
  let ws := [seg % 2 ^ 32, seg / 2 ^ 32 % 2 ^ 32, value % 2 ^ 32, value / 2 ^ 32 % 2 ^ 32, m0 % 2 ^ 32, m1 % 2 ^ 32, w6]
  ws ++ [crc32c ws]

/-- Write a result record to the result ring and to its queue. -/
def State.tillResult (s : State) (k : Nat) (ws : List Nat) : State :=
  let d := s.dev
  let q := d.fget64 Reg.accu_part_RES_COUNT_W0 Reg.accu_part_RES_COUNT_W1 k
  let size := d.fget Reg.accu_part_RES_SIZE k
  let s1 := if size = 0 then s else s.hbmStore (d.fget Reg.accu_part_RES_BASE k * 65536 + 32 * (q % (size * 2048))) ws
  s1.onDev fun d =>
    let d1 := d.fset64 Reg.accu_part_RES_COUNT_W0 Reg.accu_part_RES_COUNT_W1 (q + 1) k
    if d1.flag Reg.accu_part_RES_TO_QUEUE k then
      d1.streamOffer (d1.fget Reg.accu_part_RES_QUEUE k) { kind := 2, source := k, source2 := 0, payload := ws } 256
    else d1

/-- Word 6 of a result record. -/
def resultFlags (k mode : Nat) (g : Segment) (pass noMark edge sat torn : Bool) : Nat :=
  k + 16 * mode + 128 * Bool.bit pass + 256 * Bool.bit noMark + 512 * Bool.bit edge + 1024 * Bool.bit sat + 2048 * Bool.bit torn +
    4096 * Bool.bit (bitAt g.flags 7) + 8192 * Bool.bit (bitAt g.flags 8)

/-- The end of a MASK record: PASS_COUNT or FAIL_COUNT, MASK_FAIL, a stop, the result record (R260, R263). -/
def State.maskEnd (s : State) (k : Nat) (g : Segment) (c : TillRec) (torn : Bool) : State :=
  let ok := c.fails == 0
  let s1 := s.onDev fun d =>
    let p := d.part k
    if ok then d.setPart k { p with pass := satAdd 32 p.pass 1 }
    else
      let d1 := (d.setPart k { p with fail := satAdd 32 p.fail 1 }).raise 25 Ev.accu_MASK_FAIL
      if d1.flag Reg.accu_part_STOP_ON_FAIL k then d1.stopRequest else d1
  if ok && s1.dev.flag Reg.accu_part_RES_FAIL_ONLY k then s1
  else s1.tillResult k (resultWords g.num (c.fails + 2 ^ 32 * c.firstFail.getD 0xFFFFFFFF) 0 0
    (resultFlags k 3 g ok false false false torn))

/-- The end of a PRODUCT record: TOTAL and SEGMENTS, the result record (R262, R263). -/
def State.productEnd (s : State) (k : Nat) (t : TillShape) (g : Segment) (c : TillRec) (torn : Bool) : State :=
  let r := s.dev.productOf k g c
  let old := toSigned 64 (s.tillGet k t 0 + 2 ^ 32 * s.tillGet k t 1)
  let tot := clamp64 (old + r.sum)
  let v := ofSigned 64 tot
  let n := s.tillGet k t 2 + 2 ^ 32 * s.tillGet k t 3 + 1
  let s1 := s.tillSetWords k t 0 [v % 2 ^ 32, v / 2 ^ 32, n % 2 ^ 32, n / 2 ^ 32 % 2 ^ 32]
  let s2 := if r.sat || tot != old + r.sum then s1.onDev fun d => (d.setPart k { d.part k with sat := true }).raise 25 Ev.accu_SAT else s1
  s2.tillResult k (resultWords g.num (ofSigned 64 r.sum) r.m0 r.m1 (resultFlags k 4 g false r.noMark r.edge r.sat torn))

/-! ### Reading a record (R253, R255, R256) -/

/-- Whether a bound segment is excluded by its flags (R253). -/
def Dev.excluded (d : Dev) (k : Nat) (g : Segment) : Bool :=
  (d.flag Reg.accu_part_EXCL_DEGRADED k && bitAt g.flags 7) || (d.flag Reg.accu_part_EXCL_CLIPPED k && bitAt g.flags 8)

/-- Whether position j of a segment in ring r is still in the ring (R255). -/
def Dev.posValid (d : Dev) (g : Segment) (r j : Nat) : Bool :=
  g.state != 2 && decide (d.oldestValid r ≤ (d.windowIn r g.first g.last).1 + j)

/-- Whether position j can be read in every source of the partition: in SRC2, position j + DESKEW where the window holds it. -/
def Dev.readable (d : Dev) (k : Nat) (g : Segment) (j : Nat) : Bool :=
  d.posValid g (d.fget Reg.accu_part_SRC k) j &&
    (d.fget Reg.accu_part_MODE k != 4 || (let i := (j : Int) + d.deskew k
      decide (i < 0) || decide ((d.windowLen g (d.fget Reg.accu_part_SRC2 k) : Int) ≤ i) ||
        d.posValid g (d.fget Reg.accu_part_SRC2 k) i.toNat))

/-- The record has been read, whole or torn: it is counted, its results are written, the segment is unbound, and what falls due
at the boundary is noted (R253, R255, R263, R266, R267). -/
def State.recordEnd (s : State) (k : Nat) (t : TillShape) (g : Segment) (c : TillRec) (torn : Bool) : State :=
  let s0 := if torn then s.onDev fun d => ((d.setPart k { d.part k with torn := true }).finc Reg.accu_part_TORN_COUNT 1 k).raise 25 Ev.accu_TORN
    else s
  let s1 := if t.mode = 3 then s0.maskEnd k g c torn else if t.mode = 4 then s0.productEnd k t g c torn else s0
  s1.onDev fun d =>
    let p := d.part k
    let d1 := (d.finc Reg.accu_part_RECORDS 1 k).setPart k { p with
      cur := none
      range := some ((p.range.getD (g.num, g.num)).1, g.num) }
    let d2 := if t.mode = 0 && d1.flag Reg.accu_part_AUTO_DUMP k && decide (d1.dumpRecords k ≤ d1.fget Reg.accu_part_RECORDS k) then
        d1.setPart k { d1.part k with due := some (true, true) } else d1
    let d3 := if (d2.part k).due.isSome then d2.setPart k { d2.part k with snapLate := (d2.part k).snap.isSome } else d2
    (d3.snapDue k true).unbind k g.num

/-- Read up to `n` positions of the record in progress. -/
def State.readPositions (s : State) (k : Nat) (t : TillShape) (g : Segment) (r : Nat) : Nat → State
  | 0 => s
  | n + 1 =>
    match (s.dev.part k).cur with
    | none => s
    | some c =>
      ((s.addPosition k t g r c.next).onDev fun d => d.setPart k { d.part k with cur := (d.part k).cur.map fun c =>
        { c with next := c.next + 1 } }).readPositions k t g r n

/-- Go on with the record in progress: the next `count` positions are read, and at the last one the record ends. One that would
end during a sweep waits (R266). -/
def State.readOn (s : State) (k : Nat) (t : TillShape) (g : Segment) (c : TillRec) (count : Nat) : State :=
  let need := s.dev.needed k t g
  let n := min count (need - c.next)
  if !s.dev.readable k g c.next && decide (c.next < need) then
    (if c.next = 0 then s.onDev fun d => d.tillSkip k g.num else if (s.dev.part k).sweep.isSome then s else s.recordEnd k t g c true)
  else if need ≤ c.next + n && (s.dev.part k).sweep.isSome then s
  else
    let s1 := s.readPositions k t g (s.dev.fget Reg.accu_part_SRC k) n
    match (s1.dev.part k).cur with
    | none => s1
    | some c1 => if need ≤ c1.next then s1.recordEnd k t g c1 false else s1

/-- A partition reads on in its first bound segment, once that segment's entry is final (R253): the next `count` positions of
its window; a sweep that has fallen due comes first. -/
def State.recordRead (s : State) (k count : Nat) : State :=
  let s := s.sweepStart k
  if s.dev.fget Reg.pwr_STAGE = 3 then s else
  let d := s.dev
  let p := d.part k
  let t := d.shape k
  match p.bound.head? with
  | none => s.onDev fun d => d.partDrained k
  | some n =>
    match d.seg n with
    | none => s.onDev fun d => d.tillSkip k n
    | some g =>
      match p.cur with
      | some c => s.readOn k t g c count
      | none =>
        if !g.final then s
        else if d.excluded k g then s.onDev fun d => d.tillSkip k n
        else if t.mode = 0 && !d.flag Reg.accu_part_AUTO_DUMP k && decide (d.recordLimit k ≤ d.fget Reg.accu_part_RECORDS k) then
          s.onDev fun d => ((d.tillSkip k n).fbit Reg.accu_part_FULL_STATE true k).raise 25 Ev.accu_FULL
        else (s.onDev fun d => d.setPart k { p with cur := some { seg := n } }).readOn k t g { seg := n } count

/-- The bound segments of a partition whose window is complete and whose flags exclude it are unbound unread (R253). -/
def Dev.tillExclude (d : Dev) (k : Nat) : Dev :=
  ((d.part k).bound.filter fun n => (d.part k).cur.all (·.seg != n) && (d.seg n).any fun g => g.state == 1 && d.excluded k g).foldl
    (fun (d : Dev) n => d.tillSkip k n) d

/-- The exclusion test of every partition. -/
def Dev.tillExcludeAll (d : Dev) : Dev := (List.range 16).foldl Dev.tillExclude d

/-! ### CTRL (R265, R267, R269, R271) -/

/-- A request that a partition does not accept (R514). -/
def Dev.tillRefuse (d : Dev) (k : Nat) : Dev := d.logErr 25 0xF2 k 0

/-- A write of 1 to CLEAR: accepted only while idle (R265). -/
def State.tillClear (s : State) (k : Nat) : State :=
  if s.dev.partIs k != 0 then s.onDev fun d => d.tillRefuse k
  else
    (s.onDev fun d => (((((((d.countsClear k).fset64 Reg.accu_part_RES_COUNT_W0 Reg.accu_part_RES_COUNT_W1 0 k).fset Reg.accu_part_SKIPPED 0 k).fset Reg.accu_part_TORN_COUNT 0 k).fbit
      Reg.accu_part_FULL_STATE false k).setPart k { (d.countsClear k).part k with skipSince := 0, lostPoints := [] }).partState k 3)).tillWipe k (s.dev.shape k)

/-- The clear completes (R265). -/
def Dev.tillCleared (d : Dev) (k : Nat) : Dev := if d.partIs k = 3 then d.partState k 0 else d

/-- A write of 1 to SNAP: accepted in every state but clearing (R267). -/
def Dev.tillSnap (d : Dev) (k : Nat) (clear : Bool) : Dev :=
  if d.partIs k = 3 then d.tillRefuse k
  else
    let p := d.part k
    (d.setPart k { p with
      snap := some (clear || p.snap.getD false)
      snapLate := p.snapLate || p.sweep.any (·.auto) || p.due.any (·.1) }).snapDue k

/-- Make a partition idle: every bound segment is unbound and counted in SKIPPED (R271). -/
def Dev.tillAbort (d : Dev) (k : Nat) : Dev :=
  let d1 := (d.part k).bound.foldl (fun (d : Dev) n => d.tillSkip k n) d
  (((d1.setPart k { d1.part k with cur := none }).fbit Reg.accu_part_RUN false k).partState k 0).snapDue k

/-- A mode change aborts every partition (R271). -/
def Dev.tillAbortAll (d : Dev) : Dev :=
  (List.range 16).foldl (fun (d : Dev) k => if d.partIs k = 0 || d.partIs k = 3 then d else d.tillAbort k) d

/-- Whether the dump in a slot can be loaded into a partition (R269). -/
def loadOk (t : TillShape) (points : Nat) (header image : List Nat) : Bool :=
  header.getD 15 0 == crc32c (header.take 15) && header.getD 14 0 == crc32c image &&
    bitField (header.getD 0 0) 4 3 == t.mode && header.getD 7 0 == points && header.getD 8 0 == t.rows

/-- A write of 1 to LOAD (R269). -/
def State.tillLoad (s : State) (k slot : Nat) : State :=
  if s.dev.partIs k != 0 then s.onDev fun d => d.tillRefuse k
  else
    let t := s.dev.shape k
    let a := s.dev.fget Reg.accu_part_DUMP_BASE k * 65536 + slot * t.slotBytes
    let h := s.hbmWords a 16
    let image := s.hbmWords (a + 64) t.words
    if loadOk t (s.dev.headerPoints k t) h image then
      (s.tillSetWords k t 0 image).onDev fun d => d.fset Reg.accu_part_RECORDS (h.getD 6 0) k
    else s.onDev fun d => (d.raise 25 Ev.accu_CFG_REFUSED).logErr 25 Ev.accu_CFG_REFUSED k 0

/-! ### CFG and the other registers of a partition (R270, R271) -/

/-- A write to a partition's register is refused: CFG_REFUSED, and the field in the error log (R270, R514). -/
def Dev.partRefused (d : Dev) (k loc : Nat) : Dev := (d.raise 25 Ev.accu_CFG_REFUSED).logErr 25 Ev.accu_CFG_REFUSED k loc

/-- The locator of a partition's register field (R514). -/
def partLocator (f : Field) (k : Nat) : Nat := fieldLocator f k

/-- The locator of the first of a list of checks that is wrong. -/
def firstWrong : List (Bool × Nat) → Option Nat
  | [] => none
  | (b, f) :: t => if b then some f else firstWrong t

/-- Whether UNITS is one of R249's values. -/
def unitsOk (u : Nat) : Bool := u == 1 || u == 2 || u == 3 || (decide (4 ≤ u) && decide (u ≤ 96) && u % 4 == 0)

/-- Whether BASE_UNIT obeys R249, and the units meet no other partition that is not idle. -/
def Dev.baseUnitOk (d : Dev) (k : Nat) : Bool :=
  let u := d.fget Reg.accu_part_UNITS k
  let b := d.fget Reg.accu_part_BASE_UNIT k
  (u < 4 || b % 4 == 0) && decide (b + u ≤ 96) &&
    (List.range 16).all fun q => q == k || d.partIs q == 0 ||
      !spansMeet (b, u) (d.fget Reg.accu_part_BASE_UNIT q, d.fget Reg.accu_part_UNITS q)

/-- The locator of the first field that refuses a write of `val` to CFG with RUN at 1 (R270, R514); a field of PARAM2 by its own bits (Table
10.7). -/
def Dev.runFault (d : Dev) (k val : Nat) : Option Nat :=
  let mode := bitField val 1 3
  let src := bitField val 6 4
  let src2 := bitField val 10 4
  let hbm := bitAt val 5
  let t := d.shapeIn k mode
  let p2 := d.fget Reg.accu_part_PARAM2 k
  let slots := d.fget Reg.accu_part_DUMP_SLOTS k
  let res := d.fget Reg.accu_part_RES_SIZE k
  let at' := fun (f : Field) => partLocator f k
  let p2At := fun (lsb : Nat) => partLocator Reg.accu_part_PARAM2 k + 65536 * lsb
  firstWrong [
    (decide (4 < mode), at' Reg.accu_part_MODE),
    (!d.srcOk mode src, at' Reg.accu_part_SRC),
    (mode == 4 && !d.pairOk src src2, at' Reg.accu_part_SRC2),
    (!unitsOk (d.fget Reg.accu_part_UNITS k), at' Reg.accu_part_UNITS),
    (!d.baseUnitOk k, at' Reg.accu_part_BASE_UNIT),
    (mode == 2 && decide (4 < bitField p2 0 3), p2At 0),
    (mode == 2 && decide (4 < bitField p2 3 3), p2At 3),
    (mode == 2 && decide (24 < bitField p2 6 5), p2At 6),
    (mode == 2 && decide (8 < bitField p2 11 4), p2At 11),
    (!hbm && !t.fits, at' Reg.accu_part_POINTS),
    (hbm && decide (1 < mode), at' Reg.accu_part_HBM_EXT),
    (hbm && decide (t.capacity < t.points) &&
      d.spanBad (d.fget Reg.accu_part_EXT_BASE k * 65536, 4 * (t.points - t.capacity)), at' Reg.accu_part_EXT_BASE),
    (slots != 0 && d.spanBad (d.fget Reg.accu_part_DUMP_BASE k * 65536, slots * t.slotBytes), at' Reg.accu_part_DUMP_BASE),
    (res != 0 && d.spanBad (d.fget Reg.accu_part_RES_BASE k * 65536, res * 65536), at' Reg.accu_part_RES_BASE),
    (bitAt val 4 && (mode != 0 || slots == 0), at' Reg.accu_part_AUTO_DUMP),
    ((mode == 3 || mode == 4) && res == 0 && !bitAt val 15, at' Reg.accu_part_RES_SIZE),
    (d.flag Reg.accu_part_FULL_STATE k, at' Reg.accu_part_FULL_STATE)]

/-- CFG as a word. -/
def Dev.partCfg (d : Dev) (k : Nat) : Nat :=
  d.fget Reg.accu_part_RUN k + 2 * d.fget Reg.accu_part_MODE k + 16 * d.fget Reg.accu_part_AUTO_DUMP k +
    32 * d.fget Reg.accu_part_HBM_EXT k + 64 * d.fget Reg.accu_part_SRC k + 1024 * d.fget Reg.accu_part_SRC2 k +
    16384 * d.fget Reg.accu_part_RES_FAIL_ONLY k + 32768 * d.fget Reg.accu_part_RES_TO_QUEUE k +
    65536 * d.fget Reg.accu_part_EXCL_DEGRADED k + 131072 * d.fget Reg.accu_part_EXCL_CLIPPED k

/-- A write to PART_k.CFG (R252, R270, R271): RUN starts an idle partition, with RES_COUNT at 0; while it is not idle only a
write that just clears RUN is taken, and the partition drains. -/
def partCfgWrite (who : Requester) (k val : Nat) (d : Dev) : Dev :=
  let off := 0x100 + 0x30 * k
  if d.flag Reg.hdr_FREEZE 25 then d.logDiscard who 25 off val
  else if d.partIs k != 0 then
    (if d.flag Reg.accu_part_RUN k && decide (val % 2 ^ 18 + 1 = d.partCfg k) then
      (((d.fbit Reg.accu_part_RUN false k).partState k (if d.partIs k = 1 then 2 else d.partIs k)).partDrained k).cfgEpoch 25
    else d.partRefused k (partLocator Reg.accu_part_RUN k))
  else match (if bitAt val 0 then d.runFault k val else none) with
    | some loc => d.partRefused k loc
    | none =>
      let d1 := (d.writeFields who (25 * 4096 + off) val (fun _ => false) fun _ => false).1
      ((if bitAt val 0 then (d1.fset64 Reg.accu_part_RES_COUNT_W0 Reg.accu_part_RES_COUNT_W1 0 k).partState k 1 else d1)).cfgEpoch 25

/-- The bits of PARAMm that a mode gives a meaning to; the rest are reserved (Table 10.7). -/
def paramMask (mode m : Nat) : Nat :=
  match mode, m with
  | 0, 0 => 0x1FFFFF
  | 2, 0 => 0xFFFFFFFF
  | 2, 1 => 0xFFFF
  | 2, 2 => 0x7FFF
  | 4, 0 => 0xFFFFFFFF
  | 4, 1 => 0xFFFFFFFF
  | 4, 2 => 0x7F1F
  | _, _ => 0

/-- What PARAMm reads as: its configuration bits, or the count that the mode keeps there (Table 10.7). -/
def Dev.paramRead (d : Dev) (k m : Nat) : Nat :=
  let mode := d.fget Reg.accu_part_MODE k
  let p := d.part k
  if mode = 3 ∧ m = 0 then p.pass
  else if mode = 3 ∧ m = 1 then p.fail
  else if mode = 2 ∧ m = 3 then p.outside
  else (if m = 0 then d.fget Reg.accu_part_PARAM0 k else if m = 1 then d.fget Reg.accu_part_PARAM1 k
    else if m = 2 then d.fget Reg.accu_part_PARAM2 k else d.fget Reg.accu_part_PARAM3 k) &&& paramMask mode m

/-- A write to ALLOC, POINTS, PARAM0 to PARAM3 or the address block of a partition: discarded with CFG_REFUSED while it is not
idle (R270). The RO fields of PARAM0 and PARAM1 in a MASK partition ignore writes. -/
def partConfigWrite (who : Requester) (k off val : Nat) (d : Dev) : Dev :=
  if d.flag Reg.hdr_FREEZE 25 then d.logDiscard who 25 off val
  else if d.partIs k != 0 && d.changesReg (25 * 4096 + off) val then d.partRefused k (d.changedField (25 * 4096 + off) val)
  else
    let ro := d.fget Reg.accu_part_MODE k == 3 && (off == 0x10C + 0x30 * k || off == 0x110 + 0x30 * k)
    if ro then d.cfgEpoch 25
    else
      let r := d.writeFields who (25 * 4096 + off) val (fun _ => false) fun _ => false
      if r.2 then r.1.cfgEpoch 25 else r.1

/-! ### Bank protection (R272) -/

/-- A corrected single-bit error: counted; a bank with more than 16 within 1 s is migrated to a spare of its island. -/
def eccFix (island bank : Nat) (d : Dev) : Dev :=
  let key := island * 256 + bank % 256
  let now := d.ticksToUs d.nowTick
  let ts := now :: (KMap.at d.till.corrected [] key).filter fun t => decide (now < t + 1000000)
  let d1 := ({ d with till.corrected := KMap.put d.till.corrected key ts }).finc Reg.accu_ECC_CORR
  let spare := bitField (d1.fget Reg.accu_SPARE_BANKS) (4 * island) 4
  if 16 < ts.length ∧ spare ≠ 0 then
    let d2 := ({ d1 with till.corrected := KMap.put d1.till.corrected key [] }).fset Reg.accu_SPARE_BANKS
      (d1.fget Reg.accu_SPARE_BANKS - 2 ^ (4 * island))
    (if spare = 1 then d2.degrade 25 island true else d2).planSoon.raise 25 Ev.accu_ECC_FIX
  else if 16 < ts.length then d1.further 25 (2 ^ island)
  else d1

/-- A double-bit error loses the value of a point: accumulation goes on from its clear value, the next dump shows the clear value, and its
header carries ECC_LOST (R272). -/
def State.eccLose (s : State) (k point : Nat) : State :=
  let t := s.dev.shape k
  let ws := if t.mode = 4 then [0, 1, 2, 3]
    else if t.mode = 2 then (List.range t.rows).map fun r => r * t.points + point
    else (List.range t.perPoint).map fun i => point * t.perPoint + i
  let s1 := ws.foldl (fun (s : State) w => match t.cleared w with
    | some v => s.tillSet k t w v
    | none => s) s
  s1.onDev fun d => (d.setPart k { d.part k with eccLost := true, lostPoints := point :: (d.part k).lostPoints }).raise 25 Ev.accu_ECC_LOST

/-! ### Commands -/

/-- A write of 1 to a bit of PART_k.CTRL. -/
def State.partCtrl (s : State) (who : Requester) (k val : Nat) (act : State → State) : State :=
  if s.dev.flag Reg.hdr_FREEZE 25 then s.onDev fun d => d.logDiscard who 25 (0x11C + 0x30 * k) val
  else (act s).onDev fun d => d.cfgEpoch 25

/-- PART_RUN_SET (R270). -/
def execPartRunSet (who : Requester) (k : Fin 16) (val : Word) (s : State) : Host.Outcome State Fault Refusal :=
  .next (s.live fun s => s.onDev (partCfgWrite who k (val.toNat ||| 1)))

/-- PART_RUN_CLEAR (R271). -/
def execPartRunClear (who : Requester) (k : Fin 16) (val : Word) (s : State) : Host.Outcome State Fault Refusal :=
  .next (s.live fun s => s.onDev (partCfgWrite who k (andNot val.toNat 1)))

/-- CAPTURE_BLOCK_STORED (R198, R205): windows may complete, and the partitions test their flags (R253). -/
def execCaptureBlockStored (r : Fin 12) (s : State) : Host.Outcome State Fault Refusal :=
  .next (s.live fun s => s.onDevHbm fun d => (captureBlockStored s.hbmByte r d).tillExcludeAll)

/-- TILL_RECORD_READ (R253). -/
def execTillRecordRead (k : Fin 16) (count : Nat) (s : State) : Host.Outcome State Fault Refusal := .next (s.live fun s => s.recordRead k count)

/-- CLEAR (R265). -/
def execClear (who : Requester) (k : Fin 16) (s : State) : Host.Outcome State Fault Refusal :=
  .next (s.live fun s => s.partCtrl who k 1 fun s => s.tillClear k)

/-- CLEAR_DONE (R265). -/
def execClearDone (k : Fin 16) (s : State) : Host.Outcome State Fault Refusal := .next (s.live fun s => s.onDev fun d => d.tillCleared k)

/-- SNAP (R267). -/
def execSnap (who : Requester) (k : Fin 16) (clear : Bool) (s : State) : Host.Outcome State Fault Refusal :=
  .next (s.live fun s => s.partCtrl who k (2 + 4 * Bool.bit clear) fun s => s.onDev fun d => d.tillSnap k clear)

/-- DUMP_SWEEP_START (R266). -/
def execDumpSweepStart (k : Fin 16) (s : State) : Host.Outcome State Fault Refusal := .next (s.live fun s => s.sweepStart k)

/-- DUMP_DONE (R268). -/
def execDumpDone (k : Fin 16) (s : State) : Host.Outcome State Fault Refusal := .next (s.live fun s => s.dumpDone k)

/-- LOAD (R269). -/
def execLoad (who : Requester) (k : Fin 16) (slot : BitVec 8) (s : State) : Host.Outcome State Fault Refusal :=
  .next (s.live fun s => s.partCtrl who k (8 + 256 * slot.toNat) fun s => s.tillLoad k slot.toNat)

/-- ABORT (R271). -/
def execAbort (who : Requester) (k : Fin 16) (s : State) : Host.Outcome State Fault Refusal :=
  .next (s.live fun s => s.partCtrl who k 16 fun s => s.onDev fun d => d.tillAbort k)

/-- ECC_FIX (R272). -/
def execEccFix (island : Fin 4) (bank : Nat) (s : State) : Host.Outcome State Fault Refusal := .next (s.live fun s => s.onDev (eccFix island bank))

/-- ECC_LOST (R272). -/
def execEccLost (k : Fin 16) (point : Nat) (s : State) : Host.Outcome State Fault Refusal := .next (s.live fun s => s.eccLose k point)

end Sys2Proof.Machine
end

