-- ==== Sys2Proof/Machine/Recipe.lean ====
section
/-!
DEFINITION. Recipes: slots, headers and operation words (Tables 11.3 to 11.5), the Foreman's checks (R286), the output bound and
the budgets (R289, R293).
-/

namespace Sys2Proof.Machine

/-! ### Operation words (Tables 11.4, 11.5) -/

/-- One operation. -/
structure RecipeOp where
  op : Nat
  hint : Nat
  typ : Nat
  dst : Nat
  a : Nat
  b : Nat
  imm : Nat
  deriving DecidableEq, Repr

/-- The operation of two words. -/
def decodeOp (w0 w1 : Nat) : RecipeOp :=
  { op := bitField w0 0 8, hint := bitField w0 8 2, typ := bitField w0 10 2, dst := bitField w0 12 4, a := bitField w0 16 4,
    b := bitField w0 20 4, imm := w0 / 2 ^ 24 % 256 + 256 * (w1 % 2 ^ 32) }

/-- How an operation uses a four-bit operand field. -/
inductive OpUse where
  | none | buf | scal
  /-- A scalar and the one after it. -/
  | pair
  deriving DecidableEq, Repr

/-- What Table 11.5 says of an operation: the fields it uses, the immediate bits it defines, its cost. -/
structure OpSpec where
  hint : Bool := false
  typ : Bool := false
  dst : OpUse := .none
  a : OpUse := .none
  b : OpUse := .none
  imm : Nat := 0
  fixed : Nat
  per32 : Nat := 0

/-- The specification of an opcode; none where Table 11.5 does not define it. -/
def opSpec (op : Nat) : Option OpSpec :=
  match op with
  | 0x00 => some { fixed := 1 }
  | 0x01 => some { imm := 0x1FFF, fixed := 16 }
  | 0x02 => some { fixed := 64 }
  | 0x03 => some { a := .scal, b := .scal, imm := 0xFF07, fixed := 4 }
  | 0x04 => some { dst := .scal, imm := 0xFFFFFFFFFF, fixed := 2 }
  | 0x05 => some { fixed := 1 }
  | 0x06 => some { fixed := 1 }
  | 0x08 => some { hint := true, dst := .buf, imm := 1, fixed := 40, per32 := 6 }
  | 0x09 => some { hint := true, dst := .buf, imm := 3, fixed := 40, per32 := 6 }
  | 0x0A => some { hint := true, dst := .buf, imm := 0xF, fixed := 200, per32 := 8 }
  | 0x0B => some { dst := .buf, imm := 0x7FFFF, fixed := 16, per32 := 1 }
  | 0x0C => some { typ := true, dst := .buf, imm := 0xFFFFFFFF, fixed := 8, per32 := 1 }
  | 0x10 => some { typ := true, dst := .buf, a := .buf, b := .buf, fixed := 4, per32 := 1 }
  | 0x11 => some { typ := true, dst := .buf, a := .buf, b := .buf, fixed := 4, per32 := 1 }
  | 0x12 => some { typ := true, dst := .buf, a := .buf, b := .buf, imm := 0x1F, fixed := 4, per32 := 2 }
  | 0x13 => some { typ := true, dst := .buf, a := .buf, imm := 0xFFFF1FFFFF, fixed := 4, per32 := 2 }
  | 0x14 => some { typ := true, dst := .buf, a := .buf, fixed := 4, per32 := 1 }
  | 0x15 => some { typ := true, dst := .buf, a := .buf, imm := 0xFFFFFFFF, fixed := 4, per32 := 1 }
  | 0x16 => some { typ := true, dst := .buf, a := .buf, fixed := 4, per32 := 1 }
  | 0x17 => some { typ := true, dst := .buf, a := .buf, fixed := 4, per32 := 1 }
  | 0x18 => some { dst := .buf, a := .buf, imm := 0x8000FFFFFF, fixed := 8, per32 := 2 }
  | 0x19 => some { dst := .buf, a := .buf, imm := 0x8000FFFFFF, fixed := 8, per32 := 2 }
  | 0x1A => some { dst := .buf, a := .buf, imm := 0x8000FFFFFF, fixed := 8, per32 := 2 }
  | 0x1B => some { dst := .buf, a := .buf, imm := 0x8001FFFFFF, fixed := 8, per32 := 2 }
  | 0x1C => some { dst := .buf, a := .buf, imm := 0xBFFFFFFFFF, fixed := 8, per32 := 12 }
  | 0x1D => some { dst := .buf, a := .buf, imm := 7, fixed := 8, per32 := 16 }
  | 0x20 => some { dst := .scal, a := .buf, fixed := 4, per32 := 1 }
  | 0x21 => some { dst := .scal, a := .buf, imm := 1, fixed := 4, per32 := 2 }
  | 0x22 => some { dst := .scal, a := .buf, fixed := 4, per32 := 1 }
  | 0x23 => some { dst := .scal, a := .buf, fixed := 4, per32 := 1 }
  | 0x24 => some { dst := .scal, a := .buf, fixed := 4, per32 := 1 }
  | 0x25 => some { dst := .pair, a := .buf, imm := 0xF, fixed := 600, per32 := 2 }
  | 0x26 => some { dst := .pair, a := .buf, imm := 0xFFFFFFFF, fixed := 8, per32 := 3 }
  | 0x27 => some { dst := .pair, a := .buf, imm := 0xFFFFFFFF, fixed := 8, per32 := 3 }
  | 0x28 => some { dst := .scal, a := .buf, b := .pair, fixed := 4, per32 := 1 }
  | 0x29 => some { dst := .scal, a := .buf, imm := 0xFFFFFFFF, fixed := 8, per32 := 3 }
  | 0x2A => some { dst := .scal, a := .buf, imm := 0xFFFFFFFF, fixed := 8, per32 := 3 }
  | 0x2B => some { dst := .scal, a := .buf, imm := 0x1FFFF, fixed := 8, per32 := 3 }
  | 0x2C => some { dst := .scal, a := .buf, imm := 0x3FFFF, fixed := 8, per32 := 3 }
  | 0x2D => some { dst := .scal, a := .buf, b := .buf, fixed := 4, per32 := 2 }
  | 0x2E => some { dst := .scal, a := .buf, fixed := 4, per32 := 1 }
  | 0x2F => some { dst := .buf, a := .buf, imm := 0xFFFFF, fixed := 1100, per32 := 4 }
  | 0x30 => some { dst := .buf, a := .buf, imm := 3, fixed := 4, per32 := 1 }
  | 0x31 => some { a := .buf, fixed := 8, per32 := 1 }
  | 0x32 => some { a := .scal, imm := 0x1F, fixed := 8 }
  | 0x33 => some { fixed := 16 }
  | 0x38 => some { fixed := 0 }
  | 0x39 => some { fixed := 0 }
  | 0x3A => some { imm := 0xFFFFF, fixed := 0 }
  | 0x3B => some { fixed := 40, per32 := 3 }
  | 0x3C => some { fixed := 0 }
  | _ => none

/-- Whether an operation is a decimation. -/
def RecipeOp.isDecim (o : RecipeOp) : Bool := decide (0x18 ≤ o.op) && decide (o.op ≤ 0x1C)

/-- Whether an operation is a measurement. -/
def RecipeOp.isMeasure (o : RecipeOp) : Bool := decide (0x20 ≤ o.op) && decide (o.op ≤ 0x2F)

/-- Whether an operation is a publication. -/
def RecipeOp.isPublish (o : RecipeOp) : Bool := decide (0x38 ≤ o.op) && decide (o.op ≤ 0x3C)

/-! ### A recipe -/

/-- A recipe read from a slot: header words, operations, param words. -/
structure Recipe where
  header : List Nat
  ops : List RecipeOp
  params : List Nat
  deriving DecidableEq, Repr

/-- The operations of consecutive word pairs. -/
def decodeOps : List Nat → List RecipeOp
  | w0 :: w1 :: t => decodeOp w0 w1 :: decodeOps t
  | _ => []

/-- OP_COUNT. -/
def Recipe.opCount (r : Recipe) : Nat := bitField (r.header.getD 0 0) 16 9

/-- PARAM_WORDS. -/
def Recipe.paramWords (r : Recipe) : Nat := r.header.getD 2 0 % 512

/-- GEN. -/
def Recipe.gen (r : Recipe) : Nat := r.header.getD 5 0

/-- VALID. -/
def Recipe.valid (r : Recipe) : Bool := bitAt (r.header.getD 8 0) 0

/-- The recipe of the 1,024 words of a slot. -/
def recipeOf (ws : List Nat) : Recipe :=
  let n := bitField (ws.getD 0 0) 16 9
  { header := ws.take 16, ops := decodeOps ((ws.drop 16).take (2 * min n 256)), params := (ws.drop 528).take 496 }

/-- IMG_CRC of a slot's words matches. -/
def imgCrcOk (ws : List Nat) : Bool := ws.getD 14 0 == crc32c (ws.drop 16)

/-- HDR_CRC of a slot's words matches. -/
def hdrCrcOk (ws : List Nat) : Bool := ws.getD 15 0 == crc32c (ws.take 15)

/-! ### The checks of R286 -/

/-- The CHUNK of the loop that holds operation k; none outside every loop. LOOP itself stands outside, END inside. -/
def loopAt : List RecipeOp → Nat → Option RecipeOp → Option RecipeOp
  | [], _, _ => none
  | o :: t, k, cur =>
    match k with
    | 0 => cur
    | n + 1 => loopAt t n (if o.op = 1 then some o else if o.op = 2 then none else cur)

/-- The number of the loop that holds operation k, counting from 1; 0 outside every loop. -/
def loopNum : List RecipeOp → Nat → Nat → Bool → Nat
  | [], _, _, _ => 0
  | o :: t, k, n, inside =>
    match k with
    | 0 => if inside then n else 0
    | m + 1 => if o.op = 1 then loopNum t m (n + 1) true else if o.op = 2 then loopNum t m n false else loopNum t m n inside

/-- The loop number of operation k. -/
def Recipe.loop (r : Recipe) (k : Nat) : Nat := loopNum r.ops k 0 false

/-- CHUNK of the loop that holds operation k, 0 outside. -/
def Recipe.chunk (r : Recipe) (k : Nat) : Nat :=
  match loopAt r.ops k none with
  | some o => o.imm % 4096
  | none => 0

/-- Rule 2: every field not used is 0. -/
def RecipeOp.fieldsOk (o : RecipeOp) : Bool :=
  match opSpec o.op with
  | none => false
  | some s => (s.hint || o.hint == 0) && (s.typ || o.typ == 0) && (s.dst != .none || o.dst == 0) && (s.a != .none || o.a == 0) &&
      (s.b != .none || o.b == 0) && andNot o.imm s.imm == 0

/-- Whether an operand index is in range. -/
def OpUse.ok (u : OpUse) (i : Nat) : Bool :=
  match u with
  | .none => true
  | .buf => decide (i ≤ 11)
  | .scal => true
  | .pair => decide (i ≤ 14)

/-- Rule 3: indices are in range. -/
def RecipeOp.indexOk (o : RecipeOp) : Bool :=
  match opSpec o.op with
  | none => true
  | some s => s.dst.ok o.dst && s.a.ok o.a && s.b.ok o.b && (o.op != 0x32 || decide (o.a + o.imm % 32 ≤ 16))

/-- Rule 4: LOOP and END alternate, at most 4 loops; the index of the operation that breaks it. -/
def loopsBad : List RecipeOp → Nat → Nat → Option Nat → Option Nat
  | [], _, _, isOpen => isOpen
  | o :: t, k, n, isOpen =>
    if o.op = 1 then (if isOpen.isSome || decide (4 ≤ n) then some k else loopsBad t (k + 1) (n + 1) (some k))
    else if o.op = 2 then (if isOpen.isSome then loopsBad t (k + 1) n none else some k)
    else loopsBad t (k + 1) n isOpen

/-- Rule 5: what must lie inside a loop does, and what must lie outside does. -/
def Recipe.placeOk (r : Recipe) (k : Nat) (o : RecipeOp) : Bool :=
  let inside := r.loop k != 0
  if (0x08 ≤ o.op && o.op ≤ 0x0A) || o.isDecim || o.isMeasure then inside
  else if o.op == 0x32 || o.op == 0x33 || o.isPublish then !inside else true

/-- Rule 6: a SKIP_IF lands within the recipe and in its own loop. -/
def Recipe.skipOk (r : Recipe) (k : Nat) (o : RecipeOp) : Bool :=
  o.op != 3 || (decide (k + 1 + bitField o.imm 8 8 < r.opCount) && r.loop (k + 1 + bitField o.imm 8 8) == r.loop k)

/-- Elements that an operation may write from a chunk, and bytes of each. -/
def RecipeOp.produces (o : RecipeOp) (chunk : Nat) : Nat :=
  let t := if o.typ = 0 then 2 else 4
  if o.op = 0x09 then chunk * (if o.imm % 4 = 2 then 4 else 2)
  else if 0x0C ≤ o.op ∧ o.op ≤ 0x17 then chunk * t
  else if o.op = 0x18 ∨ o.op = 0x1A then chunk / (o.imm % 2 ^ 24 + 1) * 2
  else if o.op = 0x1B then chunk / (o.imm % 2 ^ 24 + 1) * 4
  else if o.op = 0x1D then chunk * 2 ^ (o.imm % 8) * 2
  else if o.op = 0x30 then chunk * (if o.imm % 4 < 2 then 2 else 4)
  else 0

/-- Whether a decimation's ratio, order and param words are in range (Table 11.5, R233): the ranges of Table 09.1 do not apply, but R_c has
to be whole. -/
def Recipe.decimOk (r : Recipe) (o : RecipeOp) : Bool :=
  let ratio := o.imm % 2 ^ 24 + 1
  if o.op = 0x19 then decide (2 ≤ ratio)
  else if o.op = 0x1C then
    decide (1 ≤ bitField o.imm 24 3) && decide (bitField o.imm 24 3 ≤ 5) && decide (bitField o.imm 27 2 ≤ 2) &&
      ratio % 2 ^ bitField o.imm 27 2 == 0 && decide (bitField o.imm 29 9 + 32 ≤ r.paramWords)
  else true

/-- Rule 7: param references, immediates, types, hints, and the 4 KiB that an operation may produce. -/
def Recipe.rangeOk (r : Recipe) (k : Nat) (o : RecipeOp) : Bool :=
  o.hint != 3 && o.typ != 3 && r.decimOk o && decide (o.produces (r.chunk k) ≤ 4096) &&
    (if o.op = 0x01 then decide (32 ≤ o.imm % 4096) && decide (o.imm % 4096 ≤ 2048) && o.imm % 4096 % 32 == 0
    else if o.op = 0x03 then decide (o.imm % 8 ≤ 5)
    else if o.op = 0x09 then o.imm % 4 != 3
    else if o.op = 0x0B then decide (1 ≤ bitField o.imm 9 10) && decide (bitField o.imm 9 10 ≤ 992) &&
      decide (o.imm % 512 + (bitField o.imm 9 10 + 1) / 2 ≤ r.paramWords)
    else if o.op = 0x1D then decide (1 ≤ o.imm % 8) && decide (o.imm % 8 ≤ 4)
    else if o.op = 0x2C then bitField o.imm 16 2 != 3
    else if o.op = 0x32 then decide (1 ≤ o.imm % 32) && decide (o.imm % 32 ≤ 16)
    else true)

/-- The scalars that a measurement writes. -/
def RecipeOp.writes (o : RecipeOp) : List Nat :=
  match opSpec o.op with
  | some { dst := .scal, .. } => [o.dst]
  | some { dst := .pair, .. } => [o.dst, o.dst + 1]
  | _ => []

/-- Operations with their indices. -/
def Recipe.indexed (r : Recipe) : List (Nat × RecipeOp) := (List.range r.ops.length).zip r.ops

/-- Rule 8: the publication at k has appeared before, or clashes with one that has. -/
def Recipe.publishOk (r : Recipe) (k : Nat) (o : RecipeOp) : Bool :=
  !o.isPublish || !(r.ops.take k).any fun q => q.op == o.op || (q.op == 0x39 && o.op == 0x3B) || (q.op == 0x3B && o.op == 0x39)

/-- Rule 9: no earlier measurement of the loop writes a scalar that operation k writes. -/
def Recipe.scalarsOk (r : Recipe) (k : Nat) (o : RecipeOp) : Bool :=
  !o.isMeasure || !(r.indexed.take k).any fun q => q.2.isMeasure && r.loop q.1 == r.loop k && q.2.writes.any o.writes.contains

/-- The first operation that fails a test. -/
def Recipe.firstBad (r : Recipe) (ok : Nat → RecipeOp → Bool) : Option Nat := (r.indexed.find? fun p => !ok p.1 p.2).map Prod.fst

/-- Rule 1: the header. -/
def Recipe.headerOk (r : Recipe) (crcOk : Bool) : Bool :=
  r.header.getD 0 0 % 65536 == 1 && decide (1 ≤ r.opCount) && decide (r.opCount ≤ 256) && decide (r.paramWords ≤ 496) && crcOk

/-- The first rule of a list that fails: its number and the operation. -/
def firstRule : List (Nat × Option Nat) → Option (Nat × Nat)
  | [] => none
  | (n, some k) :: _ => some (n, k)
  | (_, none) :: t => firstRule t

/-- The first rule of R286 that a recipe fails, and the operation that fails it. -/
def Recipe.refused (r : Recipe) (crcOk : Bool) : Option (Nat × Nat) :=
  firstRule [
    (1, if r.headerOk crcOk then none else some 0),
    (2, r.firstBad fun _ o => o.fieldsOk),
    (3, r.firstBad fun _ o => o.indexOk),
    (4, loopsBad r.ops 0 0 none),
    (5, r.firstBad r.placeOk),
    (6, r.firstBad r.skipOk),
    (7, r.firstBad r.rangeOk),
    (8, r.firstBad r.publishOk),
    (9, r.firstBad r.scalarsOk)]

/-! ### Output bound and budgets -/

/-- Bytes that the operations outside loops, other than EMIT_BUF, append in one run. -/
def Recipe.fixedBytes (r : Recipe) : Nat :=
  (r.ops.map fun o => if o.op = 0x32 then 8 * (o.imm % 32) else if o.op = 0x33 then 32 else 0).sum

/-- Whether a recipe appends buffers, whose bound the manual does not state how to form. -/
def Recipe.emitsBuffers (r : Recipe) : Bool := r.ops.any fun o => o.op == 0x31

/-- BUDGET_FIXED (R289). -/
def Recipe.budgetFixed (r : Recipe) : Nat :=
  ((800 + (r.ops.map fun o => ((opSpec o.op).map OpSpec.fixed).getD 0).sum) * 10 + 15) / 16

/-- BUDGET_PER_KS (R289). -/
def Recipe.budgetPerKs (r : Recipe) : Nat :=
  (32 * (r.indexed.map fun p => if r.loop p.1 = 0 then 0 else ((opSpec p.2.op).map OpSpec.per32).getD 0).sum * 10 + 15) / 16

/-- Whether a loop of the recipe uses source 0. -/
def Recipe.usesWindow (r : Recipe) : Bool := r.ops.any fun o => o.op == 1 && !bitAt o.imm 12

/-- Whether the recipe reads RING, whose window a loop of source 0 runs over, or RING2. -/
def Recipe.readsRing (r : Recipe) (second : Bool) : Bool := (!second && r.usesWindow) || r.ops.any fun o => o.op == 8 && bitAt o.imm 0 == second

/-- Whether the recipe has a publication. -/
def Recipe.publishes (r : Recipe) (op : Nat) : Bool := r.ops.any fun o => o.op == op

/-- The HBM-tier offset of a recipe slot. -/
def Dev.recipeAt (d : Dev) (slot : Nat) : Nat := d.fget Reg.benchg_RECIPE_BASE * 65536 + 4096 * slot

/-- The 1,024 words of a slot. -/
def State.recipeWords (s : State) (slot : Nat) : List Nat := s.hbmWords (s.dev.recipeAt slot) 1024

/-- The header of a slot. -/
def State.recipeHeader (s : State) (slot : Nat) : List Nat := s.hbmWords (s.dev.recipeAt slot) 16

/-- The header that the Foreman leaves after its checks (Table 11.3): the F words and HDR_CRC. `ofix` and `oper` bound the
output. -/
def foremanHeader (h : List Nat) (r : Recipe) (gen ofix oper : Nat) (refused : Option (Nat × Nat)) : List Nat :=
  let w8 := match refused with
    | none => 1
    | some (rule, k) => 256 * rule + 65536 * k
  let ws := [h.getD 0 0, h.getD 1 0, h.getD 2 0, ofix % 2 ^ 32, oper % 2 ^ 32, gen, r.budgetFixed, r.budgetPerKs, w8, h.getD 9 0, h.getD 10 0,
    h.getD 11 0, h.getD 12 0, h.getD 13 0, h.getD 14 0]
  ws ++ [crc32c ws]

end Sys2Proof.Machine
end

