-- ==== Sys2Proof/Machine/RecipeRun.lean ====
section
/-!
DEFINITION. What a journeyman does: the runs of a recipe over the segments that a ticket names (R281, R282, R287, R288, R246), as a
function of the state in which they read.
-/

namespace Sys2Proof.Machine

/-! ### Tickets (Table 11.1) -/

/-- The fields of a ticket's 16 words. -/
structure TicketWords where
  ws : List Nat
  deriving DecidableEq, Repr

/-- Bits of word k. -/
def TicketWords.bits (t : TicketWords) (k l w : Nat) : Nat := bitField (t.ws.getD k 0) l w
/-- PROV_OK. -/
def TicketWords.provOk (t : TicketWords) : Bool := t.bits 0 8 1 == 1
/-- PIN. -/
def TicketWords.pin (t : TicketWords) : Bool := t.bits 0 9 1 == 1
/-- NO_COMPLETION. -/
def TicketWords.noCompletion (t : TicketWords) : Bool := t.bits 0 10 1 == 1
/-- TAG. -/
def TicketWords.tag (t : TicketWords) : Nat := t.bits 0 16 16
/-- RECIPE. -/
def TicketWords.recipe (t : TicketWords) : Nat := t.bits 1 0 10
/-- GEN. -/
def TicketWords.gen (t : TicketWords) : Nat := t.bits 1 16 16
/-- SEG_NUM. -/
def TicketWords.segNum (t : TicketWords) : Nat := t.bits 2 0 32 + 2 ^ 32 * t.bits 3 0 32
/-- SEG_COUNT. -/
def TicketWords.segCount (t : TicketWords) : Nat := t.bits 4 0 9
/-- RING or RING2. -/
def TicketWords.ring (t : TicketWords) (second : Bool) : Nat := if second then t.bits 4 20 4 else t.bits 4 16 4
/-- DEST_Q. -/
def TicketWords.destQ (t : TicketWords) : Nat := t.bits 5 0 16
/-- STREAM_Q. -/
def TicketWords.streamQ (t : TicketWords) : Nat := t.bits 5 16 16
/-- A record-space location in two words: offset and tier (Table 11.1). -/
def TicketWords.loc (t : TicketWords) (k : Nat) : Nat × Nat := (t.bits k 0 32 + 2 ^ 32 * t.bits (k + 1) 0 10, t.bits (k + 1) 10 1)
/-- OPERAND1. -/
def TicketWords.operand1 (t : TicketWords) : Nat := t.bits 10 0 32 + 2 ^ 32 * t.bits 11 0 32
/-- WIN_OFFSET. -/
def TicketWords.winOffset (t : TicketWords) : Nat := t.bits 12 0 32
/-- WIN_LEN. -/
def TicketWords.winLen (t : TicketWords) : Nat := t.bits 13 0 32
/-- PART. -/
def TicketWords.part (t : TicketWords) : Nat := t.bits 14 0 4
/-- The named segments, in order. -/
def TicketWords.segs (t : TicketWords) : List Nat := (List.range t.segCount).map (t.segNum + ·)

/-! ### Segments by number -/

/-- The segment that 16 words of a Ledger entry describe, by the rings as they are now. -/
def Dev.segOfWords (d : Dev) (ws : List Nat) : Segment :=
  let w3 := ws.getD 3 0
  let start := (ws.getD 2 0 + 2 ^ 32 * (w3 % 16)) * 64 + bitField w3 4 6
  let r := bitField w3 12 4
  let odd := bitAt w3 10
  let first := ws.getD 8 0 + 2 ^ 32 * ws.getD 9 0
  let ti := toSigned 64 (ws.getD 6 0 + 2 ^ 32 * ws.getD 7 0)
  let off := start - d.fget Reg.acq_ring_BASE r * 65536
  let pos := if r < 4 || d.fget Reg.deci_dch_MODE (r - 4) == 0 then 2 * (off / 3) + Bool.bit odd
    else if d.fget Reg.deci_dch_MODE (r - 4) = 1 then off / 3 else off / 2
  let len := ws.getD 4 0 + 2 ^ 32 * (ws.getD 5 0 % 256)
  { num := ws.getD 0 0 + 2 ^ 32 * ws.getD 1 0
    start := start
    odd := odd
    spilled := bitAt w3 11
    ring := r
    state := bitField w3 16 4
    rings := bitField w3 20 12
    length := len
    trigIndex := ti
    first := first
    last := if r < 4 then first + len - 1 else (first / d.ratio (r - 4) + len) * d.ratio (r - 4) - 1
    stamp := [ws.getD 10 0, ws.getD 11 0, ws.getD 12 0]
    cause := ws.getD 13 0 % 65536
    flags := ws.getD 13 0 / 65536
    auxSeq := ws.getD 14 0
    held := false
    staged := false
    written := true
    anchors := (List.range 12).map fun q => if q = r then ((d.windowIn r first first).1 : Int) - pos else (d.ring q).anchor }

/-- The segment of a number: one not yet finished with, or the one its Ledger slot still describes. -/
def State.segInfo (s : State) (n : Nat) : Option Segment :=
  match s.dev.seg n with
  | some g => some g
  | none =>
    let ws := s.hbmWords (s.dev.slotOf n) 16
    if ws.getD 15 0 == crc32c (ws.take 15) && ws.getD 0 0 + 2 ^ 32 * ws.getD 1 0 == n then some (s.dev.segOfWords ws) else none

/-! ### Record space -/

/-- A byte of record space: of the HBM tier, or of the spill tier, whose bytes are host memory and no state of the device (log
entry 23). -/
def State.recByte (s : State) (loc : Nat × Nat) (k : Nat) : Nat :=
  if loc.2 = 0 then s.hbmByte (loc.1 + k) else (Config.undefinedByte (2 ^ 42 + loc.1 + k) s.dev.freeCtr).toNat

/-- The raw source value at position j of a segment's window in ring r, in whichever tier it stands. -/
def State.winValue (s : State) (g : Segment) (r j : Nat) : Int × Int :=
  if g.spilled then unpackPair (s.recByte (g.start, 1) (2 * j) + 256 * s.recByte (g.start, 1) (2 * j + 1))
  else s.srcValue g r j

/-! ### Buffers -/

/-- Element types: I16, I32, binary32, and the bytes that PACK leaves. -/
inductive ElTy where
  | i16 | i32 | f32 | byte
  deriving DecidableEq, Repr

/-- TYPE of Table 11.4. -/
def ElTy.ofCode (t : Nat) : ElTy := if t = 0 then .i16 else if t = 1 then .i32 else .f32

/-- A buffer: its element type and its elements; binary32 elements as their bits. -/
structure Buf where
  ty : ElTy := .i16
  vals : List Int := []
  /-- Read straight from the window, one element a position: in RING (false) or RING2 (true). -/
  src : Option Bool := none
  deriving DecidableEq, Repr

/-- The number of an element. -/
def ElTy.num (t : ElTy) (v : Int) : Num := match t with
  | .f32 => binary32.num v.toNat
  | _ => .ofInt v

/-- Saturate an integer result (R287). -/
def ElTy.sat (t : ElTy) (v : Int) : Int := match t with
  | .i16 => clampInt (-32768) 32767 v
  | .i32 => clampInt (-2147483648) 2147483647 v
  | .byte => v % 256
  | .f32 => v

/-- An element converted to a type (CONV, R287); a NaN or infinity converted to an integer is left open. -/
def ElTy.conv (free : Nat) (src dst : ElTy) (v : Int) : Int :=
  if src = dst then v
  else match dst with
    | .f32 => (binary32.round (src.num v) : Nat)
    | _ => dst.sat (((src.num v).roundInt).getD (toSigned 32 free))

/-- A buffer read as a type. -/
def Buf.as (b : Buf) (free : Nat) (t : ElTy) : List Int := b.vals.map (b.ty.conv free t)

/-- The numbers of a buffer. -/
def Buf.nums (b : Buf) : List Num := b.vals.map b.ty.num

/-- The bytes of a buffer. -/
def Buf.bytes (b : Buf) : List Nat :=
  b.vals.flatMap fun v => match b.ty with
    | .i16 => [ofSigned 16 v % 256, ofSigned 16 v / 256]
    | .byte => [(v % 256).toNat]
    | _ => let w := ofSigned 32 v; [w % 256, w / 256 % 256, w / 65536 % 256, w / 16777216]

/-! ### One run -/

/-- Why a run ends early. -/
inductive RunStop where
  | halt
  /-- The ABORT operation: cause 1. -/
  | abort
  /-- The segment is lost (R282): cause 2. -/
  | lost
  deriving DecidableEq, Repr

/-- A loop in progress: the index of LOOP, CHUNK, its source, elements in all, elements from which the chunk begins. -/
structure LoopRun where
  start : Nat
  chunk : Nat
  source : Nat
  total : Nat
  pos : Nat
  deriving DecidableEq, Repr

/-- A run in progress. -/
structure Run where
  /-- S0 to S15 as binary64 bits. -/
  scal : KMap Nat := []
  bufs : KMap Buf := []
  out : List Nat := []
  /-- What each operation of the loop has read so far: SRC_A at 2k, SRC_B at 2k + 1. -/
  hist : KMap Buf := []
  /-- Outputs that each decimation has produced. -/
  made : KMap Nat := []
  loop : Option LoopRun := none
  stop : Option RunStop := none
  /-- Operations executed, and the index of the last one (R463, R467). -/
  ops : Nat := 0
  last : Nat := 0
  deriving DecidableEq, Repr

/-- What a run reads from. -/
structure RunCtx where
  s : State
  t : TicketWords
  r : Recipe
  seg : Option Segment

/-- A value the manual leaves open. -/
def RunCtx.free (c : RunCtx) : Nat := Config.freeValue c.s.dev.freeCtr

/-- Buffer i. -/
def Run.buf (x : Run) (i : Nat) : Buf := KMap.at x.bufs {} i

/-- Set buffer i. -/
def Run.setBuf (x : Run) (i : Nat) (t : ElTy) (vs : List Int) : Run := { x with bufs := KMap.put x.bufs i { ty := t, vals := vs } }

/-- Scalar i. -/
def Run.scalar (x : Run) (i : Nat) : Num := binary64.num (KMap.at x.scal 0 i)

/-- Set scalar i to a number rounded to binary64. -/
def Run.setScalar (x : Run) (i : Nat) (v : Num) : Run := { x with scal := KMap.put x.scal i (binary64.round v) }

/-- Elements of the current window in the ticket's RING or RING2, after WIN_OFFSET and WIN_LEN. -/
def RunCtx.windowElems (c : RunCtx) (second : Bool) : Nat :=
  match c.seg with
  | none => 0
  | some g =>
    let n := c.s.dev.windowLen g (c.t.ring second) - c.t.winOffset
    if c.t.winLen = 0 then n else min n c.t.winLen

/-- Elements of a loop's source. -/
def RunCtx.sourceElems (c : RunCtx) (source : Nat) : Nat := if source = 0 then c.windowElems false else c.t.operand1

/-- A chunk of the window, and whether it was still valid when read (R208, R282). -/
def RunCtx.loadWin (c : RunCtx) (second : Bool) (pos n : Nat) : Option Buf :=
  match c.seg with
  | none => some {}
  | some g =>
    let r := c.t.ring second
    let j0 := c.t.winOffset + pos
    let cnt := min n (c.windowElems second - pos)
    let ok := g.state != 2 && (g.spilled || decide (c.s.dev.oldestValid r ≤ (c.s.dev.windowIn r g.first g.last).1 + j0))
    if !ok then none
    else
      let rms := 4 ≤ r && c.s.dev.fget Reg.deci_dch_MODE (r - 4) == 3
      let peak := c.s.dev.srcKind r == 1
      some { ty := if rms then .i32 else .i16
             src := if peak then none else some second
             vals := (List.range cnt).flatMap fun k =>
               let v := c.s.winValue g r (j0 + k)
               if peak then [v.1, v.2] else if rms then [(ofSigned 16 v.1 : Int)] else [v.1] }

/-- A chunk of the record-space source in a format. -/
def RunCtx.loadRec (c : RunCtx) (fmt pos n : Nat) : Buf :=
  let loc := c.t.loc 8
  let cnt := min n (c.t.operand1 - pos)
  let byte := c.s.recByte loc
  { ty := if fmt = 2 then .i32 else .i16
    vals := (List.range cnt).map fun k =>
      let e := pos + k
      if fmt = 0 then
        let v := unpackPair (byte (3 * (e / 2)) + 256 * byte (3 * (e / 2) + 1) + 65536 * byte (3 * (e / 2) + 2))
        if e % 2 = 0 then v.1 else v.2
      else if fmt = 1 then toSigned 16 (byte (2 * e) + 256 * byte (2 * e + 1))
      else toSigned 32 (byte (4 * e) + 256 * byte (4 * e + 1) + 65536 * byte (4 * e + 2) + 16777216 * byte (4 * e + 3)) }

/-- A timestamp's tick count and fraction as one number. -/
def stampValue (w1 w2 w3 : Nat) : Nat := (w2 + 2 ^ 32 * w3) * 65536 + w1 / 65536

/-- The timestamp of a window's last sample, from that of its trigger (DEDUCED, log entry 23). -/
def Dev.lastStamp (d : Dev) (g : Segment) : Nat :=
  let t := (g.first : Int) + g.trigIndex
  let n := samplesPer d.mode
  ((stampValue (g.stamp.getD 0 0) (g.stamp.getD 1 0) (g.stamp.getD 2 0) : Int) +
    ((g.last : Int) - t) * 65536 * d.tb.inc / (2 ^ 32 * n)).toNat

/-- The samples of an auxiliary input linked to the segment (R401); none where the link is lost. -/
def RunCtx.auxSamples (c : RunCtx) (input : Nat) : Option (List Int) :=
  match c.seg with
  | none => some []
  | some g =>
    let d := c.s.dev
    let size := d.fget Reg.aux_BUF_SIZE * 4096
    if g.auxSeq = 0xFFFFFFFF ∨ size = 0 then some []
    else if g.auxSeq < d.aux.oldest then none
    else some ((List.range (d.aux.next - g.auxSeq)).filterMap fun k =>
      let w := c.s.hbmWords (d.fget Reg.aux_BUF_BASE * 65536 + 16 * ((g.auxSeq + k) % size)) 4
      if bitField (w.getD 0 0) 16 6 = input ∧ stampValue (w.getD 1 0) (w.getD 2 0) (w.getD 3 0) ≤ d.lastStamp g then
        some (toSigned 16 (w.getD 0 0)) else none)

/-! ### Decimation and interpolation (R230 to R233, R246, R164) -/

/-- The coefficients of M boxcars of rc samples. -/
def boxKernel (rc : Nat) : Nat → List Nat
  | 0 => [1]
  | m + 1 =>
    let k := boxKernel rc m
    (List.range (k.length + rc - 1)).map fun i => ((List.range rc).map fun j => if j ≤ i then k.getD (i - j) 0 else 0).sum

/-- Output d of a decimation over samples by stream index, with its interval origin (R230 to R233). -/
def decimOut (c : RunCtx) (o : RecipeOp) (x : Int → Int) (origin : Int) (d : Int) : List Int :=
  let ratio : Nat := o.imm % 2 ^ 24 + 1
  let i0 := origin + ratio * d
  let xs := (List.range ratio).map fun (k : Nat) => x (i0 + k)
  let s := xs.sum
  match o.op with
  | 0x18 => [x i0]
  | 0x19 => [xs.foldl min (x i0), xs.foldl max (x i0)]
  | 0x1A => [ElTy.i16.sat (roundDiv (16 * s) ratio)]
  | 0x1B => [(rmsOf (bitAt o.imm 24) s ((xs.map fun v => v.natAbs * v.natAbs).sum) ratio : Int)]
  | _ =>
    let m := bitField o.imm 24 3
    let rf := 2 ^ bitField o.imm 27 2
    let rc : Nat := ratio / rf
    let ker := boxKernel rc m
    let cAt := fun (j : Int) =>
      let top := origin + rc * (j + 1) - 1
      roundDiv (16 * ((List.range ker.length).map fun i => (ker.getD i 0 : Int) * x (top - i)).sum) (rc ^ m)
    let acc := ((List.range 64).map fun t =>
      toSigned 16 (c.r.params.getD (bitField o.imm 29 9 + t / 2) 0 / 2 ^ (16 * (t % 2))) * cAt (rf * d + t - 31)).sum
    [ElTy.i16.sat (roundDiv acc 16384)]

/-- The last index of output d's support beyond its interval's start. -/
def RecipeOp.reach (o : RecipeOp) : Nat :=
  let ratio := o.imm % 2 ^ 24 + 1
  if o.op = 0x18 then 0 else if o.op = 0x1C then 33 * (ratio / 2 ^ bitField o.imm 27 2) - 1 else ratio - 1

/-- The stream index of the loop source's first element in RING or RING2, and of its window's first sample. -/
def RunCtx.originOf (c : RunCtx) (source : Nat) (second : Bool) : Int × Int :=
  match c.seg with
  | some g =>
    if source = 0 then
      let f := (c.s.dev.windowIn (c.t.ring second) g.first g.last).1
      ((f + c.t.winOffset : Nat), f)
    else (0, 0)
  | none => (0, 0)

/-- The first index that ring r wrote in the current arm. -/
def Dev.armStart (d : Dev) (r : Nat) : Nat :=
  if r < 4 then d.armIndex else d.fget64 Reg.deci_dch_FIRST_OUT_W0 Reg.deci_dch_FIRST_OUT_W1 (r - 4)

/-- The sample of a segment's ring at an index beyond its window, while the ring holds it: stored in the segment's own arm and not
overwritten (R246). -/
def State.ringSample (s : State) (g : Segment) (r : Nat) (i : Int) : Option Int :=
  let d := s.dev
  if (d.oldestValid r : Int) ≤ i ∧ (d.armStart r : Int) ≤ i ∧ i < (d.ring r).write ∧ g.anchors.getD r 0 = (d.ring r).anchor then
    let v := (s.srcValue { g with first := if r < 4 then i.toNat else i.toNat * d.ratio (r - 4) } r 0).1
    some (if 4 ≤ r && d.fget Reg.deci_dch_MODE (r - 4) == 3 then ElTy.i16.sat (ofSigned 16 v : Int) else v)
  else none

/-- The sample at a stream index: from what has been read; beyond the window, the sample of the ring that the buffer was read from while
it is held, else the nearest sample inside (R246). A buffer that an operation has computed has no ring (DEDUCED, log entry 23). -/
def RunCtx.sampleAt (c : RunCtx) (source : Nat) (src : Option Bool) (xs : List Int) (w0 : Int) (i : Int) : Int :=
  let n := xs.length
  if w0 ≤ i ∧ i < w0 + n then xs.getD (i - w0).toNat 0
  else
    let near := if i < w0 then xs.headD 0 else xs.getLastD 0
    match c.seg, src with
    | some g, some second => if source = 0 then (c.s.ringSample g (c.t.ring second) i).getD near else near
    | _, _ => near

/-- The outputs of a decimation that the chunk makes possible; the last chunk gives the rest (R287). -/
def RunCtx.decimate (c : RunCtx) (k : Nat) (o : RecipeOp) (l : LoopRun) (x : Run) : Run :=
  let h := KMap.at x.hist {} (2 * k)
  let xs := h.vals
  let (w0, f) := c.originOf l.source (h.src == some true)
  let origin := if bitAt o.imm 39 then (c.t.operand1 : Int) else f
  let ratio : Nat := o.imm % 2 ^ 24 + 1
  let d0 := -((origin - w0).fdiv ratio)
  let last := decide (l.total ≤ l.pos + l.chunk)
  let made : Nat := KMap.at x.made 0 k
  let ds := (List.range (xs.length / ratio + 2 - made)).filterMap fun (n : Nat) =>
    let d := d0 + (made + n : Nat)
    let i0 := origin + ratio * d
    if i0 < w0 + xs.length && (last || decide (i0 + o.reach < w0 + xs.length)) then some d else none
  let outs := ds.flatMap (decimOut c o (c.sampleAt l.source h.src xs w0) origin)
  ({ x with made := KMap.put x.made k (made + ds.length) }).setBuf o.dst (if o.op = 0x1B then .i32 else .i16) outs

/-- Tap t of the interpolation kernel at a phase, for the input mode in force (R164). -/
def Dev.kernelTap (d : Dev) (phase t : Nat) : Int :=
  toSigned 16 (d.tactive 20 d.mode (8 * phase + t / 2) / 2 ^ (16 * (t % 2)))

/-- INTERP: 2^K outputs per input, from the kernel's phases; a support that reaches outside the buffer reads its nearest
element. -/
def RunCtx.interp (c : RunCtx) (kk : Nat) (xs : List Int) : List Int :=
  let n : Nat := xs.length
  let at' := fun (i : Int) => if i < 0 then xs.headD 0 else if (n : Int) ≤ i then xs.getLastD 0 else xs.getD i.toNat 0
  (List.range n).flatMap fun (e : Nat) => (List.range (2 ^ kk)).map fun (i : Nat) =>
    ElTy.i16.sat (roundDiv (((List.range 16).map fun t =>
      c.s.dev.kernelTap (256 * i / 2 ^ kk) t * at' ((e : Int) + t - 7)).sum) 16384)

/-! ### Measurements (R288) -/

/-- Exact sums are held in 64-bit integers; what a larger sum becomes is left open. -/
def sum64 (free : Nat) (i : Int) : Int := if -(2 ^ 63) ≤ i ∧ i < 2 ^ 63 then i else toSigned 64 free

/-- The sum of numbers. -/
def sumNums (free : Nat) (ty : ElTy) (ns : List Num) : Num :=
  match ty with
  | .f32 => ns.foldl Num.add (.ofInt 0)
  | _ => .ofInt (sum64 free ((ns.map fun n => (n.roundInt).getD 0).sum))

/-- The smaller, or larger, of two numbers. -/
def Num.least (a b : Num) : Num := if b.lt a then b else a
/-- The larger of two numbers. -/
def Num.most (a b : Num) : Num := if a.lt b then b else a

/-- The least and greatest element; none of an empty list. -/
def extremes : List Num → Option (Num × Num)
  | [] => none
  | a :: t => some (t.foldl (fun e n => (e.1.least n, e.2.most n)) (a, a))

/-- An upward crossing of level l from a to b. -/
def crossUp (l a b : Num) : Bool := a.le l && l.lt b
/-- A downward crossing. -/
def crossDown (l a b : Num) : Bool := l.le a && b.lt l

/-- Where a crossing lies: n − 1 + (L − a[n−1]) / (a[n] − a[n−1]). -/
def crossAt (n : Nat) (l a b : Num) : Num :=
  (Num.ofInt ((n : Int) - 1)).add ((l.add a.negate).div (b.add a.negate))

/-- Consecutive elements with the position of the second. -/
def pairsFrom : Nat → List Num → List (Nat × Num × Num)
  | n, a :: b :: t => (n, a, b) :: pairsFrom (n + 1) (b :: t)
  | _, _ => []

/-- An edge from one level through another: the first crossing of `l1` followed by one of `l2` with no crossing of `l1` back
between; `up` gives the direction. -/
def edgeOf (up : Bool) (l1 l2 : Num) (ns : List Num) : Option (Num × Num) :=
  let fwd := fun l a b => if up then crossUp l a b else crossDown l a b
  let back := fun l a b => if up then crossDown l a b else crossUp l a b
  ((pairsFrom 1 ns).foldl (fun (st : Option Num × Option (Num × Num)) p =>
    if st.2.isSome then st
    else
      let t1 := if back l1 p.2.1 p.2.2 then none
        else if st.1.isNone && fwd l1 p.2.1 p.2.2 then some (crossAt p.1 l1 p.2.1 p.2.2) else st.1
      match t1 with
      | some t => if fwd l2 p.2.1 p.2.2 then (t1, some (t, crossAt p.1 l2 p.2.1 p.2.2)) else (t1, none)
      | none => (none, none)) (none, none)).2

/-- The upward crossings of `u`, each preceded by a downward crossing of `l`. -/
def periodMarks (u l : Num) (ns : List Num) : List Num :=
  ((pairsFrom 1 ns).foldl (fun (st : Bool × List Num) p =>
    let ready := st.1 || crossDown l p.2.1 p.2.2
    if ready && crossUp u p.2.1 p.2.2 then (false, crossAt p.1 u p.2.1 p.2.2 :: st.2) else (ready, st.2)) (false, [])).2

/-- The mean spacing of marks, newest first; at least two needed. -/
def meanSpacing (ms : List Num) : Num :=
  match ms with
  | a :: b :: t => (a.add ((b :: t).getLastD b).negate).div (.ofInt ((b :: t).length : Nat))
  | _ => .nan

/-- The first crossing of a level: up, down, or either. -/
def firstCross (l : Num) (slope : Nat) (ns : List (Nat × Num × Num)) : Option (Nat × Num) :=
  (ns.find? fun p => (slope != 1 && crossUp l p.2.1 p.2.2) || (slope != 0 && crossDown l p.2.1 p.2.2)).map fun p =>
    (p.1, crossAt p.1 l p.2.1 p.2.2)

/-- The width of the first pulse at a level. -/
def pulseWidth (l : Num) (negative : Bool) (ns : List Num) : Num :=
  let ps := pairsFrom 1 ns
  match firstCross l (Bool.bit negative) ps with
  | none => .nan
  | some (n, t0) =>
    match firstCross l (1 - Bool.bit negative) (ps.filter fun p => decide (n < p.1)) with
    | none => .nan
    | some (_, t1) => t1.add t0.negate

/-- Count an integer in a histogram by bin. -/
def histCount (m : KMap Nat) (k : Nat) : KMap Nat := KMap.put m k (KMap.at m 0 k + 1)

/-- The centre of the fullest bin of those that lie on one side of (min + max) / 2; a tie is left open. `off` shifts bin numbers
to be natural. -/
def fullest (free sh : Nat) (off : Int) (bins : KMap Nat) : Num :=
  let top := (bins.map Prod.snd).foldl max 0
  let cs := bins.filter fun p => p.2 == top
  match cs[free % max 1 cs.length]? with
  | none => .nan
  | some p => .ofFrac (2 * ((p.1 : Int) - off) * 2 ^ sh + 2 ^ sh - 1) 2

/-- M_TOPBASE: top and base. -/
def topBase (free sh : Nat) (vs : List Int) : Num × Num :=
  match vs with
  | [] => (.nan, .nan)
  | a :: t =>
    let lo := t.foldl min a
    let hi := t.foldl max a
    let off : Int := 2 ^ 33
    let bins := vs.foldl (fun m v => histCount m (v.fdiv (2 ^ sh : Nat) + off).toNat) []
    let centre2 := fun (k : Nat) => 2 * ((k : Int) - off) * 2 ^ sh + 2 ^ sh - 1
    (fullest free sh off (bins.filter fun p => decide (lo + hi < centre2 p.1)),
     fullest free sh off (bins.filter fun p => decide (centre2 p.1 < lo + hi)))

/-- The mean of squares, less the square of the mean with AC, as a fraction's root. -/
def rmsNum (ac : Bool) (ns : List Num) : Nat :=
  let n := Num.ofInt (ns.length : Nat)
  let m2 := ((ns.map fun v => v.mul v).foldl Num.add (.ofInt 0)).div n
  let m := (ns.foldl Num.add (.ofInt 0)).div n
  match if ac then m2.add (m.mul m).negate else m2 with
  | .fin s p q => if s then 0 else binary64.sqrt p (max 1 q)
  | v => binary64.round v

/-- A signed 16-bit immediate field. -/
def RecipeOp.imm16 (o : RecipeOp) (l : Nat) : Num := .ofInt (toSigned 16 (bitField o.imm l 16))

/-- A measurement writes its scalars, or its buffer, from what it has read in the loop (Table 11.5). -/
def RunCtx.measure (c : RunCtx) (k : Nat) (o : RecipeOp) (x : Run) : Run :=
  let b := KMap.at x.hist {} (2 * k)
  let ns := b.nums
  let n := Num.ofInt (ns.length : Nat)
  let sum := sumNums c.free b.ty ns
  match o.op with
  | 0x20 => x.setScalar o.dst (if ns.isEmpty then .nan else sum.div n)
  | 0x21 => if ns.isEmpty then x.setScalar o.dst .nan else { x with scal := KMap.put x.scal o.dst (rmsNum (bitAt o.imm 0) ns) }
  | 0x22 => x.setScalar o.dst (((extremes ns).map Prod.fst).getD .nan)
  | 0x23 => x.setScalar o.dst (((extremes ns).map Prod.snd).getD .nan)
  | 0x24 => x.setScalar o.dst (((extremes ns).map fun e => e.2.add e.1.negate).getD .nan)
  | 0x25 =>
    let r := topBase c.free (o.imm % 16) (b.as c.free .i32)
    (x.setScalar o.dst r.1).setScalar (o.dst + 1) r.2
  | 0x26 =>
    (match edgeOf true (o.imm16 0) (o.imm16 16) ns with
    | some (t1, t2) => (x.setScalar o.dst (t2.add t1.negate)).setScalar (o.dst + 1) t1
    | none => (x.setScalar o.dst .nan).setScalar (o.dst + 1) .nan)
  | 0x27 =>
    (match edgeOf false (o.imm16 16) (o.imm16 0) ns with
    | some (t1, t2) => (x.setScalar o.dst (t2.add t1.negate)).setScalar (o.dst + 1) t1
    | none => (x.setScalar o.dst .nan).setScalar (o.dst + 1) .nan)
  | 0x28 =>
    (match extremes ns with
    | some e => x.setScalar o.dst ((e.2.add (x.scalar o.b).negate).div ((x.scalar o.b).add (x.scalar (o.b + 1)).negate))
    | none => x.setScalar o.dst .nan)
  | 0x2D => x.setScalar o.dst (sumNums c.free b.ty (List.zipWith Num.mul ns (KMap.at x.hist {} (2 * k + 1)).nums))
  | 0x2E => x.setScalar o.dst sum
  | 0x2F =>
    let sh := bitField o.imm 16 4
    let bins := (b.as c.free .i32).foldl (fun m v =>
      let i := (v - toSigned 16 (o.imm % 65536)).fdiv (2 ^ sh : Nat)
      if 0 ≤ i && decide (i < 1024) then histCount m i.toNat else m) []
    x.setBuf o.dst .i32 ((List.range 1024).map fun i => ((KMap.at bins 0 i : Nat) : Int))
  | 0x2B => x.setScalar o.dst (pulseWidth (o.imm16 0) (bitAt o.imm 16) ns)
  | 0x2C => x.setScalar o.dst (((firstCross (o.imm16 0) (bitField o.imm 16 2) (pairsFrom 1 ns)).map Prod.snd).getD .nan)
  | _ =>
    let half := (o.imm16 16).div (.ofInt 2)
    let p := meanSpacing (periodMarks ((o.imm16 0).add half) ((o.imm16 0).add half.negate) ns)
    x.setScalar o.dst (if o.op = 0x2A then (Num.ofInt 1).div p else p)

/-! ### Operations -/

/-- An element-wise operation of one source. -/
def Run.map1 (x : Run) (c : RunCtx) (o : RecipeOp) (fi : Int → Int) (ff : Int → Int) : Run :=
  let t := ElTy.ofCode o.typ
  x.setBuf o.dst t (((x.buf o.a).as c.free t).map fun v => if t = .f32 then ff v else t.sat (fi v))

/-- An element-wise operation of two sources. -/
def Run.map2 (x : Run) (c : RunCtx) (o : RecipeOp) (fi : Int → Int → Int) (fn : Num → Num → Num) : Run :=
  let t := ElTy.ofCode o.typ
  x.setBuf o.dst t (List.zipWith (fun a b => if t = .f32 then (binary32.round (fn (binary32.num a.toNat) (binary32.num b.toNat)) : Int) else t.sat (fi a b))
    ((x.buf o.a).as c.free t) ((x.buf o.b).as c.free t))

/-- What an operation of the loop has read grows by its source's chunk. -/
def Run.remember (x : Run) (key : Nat) (b : Buf) : Run :=
  let h := KMap.at x.hist {} key
  { x with hist := KMap.put x.hist key { ty := b.ty, vals := h.vals ++ b.vals, src := b.src } }

/-- SCALE on a binary32 element. -/
def scaleF (k : Int) (sh : Nat) (ofs : Int) (v : Int) : Int :=
  let p := binary32.round ((binary32.num v.toNat).mul (.ofFrac k (2 ^ sh)))
  (binary32.round ((binary32.num p).add (.ofInt ofs)) : Nat)

/-- CLIP on a binary32 element. -/
def clipF (lo hi : Int) (v : Int) : Int :=
  let a := binary32.num v.toNat
  if a.lt (.ofInt lo) then (binary32.round (.ofInt lo) : Nat) else if (Num.ofInt hi).lt a then (binary32.round (.ofInt hi) : Nat) else v

/-- Differences of consecutive elements; `prev` is the element before the first, if any. -/
def diffs (t : ElTy) : Option Int → List Int → List Int
  | _, [] => []
  | p, v :: vs =>
    let e := match p with
      | none => 0
      | some q => if t = .f32 then (binary32.round ((binary32.num v.toNat).add (binary32.num q.toNat).negate) : Int) else t.sat (v - q)
    e :: diffs t (some v) vs

/-- PACK: the bytes of a buffer in a format. -/
def packBytes (free fmt : Nat) (b : Buf) : List Int :=
  let bs := match fmt with
    | 0 => (packSamples ((b.as free .i16).map (clampInt (-2048) 2047))).map BitVec.toNat
    | 1 => ({ ty := .i16, vals := b.as free .i16 } : Buf).bytes
    | 2 => ({ ty := .i32, vals := b.as free .i32 } : Buf).bytes
    | _ => ({ ty := .f32, vals := b.as free .f32 } : Buf).bytes
  bs.map fun (n : Nat) => (n : Int)

/-- The eight bytes of a 64-bit value. -/
def bytes64 (v : Nat) : List Nat := (List.range 8).map fun k => v / 256 ^ k % 256

/-- The 32 bytes of EMIT_HDR. -/
def RunCtx.hdrBytes (c : RunCtx) : List Nat :=
  match c.seg with
  | none => List.replicate 32 0
  | some g => bytes64 g.num ++ bytes64 g.first ++
      ((g.stamp.take 3) ++ [g.cause % 65536 + 65536 * (g.flags % 65536)]).flatMap fun w => [w % 256, w / 256 % 256, w / 65536 % 256, w / 16777216 % 256]

/-- One operation that is no LOOP, END, SKIP_IF, HALT or ABORT (Table 11.5). -/
def RunCtx.operate (c : RunCtx) (k : Nat) (o : RecipeOp) (x : Run) : Run :=
  let l := x.loop.getD { start := 0, chunk := c.r.chunk k, source := 0, total := 0, pos := 0 }
  let n := min l.chunk (l.total - l.pos)
  let t := ElTy.ofCode o.typ
  match o.op with
  | 0x04 => x.setScalar o.dst (.ofInt (toSigned 40 o.imm))
  | 0x08 =>
    (match c.loadWin (bitAt o.imm 0) l.pos n with
    | some b => { x with bufs := KMap.put x.bufs o.dst b }
    | none => { x with stop := some .lost })
  | 0x09 => let b := c.loadRec (o.imm % 4) l.pos n; x.setBuf o.dst b.ty b.vals
  | 0x0A =>
    (match c.auxSamples (o.imm % 16) with
    | some vs => x.setBuf o.dst .i16 ((vs.drop l.pos).take l.chunk)
    | none => { x with stop := some .lost })
  | 0x0B => x.setBuf o.dst .i16 ((List.range (bitField o.imm 9 10)).map fun i =>
      toSigned 16 (c.r.params.getD (o.imm % 512 + i / 2) 0 / 2 ^ (16 * (i % 2))))
  | 0x0C =>
    let v : Nat := o.imm % 2 ^ 32
    x.setBuf o.dst t (List.replicate l.chunk (if t = .f32 then (v : Int) else t.sat (toSigned 32 v)))
  | 0x10 => x.map2 c o (fun a b => a + b) Num.add
  | 0x11 => x.map2 c o (fun a b => a - b) fun a b => a.add b.negate
  | 0x12 => x.map2 c o (fun a b => roundDiv (a * b) (2 ^ (o.imm % 32))) fun a b => (a.mul b).mul (.ofFrac 1 (2 ^ (o.imm % 32)))
  | 0x13 =>
    let kk := toSigned 16 (o.imm % 65536)
    let sh := bitField o.imm 16 5
    let ofs := toSigned 16 (bitField o.imm 24 16)
    x.map1 c o (fun a => roundDiv (a * kk) (2 ^ sh) + ofs) (scaleF kk sh ofs)
  | 0x14 => x.map1 c o (fun a => (a.natAbs : Int)) fun v => v % (2 ^ 31 : Nat)
  | 0x15 =>
    let lo := toSigned 16 (o.imm % 65536)
    let hi := toSigned 16 (bitField o.imm 16 16)
    x.map1 c o (fun a => min (max a lo) hi) (clipF lo hi)
  | 0x16 => x.map1 c o id id
  | 0x17 =>
    let vs := (x.buf o.a).as c.free t
    let prev := (KMap.at x.hist {} (2 * k)).vals.getLast?
    (x.remember (2 * k) { ty := t, vals := vs }).setBuf o.dst t (diffs t prev vs)
  | 0x1D => x.setBuf o.dst .i16 (c.interp (o.imm % 8) ((x.buf o.a).as c.free .i16))
  | 0x30 => x.setBuf o.dst .byte (packBytes c.free (o.imm % 4) (x.buf o.a))
  | 0x31 => { x with out := x.out ++ (x.buf o.a).bytes }
  | 0x32 => { x with out := x.out ++ (List.range (o.imm % 32)).flatMap fun i => bytes64 (KMap.at x.scal 0 (o.a + i)) }
  | 0x33 => { x with out := x.out ++ c.hdrBytes }
  | _ =>
    if o.isDecim then c.decimate k o l (x.remember (2 * k) { ty := .i16, vals := (x.buf o.a).as c.free .i16, src := (x.buf o.a).src })
    else if o.op = 0x2D then (x.remember (2 * k) (x.buf o.a)).remember (2 * k + 1) (x.buf o.b)
    else if o.isMeasure then x.remember (2 * k) (x.buf o.a)
    else x

/-- Whether S[SRC_A] CMP S[SRC_B] holds (SKIP_IF). -/
def skipHolds (cmp : Nat) (a b : Num) : Bool :=
  match cmp with
  | 0 => a.lt b
  | 1 => a.le b
  | 2 => a.eq b
  | 3 => a.lt b || b.lt a
  | 4 => b.le a
  | _ => b.lt a

/-- The index of the END of a loop opened at k. -/
def Recipe.endOf (r : Recipe) (k : Nat) : Nat :=
  (((r.indexed.drop (k + 1)).find? fun p => p.2.op == 2).map Prod.fst).getD r.ops.length

/-- The end of a loop: its measurements are written, in operation order. -/
def RunCtx.closeLoop (c : RunCtx) (start stop : Nat) (x : Run) : Run :=
  let x1 := ((c.r.indexed.drop start).take (stop - start)).foldl (fun x p => if p.2.isMeasure then c.measure p.1 p.2 x else x) x
  { x1 with loop := none, hist := [], made := [] }

/-- Run a recipe from an operation on; `fuel` bounds the operations executed. -/
def RunCtx.run (c : RunCtx) : Nat → Nat → Run → Run
  | 0, _, x => x
  | fuel + 1, pc, x =>
    if x.stop.isSome then x
    else match c.r.ops[pc]? with
    | none => x
    | some o =>
      let x := { x with ops := x.ops + 1, last := pc }
      if o.op = 0x01 then
        let src := Bool.bit (bitAt o.imm 12)
        let total := c.sourceElems src
        if total = 0 then c.run fuel (c.r.endOf pc + 1) (c.closeLoop pc (c.r.endOf pc) x)
        else c.run fuel (pc + 1) { x with loop := some { start := pc, chunk := o.imm % 4096, source := src, total := total, pos := 0 } }
      else if o.op = 0x02 then
        match x.loop with
        | none => c.run fuel (pc + 1) x
        | some l =>
          if l.pos + l.chunk < l.total then c.run fuel (l.start + 1) { x with loop := some { l with pos := l.pos + l.chunk } }
          else c.run fuel (pc + 1) (c.closeLoop l.start pc x)
      else if o.op = 0x03 then
        c.run fuel (if skipHolds (o.imm % 8) (x.scalar o.a) (x.scalar o.b) then pc + 1 + bitField o.imm 8 8 else pc + 1) x
      else if o.op = 0x05 then { x with stop := some .halt }
      else if o.op = 0x06 then { x with stop := some .abort }
      else c.run fuel (pc + 1) (c.operate pc o x)

/-- Operations that a run can execute at most. -/
def RunCtx.fuel (c : RunCtx) : Nat := 257 * (4 * ((max (c.sourceElems 0) (c.sourceElems 1)) / 32 + 2))

/-! ### A ticket's runs -/

/-- What a ticket's runs came to: the cause of ABORTED, or each run's output with S0 of the last run. -/
structure TicketRun where
  cause : Option Nat := none
  outputs : List (List Nat) := []
  s0 : Nat := 0
  /-- Operations executed, and the index of the last one. -/
  ops : Nat := 0
  last : Nat := 0
  deriving DecidableEq, Repr

/-- The runs over some segments, in order; none stands for the one run of a ticket that names no segment. -/
def State.runSegs (s : State) (t : TicketWords) (r : Recipe) : List (Option Nat) → TicketRun → TicketRun
  | [], a => a
  | n :: ns, a =>
    let g := n.bind s.segInfo
    if n.isSome && (g.isNone || (g.map Segment.state) == some 2) then { a with cause := some 2 }
    else
      let c : RunCtx := { s := s, t := t, r := r, seg := g }
      let x := c.run c.fuel 0 {}
      let a := { a with ops := a.ops + x.ops, last := x.last }
      match x.stop with
      | some .abort => { a with cause := some 1 }
      | some .lost => { a with cause := some 2 }
      | _ => s.runSegs t r ns { a with outputs := a.outputs ++ [x.out], s0 := KMap.at x.scal 0 0 }

/-- Run a ticket's recipe once for each named segment, or once (R287). -/
def State.runTicket (s : State) (t : TicketWords) : TicketRun :=
  s.runSegs t (recipeOf (s.recipeWords t.recipe)) (if t.segCount = 0 then [none] else t.segs.map some) {}

/-- The sources of a recipe's loops: 0 the window, 1 the record-space source. -/
def Recipe.sources (r : Recipe) : List Nat := (r.ops.filter fun o => o.op == 1).map fun o => (bitAt o.imm 12).toNat

/-- The source elements that one pass of a ticket's recipe reads, summed over its runs: E (R289). Where the loops of a recipe have
different sources, the longer one counts (DEDUCED, log entry 24). -/
def State.ticketElems (s : State) (t : TicketWords) (r : Recipe) : Nat :=
  let pass := fun (g : Option Segment) => (r.sources.map fun k => ({ s := s, t := t, r := r, seg := g } : RunCtx).sourceElems k).foldl max 0
  if t.segCount = 0 then pass none else (t.segs.map fun n => pass (s.segInfo n)).sum

end Sys2Proof.Machine
end

