-- ==== Sys2Proof/Machine/Bench.lean ====
section
/-!
DEFINITION. Benches: admission, dispatch, attempts, stealing, commit requests, timeouts, isolation, commits and publications of
tickets (R276 to R305).
-/

namespace Sys2Proof.Machine

/-! ### The ticket store -/

/-- The fields of a stored ticket's words. -/
def Ticket.t (x : Ticket) : TicketWords := { ws := x.words }

/-- The order stream of a ticket (R302). -/
def Ticket.stream (x : Ticket) : Nat := x.t.destQ

/-- The ticket of a number. -/
def Dev.ticket (d : Dev) (id : Nat) : Option Ticket := d.bench.tickets.find? fun x => x.id == id

/-- TICKETS_OUT, ORDER_ACTIVE and SLOTS_FREE follow the store. -/
def Dev.benchStatus (d : Dev) : Dev :=
  let ts := d.bench.tickets
  ((d.fset Reg.benchg_TICKETS_OUT ts.length).fset Reg.benchg_ORDER_ACTIVE (ts.map Ticket.stream).eraseDups.length).fset Reg.benchg_SLOTS_FREE
    (d.fget Reg.benchg_SLOTS - (ts.filter fun x => x.slot.isSome).length)

/-- Replace the stored tickets. -/
def Dev.setTickets (d : Dev) (ts : List Ticket) : Dev := { d with bench.tickets := ts }.benchStatus

/-- Replace one stored ticket. -/
def Dev.setTicket (d : Dev) (x : Ticket) : Dev := d.setTickets (d.bench.tickets.map fun y => if y.id = x.id then x else y)

/-- The deque of a journeyman, far end first. -/
def Dev.deque (d : Dev) (jm : Nat) : List Nat := KMap.at d.bench.deques [] jm

/-- Replace a deque; DEQUE_LEN follows. -/
def Dev.setDeque (d : Dev) (jm : Nat) (q : List Nat) : Dev :=
  { d with bench.deques := KMap.put d.bench.deques jm q }.fset Reg.bench_jm_DEQUE_LEN q.length (jm / 16 * 256 + jm % 16)

/-- The ticket that a journeyman executes. -/
def Dev.executing (d : Dev) (jm : Nat) : Option Ticket := d.bench.tickets.find? fun x => x.place == .running jm

/-- BUSY, RECIPE and ATTEMPT of a journeyman follow what it executes. -/
def Dev.jmStatus (d : Dev) (jm : Nat) : Dev :=
  match d.executing jm with
  | some x => ((d.fsetBit Reg.bench_BUSY (jm % 16) true (jm / 16)).fset Reg.bench_jm_RECIPE x.t.recipe (jm / 16 * 256 + jm % 16)).fset
      Reg.bench_jm_ATTEMPT x.attempt (jm / 16 * 256 + jm % 16)
  | none => ((d.fsetBit Reg.bench_BUSY (jm % 16) false (jm / 16)).fset Reg.bench_jm_RECIPE 0 (jm / 16 * 256 + jm % 16)).fset
      Reg.bench_jm_ATTEMPT 0 (jm / 16 * 256 + jm % 16)

/-- Whether a journeyman is retired (R291). -/
def Dev.jmRetired (d : Dev) (jm : Nat) : Bool := bitAt (d.fget Reg.bench_RETIRED (jm / 16)) (jm % 16)

/-- Whether a bench is in service. -/
def Dev.benchIn (d : Dev) (b : Nat) : Bool := bitAt (d.fget Reg.benchg_IN_SERVICE) b

/-- Whether a bench takes dispatches and steals: in service, and not in an island reset (R290). -/
def Dev.benchTakes (d : Dev) (b : Nat) : Bool := d.benchIn b && !d.flag Reg.bench_RESETTING b

/-- The journeymen of a bench that are not retired. -/
def Dev.benchJms (d : Dev) (b : Nat) : List Nat := ((List.range 16).map (16 * b + ·)).filter fun j => !d.jmRetired j

/-- The journeymen of a bench whose deque, of 64 entries (R276), has room. -/
def Dev.openJms (d : Dev) (b : Nat) : List Nat := (d.benchJms b).filter fun j => decide ((d.deque j).length < 64)

/-- Release the holds of a ticket (R281). -/
def Dev.releaseHolds (d : Dev) (x : Ticket) : Dev := x.holds.foldl (fun (d : Dev) n => d.readSeg n false) d

/-- Remove a ticket from the store: its commit is complete, or it is dropped (R295, R298). -/
def Dev.forgetTicket (d : Dev) (x : Ticket) : Dev :=
  let d1 := (d.releaseHolds x).setTickets (d.bench.tickets.filter fun y => y.id != x.id)
  match x.place with
  | .deque jm => d1.setDeque jm ((d1.deque jm).filter (· != x.id))
  | .running jm => d1.jmStatus jm
  | .store => d1

/-! ### Pins and neighbours (R300, R301) -/

/-- The benches in service of a ticket's PIN mask; none where the ticket is not pinned or its mask is 0. -/
def Dev.pinMask (d : Dev) (t : TicketWords) : Nat := if t.pin && decide (t.ring false < 12) then d.fget Reg.benchg_PIN (t.ring false) else 0

/-- Whether a ticket's mask has no bench in service (R301). -/
def Dev.pinBroken (d : Dev) (t : TicketWords) : Bool := d.pinMask t != 0 && d.pinMask t &&& d.fget Reg.benchg_IN_SERVICE == 0

/-- Whether a ticket may run on a bench. -/
def Dev.mayRun (d : Dev) (t : TicketWords) (b : Nat) : Bool := d.pinMask t == 0 || d.pinBroken t || bitAt (d.pinMask t) b

/-- PIN_BROKEN where a ticket goes beyond its mask. -/
def Dev.notePin (d : Dev) (t : TicketWords) : Dev := if d.pinBroken t then d.raise 29 Ev.benchg_PIN_BROKEN else d

/-- The neighbour order of a bench (Table 11.9). -/
def Dev.neighbours (d : Dev) (b : Nat) : List Nat :=
  (((List.range 32).map fun n => byteOf (d.tactive 29 0 (8 * b + n / 4)) (n % 4)).takeWhile (· != 0xFF)).filter fun n => decide (n < 32)

/-- The shortest deque of a list of journeymen, ties to the lowest. -/
def Dev.shortest (d : Dev) : List Nat → Option Nat
  | [] => none
  | j :: js => match d.shortest js with
    | none => some j
    | some k => if (d.deque k).length < (d.deque j).length then some k else some j

/-! ### Admission (R279 to R281) -/

/-- Whether admission of a ticket to a stream must wait (R280). -/
def Dev.admitWaits (d : Dev) (stream : Nat) : Bool :=
  let ts := d.bench.tickets
  let seq := KMap.at d.bench.nextSeq 0 stream
  decide (65536 ≤ ts.length) ||
    (match ts.find? fun x => x.stream == stream with
    | some x => decide (x.seq + 4096 ≤ seq)
    | none => decide (1024 ≤ (ts.map Ticket.stream).eraseDups.length))

/-- Whether every reserved field of a ticket is 0, and SEG_COUNT in range (Table 11.1). -/
def TicketWords.reservedOk (t : TicketWords) : Bool :=
  t.bits 0 11 5 == 0 && t.bits 1 10 6 == 0 && t.bits 4 9 7 == 0 && t.bits 4 24 8 == 0 && t.bits 7 11 21 == 0 && t.bits 14 4 28 == 0 &&
    t.bits 15 0 32 == 0 && decide (t.segCount ≤ 256)

/-- Whether a span of record space that a ticket writes is good: within its tier, clear of rings, the Ledger and the spill
regions (Table 11.2). -/
def Dev.destOk (d : Dev) (loc : Nat × Nat) (len : Nat) : Bool :=
  if loc.2 = 0 then !d.spanBad (loc.1, len)
  else decide (loc.1 + len ≤ d.spillUnits * 2097152) && !d.spillRegions.any fun r => spansMeet (loc.1, len) (r.1 * 2097152, r.2 * 2097152)

/-- The bound of a ticket's output (R293). -/
def State.outputBound (s : State) (t : TicketWords) (r : Recipe) : Nat :=
  max t.segCount 1 * r.header.getD 3 0 + r.header.getD 4 0 * ((s.ticketElems t r + 1023) / 1024)

/-- The checks of a ticket's named segments: written, not retracted, with the rings that the recipe reads (Table 11.2). -/
def State.segsOk (s : State) (t : TicketWords) (r : Recipe) : Bool :=
  t.segs.all fun n => decide (n < s.dev.fget64 Reg.ledg_WRITTEN_SEG_W0 Reg.ledg_WRITTEN_SEG_W1) &&
    (match s.segInfo n with
    | none => true
    | some g => !bitAt g.flags 1 && (!r.readsRing false || bitAt g.rings (t.ring false)) && (!r.readsRing true || bitAt g.rings (t.ring true)))

/-- Whether a USER queue's ticket uses an operation without its grant (R279). -/
def grantMissing (cls grant : Nat) (r : Recipe) : Bool :=
  cls == 2 && ((r.publishes 0x3A && !bitAt grant 0) || (r.publishes 0x3B && !bitAt grant 1) || (r.publishes 0x39 && !bitAt grant 2) ||
    (r.publishes 0x3C && !bitAt grant 3))

/-- Bytes that the copies of a ticket's segments take in the spill tier (R297). -/
def State.copyBytes (s : State) (n : Nat) : Nat :=
  match s.segInfo n with
  | none => 0
  | some g => ((ringsOf g.rings).map (s.dev.copyLines g)).sum * 64

/-- The status that a ticket's admission gives it, 0 where it may run (Table 11.2); a binding's ticket (`segs` false) is not
checked against its segment. -/
def State.admitStatus (s : State) (t : TicketWords) (cls grant : Nat) (segs : Bool) : Nat :=
  let r := recipeOf (s.recipeWords t.recipe)
  let bound := s.outputBound t r
  if !t.reservedOk then 1
  else if (KMap.find s.dev.bench.loading t.recipe).isSome then 7
  else if !r.valid || r.gen % 65536 != t.gen then 1
  else if segs && !s.segsOk t r then 1
  else if t.segCount = 0 && r.usesWindow then 1
  else if r.publishes 0x39 && !s.dev.destOk (t.loc 6) bound then 1
  else if r.publishes 0x3B && ((t.loc 6).2 == 0 || !s.dev.destOk (t.loc 6) ((t.segs.map s.copyBytes).sum)) then 1
  else if grantMissing cls grant r then 2
  else if s.dev.fget Reg.benchg_SLOTS = 0 || decide (max 1 (s.dev.fget Reg.benchg_SLOT_UNITS) * 65536 < bound) then 3
  else 0

/-- Admit a ticket with a sequence number; one that fails a check is done at once with its status (R279, R281, R302). -/
def State.takeTicket (s : State) (ws : List Nat) (sq sqHead cls grant : Nat) (segs : Bool) : State :=
  let t : TicketWords := { ws := ws }
  let st := s.admitStatus t cls grant segs
  s.onDev fun d =>
    let seq := KMap.at d.bench.nextSeq 0 t.destQ
    let holds := if st = 0 then t.segs.filter fun n => (match d.seg n with | some g => g.held || !segs | none => false) else []
    let x : Ticket := {
      id := d.bench.nextId
      words := ws
      sq := sq
      sqHead := sqHead
      seq := seq
      holds := holds
      out := if st = 0 then none else some { status := st, result := 0 } }
    holds.foldl (fun (d : Dev) n => d.readSeg n true) ({ d with
      bench.tickets := d.bench.tickets ++ [x]
      bench.nextId := d.bench.nextId + 1
      bench.nextSeq := KMap.put d.bench.nextSeq t.destQ (seq + 1) }.benchStatus)

/-- Whether a queue number is a WORK queue's, which the Foreman fills and software does not see (R279, R306); 0xFFFF stands for
the bindings (DEDUCED, log entry 24). -/
def isWork (q : Nat) : Bool := decide (65280 ≤ q) && decide (q < 65535)

/-- A ticket entry at the head of a SUBMIT queue or of a WORK queue is presented for admission (R279, R311, R312). -/
def offerTicket (q : Nat) (entry : List Nat) (d : Dev) : Dev :=
  let c := d.qctx q
  if (isWork q || (c.typ == 1 && c.state == 1 && c.used != 0 && d.fetches q)) && entry.headD 0 % 256 == 0x80 && !d.bench.offered.any fun p => p.1 == q then
    { d with bench.offered := d.bench.offered ++ [(q, (List.range 16).map fun k => entry.getD k 0 % 2 ^ 32)] }
  else d

/-- The oldest presented ticket for which there is room is consumed and admitted (R280, R312). -/
def State.ticketAdmit (s : State) : State :=
  match s.dev.bench.offered.find? fun p => !s.dev.admitWaits ({ ws := p.2 } : TicketWords).destQ with
  | none => s
  | some (q, ws) =>
    let c := s.dev.qctx q
    let head := (c.head + 1) % 2 ^ 32
    let s1 := s.onDev fun d => { d with bench.offered := d.bench.offered.filter fun p => p.1 != q }
    if isWork q then s1.takeTicket ws q 0 0 0 true
    else (s1.onDev fun d => d.qset q { c with head := head }).takeTicket ws q head c.cls c.grant true

/-! ### Bindings (R283) -/

/-- Whether BINDING entry e creates a ticket for a segment. -/
def State.bindingMatches (s : State) (g : Segment) (e : Nat) : Bool :=
  let w := s.dev.tactive 29 1 (32 * e + 16)
  let t : TicketWords := { ws := (List.range 16).map fun k => s.dev.tactive 29 1 (32 * e + k) }
  bitAt w 0 && (g.cause &&& w / 65536) != 0 && bitAt g.rings (t.ring false) &&
    (!(recipeOf (s.recipeWords t.recipe)).readsRing true || bitAt g.rings (t.ring true))

/-- The ticket of a binding for a segment: the template with SEG_NUM and SEG_COUNT 1. -/
def Dev.bindingTicket (d : Dev) (e n : Nat) : List Nat :=
  (List.range 16).map fun k =>
    let w := d.tactive 29 1 (32 * e + k)
    if k = 2 then n % 2 ^ 32 else if k = 3 then n / 2 ^ 32 % 2 ^ 32 else if k = 4 then w - w % 512 + 1 else w

/-- The bindings' tickets for a segment, in entry order, at its commit (R280, R283). -/
def State.bindingTickets (s : State) (n : Nat) : State :=
  match s.dev.seg n with
  | none => s
  | some g =>
    (List.range 64).foldl (fun (s : State) e =>
      if !s.bindingMatches g e then s
      else
        let ws := s.dev.bindingTicket e n
        if s.dev.admitWaits ({ ws := ws } : TicketWords).destQ then
          s.onDev fun d => (d.finc Reg.benchg_MISSED).raise 29 Ev.benchg_BEHIND
        else s.takeTicket ws 0xFFFF 0 1 0 false) s

/-- The tickets of a retracted segment's bindings are dropped (R298). -/
def Dev.ticketsRetract (d : Dev) (n : Nat) : Dev :=
  (d.bench.tickets.filter fun x => x.sq == 0xFFFF && x.t.segNum == n).foldl (fun (d : Dev) x => d.forgetTicket x) d

/-! ### Dispatch (R284, R299) -/

/-- Whether a ticket is eligible (R284). -/
def Dev.ticketEligible (d : Dev) (x : Ticket) : Bool :=
  x.place == .store && x.out.isNone && x.t.segs.all fun n => match d.seg n with
    | none => true
    | some g => g.state != 0 && (x.t.provOk || !bitAt g.flags 0)

/-- Free deque entries of a bench. -/
def Dev.room (d : Dev) (b : Nat) : Nat := ((d.benchJms b).map fun j => 64 - (d.deque j).length).sum

/-- The bench for a ticket: permitted, taking, with the most free deque entries; ties to the next after the last chosen. -/
def Dev.chooseBench (d : Dev) (t : TicketWords) : Option Nat :=
  let bs := ((List.range 32).map fun n => (d.bench.lastBench + 1 + n) % 32).filter fun b => d.benchTakes b && d.mayRun t b && d.room b != 0
  bs.foldl (fun best b => match best with
    | none => some b
    | some a => if d.room a < d.room b then some b else some a) none

/-- The next ticket to dispatch: the first eligible one of the next stream in turn. -/
def Dev.nextTicket (d : Dev) : Option Ticket :=
  let ts := d.bench.tickets.filter d.ticketEligible
  let after := ts.filter fun x => decide (d.bench.lastStream < x.stream)
  let pool := if after.isEmpty then ts else after
  let q := (pool.map Ticket.stream).foldl min 65536
  pool.find? fun x => x.stream == q

/-- An eligible ticket goes to a bench and to the near end of its shortest deque (R299). -/
def ticketDispatch (d : Dev) : Dev :=
  if !d.flag Reg.benchg_DISPATCH_EN then d
  else match d.nextTicket with
  | none => d
  | some x =>
    let d0 := { d with bench.lastStream := x.stream }
    match d0.chooseBench x.t with
    | none => d0
    | some b =>
      match d0.shortest (d0.openJms b) with
      | none => d0
      | some j =>
        (({ d0 with bench.lastBench := b }.setDeque j (d0.deque j ++ [x.id])).setTicket { x with place := .deque j }).notePin x.t

/-! ### Attempts and steals (R293, R300) -/

/-- The lowest free scratch slot. -/
def Dev.freeSlot (d : Dev) : Option Nat :=
  let used := d.bench.tickets.filterMap Ticket.slot
  (List.range (d.fget Reg.benchg_SLOTS)).find? fun n => !used.contains n

/-- A journeyman takes the ticket at the far end of its deque and starts an attempt, once a scratch slot is free; a slot that
fails its CRC checks ends the ticket with TABLE_CRC (R285, R293, R300). No attempt starts in throttle stage 3 (R438). -/
def State.attemptStart (s : State) (jm : Nat) : State :=
  let d := s.dev
  if d.fget Reg.pwr_STAGE == 3 || !d.benchTakes (jm / 16) || d.jmRetired jm || (d.executing jm).isSome then s
  else match (d.deque jm).head?.bind d.ticket with
  | none => s
  | some x =>
    let ws := s.recipeWords x.t.recipe
    let taken := fun (d : Dev) => d.setDeque jm ((d.deque jm).drop 1)
    if !(imgCrcOk ws && hdrCrcOk ws && (recipeOf ws).valid) then
      (s.onDev fun d => (taken d).setTicket { x with place := .store, out := some { status := 6, result := 0 } }).hbmStore
        (d.recipeAt x.t.recipe + 32) [andNot (ws.getD 8 0) 1]
    else match d.freeSlot with
    | none => s.onDev fun d => if x.slotWait then d else (d.finc Reg.benchg_SCRATCH_WAITS).setTicket { x with slotWait := true }
    | some n =>
      s.onDev fun d => ((taken d).setTicket { x with place := .running jm, slot := some n, slotWait := false, started := d.tb.acc }).jmStatus jm

/-- Whether the ticket at the far end of a deque may run on a bench. -/
def Dev.stealable (d : Dev) (b jm : Nat) : Bool :=
  match (d.deque jm).head?.bind d.ticket with
  | some x => d.mayRun x.t b
  | none => false

/-- The fullest deque of a bench that a thief may take from, with at least XSTEAL_MIN entries. -/
def Dev.fullestDeque (d : Dev) (thief b : Nat) : Option Nat :=
  (((List.range 16).map (16 * b + ·)).filter fun j =>
    d.stealable thief j && decide (max 1 (d.fget Reg.benchg_XSTEAL_MIN) ≤ (d.deque j).length)).foldl (fun best j => match best with
      | none => some j
      | some a => if (d.deque a).length < (d.deque j).length then some j else some a) none

/-- The deque that an idle journeyman steals from (R300). -/
def Dev.victim (d : Dev) (jm : Nat) : Option Nat :=
  let b := jm / 16
  match ((List.range 15).map fun n => 16 * b + (jm + 1 + n) % 16).find? (d.stealable b) with
  | some j => some j
  | none =>
    if !d.flag Reg.benchg_XSTEAL_EN then none
    else ((d.neighbours b).filter d.benchTakes).findSome? (d.fullestDeque b)

/-- An idle journeyman with an empty deque steals one ticket. -/
def ticketSteal (jm : Nat) (d : Dev) : Dev :=
  if !d.benchTakes (jm / 16) || d.jmRetired jm || (d.executing jm).isSome || !(d.deque jm).isEmpty then d
  else match d.victim jm with
  | none => d
  | some v =>
    match (d.deque v).head?.bind d.ticket with
    | none => d
    | some x =>
      let d1 := ((d.setDeque v ((d.deque v).drop 1)).setDeque jm [x.id]).setTicket { x with place := .deque jm }
      if v / 16 = jm / 16 then d1 else (d1.finc Reg.bench_STEALS_IN 1 (jm / 16)).finc Reg.bench_STEALS_OUT 1 (v / 16)

/-! ### Commit requests (R294) -/

/-- The scratch slot's offset. -/
def Dev.scratchAt (d : Dev) (slot : Nat) : Nat :=
  (d.fget Reg.benchg_SCRATCH_BASE + slot * max 1 (d.fget Reg.benchg_SLOT_UNITS)) * 65536

/-- The spill copies that COPY_SPILL writes during the runs (R297). -/
def State.copySpills (s : State) (t : TicketWords) (d : Dev) : Dev :=
  (t.segs.foldl (fun (p : Nat × Dev) n => (p.1 + s.copyBytes n, match s.segInfo n with
    | some g => p.2.spillTo p.1 (s.copyImage g)
    | none => p.2)) ((t.loc 6).1, d)).2

/-- A journeyman's commit request for an attempt: accepted while the attempt is the ticket's current one, with what its runs
came to; any other is discarded (R294, R292). -/
def State.commitRequest (s : State) (jm id attempt : Nat) : State :=
  match s.dev.ticket id with
  | none => s.onDev fun d => d.finc Reg.benchg_DUP_COMMITS
  | some x =>
    if x.place != .running jm || x.attempt != attempt || !s.dev.benchIn (jm / 16) then s.onDev fun d => d.finc Reg.benchg_DUP_COMMITS
    else
      let r := s.runTicket x.t
      let o : TicketOut := match r.cause with
        | some c => { status := 4, result := c }
        | none => { status := 0, result := r.s0, outputs := r.outputs }
      let s1 := (s.onDev fun d => ((d.setTicket { x with place := .store, out := some o }).jmStatus jm).finc Reg.bench_TICKETS_DONE 1 (jm / 16)).hbmStoreBytes
        (s.dev.scratchAt (x.slot.getD 0)) (o.outputs.flatten.map (BitVec.ofNat 8))
      let s2 := s1.onDev fun d => d.tallyCount 10 (jm / 16 + 1) r.ops { master := some (2, jm), instr := (jm, r.last) }
      if r.cause.isNone && (recipeOf (s.recipeWords x.t.recipe)).publishes 0x3B then s2.onDev (s.copySpills x.t) else s2

/-! ### Timeouts, retirement, isolation (R290 to R292) -/

/-- Put a ticket at the far end of a journeyman's deque; where there is none it waits in the store for dispatch (log entry 24). -/
def Dev.farEnd (d : Dev) (x : Ticket) (jm : Option Nat) : Dev :=
  match jm with
  | some j => (d.setDeque j (x.id :: d.deque j)).setTicket { x with place := .deque j }
  | none => d.setTicket { x with place := .store }

/-- Reissue a ticket with a new attempt at the far end of a deque with room of the first bench of a list that is permitted. -/
def Dev.reissue (d : Dev) (x : Ticket) (benches : List Nat) : Dev :=
  let y := { x with attempt := x.attempt + 1, slot := none }
  let place := (benches.filter fun b => d.benchTakes b && d.mayRun x.t b).findSome? fun b => d.shortest (d.openJms b)
  let d1 := (d.finc Reg.benchg_REISSUES).farEnd y place
  if place.isSome then d1.notePin x.t else d1

/-- Reissue a ticket to the far end of one journeyman's deque (R290). -/
def Dev.reissueTo (d : Dev) (x : Ticket) (jm : Nat) : Dev :=
  (d.finc Reg.benchg_REISSUES).farEnd { x with attempt := x.attempt + 1, slot := none } (if (d.deque jm).length < 64 then some jm else none)

/-- The tickets dispatched to a bench and not done. -/
def Dev.benchTickets (d : Dev) (b : Nat) (deques : Bool) : List (Nat × Ticket) :=
  d.bench.tickets.filterMap fun x => match x.place with
    | .running j => if j / 16 = b then some (j, x) else none
    | .deque j => if deques && j / 16 == b then some (j, x) else none
    | .store => none

/-- Isolate a bench: out of service, its tickets reissued elsewhere (R292); for good where `forGood` (R291). -/
def Dev.isolate (d : Dev) (b : Nat) (forGood : Bool) : Dev :=
  let d1 := ((d.fsetBit Reg.benchg_IN_SERVICE b false).fbit Reg.bench_IN_SERVICE false b).fsetBit Reg.benchg_ISOLATED b true
  let moved := d1.benchTickets b true
  let d2 := (List.range 16).foldl (fun (d : Dev) j => d.setDeque (16 * b + j) []) d1
  let d3 := moved.foldl (fun (d : Dev) p => d.reissue p.2 (d.neighbours b)) d2
  let d4 := (List.range 16).foldl (fun (d : Dev) j => d.jmStatus (16 * b + j)) d3
  let d5 := ((d4.faultDegrades 29 1 0).raise 29 Ev.benchg_BENCH_ISOLATED).logErr 29 Ev.benchg_BENCH_ISOLATED b 0
  if forGood then { d5 with bench.shut := d5.bench.shut ||| 2 ^ b } else d5

/-- Retire a journeyman (R291): its deque's entries move to the far ends of the bench's other deques. -/
def Dev.retireJm (d : Dev) (jm : Nat) : Dev :=
  let b := jm / 16
  let d1 := (((d.fsetBit Reg.bench_RETIRED (jm % 16) true b).raise (32 + b) Ev.bench_JM_RETIRED).raise 29 Ev.benchg_JM_RETIRED).faultDegrades
    (32 + b) 1 0
  let d2 := d1.logErr (32 + b) Ev.bench_JM_RETIRED (jm % 16) 0
  let ids := d2.deque jm
  let d3 := d2.setDeque jm []
  if (d3.benchJms b).isEmpty then
    (ids.filterMap d3.ticket).foldl (fun (d : Dev) x => d.reissue x (d.neighbours b)) (d3.isolate b true)
  else (ids.filterMap d3.ticket).foldl (fun (d : Dev) x => d.farEnd x (d.shortest (d.openJms b))) d3

/-- An attempt times out (R290): the ticket is reissued or ended, the island is reset, the bench's other running tickets start
again. The attempt timer stops in throttle stage 3 (R439). -/
def ticketTimeout (jm atMs : Nat) (d : Dev) : Dev :=
  match d.executing jm with
  | none => d
  | some x =>
    if d.fget Reg.pwr_STAGE = 3 then d else
    let b := jm / 16
    let times := (atMs :: (KMap.at d.bench.jmTimes [] jm).filter fun t => decide (atMs < t + 1000)).take 2
    let d1 := { d with bench.jmTimes := KMap.put d.bench.jmTimes jm times }
    let d2 := ((((d1.countTimeout (32 + b)).countRecovery (32 + b)).finc Reg.benchg_TIMEOUTS).finc Reg.bench_jm_TIMEOUTS 1 (b * 256 + jm % 16))
    let d3 := ((d2.raise (32 + b) Ev.bench_TICKET_TIMEOUT).raise 29 Ev.benchg_TICKET_TIMEOUT).logErr (32 + b) Ev.bench_TICKET_TIMEOUT (jm % 16) 0
    let d4 := (d3.fbit Reg.bench_RESETTING true b).raise (32 + b) Ev.bench_ISL_RESET
    let y := { x with timeouts := x.timeouts + 1 }
    let d5 := if 3 ≤ y.timeouts then d4.setTicket { y with place := .store, slot := none, out := some { status := 4, result := 3 } }
      else d4.reissue y (d4.neighbours b)
    let d6 := ((d5.benchTickets b false).filter fun p => p.2.id != x.id).foldl (fun (d : Dev) p => d.reissueTo p.2 p.1) d5
    let d7 := (List.range 16).foldl (fun (d : Dev) j => d.jmStatus (16 * b + j)) d6
    if times.length = 2 && !d7.jmRetired jm then d7.retireJm jm else d7

/-- The island reset completes (R290). -/
def islResetDone (b : Nat) (d : Dev) : Dev := d.fbit Reg.bench_RESETTING false b

/-- A heartbeat arrives (R292). -/
def benchHeartbeat (b : Nat) (d : Dev) : Dev := { d with bench.heard := KMap.put d.bench.heard b d.tb.acc }

/-- No heartbeat for 100 µs: the bench is isolated, and the Foreman resets its island (R292). -/
def benchIsolated (b : Nat) (d : Dev) : Dev :=
  if d.benchIn b then ((d.isolate b false).fbit Reg.bench_RESETTING true b).raise (32 + b) Ev.bench_ISL_RESET else d

/-- An isolated bench rejoins (R292, Table 17.9). -/
def Dev.benchRejoin (b : Nat) (d : Dev) : Dev :=
    let d1 := (((d.fsetBit Reg.benchg_IN_SERVICE b true).fbit Reg.bench_IN_SERVICE true b).fsetBit Reg.benchg_ISOLATED b false).fset
      Reg.bench_REJOIN_FAILS 0 b
    (((d1.countRecovery 29).degrade 29 0 (d1.fget Reg.benchg_ISOLATED != 0)).raise 29 Ev.benchg_BENCH_REJOINED).logErr 29 Ev.benchg_BENCH_REJOINED b 0

/-- The self-test of an isolated bench ends (R292): it rejoins, or after three failures stays isolated. -/
def benchSelfTestDone (b : Nat) (pass : Bool) (d : Dev) : Dev :=
  if d.benchIn b || bitAt d.bench.shut b || d.romRecovery then d
  else if pass then d.recovered 29 b fun d => d.benchRejoin b
  else
    let n := d.fget Reg.bench_REJOIN_FAILS b + 1
    let d1 := d.fset Reg.bench_REJOIN_FAILS n b
    if 3 ≤ n then { d1 with bench.shut := d1.bench.shut ||| 2 ^ b } else d1

/-! ### Commit and publication (R295 to R297) -/

/-- Whether a done ticket may commit: every earlier ticket of its stream is gone, every named segment confirmed. -/
def Dev.committable (d : Dev) (x : Ticket) : Bool :=
  x.out.isSome && ((d.bench.tickets.find? fun y => y.stream == x.stream).map Ticket.id) == some x.id &&
    x.t.segs.all fun n => match d.seg n with
      | some g => !bitAt g.flags 0
      | none => true

/-- Whether TILL_MERGE of RECORDS `n` per run can be made (R296). -/
def Dev.mergeOk (d : Dev) (k n : Nat) (outs : List (List Nat)) : Bool :=
  let t := d.shape k
  decide (t.mode ≤ 2) && outs.all (fun o => o.length == 4 * t.words) && d.partIs k != 3 && !d.flag Reg.accu_part_AUTO_DUMP k &&
    (t.mode != 0 || decide (d.fget Reg.accu_part_RECORDS k + n * outs.length ≤ d.recordLimit k))

/-- The checks of every publication of a ticket (R295). DEST_Q is checked under NO_COMPLETION too, since every ticket fails for its
missing queues after a warm reset (R325). -/
def State.publishable (s : State) (x : Ticket) (o : TicketOut) (r : Recipe) : Bool :=
  let d := s.dev
  let c := d.qctx x.t.streamQ
  ((d.qctx x.t.destQ).typ == 2 || (isWork x.sq && decide (65280 ≤ x.t.destQ))) &&
    (!r.publishes 0x38 || (c.typ == 4 && o.outputs.all fun b => decide (16 + b.length ≤ 2 ^ c.log2 * 2 ^ c.esize))) &&
    (!r.publishes 0x39 || d.destOk (x.t.loc 6) o.outputs.flatten.length) &&
    (!r.publishes 0x3B || x.t.segs.all fun n => (d.seg n).any fun g => g.held) &&
    (r.ops.all fun op => op.op != 0x3A || d.mergeOk x.t.part op.imm o.outputs)

/-- The little-endian words of bytes, the last filled with 0. -/
def wordsOfBytes : List Nat → List Nat
  | a :: b :: c :: e :: t => (a + 256 * b + 65536 * c + 16777216 * e) :: wordsOfBytes t
  | [] => []
  | [a] => [a]
  | [a, b] => [a + 256 * b]
  | [a, b, c] => [a + 256 * b + 65536 * c]

/-- The STREAM record of a run's output (Table 12.5). -/
def Ticket.record (x : Ticket) (i : Nat) (b : List Nat) : StreamRec :=
  { kind := 3, source := x.t.tag + 65536 * i, source2 := if x.t.segCount = 0 then 0 else (x.t.segNum + i) % 2 ^ 32, payload := wordsOfBytes b,
    len := some b.length }

/-- Write the records of STREAM_OUT that fit, in run order; how many are then written. -/
def Dev.streamOut (d : Dev) (x : Ticket) (n : Nat) : List (List Nat) → Dev × Nat
  | [] => (d, n)
  | b :: bs =>
    let q := x.t.streamQ
    if (KMap.at d.qm.streams [] q).isEmpty && d.recordFits q b.length then (d.deliverRecord q (x.record n b)).streamOut x (n + 1) bs
    else (d, n)

/-- Merge one run's output into a partition (R296). -/
def State.tillMerge (s : State) (k records : Nat) (b : List Nat) : State :=
  let t := s.dev.shape k
  let s1 := ((List.range t.words).zip (wordsOfBytes b)).foldl (fun (s : State) p =>
    let old := s.tillGet k t p.1
    if t.mode = 0 then s.tillSet k t p.1 (ofSigned 32 (toSigned 32 old + toSigned 32 p.2))
    else if t.mode = 1 then s.tillSet k t p.1 (ofSigned 16 (min (toSigned 16 old) (toSigned 16 p.2)) +
      65536 * ofSigned 16 (max (toSigned 16 (old / 65536)) (toSigned 16 (p.2 / 65536))))
    else
      let s2 := s.tillSet k t p.1 (satAdd 32 old p.2)
      if 2 ^ 32 ≤ old + p.2 then s2.onDev fun d => d.tillSat k else s2) s
  s1.onDev fun d => d.finc Reg.accu_part_RECORDS records k

/-- The spill copies of a ticket's segments take effect in their entries, and the segments are released (R297, R221). -/
def State.copyCommit (s : State) (x : Ticket) : State :=
  s.onDevHbm fun d => (x.t.segs.foldl (fun (p : Nat × Dev) n =>
    (p.1 + s.copyBytes n, match p.2.seg n with
      | some g => p.2.writeEntry { g with start := p.1 + g.start % 64, spilled := true, flags := g.flags ||| 8, held := false }
      | none => p.2)) ((x.t.loc 6).1, d)).2

/-- One publication operation of a ticket (Table 11.5). Also whether it is complete. -/
def State.publish (s : State) (x : Ticket) (o : TicketOut) (op : RecipeOp) : State × Bool :=
  if op.op = 0x38 then
    let r := s.dev.streamOut x x.sent (o.outputs.drop x.sent)
    let done := decide (o.outputs.length ≤ r.2)
    (s.onDev fun _ => r.1.setTicket { x with sent := r.2 }, done)
  else if op.op = 0x39 then
    let bs := o.outputs.flatten
    if (x.t.loc 6).2 = 0 then (s.hbmStoreBytes (x.t.loc 6).1 (bs.map (BitVec.ofNat 8)), true)
    else (s.onDev fun d => d.spillTo (x.t.loc 6).1 bs, true)
  else if op.op = 0x3A then
    if (s.dev.part x.t.part).sweep.isSome || (s.dev.part x.t.part).due.isSome then (s, false)
    else
      let s1 := o.outputs.foldl (fun (s : State) b => s.tillMerge x.t.part op.imm b) s
      (s1.onDev fun d => d.snapDue x.t.part true, true)
  else if op.op = 0x3B then (s.copyCommit x, true)
  else (s.onDev fun d => x.t.segs.foldl (fun (d : Dev) n => d.releaseOne n) d, true)

/-- Make the publications from operation `x.made` on, in recipe order; one that must wait stops them. -/
def State.publishAll (s : State) (id : Nat) (o : TicketOut) : List RecipeOp → State × Bool
  | [] => (s, true)
  | op :: ops =>
    match s.dev.ticket id with
    | none => (s, true)
    | some x =>
      let r := s.publish x o op
      if r.2 then
        (r.1.onDev fun d => match d.ticket id with
          | some y => d.setTicket { y with made := y.made + 1 }
          | none => d).publishAll id o ops
      else (r.1, false)

/-- Post a ticket's completion and, once it is written, end the ticket (R295, R319). -/
def Dev.ticketPost (d : Dev) (x : Ticket) (o : TicketOut) : Dev :=
  if x.t.noCompletion then d.forgetTicket x
  else
    let r := d.postCompletion { cq := x.t.destQ, tag := x.t.tag, status := o.status, sq := x.sq, sqHead := x.sqHead, result := o.result }
    if r.2 then r.1.forgetTicket x else r.1

/-- A done ticket commits in its order stream: its publications are checked and made, its completion is posted (R295). -/
def State.ticketCommit (s : State) (id : Nat) : State :=
  match s.dev.ticket id with
  | none => s
  | some x =>
    match x.out with
    | none => s
    | some o =>
      if !s.dev.committable x then s
      else
        let r := recipeOf (s.recipeWords x.t.recipe)
        let o1 : TicketOut := if o.status = 0 && !x.checked && !s.publishable x o r then { status := 4, result := 4 } else o
        let s1 := s.onDev fun d => d.setTicket { x with out := some o1, checked := true }
        let p := if o1.status = 0 then s1.publishAll id o1 ((r.ops.filter RecipeOp.isPublish).drop x.made) else (s1, true)
        if !p.2 then p.1
        else p.1.onDev fun d => match d.ticket id with
          | some y => d.ticketPost y o1
          | none => d

/-- Tickets whose publications are made and whose completions wait for room are posted where it allows (R319). -/
def State.ticketsPost (s : State) : State :=
  (s.dev.bench.tickets.filter fun x => x.checked).foldl (fun (s : State) x => s.ticketCommit x.id) s

/-! ### Recipe loads (R285, R286) -/

/-- Whether an admitted ticket or a running binding names a recipe slot. -/
def Dev.slotNamed (d : Dev) (slot : Nat) : Bool :=
  (d.bench.tickets.any fun x => x.t.recipe == slot) ||
    (List.range 64).any fun e => bitAt (d.tactive 29 1 (32 * e + 16)) 0 && d.tactive 29 1 (32 * e + 1) % 1024 == slot

/-- The Foreman has checked a loaded slot: it fills the F words, and the command that loaded it completes (R285, R286). The bound
of a recipe that appends buffers is left open (log entry 24). -/
def State.recipeValidationDone (s : State) (slot : Nat) : State :=
  match KMap.find s.dev.bench.loading slot with
  | none => s
  | some cmd =>
    let ws := s.recipeWords slot
    let r := recipeOf ws
    let bad := r.refused (imgCrcOk ws)
    let gen := if bad.isNone then (KMap.at s.dev.bench.gen 0 slot + 1) % 2 ^ 32 else KMap.at s.dev.bench.gen 0 slot
    let free := Config.freeValue s.dev.freeCtr
    let h := foremanHeader ws r gen (r.fixedBytes + if r.emitsBuffers then free % 65536 else 0) (if r.emitsBuffers then free / 65536 % 65536 else 0)
      bad
    let st := if !imgCrcOk ws then 6 else if bad.isSome then 1 else 0
    (s.hbmStore (s.dev.recipeAt slot) h).onDev fun d =>
      ({ d with
        freeCtr := d.freeCtr + 1
        bench.loading := KMap.del d.bench.loading slot
        bench.gen := KMap.put d.bench.gen slot gen }).finishCmd cmd st (if st = 0 then gen else 0)

/-- The RECIPE_LOAD command (Table 12.3, R285): the image goes to the slot, and the Foreman's checks follow. -/
def State.recipeLoad (s : State) (id slot : Nat) (image : List Nat) : State :=
  if s.dev.slotNamed slot || (KMap.find s.dev.bench.loading slot).isSome then s.onDev fun d => d.finishCmd id 7 0
  else (s.hbmStore (s.dev.recipeAt slot) ((List.range 1024).map fun k => image.getD k 0)).onDev fun d =>
    { d with bench.loading := KMap.put d.bench.loading slot id }

/-! ### Commands -/

/-- TICKET (R311). -/
def execTicket (q : Nat) (entry : List Word) (s : State) : Host.Outcome State Fault Refusal :=
  .next (s.live fun s => s.onDev (offerTicket q (entry.map BitVec.toNat)))

/-- TICKET_ADMIT (R280). -/
def execTicketAdmit (s : State) : Host.Outcome State Fault Refusal := .next (s.live fun s => s.ticketAdmit)

/-- TICKET_DISPATCH (R299). -/
def execTicketDispatch (s : State) : Host.Outcome State Fault Refusal := .next (s.live fun s => s.onDev ticketDispatch)

/-- ATTEMPT_START (R293). -/
def execAttemptStart (jm : Fin 512) (s : State) : Host.Outcome State Fault Refusal := .next (s.live fun s => s.attemptStart jm)

/-- TICKET_STEAL (R300). -/
def execTicketSteal (jm : Fin 512) (s : State) : Host.Outcome State Fault Refusal := .next (s.live fun s => s.onDev (ticketSteal jm))

/-- COMMIT_REQUEST (R294). -/
def execCommitRequest (jm : Fin 512) (ticket attempt : Nat) (s : State) : Host.Outcome State Fault Refusal :=
  .next (s.live fun s => s.commitRequest jm ticket attempt)

/-- TICKET_TIMEOUT (R290). -/
def execTicketTimeout (jm : Fin 512) (atMs : Nat) (s : State) : Host.Outcome State Fault Refusal :=
  .next (s.live fun s => s.onDev (ticketTimeout jm atMs))

/-- ISL_RESET_DONE (R290). -/
def execIslResetDone (b : Fin 32) (s : State) : Host.Outcome State Fault Refusal := .next (s.live fun s => s.onDev (islResetDone b))

/-- BENCH_HEARTBEAT (R292). -/
def execBenchHeartbeat (b : Fin 32) (s : State) : Host.Outcome State Fault Refusal := .next (s.live fun s => s.onDev (benchHeartbeat b))

/-- BENCH_ISOLATED (R292). -/
def execBenchIsolated (b : Fin 32) (s : State) : Host.Outcome State Fault Refusal := .next (s.live fun s => s.onDev (benchIsolated b))

/-- BENCH_SELF_TEST_DONE (R292). -/
def execBenchSelfTestDone (b : Fin 32) (pass : Bool) (s : State) : Host.Outcome State Fault Refusal :=
  .next (s.live fun s => s.onDev (benchSelfTestDone b pass))

/-- TICKET_COMMIT (R295). -/
def execTicketCommit (ticket : Nat) (s : State) : Host.Outcome State Fault Refusal := .next (s.live fun s => s.ticketCommit ticket)

/-- RECIPE_VALIDATION_DONE (R286). -/
def execRecipeValidationDone (slot : Fin 1024) (s : State) : Host.Outcome State Fault Refusal := .next (s.live fun s => s.recipeValidationDone slot)

end Sys2Proof.Machine
end

