-- ==== Sys2Proof/Machine/Vern.lean ====
section
/-!
DEFINITION. The vernier pool: edges of the state sources, conversions and the instants they place, allocation between the
trigger and the TIC, timeouts, calibration windows (R104, R158 to R162, R176).
-/

namespace Sys2Proof.Machine

/-! ### The state sources (R120 to R125) -/

/-- Whether a state source is enabled: 0 to 3 CMP_A to CMP_D, 4 to 7 TRIG_IN_0 to TRIG_IN_3. -/
def Dev.srcOn (d : Dev) (k : Nat) : Bool := if k < 4 then d.flag Reg.trig_cmp_EN k else d.flag Reg.trig_tin_EN (k - 4)

/-- The SLOPE of a source as written. -/
def Dev.srcSlope (d : Dev) (k : Nat) : Nat := if k < 4 then d.fget Reg.trig_cmp_SLOPE k else d.fget Reg.trig_tin_SLOPE (k - 4)

/-- Its threshold and hysteresis as written; for a comparator under automatic level, the level of the loop (R139). -/
def Dev.srcWritten (d : Dev) (k : Nat) : SrcCfg :=
  if k < 4 then {
    thresh := if d.flag Reg.trig_cmp_AUTO_EN k then ((KMap.at d.trig.auto {} (16 + k)).level).getD (d.fgetS Reg.trig_cmp_THRESH k)
      else d.fgetS Reg.trig_cmp_THRESH k
    hyst := d.fget Reg.trig_cmp_HYST k
    slope := d.fget Reg.trig_cmp_SLOPE k }
  else {
    thresh := d.fgetS Reg.trig_tin_THRESH (k - 4)
    hyst := d.fget Reg.trig_tin_HYST (k - 4)
    slope := d.fget Reg.trig_tin_SLOPE (k - 4) }

/-- The configuration of a source in force (R124). -/
def Dev.srcInForce (d : Dev) (k : Nat) : SrcCfg := KMap.at d.trig.srcs {} k

/-- Whether a SLOPE (0 rising, 1 falling, 2 both) takes an edge. -/
def slopeTakes (slope : Nat) (rising : Bool) : Bool := slope == 2 || (slope == 0 && rising) || (slope == 1 && !rising)

/-! ### Edges -/

/-- The edge with a number. -/
def Dev.edge (d : Dev) (id : Nat) : Option Edge := d.vern.edges.find? fun e => e.id == id

/-- Replace an edge. -/
def Dev.setEdge (d : Dev) (e : Edge) : Dev :=
  { d with vern.edges := d.vern.edges.map fun x => if x.id = e.id then e else x }

/-- TAP time of an edge in trigger time units since cold reset. -/
def Edge.tapTu (e : Edge) : Nat := e.tick * 128 + e.tu

/-- The instant that TAP gives an edge: the middle of its tap interval, in 2^-16 ticks (R157). -/
def Edge.tap16 (e : Edge) : Int := (e.tapTu * 512 + 256 : Nat)

/-- What the tick of the next weft gives a TIC result (R181). -/
def Dev.tickMarks (d : Dev) : TickMarks :=
  { epochs := d.tb.epochs
    slews := d.tb.slews
    slewing := d.flag Reg.tbase_SLEWING
    unlock := (List.range 4).any fun g => (KMap.at d.clk.dlls {} g).phase != .locked }

/-- Record an edge of a source in the tick of the next weft. -/
def Dev.addEdge (d : Dev) (src : Nat) (rising : Bool) (tu : Nat) : Edge × Dev :=
  let m := d.tickMarks
  let e : Edge := {
    id := d.vern.nextEdge
    src := src
    rising := rising
    tick := d.loom.tick
    tu := tu
    acc := d.tb.acc
    inc := d.tb.inc
    epochs := m.epochs
    slewing := m.slewing
    slews := m.slews
    unlock := m.unlock }
  (e, { d with
    vern.edges := d.vern.edges ++ [e]
    vern.nextEdge := d.vern.nextEdge + 1 })

/-! ### The pool (R159) -/

/-- Units held for the trigger, or by the TIC. -/
def Dev.vernHeld (d : Dev) (tic : Bool) : Nat := (d.vern.jobs.filter fun j => j.2.tic == tic).length

/-- The units that are neither retired nor busy. -/
def Dev.vernFree (d : Dev) : List Nat :=
  (List.range 64).filter fun u => !bitAt d.vern.retired u && (KMap.find d.vern.jobs u).isNone

/-- Whether a request takes a unit (R159). -/
def Dev.vernMay (d : Dev) (tic : Bool) : Bool :=
  let left := d.vernFree.length - 1
  !d.vernFree.isEmpty &&
    (if tic then decide (d.vernHeld true < 8) || decide (56 - d.vernHeld false ≤ left) else decide (8 - d.vernHeld true ≤ left))

/-- The status fields of the VERN page follow the pool (Table 06.10). -/
def Dev.vernStatus (d : Dev) : Dev :=
  (((d.fset Reg.vern_FREE d.vernFree.length).fset Reg.vern_TRIG_HELD (d.vernHeld false)).fset Reg.vern_TIC_HELD (d.vernHeld true)).fset
    Reg.vern_IN_POOL ((List.range 64).filter fun u => !bitAt d.vern.retired u).length

/-- Assign the lowest free unit to an edge. -/
def Dev.vernTake (d : Dev) (id : Nat) (tic : Bool) : Option Nat × Dev :=
  if d.vernMay tic then
    let u := d.vernFree.headD 0
    let offset := match d.edge id with
      | some e => d.fgetS Reg.vern_SRC_OFFSET e.src
      | none => 0
    (some u, ({ d with vern.jobs := KMap.put d.vern.jobs u { edge := id, tic := tic, offset := offset } }).vernStatus)
  else (none, d)

/-! ### Gates and holdoff times -/

/-- MIN_HOLDOFF_FLOOR: floor(10 ns × 16 × f_nom) TU (R149). -/
def Dev.holdoffFloor (d : Dev) : Nat := d.fget Reg.tbase_NOMINAL_FREQ * 16 / 100000

/-- The minimum holdoff in force, in TU (R149). -/
def Dev.minHoldoff (d : Dev) : Nat :=
  let v := d.fget Reg.tseq_MIN_HOLDOFF
  if v = 0 then d.holdoffFloor else max 128 v

/-- GATE of a source, in TU (R160). -/
def Dev.gateOf (d : Dev) (k : Nat) : Nat := let g := d.fget Reg.vern_GATE k; if g = 0 then d.minHoldoff else g

/-! ### Conversion (R158) -/

/-- The CLK_S frequency in kHz: as measured, or nominal before a measurement (log entry 25). -/
def Dev.clkKhz (d : Dev) : Nat :=
  let k := d.fget Reg.clk_KHZ
  if k = 0 then d.fget Reg.tbase_NOMINAL_FREQ else k

/-- D_V: the largest of 8, 4 and 2 for which P_V ≤ 781.25 ps. -/
def Dev.dv (d : Dev) : Nat :=
  if 8 * 100000000000 ≤ 78125 * d.clkKhz then 8 else if 4 * 100000000000 ≤ 78125 * d.clkKhz then 4 else 2

/-- The oscillator periods of a unit in 0.01 fs (Table 04.12). -/
def Dev.vernPeriod (d : Dev) (u w : Nat) : Nat := d.tactive 17 3 (2 * u + w) % 2 ^ 31

/-- The instant, in units of 2^-b tick from the start of the edge's tick, that a conversion with count k places (R158), times
8 × 10^14; `b` is the number of fraction bits. -/
def placedScaled (m dv b : Nat) (k pa pb : Nat) (offFs : Int) (khz : Nat) : Int :=
  (m * dv * 2 ^ b / 8 * 800000000000000 : Nat) - ((k : Int) * ((pa : Int) - pb) + 100 * offFs) * (2 ^ b * khz : Nat)

/-- The instant since cold reset that unit u places an edge at with count k, in 2^-b tick, with the SRC_OFFSET of its conversion's start. -/
def Dev.placed (d : Dev) (e : Edge) (u k b : Nat) (offset : Int) : Int :=
  let m := e.tu / (16 * d.dv) + 1
  (e.tick * 2 ^ b : Nat) + roundDiv (placedScaled m d.dv b k (d.vernPeriod u 0) (d.vernPeriod u 1)
    offset d.clkKhz) 800000000000000

/-- A conversion completes: the edge is placed, the unit is free again. -/
def vernConvert (u k : Nat) (d : Dev) : Dev :=
  match KMap.find d.vern.jobs u with
  | none => d
  | some j =>
    let d1 := ({ d with
      vern.jobs := KMap.del d.vern.jobs u
      vern.timeouts := KMap.put d.vern.timeouts u 0 }).vernStatus
    match d1.edge j.edge with
    | none => d1
    | some e => if j.tic then d1.setEdge { e with
          unitC := none
          instC := some (d.placed e u k 32 j.offset) }
        else d1.setEdge { e with
          unitT := none
          instT := some (d.placed e u k 16 j.offset) }

/-- Retire a unit until cold reset (R162). -/
def Dev.vernRetire (d : Dev) (u : Nat) : Dev :=
  let d1 := { d with vern.retired := d.vern.retired ||| 2 ^ u }
  ((((if u < 32 then d1.fsetBit Reg.vern_RETIRED_W0 u true else d1.fsetBit Reg.vern_RETIRED_W1 (u - 32) true).raise 20
    Ev.vern_UNIT_RETIRED)).faultDegrades 20 1 0).vernStatus

/-- A conversion is abandoned after 1 µs (R162): the edge stays without an instant; the second timeout in a row retires the
unit. -/
def vernTimeout (u : Nat) (d : Dev) : Dev :=
  match KMap.find d.vern.jobs u with
  | none => d
  | some j =>
    let n := KMap.at d.vern.timeouts 0 u + 1
    let d1 := ({ d with
      vern.jobs := KMap.del d.vern.jobs u
      vern.timeouts := KMap.put d.vern.timeouts u n }).vernStatus
    let d2 := match d1.edge j.edge with
      | none => d1
      | some e => if j.tic then d1.setEdge { e with unitC := none } else d1.setEdge { e with unitT := none }
    let d3 := (((d2.countTimeout 20).countRecovery 20).raise 20 Ev.vern_CONV_TIMEOUT).logErr 20 Ev.vern_CONV_TIMEOUT u 0
    if 2 ≤ n then d3.vernRetire u else d3

/-- An edge is offered to the pool for the trigger (R123, R160). -/
def Dev.offerTrig (d : Dev) (e : Edge) : Dev :=
  if !slopeTakes (d.srcInForce e.src).slope e.rising then d
  else
    let gate := match KMap.find d.vern.lastConv e.src with
      | none => true
      | some t => decide (t + d.gateOf e.src ≤ e.tapTu)
    if !gate then d
    else
      let r := d.vernTake e.id false
      match r.1 with
      | some u => ({ r.2 with vern.lastConv := KMap.put r.2.vern.lastConv e.src e.tapTu }).setEdge { e with unitT := some u }
      | none => (d.finc Reg.vern_STARVE_COUNT).raise 20 Ev.vern_STARVED

/-! ### Calibration windows (R104) -/

/-- A 2 µs window of an idle unit completes: its periods are written, STALE clears; VERN_RESID, the rms over the 64 units of the errors in
fs of their last windows, follows (R104, R109). A busy unit's window was abandoned. -/
def vernCalWindowEnd (u pa pb : Nat) (err : Int) (d : Dev) : Dev :=
  if (KMap.find d.vern.jobs u).isSome || bitAt d.vern.retired u then d
  else
    let b := (d.tctlOf 17 3).bank
    let was := decide (d.fget Reg.assay_VERN_LIMIT < d.fget Reg.assay_VERN_RESID)
    let x := { d with assay.vernErr := KMap.put d.assay.vernErr u err }.free
    let sq := ((List.range 64).map fun k => (KMap.at x.2.assay.vernErr 0 k).natAbs ^ 2).sum
    let d1 : Dev := (((x.2.tset 17 3 b (2 * u) (pa % 2 ^ 31)).tset 17 3 b (2 * u + 1) (pb % 2 ^ 31)).staleAny).fset Reg.assay_VERN_RESID
      (min 65535 (rootOf sq 64 x.1))
    if !was && decide (d1.fget Reg.assay_VERN_LIMIT < d1.fget Reg.assay_VERN_RESID) then (d1.raise 17 Ev.assay_QUALITY_LIMIT).planSoon
    else d1

/-- A unit has completed no window for 100 ms (R104): it stays in the pool with its last periods. -/
def vernStale (u : Nat) (d : Dev) : Dev :=
  ((d.tset 17 3 (d.tctlOf 17 3).bank (2 * u) (d.tactive 17 3 (2 * u) % 2 ^ 31 + 2 ^ 31)).staleAny).raise 17 Ev.assay_VERN_STALE

/-! ### Commands -/

/-- VERN_CAL_WINDOW_END (R104). -/
def execVernCalWindowEnd (u : Fin 64) (periodA periodB : Nat) (err : Int) (s : State) : Host.Outcome State Fault Refusal :=
  .next (s.live fun s => s.onDev (vernCalWindowEnd u periodA periodB err))

/-- VERN_STALE (R104). -/
def execVernStale (u : Fin 64) (s : State) : Host.Outcome State Fault Refusal := .next (s.live fun s => s.onDev (vernStale u))

end Sys2Proof.Machine
end

