-- ==== Sys2Proof/Machine/Tic.lean ====
section
/-!
DEFINITION. The time-interval and frequency counter: sources and edges, merged pairs, modes, results, arming, the result FIFO
(R177 to R191).
-/

namespace Sys2Proof.Machine

/-- A channel. -/
def Dev.ticc (d : Dev) (n : Nat) : TicChan := KMap.at d.tic.ch {} n

/-- Replace a channel. -/
def Dev.setTicc (d : Dev) (n : Nat) (c : TicChan) : Dev := { d with tic.ch := KMap.put d.tic.ch n c }

/-- MODE of a channel. -/
def Dev.ticMode (d : Dev) (n : Nat) : Nat := d.fget Reg.tic_ch_MODE n

/-- Whether the mode uses SRC_B. -/
def ticUsesB (mode : Nat) : Bool := mode == 0 || mode == 1

/-! ### Times (R181) -/

/-- The instant of a slice-clock instant in 2^-32 tick, as 2^-32 nominal ticks: the accumulator at the start of its tick plus
the fraction scaled by INC. -/
def Edge.nominal (e : Edge) (at32 : Int) : Int :=
  (e.acc : Int) + roundDiv ((at32 - (e.tick * 2 ^ 32 : Nat)) * e.inc) (2 ^ 32)

/-- The event of an edge for a channel. -/
def Edge.ticEv (e : Edge) (isB : Bool) (n : Nat) : TicEv :=
  { isB := isB
    rising := e.rising
    edge := some e.id
    at32 := (e.tapTu * 2 ^ 25 + 2 ^ 24 : Nat)
    time := e.nominal ((e.tapTu * 2 ^ 25 + 2 ^ 24 : Nat))
    epochs := e.epochs
    slewing := e.slewing
    slews := e.slews
    unlock := e.unlock
    n := n }

/-- The sum of the offsets, in 2^-32 nominal ticks, of the epochs numbered a + 1 to b since cold reset (R67, R181). -/
def Dev.stepsBetween (d : Dev) (a b : Nat) : Int :=
  ((List.range (b - a)).map fun k =>
    let e := (a + k) % 4096 * 8
    toSigned 80 (d.tactive 6 0 (e + 5) % 2 ^ 16 + 2 ^ 16 * d.tactive 6 0 (e + 3) + 2 ^ 48 * d.tactive 6 0 (e + 4)) * 65536).sum

/-- A span in 2^-32 nominal ticks as a time result in 1/64 ps: u = 5.12 × 10^14 / f_nom (R181). -/
def Dev.ticValue (d : Dev) (span : Int) : Int :=
  (2 * span * 512000000000 + (2 ^ 32 * max 1 (d.fget Reg.tbase_NOMINAL_FREQ) : Nat)).fdiv (2 * 2 ^ 32 * max 1 (d.fget Reg.tbase_NOMINAL_FREQ) : Nat)

/-- The span from one event to another with epoch offsets removed. -/
def Dev.ticSpan (d : Dev) (a b : TicEv) : Int :=
  b.time - a.time - (if a.epochs ≤ b.epochs then d.stepsBetween a.epochs b.epochs else - d.stepsBetween b.epochs a.epochs)

/-! ### Results (R182, R183, R189, R190, Table 07.4) -/

/-- Flags of RES_W2 that a result carries of itself. -/
structure TicFlags where
  unresolved : Bool := false
  coarse : Bool := false
  epoch : Bool := false
  slew : Bool := false
  noSignal : Bool := false
  overrange : Bool := false
  unlock : Bool := false
  deriving DecidableEq, Repr

/-- RES_W2. -/
def ticW2 (f : TicFlags) (merged order lost noPair : Bool) (mode seq : Nat) : Nat :=
  1 + 2 * Bool.bit f.unresolved + 4 * Bool.bit merged + 8 * Bool.bit order + 16 * Bool.bit lost + 32 * Bool.bit f.coarse +
    64 * Bool.bit f.epoch + 128 * Bool.bit f.slew + 256 * Bool.bit f.noSignal + 512 * Bool.bit noPair + 1024 * Bool.bit f.overrange +
    2048 * Bool.bit f.unlock + 4096 * (mode % 8) + 65536 * (seq % 65536)

/-- The records of a channel that wait for its queue: the FIFO is their staging buffer (R190). -/
def Dev.ticStaged (d : Dev) (n : Nat) : Nat :=
  (d.qm.streams.map fun p => (p.2.filter fun x => x.kind == 1 && x.source == n).length).sum

/-- LEVEL of a channel: the results and the records in its FIFO (R189, R190). -/
def Dev.ticDepth (d : Dev) (n : Nat) : Nat := (d.ticc n).fifo.length + d.ticStaged n

/-- RESULT is raised when LEVEL has risen to THRESH. -/
def Dev.ticLevel (d : Dev) (n old : Nat) : Dev :=
  let th := clampNat 1 64 (d.fget Reg.tic_ch_THRESH n)
  if old < th ∧ th ≤ d.ticDepth n then d.raise 21 (Ev.tic_RESULT + n) else d

/-- The record of a result (R190). -/
def ticRecord (n : Nat) (r : Nat × Nat) : StreamRec :=
  { kind := 1, source := n, source2 := 0, payload := [r.1 % 2 ^ 32, r.1 / 2 ^ 32 % 2 ^ 32, r.2, 0] }

/-- Store a result: to the FIFO, or through it to the STREAM queue; one that finds the FIFO full is lost (R189, R190, R318). -/
def Dev.ticStore (d0 : Dev) (n value : Nat) (f : TicFlags) : Dev :=
  let c := d0.ticc n
  let q := d0.fget Reg.tic_ch_QUEUE n
  let toQ := d0.flag Reg.tic_ch_TO_QUEUE n
  let d := if toQ then d0.serveStream q else d0
  let r := (value, ticW2 f c.merged c.order c.lost c.noPair (d.ticMode n) c.seq)
  let c1 := { c with
    seq := (c.seq + 1) % 65536
    merged := false
    order := false
    lost := false
    noPair := false }
  if d.ticDepth n < 64 then
    (if toQ then (d.setTicc n c1).streamOffer q (ticRecord n r) 64 else d.setTicc n { c1 with fifo := c.fifo ++ [r] }).ticLevel n
      (d.ticDepth n)
  else
    let d1 := ((d.setTicc n { c with
      seq := (c.seq + 1) % 65536
      lost := true }).finc Reg.tic_ch_LOST_COUNT 1 n).raise 21 Ev.tic_LOST
    if toQ then d1.dropRecord q else d1

/-- Stop a channel and discard its measurement (R187). -/
def Dev.ticHalt (d : Dev) (n : Nat) : Dev :=
  let c := d.ticc n
  ((d.setTicc n { c with
    running := false
    waiting := false
    evs := []
    pend := none
    hist := []
    count := .idle
    lapsed := false }).fsetBit Reg.tic_RUNNING n false).fsetBit Reg.tic_ARM n false

/-- The flags that come from the two events of a span. -/
def spanFlags (a b : TicEv) : TicFlags :=
  { coarse := a.coarse || b.coarse
    epoch := a.epochs != b.epochs
    slew := a.slewing || b.slewing || a.slews != b.slews
    unlock := a.unlock || b.unlock }

/-- Store a time result: the resolution and overrange rules (R182, R183). -/
def Dev.ticTime (d : Dev) (n : Nat) (v : Int) (f : TicFlags) : Dev :=
  if v.natAbs < 32 then d.ticStore n 0 { f with unresolved := true }
  else if 2 ^ 63 - 1 < v then
    let d1 := (d.ticStore n (2 ^ 63 - 1) { f with overrange := true }).raise 21 Ev.tic_OVERRANGE
    if d.ticMode n = 6 then d1.ticHalt n else d1
  else d.ticStore n (ofSigned 64 v) f

/-! ### Measurements (R184 to R186) -/

/-- Set the pending event of a channel. -/
def Dev.ticPend (d : Dev) (n : Nat) (e : Option TicEv) : Dev := d.setTicc n { d.ticc n with pend := e }

/-- Whether a channel asks for vernier units: not with its bit of FORCE_TAP (R178). -/
def Dev.ticAsk (d : Dev) (n : Nat) : Bool := !bitAt (d.fget Reg.tic_FORCE_TAP) n

/-- An event placed by TAP counts (R178). -/
def Dev.ticCoarse (d : Dev) (n : Nat) (e : TicEv) : Dev :=
  if e.coarse then (if d.ticAsk n then d.finc Reg.tic_ch_COARSE_COUNT 1 n else d).raise 21 Ev.tic_COARSE else d

/-- Discard a stop without a start (R184). -/
def Dev.ticOrder (d : Dev) (n : Nat) : Dev :=
  ((d.setTicc n { d.ticc n with order := true }).finc Reg.tic_ch_ORDER_COUNT 1 n).raise 21 Ev.tic_ORDER

/-- INTERVAL_U: a pending start and the next stop. A stop that leads its start, the next event, by less than 0.5 ps is unresolved (R182);
the start is taken with what places it. -/
def Dev.ticIntervalU (d : Dev) (n : Nat) (e : TicEv) (next : Option TicEv) : Dev :=
  if !e.isB then d.ticPend n (some e)
  else match (d.ticc n).pend with
    | some a => (d.ticPend n none).ticTime n (d.ticValue (d.ticSpan a e)) (spanFlags a e)
    | none =>
      match next with
      | some a =>
        if a.kind == .edge && !a.isB && decide ((d.ticValue (d.ticSpan a e)).natAbs < 32) then
          ((d.setTicc n { d.ticc n with evs := (d.ticc n).evs.drop 1 }).ticCoarse n a).ticTime n (d.ticValue (d.ticSpan a e)) (spanFlags a e)
        else d.ticOrder n
      | none => d.ticOrder n

/-- INTERVAL_S: the first edge of either kind and the next edge of the other kind. -/
def Dev.ticIntervalS (d : Dev) (n : Nat) (e : TicEv) : Dev :=
  match (d.ticc n).pend with
  | none => d.ticPend n (some e)
  | some a =>
    if a.isB == e.isB then d.ticPend n (some e)
    else (d.ticPend n none).ticTime n (if e.isB then d.ticValue (d.ticSpan a e) else d.ticValue (d.ticSpan e a)) (spanFlags a e)

/-- PERIOD: from the first edge to the AVG_M1 + 1-th after it, which begins the next. -/
def Dev.ticPeriod (d : Dev) (n : Nat) (e : TicEv) : Dev :=
  let d1 := d.ticPend n (some e)
  match (d.ticc n).pend with
  | none => d1
  | some a =>
    if e.n = 0 then d1
    else
      let m := d.fget Reg.tic_ch_AVG_M1 n + 1
      let den : Nat := 2 ^ 32 * max 1 (d.fget Reg.tbase_NOMINAL_FREQ) * m
      d1.ticTime n ((2 * (d.ticSpan a e) * 512000000000 + den).fdiv (2 * den : Nat)) (spanFlags a e)

/-- FREQUENCY: N edges over the span, in nHz. -/
def Dev.ticFrequency (d : Dev) (n : Nat) (e : TicEv) : Dev :=
  let d1 := d.ticPend n (some e)
  match (d.ticc n).pend with
  | none => d1
  | some a =>
    if e.n = 0 then d1
    else
      let span := d.ticValue (d.ticSpan a e)
      if span ≤ 0 then d1
      else
        let v := (2 * e.n * 64 * 10 ^ 21 + span.toNat) / (2 * span.toNat)
        if 2 ^ 63 - 1 < v then (d1.ticStore n (2 ^ 63 - 1) { spanFlags a e with overrange := true }).raise 21 Ev.tic_OVERRANGE
        else d1.ticStore n v (spanFlags a e)

/-- WIDTH: from the leading to the trailing edge of a pulse. -/
def Dev.ticWidth (d : Dev) (n : Nat) (e : TicEv) : Dev :=
  let slope := d.fget Reg.tic_ch_SLOPE_A n
  let lead := slope == 2 || (slope == 0 && e.rising) || (slope == 1 && !e.rising)
  let d1 := d.ticPend n (if lead then some e else none)
  match (d.ticc n).pend with
  | none => d1
  | some a => if lead && slope != 2 then d1 else d1.ticTime n (d.ticValue (d.ticSpan a e)) (spanFlags a e)

/-- TIMESTAMP: edge time minus REF. -/
def Dev.ticStamp (d : Dev) (n : Nat) (e : TicEv) : Dev :=
  let c := d.ticc n
  let a : TicEv := { e with
    time := c.ref
    epochs := c.refEpochs
    slews := c.refSlews
    slewing := c.refSlewing
    unlock := false
    coarse := false }
  d.ticTime n (d.ticValue (d.ticSpan a e)) (spanFlags a e)

/-- The measurement in progress is abandoned (R185). -/
def Dev.ticLapse (d : Dev) (n : Nat) : Dev :=
  if (d.ticc n).pend.isNone then d
  else ((d.setTicc n { d.ticc n with pend := none, noPair := true }).finc Reg.tic_ch_NOPAIR_COUNT 1 n).raise 21 Ev.tic_NO_PAIR

/-- A channel receives an event (R179); `next` is the one that follows it. -/
def Dev.ticReceive (d : Dev) (n : Nat) (e : TicEv) (next : Option TicEv) : Dev :=
  if e.kind == .lapse then d.ticLapse n
  else if e.kind == .gate then d.ticStore n e.n {}
  else match d.ticMode n with
  | 0 => d.ticIntervalU n e next
  | 1 => d.ticIntervalS n e
  | 2 => d.ticPeriod n e
  | 3 => d.ticFrequency n e
  | 4 => d.ticWidth n e
  | 6 => d.ticStamp n e
  | _ => d

/-! ### Events on their way (R178, R179) -/

/-- An event with its final time: of the conversion where one was made, of TAP otherwise, with COARSE (R178); none while the
conversion runs. -/
def Dev.ticResolve (d : Dev) (n : Nat) (e : TicEv) : Option TicEv :=
  match e.edge.bind d.edge with
  | none => some e
  | some x =>
    if !d.ticAsk n then some { e with coarse := true }
    else if x.unitC.isSome then none
    else match x.instC with
      | some t => some { e with at32 := t, time := x.nominal t }
      | none => some { e with coarse := true }

/-- Put an event among those of a channel in order of their instants, A before B (R179). -/
def insertEv (e : TicEv) : List TicEv → List TicEv
  | [] => [e]
  | x :: t => if e.at32 < x.at32 || (e.at32 == x.at32 && !e.isB && x.isB) then e :: x :: t else x :: insertEv e t

/-- The events of a channel in order of their final times; those whose conversion runs keep their TAP time. -/
def Dev.ticOrdered (d : Dev) (n : Nat) : List TicEv :=
  (d.ticc n).evs.foldl (fun l e => insertEv ((d.ticResolve n e).getD e) l) []

/-- Now, in slice-clock ticks × 2^32 since cold reset. -/
def Dev.now32 (d : Dev) : Int := (d.loom.tick * 2 ^ 32 : Nat)

/-- The earliest event reaches the channel, 2,048 ticks after its time (R179), once its conversion is over. -/
def ticEventReceived (n : Nat) (d : Dev) : Dev :=
  let c := d.ticc n
  match d.ticOrdered n with
  | [] => d
  | e :: rest =>
    let pending := (e.edge.bind d.edge).any fun x => x.unitC.isSome && d.ticAsk n
    if pending || !c.running || d.now32 < e.at32 + 2048 * 2 ^ 32 then d
    else ((d.setTicc n { c with evs := rest.map fun x => { x with coarse := false } }).ticCoarse n e).ticReceive n e
      (rest.head?.bind (d.ticResolve n))

/-- Convert an edge for the TIC; one conversion serves every channel that needs the edge. -/
def Dev.ticConvert (d : Dev) (e : Edge) : Dev :=
  match d.edge e.id with
  | none => d
  | some x =>
    if x.unitC.isSome then d
    else
      let r := d.vernTake e.id true
      match r.1 with
      | some u => r.2.setEdge { x with unitC := some u }
      | none => d

/-- What an edge of SRC_A does to a channel's count: the new count, and the event to queue (count that it ends). -/
def ticCountStep (mode avg : Nat) (c : TicCount) : TicCount × Option Nat :=
  if mode = 2 then
    (match c with
    | .counting k => if k + 1 = avg + 1 then (.counting 0, some (avg + 1)) else (.counting (k + 1), none)
    | _ => (.counting 0, some 0))
  else if mode = 3 then
    (match c with
    | .idle => (.counting 0, some 0)
    | .counting k => (.counting (k + 1), none)
    | .closing k => (.counting 0, some (k + 1)))
  else (c, some 0)

/-- An edge, or an internal event, of source A or B reaches a running channel. -/
def Dev.ticArrive (d : Dev) (n : Nat) (ev : TicEv) (e : Option Edge) : Dev :=
  let c := d.ticc n
  let mode := d.ticMode n
  let id := match e with
    | some x => x.id
    | none => 0
  let hist := if e.isSome && !ev.isB then ((id, c.count, c.total, c.lapsed) :: c.hist).take 4 else c.hist
  if mode = 5 then d.setTicc n { c with
    total := c.total + 1
    hist := hist }
  else
    let r := if ev.isB then (c.count, some 0) else ticCountStep mode (d.fget Reg.tic_ch_AVG_M1 n) c.count
    let d1 := d.setTicc n { c with
      count := r.1
      hist := hist
      evs := match r.2 with
        | some k => c.evs ++ [{ ev with n := k }]
        | none => c.evs }
    match r.2, e with
    | some _, some x => if d.ticAsk n then d1.ticConvert x else d1
    | _, _ => d1

/-- Whether a channel takes an edge of a source as A, and as B (R177, R184): a WIDTH channel takes both slopes. -/
def Dev.ticTakes (d : Dev) (n src : Nat) (rising isB : Bool) : Bool :=
  let c := d.ticc n
  let mode := d.ticMode n
  c.running && (if isB then ticUsesB mode && d.fget Reg.tic_ch_SRC_B n == src && slopeTakes (d.fget Reg.tic_ch_SLOPE_B n) rising
    else d.fget Reg.tic_ch_SRC_A n == src && (mode == 4 || slopeTakes (d.fget Reg.tic_ch_SLOPE_A n) rising))

/-- Whether a running channel uses a source. -/
def Dev.ticUses (d : Dev) (n src : Nat) : Bool :=
  (d.ticc n).running && (d.fget Reg.tic_ch_SRC_A n == src || (ticUsesB (d.ticMode n) && d.fget Reg.tic_ch_SRC_B n == src))

/-- Whether a channel that runs or waits for its start uses a source (R177). -/
def Dev.ticHolds (d : Dev) (n src : Nat) : Bool :=
  ((d.ticc n).running || (d.ticc n).waiting) &&
    (d.fget Reg.tic_ch_SRC_A n == src || (ticUsesB (d.ticMode n) && d.fget Reg.tic_ch_SRC_B n == src))

/-- DEAD_TU: floor(100 ps / TU) − 1, with a TU of 1/128 tick (R180). -/
def Dev.deadTu (d : Dev) : Nat := 100 * 16 * d.clkKhz / 1000000000 - 1

/-- Undo an edge for a channel: its queued events go, its count is what it would be without it, and a gate that has ended since does not
count it (R180, R186). -/
def TicChan.forget (c : TicChan) (id : Nat) : TicChan :=
  match c.hist.find? fun h => h.1 == id with
  | none => { c with evs := c.evs.filter fun e => e.edge != some id }
  | some h => { c with
      evs := (c.evs.filter fun e => e.edge != some id).map fun e => if e.kind == .gate && decide (h.2.2.1 < e.n) then { e with n := e.n - 1 } else e
      count := h.2.1
      total := h.2.2.1
      lapsed := h.2.2.2
      hist := c.hist.filter fun x => x.1 != id }

/-- A transition that follows its source's previous one too closely: both go (R180). -/
def Dev.ticMerge (d : Dev) (src prev : Nat) : Dev :=
  (List.range 8).foldl (fun (d : Dev) n =>
    if d.ticUses n src then
      (((d.setTicc n { (d.ticc n).forget prev with merged := true }).finc Reg.tic_ch_MERGE_COUNT 1 n)).raise 21 Ev.tic_MERGED
    else d) { d with tic.last := KMap.del d.tic.last src }

/-- Every channel that uses an edge takes it, as A before as B. -/
def Dev.ticTake (d : Dev) (e : Edge) : Dev :=
  (List.range 8).foldl (fun (d : Dev) n =>
    let d1 := if d.ticTakes n e.src e.rising false then d.ticArrive n (e.ticEv false 0) (some e) else d
    if d1.ticTakes n e.src e.rising true then d1.ticArrive n (e.ticEv true 0) (some e) else d1)
    { d with tic.last := KMap.put d.tic.last e.src (e.id, e.tapTu) }

/-- An edge of a state source reaches the TIC (R177 to R180). -/
def Dev.ticEdge (d : Dev) (e : Edge) : Dev :=
  match KMap.find d.tic.last e.src with
  | some (prev, t) => if e.tapTu < t + d.deadTu then d.ticMerge e.src prev else d.ticTake e
  | none => d.ticTake e

/-- An internal event (sources 8 to 10) at an exact instant (Table 07.1): in slice-clock ticks × 2^32, in 2^-32 nominal ticks, with what
that instant carries. -/
def Dev.ticInternal (d : Dev) (src : Nat) (at32 time : Int) (m : TickMarks) : Dev :=
  (List.range 8).foldl (fun (d : Dev) n =>
    let ev := fun (b : Bool) => ({
      isB := b
      rising := true
      edge := none
      at32 := at32
      time := time
      epochs := m.epochs
      slewing := m.slewing
      slews := m.slews
      unlock := m.unlock } : TicEv)
    let c := d.ticc n
    let d1 := if c.running && d.fget Reg.tic_ch_SRC_A n == src then d.ticArrive n (ev false) none else d
    if c.running && ticUsesB (d.ticMode n) && d.fget Reg.tic_ch_SRC_B n == src then d1.ticArrive n (ev true) none else d1) d

/-! ### Gates and windows (R185, R186) -/

/-- What a gate end makes of a FREQUENCY count: edge N is awaited, or the gate has lapsed without a result. -/
def gateCount : TicCount → TicCount × Bool
  | .counting k => (.closing k, false)
  | _ => (.idle, true)

/-- An event of a channel's own at an instant. -/
def ownEv (k : TicKind) (at32 : Int) (n : Nat) : TicEv :=
  { kind := k, isB := false, rising := false, edge := none, at32 := at32, time := 0, epochs := 0, slewing := false, slews := 0, unlock := false, n := n }

/-- A gate ends: TOTALISE will store its count, once the edges before it are settled; in FREQUENCY edge N is awaited, or the gate has
lapsed without a result. The counts kept for merged pairs follow (R180). -/
def ticGateEnd (n : Nat) (d : Dev) : Dev :=
  let c := d.ticc n
  if !c.running then d
  else if d.ticMode n = 5 then d.setTicc n { c with evs := c.evs ++ [ownEv .gate d.now32 c.total] }
  else if d.ticMode n = 3 then
    d.setTicc n { c with
      count := (gateCount c.count).1
      lapsed := (gateCount c.count).2 || c.lapsed
      hist := c.hist.map fun h => (h.1, (gateCount h.2.1).1, h.2.2.1, (gateCount h.2.1).2 || h.2.2.2) }
  else d

/-- A gate has held no edge, or no edge N arrived within GATE of its end: a result of 0 (R186). -/
def ticNoSignal (n : Nat) (d : Dev) : Dev :=
  let c := d.ticc n
  if c.running && c.lapsed then (d.setTicc n { c with lapsed := false }).ticStore n 0 { noSignal := true } else d

/-- The first edge of the measurement in progress after an event, from the one before it (R184). -/
def pendAfter (mode slope : Nat) (p : Option TicEv) (e : TicEv) : Option TicEv :=
  if e.kind != .edge then none
  else match mode with
    | 0 => if e.isB then none else some e
    | 1 => (match p with
      | some a => if a.isB == e.isB then some e else none
      | none => some e)
    | 2 => some e
    | 4 => if slope == 2 || (slope == 0 && e.rising) || (slope == 1 && !e.rising) then some e else none
    | _ => none

/-- The first edge of the measurement in progress, when every event on its way has been counted in. -/
def Dev.ticFirst (d : Dev) (n : Nat) : Option TicEv :=
  (d.ticOrdered n).foldl (pendAfter (d.ticMode n) (d.fget Reg.tic_ch_SLOPE_A n)) (d.ticc n).pend

/-- The measurement in progress has lasted WINDOW ticks without its last edge (R185): it is abandoned at that instant, and measurement
resumes with the next edge; the results before it are not touched. -/
def ticWindowExpiry (n : Nat) (d : Dev) : Dev :=
  let c := d.ticc n
  let w := d.fget Reg.tic_ch_WINDOW n
  match d.ticFirst n with
  | none => d
  | some a =>
    if c.running && w != 0 && decide (a.at32 + (w * 2 ^ 32 : Nat) ≤ d.now32) then
      d.setTicc n { c with
        count := .idle
        evs := c.evs ++ [ownEv .lapse (a.at32 + (w * 2 ^ 32 : Nat)) 0] }
    else d

/-! ### Arming (R187, R188) -/

/-- The first field that refuses an arm of a channel (R188). -/
def Dev.ticRefused (d : Dev) (n : Nat) : Option Field :=
  let mode := d.ticMode n
  let a := d.fget Reg.tic_ch_SRC_A n
  let b := d.fget Reg.tic_ch_SRC_B n
  let sa := d.fget Reg.tic_ch_SLOPE_A n
  let sb := d.fget Reg.tic_ch_SLOPE_B n
  if mode = 7 then some Reg.tic_ch_MODE
  else if 11 ≤ a ∨ (a < 8 ∧ !d.srcOn a) ∨ (mode = 4 ∧ 8 ≤ a) then some Reg.tic_ch_SRC_A
  else if sa = 3 then some Reg.tic_ch_SLOPE_A
  else if 11 ≤ b ∨ (ticUsesB mode ∧ b < 8 ∧ !d.srcOn b) ∨
      (ticUsesB mode ∧ a = b ∧ !((sa = 0 ∧ sb = 1) ∨ (sa = 1 ∧ sb = 0))) then some Reg.tic_ch_SRC_B
  else if sb = 3 then some Reg.tic_ch_SLOPE_B
  else none

/-- Arm one channel: it waits for its start (R187), or the arm is refused (R188). -/
def Dev.ticArmOne (d : Dev) (n : Nat) : Dev :=
  match d.ticRefused n with
  | some f => (d.raise 21 Ev.tic_CFG_REFUSED).logErr 21 Ev.tic_CFG_REFUSED n (fieldLocator f n)
  | none =>
    let d1 := d.ticHalt n
    (d1.setTicc n { d1.ticc n with waiting := true }).fsetBit Reg.tic_ARM n true

/-- A write to TIC.CTRL.ARM. -/
def ticArm (mask : Nat) (d : Dev) : Dev := ((List.range 8).filter (bitAt mask)).foldl Dev.ticArmOne d

/-- A write to TIC.CTRL.STOP: results already stored are kept. -/
def ticStop (mask : Nat) (d : Dev) : Dev := ((List.range 8).filter (bitAt mask)).foldl Dev.ticHalt d

/-- Channels that wait start: at every tick boundary, or with ARM_SRC at 1 at the arm boundary (R187). What the next stored result is to
mark stays (R189). -/
def Dev.ticStart (d : Dev) (atArm : Bool) : Dev :=
  (List.range 8).foldl (fun (d : Dev) n =>
    let c := d.ticc n
    if c.waiting && d.flag Reg.tic_ch_ARM_SRC n == atArm then
      let st := d.nowStamp
      (((((d.setTicc n { c with
        running := true
        waiting := false
        seq := 0
        ref := d.tb.acc
        refEpochs := d.tb.epochs
        refSlews := d.tb.slews
        refSlewing := d.flag Reg.tbase_SLEWING
        count := .idle
        total := 0 }).fsetBit Reg.tic_RUNNING n true).fset Reg.tic_ch_REF_W0 (st.getD 0 0) n).fset Reg.tic_ch_REF_W1 (st.getD 1 0) n).fset
          Reg.tic_ch_REF_W2 (st.getD 2 0) n)
    else d) d

/-- Soft reset of the page, and function-level reset: every channel stops, every FIFO is emptied (R191). -/
def Dev.ticReset (d : Dev) : Dev :=
  (List.range 8).foldl (fun (d : Dev) n =>
    let d1 := d.ticHalt n
    d1.setTicc n { d1.ticc n with fifo := [] })
    { d with qm.streams := d.qm.streams.map fun p => (p.1, p.2.filter fun x => x.kind != 1) }

/-! ### Reading and configuration -/

/-- A read of RES_W0: it removes the oldest result and latches W1 and W2; an empty FIFO reads 0 (R20, R189). The latched words
stand in the channel's RES registers. -/
def ticResultRead (n : Nat) (d : Dev) : Dev :=
  let c := d.ticc n
  let r := c.fifo.headD (0, 0)
  (((((d.setTicc n { c with fifo := c.fifo.drop 1 })).fset Reg.tic_ch_RES_W0 r.1 n).fset Reg.tic_ch_RES_W1 (r.1 / 2 ^ 32) n).fset
    Reg.tic_ch_RES_W2 r.2 n)

/-- Whether a write at a page offset of a running channel is discarded: CFG, GATE, AVG_M1, WINDOW (R188). -/
def Dev.ticLocked (d : Dev) (off : Nat) : Bool :=
  let n := (off - 0x100) / 0x50
  let o := (off - 0x100) % 0x50
  decide (0x100 ≤ off) && decide (off < 0x380) && decide (o < 0x10) && (d.ticc n).running

/-- A configuration write to the TIC page: one that changes a field of a running channel is discarded (R188, R509). -/
def ticConfigWrite (who : Requester) (off val : Nat) (d : Dev) : Dev :=
  if d.flag Reg.hdr_FREEZE 21 then d.logDiscard who 21 off val
  else if d.ticLocked off && d.changesReg (21 * 4096 + off) val then
    (d.raise 21 Ev.tic_CFG_REFUSED).logErr 21 Ev.tic_CFG_REFUSED ((off - 0x100) / 0x50) (off % 4096)
  else d.writePlain who (21 * 4096 + off) val (fun _ => false) id

/-! ### Commands -/

/-- TIC_ARM (R187). -/
def execTicArm (who : Requester) (mask : BitVec 8) (s : State) : Host.Outcome State Fault Refusal :=
  .next (s.live fun s => s.onDev fun d => d.writeGate who 21 0x040 mask.toNat false (ticArm mask.toNat))

/-- TIC_STOP (R187). -/
def execTicStop (who : Requester) (mask : BitVec 8) (s : State) : Host.Outcome State Fault Refusal :=
  .next (s.live fun s => s.onDev fun d => d.writeGate who 21 0x040 (256 * mask.toNat) false (ticStop mask.toNat))

/-- TIC_EVENT_RECEIVED (R179). -/
def execTicEventReceived (n : Fin 8) (s : State) : Host.Outcome State Fault Refusal := .next (s.live fun s => s.onDev (ticEventReceived n))

/-- TIC_GATE_END (R186). -/
def execTicGateEnd (n : Fin 8) (s : State) : Host.Outcome State Fault Refusal := .next (s.live fun s => s.onDev (ticGateEnd n))

/-- TIC_NO_SIGNAL (R186). -/
def execTicNoSignal (n : Fin 8) (s : State) : Host.Outcome State Fault Refusal := .next (s.live fun s => s.onDev (ticNoSignal n))

/-- TIC_WINDOW_EXPIRY (R185). -/
def execTicWindowExpiry (n : Fin 8) (s : State) : Host.Outcome State Fault Refusal := .next (s.live fun s => s.onDev (ticWindowExpiry n))

end Sys2Proof.Machine
end

