-- ==== Sys2Proof/Machine/Cond.lean ====
section
/-!
DEFINITION. Condition units: what a tick shows them, placement of reference instants, the nine condition types, candidates
(R119 to R138, R157, R163, R518).
-/

namespace Sys2Proof.Machine

/-! ### A tick under evaluation -/

/-- What the evaluation of a tick can see: the ticks on both sides of it, the device for its tables and edges. -/
structure TrigCtx where
  d : Dev
  /-- Samples per tick. -/
  n : Nat
  prev : Option TrigItem
  cur : TrigItem
  next : Option TrigItem

/-- Sample k of a stream in an item. -/
def TrigItem.sample (t : TrigItem) (x k : Nat) : Option Int := (KMap.find t.wefts x).bind fun ss => ss[k]?

/-- The sample of a stream at an index around the tick; where the neighbouring tick has none, the nearest sample of the tick
itself stands in (log entry 26). -/
def TrigCtx.x (c : TrigCtx) (input : Nat) (i : Int) : Int :=
  let j := i - (c.n * c.cur.tick : Nat)
  if j < 0 then ((c.prev.bind fun p => p.sample input (j + c.n).toNat).getD ((c.cur.sample input 0).getD 0))
  else if j < c.n then (c.cur.sample input j.toNat).getD 0
  else ((c.next.bind fun p => p.sample input (j - c.n).toNat).getD ((c.cur.sample input (c.n - 1)).getD 0))

/-- The tick whose accumulator and epoch an instant has: the one before for an instant that lies before the current tick. -/
def TrigCtx.itemAt (c : TrigCtx) (at16 : Int) : TrigItem :=
  match c.prev with
  | some p => if at16 < (c.cur.tick * 65536 : Nat) then p else c.cur
  | none => c.cur

/-- The timestamp of a slice-clock instant in 2^-16 tick, as 2^-16 nominal ticks: the accumulator at the start of its tick plus
the fraction scaled by INC, rounded (R59). -/
def TrigCtx.stampAt (c : TrigCtx) (at16 : Int) : Nat :=
  let i := c.itemAt at16
  (roundDiv ((i.acc : Int) * 65536 + (at16 - (i.tick * 65536 : Nat)) * i.inc) (2 ^ 32)).toNat % 2 ^ 80

/-- A reference instant at a slice-clock instant. -/
def TrigCtx.refAt (c : TrigCtx) (at16 : Int) (fb : Bool) : Ref :=
  { at16 := at16, fb := fb, stamp := c.stampAt at16, epoch := (c.itemAt at16).epoch, marks := (c.itemAt at16).marks }

/-! ### Placement (R157, R163) -/

/-- Whether a value in 1/16 code has crossed a level in a direction. -/
def crossed (rising : Bool) (v lv : Int) : Bool := if rising then decide (lv < v) else decide (v < lv)

/-- The stream interpolated at phase `mid`/256 between samples n − 1 and n, in 1/16 code. -/
def TrigCtx.interp (c : TrigCtx) (input n mid : Nat) : Int :=
  roundDiv (((List.range 16).map fun m => c.d.kernelTap mid m * c.x input ((n : Int) - 8 + m) * 16).sum) 16384

/-- The bisection: `lo` after k halvings of [lo, hi]. -/
def bisect (f : Nat → Bool) : Nat → Nat → Nat → Nat
  | 0, lo, _ => lo
  | k + 1, lo, hi => if f ((lo + hi) / 2) then bisect f k lo ((lo + hi) / 2) else bisect f k ((lo + hi) / 2) hi

/-- KERNEL: the instant, in 2^-16 tick, at which the stream crosses a level between samples n − 1 and n. -/
def TrigCtx.kernel (c : TrigCtx) (input n : Nat) (lv : Int) (rising : Bool) : Int :=
  let lo := bisect (fun mid => crossed rising (c.interp input n mid) lv) 8 0 256
  (((n : Int) - 1) * 512 + (2 * lo + 1 : Nat)) * (128 / c.n : Nat)

/-- The level of a comparator's fallback, in 1/16 code (R163): THRESH × 16 plus or minus half the hysteresis. -/
def cmpLevel (s : SrcCfg) (fs : Int) (rising : Bool) : Int :=
  let h := roundDiv (s.hyst * 8192 : Nat) (max 1 fs).toNat
  if rising then s.thresh * 16 + h else s.thresh * 16 - h

/-- The crossings of a level by the stream in the cycle of an edge and the cycles on both sides of it, as instants. -/
def TrigCtx.crossingsNear (c : TrigCtx) (e : Edge) (lv : Int) : List Int :=
  let first := c.n * e.tick + e.tu / 16 * (c.n / 8) - c.n / 8
  ((List.range (3 * (c.n / 8) - 1)).map fun (k : Nat) => first + 1 + k).filterMap fun (n : Nat) =>
    if crossed e.rising (c.x e.src n * 16) lv && !crossed e.rising (c.x e.src ((n : Int) - 1) * 16) lv then
      some (c.kernel e.src n lv e.rising) else none

/-- The value of a list nearest to another; the first of equals. -/
def nearest (t : Int) : List Int → Option Int
  | [] => none
  | a :: r => match nearest t r with
    | some b => if (a - t).natAbs ≤ (b - t).natAbs then some a else some b
    | none => some a

/-- The reference instant of an edge: VERNIER, or its fallback (Table 06.4). -/
def TrigCtx.edgeRef (c : TrigCtx) (e : Edge) : Ref :=
  match e.instT with
  | some t => c.refAt t false
  | none =>
    if e.src < 4 && (KMap.find c.cur.wefts e.src).isSome then
      (match nearest e.tap16 (c.crossingsNear e (cmpLevel (c.cur.srcs.getD e.src {}) (c.cur.fs.getD e.src 1000) e.rising)) with
      | some t => c.refAt t true
      | none => c.refAt e.tap16 true)
    else c.refAt e.tap16 true

/-! ### Reports -/

/-- What a unit reports: a detection, whether as a candidate; or the outcome of the candidate of an event index. -/
inductive ReportKind where
  | det (cand : Bool)
  | outcome (index : Nat) (met : Bool)
  deriving DecidableEq, Repr

/-- A report at an event index. -/
structure Report where
  index : Nat
  unit : Nat
  kind : ReportKind
  ref : Ref
  deriving DecidableEq, Repr

/-- A crossing within a source sample: of the lower (or only) level, its direction, its reference instant. -/
structure Crossing where
  lower : Bool
  rising : Bool
  ref : Ref

/-- A source sample handed to a unit: its index in source samples, its event index, its crossings in order, and its own
instant. -/
structure Feed where
  d : Nat
  index : Nat
  cr : List Crossing
  own : Ref

/-! ### Qualifiers (Table 05.3) -/

/-- The duration set. -/
def durationMet (qual w t1 t2 : Nat) : Bool :=
  match qual with
  | 0 => true
  | 1 => decide (w < t1)
  | 2 => decide (t1 < w)
  | 3 => decide (min t1 t2 ≤ w) && decide (w ≤ max t1 t2)
  | 4 => decide (w < min t1 t2) || decide (max t1 t2 < w)
  | _ => false

/-- TU of one source sample of a unit (R119, R129). -/
def UnitCfg.step (c : UnitCfg) (n : Nat) : Nat := if c.type = 8 ∨ 4 ≤ c.src then 16 else 128 / n

/-- Whether candidates are reported (R137). -/
def UnitCfg.cands (c : UnitCfg) : Bool := c.cand && c.ref && (c.type == 2 || c.type == 3)

/-- The computed instant T1 after a start (Table 05.4), which is exact (R157). -/
def TrigCtx.after (c : TrigCtx) (m : Meas) (t1 : Nat) : Ref := c.refAt (m.ref.at16 + (t1 * 512 : Nat)) false

/-! ### The condition types (Table 05.4) -/

/-- A unit's state and its reports so far at one sample. -/
abbrev UnitStep := UnitRt × List Report

/-- The start of a measurement at a crossing. -/
def Feed.meas (f : Feed) (x : Crossing) (cand : Bool) : Meas :=
  { d := f.d, ref := x.ref, cand := if cand then some f.index else none }

/-- The report of a detection. -/
def Feed.det (f : Feed) (u : Nat) (r : Ref) (cand : Bool := false) : Report := { index := f.index, unit := u, kind := .det cand, ref := r }

/-- The end of a measured duration: an outcome for its candidate, or a detection if W meets QUAL (R129, R137). -/
def endMeas (u n : Nat) (k : UnitCfg) (f : Feed) (m : Meas) (x : Crossing) : List Report :=
  let met := durationMet k.qual ((f.d - m.d) * k.step n) k.t1 k.t2
  match m.cand with
  | some i => [{ index := f.index, unit := u, kind := .outcome i met, ref := x.ref }]
  | none => if met then [f.det u (if k.ref && k.type != 4 && k.type != 7 then m.ref else x.ref)] else []

/-- The first crossing of a measurement: a candidate is reported at it where the unit reports candidates. -/
def startReport (u : Nat) (k : UnitCfg) (f : Feed) (x : Crossing) : List Report := if k.cands then [f.det u x.ref true] else []

/-- The outcome of a candidate whose measurement can no longer be met (R137). -/
def failMeas (u : Nat) (f : Feed) (m : Option Meas) (x : Crossing) : List Report :=
  match m.bind (·.cand) with
  | some i => [{ index := f.index, unit := u, kind := .outcome i false, ref := x.ref }]
  | none => []

/-- WIDTH at one crossing: it may end a pulse and may begin one. -/
def widthStep (u n : Nat) (k : UnitCfg) (f : Feed) (s : UnitStep) (x : Crossing) : UnitStep :=
  let (rt, rs) := s
  let lead := slopeTakes k.slope x.rising
  let trail := k.slope == 2 || !lead
  let r1 := match rt.m1 with
    | some m => if trail then endMeas u n k f m x else []
    | none => []
  let r2 := if lead then startReport u k f x else []
  ({ rt with m1 := if lead then some (f.meas x k.cands) else none }, rs ++ r1 ++ r2)

/-- RUNT at one crossing: m1 follows a positive runt, m2 a negative one. -/
def runtStep (u n : Nat) (k : UnitCfg) (f : Feed) (s : UnitStep) (x : Crossing) : UnitStep :=
  let (rt, rs) := s
  let pos := k.slope != 1
  let neg := k.slope != 0
  match x.lower, x.rising with
  | true, true =>
    if pos then ({ rt with m1 := some (f.meas x k.cands) }, rs ++ startReport u k f x) else (rt, rs)
  | true, false =>
    let r1 := match rt.m1 with
      | some m => endMeas u n k f m x
      | none => []
    ({ rt with m1 := none, m2 := none }, rs ++ failMeas u f rt.m2 x ++ r1)
  | false, true =>
    let r2 := match rt.m2 with
      | some m => endMeas u n k f m x
      | none => []
    ({ rt with m1 := none, m2 := none }, rs ++ failMeas u f rt.m1 x ++ r2)
  | false, false =>
    if neg then ({ rt with m2 := some (f.meas x k.cands) }, rs ++ startReport u k f x) else (rt, rs)

/-- SLEW at one crossing: m1 follows a rising transition, m2 a falling one. -/
def slewStep (u n : Nat) (k : UnitCfg) (f : Feed) (s : UnitStep) (x : Crossing) : UnitStep :=
  let (rt, rs) := s
  match x.lower, x.rising with
  | true, true => ({ rt with m1 := if k.slope != 1 then some (f.meas x false) else none }, rs)
  | true, false =>
    let r := match rt.m2 with
      | some m => endMeas u n k f m x
      | none => []
    ({ rt with m1 := none, m2 := none }, rs ++ r)
  | false, true =>
    let r := match rt.m1 with
      | some m => endMeas u n k f m x
      | none => []
    ({ rt with m1 := none, m2 := none }, rs ++ r)
  | false, false => ({ rt with m2 := if k.slope != 0 then some (f.meas x false) else none }, rs)

/-- INTERVAL at one crossing. -/
def intervalStep (u n : Nat) (k : UnitCfg) (f : Feed) (s : UnitStep) (x : Crossing) : UnitStep :=
  let (rt, rs) := s
  if slopeTakes k.slope x.rising then
    let r := match rt.m1 with
      | some m => endMeas u n k f m x
      | none => []
    ({ rt with m1 := some (f.meas x false) }, rs ++ r)
  else (rt, rs)

/-- A timed condition: E since the start exceeds T1, once per stay. -/
def timedStep (c : TrigCtx) (u : Nat) (k : UnitCfg) (f : Feed) (rt : UnitRt) (holds : Bool) : UnitStep :=
  match rt.m1 with
  | none => (rt, [])
  | some m =>
    if holds && !rt.fired && decide (k.t1 < (f.d - m.d) * k.step c.n) then
      ({ rt with fired := true }, [f.det u (c.after m k.t1)])
    else (rt, [])

/-- WINDOW at one sample. -/
def windowStep (c : TrigCtx) (u : Nat) (k : UnitCfg) (f : Feed) (rt : UnitRt) (lower upper : Bool) : UnitStep :=
  let now := lower && !upper
  if now = rt.inside then timedStep c u k f rt ((k.qual == 3 && now) || (k.qual == 4 && !now))
  else
    let x := (f.cr.find? fun x => x.lower == (x.rising == now)).getD (f.cr.headD { lower := true, rising := now, ref := f.own })
    let rt1 := { rt with inside := now, fired := false, m1 := some (f.meas x false) }
    (rt1, if k.qual = 2 ∨ (k.qual = 0 ∧ now) ∨ (k.qual = 1 ∧ !now) then [f.det u x.ref] else [])

/-- One sample of a unit of a type other than PATTERN; `lower`, `upper` are its level states after the sample. -/
def TrigCtx.typeStep (c : TrigCtx) (u : Nat) (k : UnitCfg) (f : Feed) (rt : UnitRt) (lower upper : Bool) : UnitStep :=
  match k.type with
  | 0 => (rt, match f.cr.find? fun x => slopeTakes k.slope x.rising with
      | some x => [f.det u x.ref]
      | none => [])
  | 1 => windowStep c u k f rt lower upper
  | 2 => f.cr.foldl (widthStep u c.n k f) (rt, [])
  | 3 => f.cr.foldl (runtStep u c.n k f) (rt, [])
  | 4 => f.cr.foldl (slewStep u c.n k f) (rt, [])
  | 5 =>
    (match f.cr.getLast? with
    | some x => ({ rt with m1 := some (f.meas x false), fired := false }, [])
    | none => timedStep c u k f rt (k.slope == 2 || (k.slope == 0) == lower))
  | 6 =>
    (match (f.cr.filter fun x => slopeTakes k.slope x.rising).getLast? with
    | some x => ({ rt with m1 := some (f.meas x false), fired := false }, [])
    | none => timedStep c u k f rt true)
  | 7 => f.cr.foldl (intervalStep u c.n k f) (rt, [])
  | _ => (rt, [])

/-- At most one detection per event index (R130): later ones of the sample are not made. -/
def oneDet : List Report → List Report
  | [] => []
  | r :: rs => match r.kind with
    | .det _ => r :: rs.filter fun x => match x.kind with
      | .det _ => false
      | .outcome _ _ => true
    | .outcome _ _ => r :: oneDet rs

/-! ### Levels (R127, R128) -/

/-- The signature of a unit's levels. -/
def UnitCfg.levels (k : UnitCfg) : List Int := [k.l1, k.h1, k.l2, k.h2]

/-- Whether a unit uses level B. -/
def UnitCfg.usesB (k : UnitCfg) : Bool := k.type == 1 || k.type == 3 || k.type == 4

/-- Whether level A is the lower one. -/
def UnitCfg.aLower (k : UnitCfg) : Bool := !k.usesB || decide (k.l1 ≤ k.l2)

/-- A level state after a sample. -/
def levelAfter (s : Bool) (x l h : Int) : Bool := if l + h < x then true else if x < l - h then false else s

/-- Initialise the level states from a sample, without a crossing; a measurement in progress continues if they are what they
were (R128). -/
def initUnit (k : UnitCfg) (rt : UnitRt) (a b : Bool) (d : Nat) (own : Ref) : UnitRt :=
  let same := rt.inited && rt.gen == k.gen && rt.lvA == a && rt.lvB == b
  let rt1 := { rt with gen := k.gen, levels := k.levels, inited := true, lvA := a, lvB := b }
  if same then rt1
  else { rt1 with
    inside := if k.aLower then a && !b else b && !a
    m1 := if k.type = 1 ∨ k.type = 5 ∨ k.type = 6 then some { d := d, ref := own, crossing := false } else none
    m2 := none
    fired := false }

/-- Whether a unit initialises at this sample. -/
def UnitRt.fresh (rt : UnitRt) (k : UnitCfg) : Bool := !rt.inited || rt.gen != k.gen || rt.levels != k.levels

/-- One stream sample of a unit. -/
def TrigCtx.streamStep (c : TrigCtx) (u : Nat) (k : UnitCfg) (s : UnitStep) (j : Nat) : UnitStep :=
  let (rt, rs) := s
  let n := c.n * c.cur.tick + j
  let x := c.x k.src n
  let own := c.refAt (n * (65536 / c.n) : Nat) false
  if rt.fresh k then (initUnit k rt (decide (k.l1 < x)) (k.usesB && decide (k.l2 < x)) n own, rs)
  else
    let a := levelAfter rt.lvA x k.l1 k.h1
    let b := k.usesB && levelAfter rt.lvB x k.l2 k.h2
    let up := decide (rt.lvA = false ∧ a = true ∨ rt.lvB = false ∧ b = true)
    let ca : List Crossing := if a = rt.lvA then [] else
      [{ lower := k.aLower, rising := a, ref := c.refAt (c.kernel k.src n ((if a then k.l1 + k.h1 else k.l1 - k.h1) * 16) a) false }]
    let cb : List Crossing := if b = rt.lvB then [] else
      [{ lower := !k.aLower, rising := b, ref := c.refAt (c.kernel k.src n ((if b then k.l2 + k.h2 else k.l2 - k.h2) * 16) b) false }]
    let cr := if up = k.aLower then ca ++ cb else cb ++ ca
    let r := c.typeStep u k { d := n, index := n, cr := cr, own := own } { rt with lvA := a, lvB := b }
      (if k.aLower then a else b) (if k.aLower then b else a)
    (r.1, rs ++ oneDet r.2)

/-! ### State sources and patterns -/

/-- The edges of a source in a state sample. -/
def TrigCtx.edgesIn (c : TrigCtx) (k cyc : Nat) : List Edge :=
  (c.cur.edges.filterMap c.d.edge).filter fun e => e.src == k && e.tu / 16 == cyc

/-- The levels of the eight sources at the end of a state sample. -/
def TrigCtx.levelsAfter (c : TrigCtx) (cyc : Nat) : Nat :=
  (c.cur.edges.filterMap c.d.edge).foldl (fun m e => if e.tu / 16 ≤ cyc then m ^^^ 2 ^ e.src else m) c.cur.levels

/-- The levels before a state sample. -/
def TrigCtx.levelsBefore (c : TrigCtx) (cyc : Nat) : Nat := if cyc = 0 then c.cur.levels else c.levelsAfter (cyc - 1)

/-- One state sample of a unit on a CMP or TRIG_IN source: each transition is a crossing (R127). A level that a re-evaluation of the source
has changed without a transition (R124) is the unit's from then on. -/
def TrigCtx.stateStep (c : TrigCtx) (u : Nat) (k : UnitCfg) (s : UnitStep) (cyc : Nat) : UnitStep :=
  let (rt, rs) := s
  let src := k.src - 4
  let d := 8 * c.cur.tick + cyc
  let index := c.n * c.cur.tick + cyc * (c.n / 8)
  let own := c.refAt (d * 8192 : Nat) false
  let after := bitAt (c.levelsAfter cyc) src
  if rt.fresh k then (initUnit k rt after false d own, rs)
  else
    let cr := (c.edgesIn src cyc).map fun e => ({ lower := true, rising := e.rising, ref := c.edgeRef e } : Crossing)
    let r := c.typeStep u k { d := d, index := index, cr := cr, own := own } { rt with lvA := after } after false
    (r.1, rs ++ oneDet r.2)

/-- The term code of a source in a PATTERN unit (R131). -/
def UnitCfg.termOf (k : UnitCfg) (s : Nat) : Nat := bitField k.term (2 * s) 2

/-- The edge term of a PATTERN unit. -/
def UnitCfg.edgeTerm (k : UnitCfg) : Option Nat := (List.range 8).find? fun s => k.termOf s == 3

/-- The combined level terms on a set of levels (R131); `none` with no level terms. -/
def UnitCfg.pattern (k : UnitCfg) (levels : Nat) : Option Bool :=
  let ts := ((List.range 8).filter fun s => k.termOf s == 1 || k.termOf s == 2).map fun s => bitAt levels s == (k.termOf s == 1)
  if ts.isEmpty then none
  else some (match k.func with
    | 0 => ts.all id
    | 1 => !ts.all id
    | 2 => ts.any id
    | _ => !ts.any id)

/-- One state sample of a PATTERN unit (R131 to R133). -/
def TrigCtx.patternStep (c : TrigCtx) (u : Nat) (k : UnitCfg) (s : UnitStep) (cyc : Nat) : UnitStep :=
  let (rt, rs) := s
  let d := 8 * c.cur.tick + cyc
  let index := c.n * c.cur.tick + cyc * (c.n / 8)
  let own := c.refAt (d * 8192 : Nat) false
  let now := (k.pattern (c.levelsAfter cyc)).getD true
  match k.edgeTerm with
  | some e =>
    let hit := (c.edgesIn e cyc).find? fun x => slopeTakes k.slope x.rising
    (rt, rs ++ match hit with
      | some x => if now then [{ index := index, unit := u, kind := .det false, ref := c.edgeRef x }] else []
      | none => [])
  | none =>
    let f : Feed := { d := d, index := index, cr := [], own := own }
    if rt.fresh k then
      let same := rt.inited && rt.gen == k.gen && rt.inside == now
      ({ rt with
        gen := k.gen
        levels := k.levels
        inited := true
        inside := now
        m1 := if same then rt.m1 else if now then some { d := d, ref := own, crossing := false } else none
        fired := same && rt.fired }, rs)
    else if now = rt.inside then
      let r := timedStep c u k f rt (now && k.qual == 2)
      (r.1, rs ++ r.2)
    else
      let moved := ((List.range 8).filter fun s => k.termOf s != 0).flatMap fun s => c.edgesIn s cyc
      let ref := match moved.foldl (fun (b : Option Edge) e => match b with
          | none => some e
          | some x => if e.tapTu < x.tapTu then some e else some x) none with
        | some e => c.edgeRef e
        | none => own
      let m : Meas := { d := d, ref := ref }
      let w := match rt.m1 with
        | some a => if a.crossing then some ((d - a.d) * 16) else none
        | none => none
      let hit := if now then k.qual == 0 else k.qual == 1 || (k.qual != 0 && k.qual != 2 && (match w with
        | some v => durationMet (if k.qual = 3 then 1 else k.qual - 1) v k.t1 k.t2
        | none => false))
      ({ rt with
        inside := now
        m1 := if now then some m else none
        fired := false }, rs ++ if hit then [f.det u ref] else [])

/-! ### All units over a tick -/

/-- Whether a unit evaluates this tick: enabled, and its stream emitted a weft (R136). -/
def TrigCtx.runs (c : TrigCtx) (k : UnitCfg) : Bool := k.en && (k.type == 8 || 4 ≤ k.src || (KMap.find c.cur.wefts k.src).isSome)

/-- One unit over the tick. -/
def TrigCtx.unitTick (c : TrigCtx) (u : Nat) (k : UnitCfg) (rt : UnitRt) : UnitStep :=
  if !c.runs k then (rt, [])
  else if k.type = 8 then (List.range 8).foldl (c.patternStep u k) (rt, [])
  else if 4 ≤ k.src then (List.range 8).foldl (c.stateStep u k) (rt, [])
  else (List.range c.n).foldl (c.streamStep u k) (rt, [])

/-- All units over the tick: their new states, and their reports. -/
def TrigCtx.allUnits (c : TrigCtx) : KMap UnitRt × List Report :=
  (List.range 16).foldl (fun (s : KMap UnitRt × List Report) u =>
    let k := c.cur.units.getD u {}
    if !k.en then (KMap.del s.1 u, s.2)
    else
      let r := c.unitTick u k (KMap.at s.1 {} u)
      (KMap.put s.1 u r.1, s.2 ++ r.2)) (c.d.trig.rt, [])

end Sys2Proof.Machine
end

