-- ==== Sys2Proof/Machine/TrigOps.lean ====
section
/-!
DEFINITION. The TRIG page: edges and levels of the state sources, configuration writes, automatic levels, trigger outputs
(R122 to R128, R134 to R141, R171 to R173).
-/

namespace Sys2Proof.Machine

/-! ### Edges (R120, R123, R125, R160) -/

/-- An edge of a state source: its level changes, the pool and the TIC are offered it, and an edge of TRIG_IN that SLOPE takes
is an urgent trigger for ISL_AUX (R396). An output only toggles, and only while it is enabled and the slice clock runs. -/
def stateEdge (k : Nat) (rising : Bool) (tu : Nat) (d : Dev) : Dev :=
  if !d.srcOn k || bitAt d.trig.levels k == rising || d.loom.run.isNone then d
  else
    let (e, d1) := { d with trig.levels := d.trig.levels ^^^ 2 ^ k }.addEdge k rising tu
    let d2 := d1.offerTrig e
    let d3 := if 4 ≤ k ∧ slopeTakes (d.srcInForce k).slope rising then
        { d2 with aux.urgTin := KMap.put d2.aux.urgTin (k - 4) (KMap.at d2.aux.urgTin 0 (k - 4) + 1) } else d2
    d3.ticEdge e

/-- A change of a source's level settings takes effect at a weft boundary (R124): the output is re-evaluated from the input,
without a transition; `input` says which switching level the input lies beyond, if either. -/
def levelChangeApply (k : Nat) (input : Option Bool) (d : Dev) : Dev :=
  let c := d.srcWritten k
  let lv := match input with
    | some b => b
    | none => bitAt d.trig.levels k
  let d1 := { d with
    trig.srcs := KMap.put d.trig.srcs k c
    trig.levels := if lv then d.trig.levels ||| 2 ^ k else andNot d.trig.levels (2 ^ k) }
  if k < 4 then d1.fsetS Reg.trig_cmp_LEVEL_NOW c.thresh k else d1

/-! ### Condition units: configuration (R126, R134 to R136) -/

/-- A unit's configuration as written; level A of a unit under automatic level is the loop's (R139). -/
def Dev.unitCfg (d : Dev) (n : Nat) : UnitCfg :=
  { en := d.flag Reg.trig_cond_EN n
    gen := KMap.at d.trig.gens 0 n + 65536 * d.trig.modeGen
    type := d.fget Reg.trig_cond_TYPE n
    src := d.fget Reg.trig_cond_SRC n
    slope := d.fget Reg.trig_cond_SLOPE n
    qual := d.fget Reg.trig_cond_QUAL n
    ref := d.flag Reg.trig_cond_REF n
    func := d.fget Reg.trig_cond_FUNC n
    l1 := if d.flag Reg.trig_cond_AUTO_EN n then ((KMap.at d.trig.auto {} n).level).getD (d.fgetS Reg.trig_cond_L1 n)
      else d.fgetS Reg.trig_cond_L1 n
    h1 := (d.fget Reg.trig_cond_H1 n : Nat)
    l2 := d.fgetS Reg.trig_cond_L2 n
    h2 := (d.fget Reg.trig_cond_H2 n : Nat)
    t1 := d.fget64 Reg.trig_cond_T1_W0 Reg.trig_cond_T1_W1 n
    t2 := d.fget64 Reg.trig_cond_T2_W0 Reg.trig_cond_T2_W1 n
    term := d.fget Reg.trig_cond_TERM n
    cand := d.flag Reg.trig_CAND_EN n }

/-- A unit's configuration under a CFG word. -/
def UnitCfg.withWord (k : UnitCfg) (v : Nat) : UnitCfg :=
  { k with
    en := bitAt v 0
    type := bitField v 1 4
    src := bitField v 5 4
    slope := bitField v 9 2
    qual := bitField v 11 3
    ref := bitAt v 14
    func := bitField v 16 2 }

/-- The state sources that a unit depends on. -/
def UnitCfg.sources (k : UnitCfg) : List Nat :=
  if k.type = 8 then (List.range 8).filter fun s => k.termOf s != 0
  else if 4 ≤ k.src ∧ k.src < 12 then [k.src - 4] else []

/-- The state-source edges that serve as reference instants of a unit, by source and direction (R130, R132, R133): for a
pattern, the edge that makes a term true, or false, as the function and the QUAL ask. -/
def UnitCfg.refEdges (k : UnitCfg) : List (Nat × Bool) :=
  let both := fun s => [(s, true), (s, false)]
  let bySlope := fun s => if k.slope = 2 then both s else [(s, k.slope == 0)]
  if k.type = 8 then
    (match k.edgeTerm with
    | some e => bySlope e
    | none =>
      if k.qual = 2 then []
      else (k.sources).map fun s => (s, (k.termOf s == 1) == ((k.qual == 0) == (k.func == 0 || k.func == 2))))
  else if k.src < 4 ∨ 12 ≤ k.src then []
  else if k.type = 0 ∨ k.type = 7 then bySlope (k.src - 4)
  else if k.type = 2 then
    (if k.slope = 2 then both (k.src - 4) else [(k.src - 4, (k.slope == 0) == k.ref)])
  else []

/-- The largest QUAL of a type's set; none where QUAL is ignored (Tables 05.2, 05.3). -/
def qualMax (type : Nat) : Option Nat :=
  match type with
  | 1 | 2 | 3 | 4 | 7 => some 4
  | 8 => some 5
  | _ => none

/-- The first field for which a unit may not be enabled (R134), with `slopeOf` the SLOPE and `on` the EN of each source. -/
def UnitCfg.refused (k : UnitCfg) (slopeOf : Nat → Nat) (on : Nat → Bool) : Option Field :=
  let q := match qualMax k.type with
    | some m => decide (m < k.qual)
    | none => false
  if 8 < k.type then some Reg.trig_cond_TYPE
  else if k.type ≠ 8 ∧ 12 ≤ k.src then some Reg.trig_cond_SRC
  else if (k.type = 1 ∨ k.type = 3 ∨ k.type = 4) ∧ 4 ≤ k.src then some Reg.trig_cond_SRC
  else if k.slope = 3 ∧ k.type ≠ 1 then some Reg.trig_cond_SLOPE
  else if q then some Reg.trig_cond_QUAL
  else if k.type = 8 ∧ (k.sources.isEmpty ∨ 1 < ((List.range 8).filter fun s => k.termOf s == 3).length) then some Reg.trig_cond_TERM
  else if k.sources.any fun s => !on s then some (if k.type = 8 then Reg.trig_cond_TERM else Reg.trig_cond_SRC)
  else if k.refEdges.any fun e => !slopeTakes (slopeOf e.1) e.2 then some Reg.trig_cond_SLOPE
  else none

/-- Refuse a write to the TRIG page: CFG_REFUSED, the element and the field (R514). -/
def Dev.trigRefuse (d : Dev) (n : Nat) (f : Field) : Dev :=
  (d.raise 18 Ev.trig_CFG_REFUSED).logErr 18 Ev.trig_CFG_REFUSED n (f.base % 4096 + f.stride * n + 65536 * f.lsb)

/-- The SRC_IDLE bits follow the units and the mode; a bit that becomes 1 raises SRC_IDLE (R136). -/
def Dev.srcIdle (d : Dev) : Dev :=
  let m := ((List.range 16).map fun n =>
    let k := d.unitCfg n
    if k.en && k.type != 8 && decide (k.src < 4) && !(sampledInputs d.mode).contains k.src then 2 ^ n else 0).sum
  let d1 := d.fset Reg.trig_SRC_IDLE m
  if andNot m (d.fget Reg.trig_SRC_IDLE) != 0 then d1.raise 18 Ev.trig_SRC_IDLE else d1

/-- The field for which a write to COND_nn.CFG is discarded (R134, R135). -/
def condVerdict (n val : Nat) (d : Dev) : Option Field :=
  let old := d.unitCfg n
  let new := old.withWord val
  if old.en then (if !new.en && { new with en := true } = old then none else some Reg.trig_cond_EN)
  else if new.en then new.refused d.srcSlope d.srcOn else none

/-- A write to COND_nn.CFG (R134, R135). -/
def condCfgWrite (n val : Nat) (d : Dev) : Dev :=
  let new := (d.unitCfg n).withWord val
  match condVerdict n val d with
    | some f => d.trigRefuse n f
    | none =>
      let d1 := ((((((d.fbit Reg.trig_cond_EN new.en n).fset Reg.trig_cond_TYPE new.type n).fset Reg.trig_cond_SRC new.src n).fset
        Reg.trig_cond_SLOPE new.slope n).fset Reg.trig_cond_QUAL new.qual n).fbit Reg.trig_cond_REF new.ref n).fset
        Reg.trig_cond_FUNC new.func n
      (if new.en then { d1 with trig.gens := KMap.put d1.trig.gens n (KMap.at d1.trig.gens 0 n + 1) } else d1).srcIdle

/-- The field for which a write to CMP_x.CFG or TIN_k.CFG is discarded: while it would take the source, or a needed edge, from
an enabled unit or a running TIC channel (R135, R177). -/
def srcVerdict (k val : Nat) (d : Dev) : Option Field :=
  let slope := min 2 (bitField val 1 2)
  let units := ((List.range 16).map d.unitCfg).filter fun u => u.en && u.sources.contains k
  if !bitAt val 0 && d.srcOn k && (!units.isEmpty || (List.range 8).any fun n => d.ticHolds n k) then
    some (if k < 4 then Reg.trig_cmp_EN else Reg.trig_tin_EN)
  else if slope != d.srcSlope k && units.any fun u => (u.refused (fun s => if s = k then slope else d.srcSlope s) d.srcOn).isSome then
    some (if k < 4 then Reg.trig_cmp_SLOPE else Reg.trig_tin_SLOPE)
  else none

/-- A write to CMP_x.CFG or TIN_k.CFG (R123, R135, R177): discarded while it would take the source, or a needed edge, from an
enabled unit or a running TIC channel. SLOPE 3 is held at 2; a disabled source's output is 0. -/
def srcCfgWrite (k val : Nat) (d : Dev) : Dev :=
  let en := bitAt val 0
  let slope := min 2 (bitField val 1 2)
  match srcVerdict k val d with
  | some f => d.trigRefuse (if k < 4 then k else k - 4) f
  | none =>
    let d1 := if en then d else { d with trig.levels := andNot d.trig.levels (2 ^ k) }
    if k < 4 then ((d1.fbit Reg.trig_cmp_EN en k).fset Reg.trig_cmp_SLOPE slope k).fset Reg.trig_cmp_HYST (min 250 (bitField val 3 8)) k
    else (((d1.fbit Reg.trig_tin_EN en (k - 4)).fset Reg.trig_tin_SLOPE slope (k - 4)).fset Reg.trig_tin_HYST (bitField val 3 4) (k - 4)).fset
      Reg.trig_tin_THRESH (bitField val 8 12) (k - 4)

/-! ### Automatic level (R139 to R141) -/

/-- Fields of a target: a unit 0 to 15, or CMP_x as 16 + x. -/
def autoField (unit cmp : Field) (t : Nat) : Field × Nat := if t < 16 then (unit, t) else (cmp, t - 16)

/-- The input whose stream a loop measures. -/
def Dev.autoInput (d : Dev) (t : Nat) : Nat := if t < 16 then d.fget Reg.trig_cond_SRC t else t - 16

/-- Whether the loop is available on the target: a comparator, or level A of the listed types on a stream. -/
def Dev.autoListed (d : Dev) (t : Nat) : Bool :=
  16 ≤ t || (decide (d.fget Reg.trig_cond_SRC t < 4) && [0, 2, 5, 6, 7].contains (d.fget Reg.trig_cond_TYPE t))

/-- AUTO_EN of a target. -/
def Dev.autoOn (d : Dev) (t : Nat) : Bool :=
  let f := autoField Reg.trig_cond_AUTO_EN Reg.trig_cmp_AUTO_EN t
  d.flag f.1 f.2

/-- A status bit of a loop. -/
def Dev.autoStatus (d : Dev) (unit cmp : Field) (t : Nat) (b : Bool) : Dev :=
  let f := autoField unit cmp t
  d.fbit f.1 b f.2

/-- The written level of a target: L1, or THRESH. -/
def Dev.autoWritten (d : Dev) (t : Nat) : Int := if t < 16 then d.fgetS Reg.trig_cond_L1 t else d.fgetS Reg.trig_cmp_THRESH (t - 16)

/-- The level in force. -/
def Dev.autoLevel (d : Dev) (t : Nat) : Int := ((KMap.at d.trig.auto {} t).level).getD (d.autoWritten t)

/-- H of the envelope: H1, or ceil(HYST × 0.1 mV / LSB). -/
def Dev.autoH (d : Dev) (t : Nat) : Int :=
  if t < 16 then (d.fget Reg.trig_cond_H1 t : Nat)
  else
    let fs := (max 1 (d.fsWeight (t - 16))).toNat
    ((d.fget Reg.trig_cmp_HYST (t - 16) * 512 + fs - 1) / fs : Nat)

/-- The new level and whether the envelope and the policy range do not meet (R139, R140). -/
def autoStep (mn mx h : Int) (pct : Nat) (polA polB : Int) : Int × Bool :=
  let elo := mn + h + 4
  let ehi := mx - h - 4
  let plo := min polA polB
  let phi := max polA polB
  let target := mn + ((mx - mn) * pct).fdiv 128
  if max elo plo ≤ min ehi phi then (clampInt (max elo plo) (min ehi phi) target, false)
  else (if ehi < plo then ehi else elo, true)

/-- A window of a loop ends (R139, R140). -/
def autoLevelWindowEnd (t : Nat) (d : Dev) : Dev :=
  if !d.autoOn t || !d.autoListed t then d
  else if 16 ≤ t ∧ !(sampledInputs d.mode).contains (d.autoInput t) then
    ({ d with trig.auto := KMap.put d.trig.auto t { KMap.at d.trig.auto {} t with ext := none } }.autoStatus Reg.trig_cond_AUTO_NO_SOURCE
      Reg.trig_cmp_AUTO_NO_SOURCE t true).raise 18 Ev.trig_NO_SOURCE
  else
    let a := KMap.at d.trig.auto {} t
    let d0 := { d with trig.auto := KMap.put d.trig.auto t { a with ext := none } }.autoStatus Reg.trig_cond_AUTO_NO_SOURCE
      Reg.trig_cmp_AUTO_NO_SOURCE t false
    match a.ext with
    | none => d0
    | some (mn, mx) =>
      let h := d.autoH t
      if mx - mn < 2 * h + 8 then
        (d0.autoStatus Reg.trig_cond_AUTO_NO_SWING Reg.trig_cmp_AUTO_NO_SWING t true).raise 18 Ev.trig_NO_SWING
      else
        let g := fun (u c : Field) => let f := autoField u c t; d.fget f.1 f.2
        let s := autoStep mn mx h (g Reg.trig_cond_PCT Reg.trig_cmp_PCT) (toSigned 12 (g Reg.trig_cond_POL_LO Reg.trig_cmp_POL_LO))
          (toSigned 12 (g Reg.trig_cond_POL_HI Reg.trig_cmp_POL_HI))
        let d1 := (d0.autoStatus Reg.trig_cond_AUTO_NO_SWING Reg.trig_cmp_AUTO_NO_SWING t false).autoStatus
          Reg.trig_cond_AUTO_OVERRIDDEN Reg.trig_cmp_AUTO_OVERRIDDEN t s.2
        let d2 := if s.2 then d1.raise 18 Ev.trig_POLICY_CONFLICT else d1
        if d.fget Reg.trig_AUTO_DEADBAND < (s.1 - d.autoLevel t).natAbs then
          { d2 with trig.auto := KMap.put d2.trig.auto t {
              ext := none
              level := some s.1 } }
        else d2

/-- A write that sets AUTO_EN on a unit outside the list is discarded (R141); one that finds it set sets nothing (R509). -/
def autoRefused (t val : Nat) (d : Dev) : Bool := bitAt val 0 && !d.autoOn t && !d.autoListed t

/-- A write to an AUTO_CFG register (R139, R141): a loop that starts holds the level in force, and the written one is ignored. -/
def autoEnWrite (t val : Nat) (d : Dev) : Dev :=
  let en := bitAt val 0
  let f := fun (u c : Field) => autoField u c t
  if autoRefused t val d then d.trigRefuse t Reg.trig_cond_AUTO_EN
  else
    let set := fun (u c : Field) (v : Nat) (d : Dev) => d.fset (f u c).1 v (f u c).2
    let d1 := set Reg.trig_cond_POL_HI Reg.trig_cmp_POL_HI (bitField val 20 12) (set Reg.trig_cond_POL_LO Reg.trig_cmp_POL_LO
      (bitField val 8 12) (set Reg.trig_cond_PCT Reg.trig_cmp_PCT (bitField val 1 7) (set Reg.trig_cond_AUTO_EN Reg.trig_cmp_AUTO_EN
      (Bool.bit en) d)))
    let d2 := d1.autoStatus Reg.trig_cond_AUTO_ACTIVE Reg.trig_cmp_AUTO_ACTIVE t en
    if en then (if d.autoOn t then d2 else { d2 with trig.auto := KMap.put d2.trig.auto t {
        ext := none
        level := some (d.autoWritten t) } })
    else ({ d2 with trig.auto := KMap.del d2.trig.auto t }.autoStatus Reg.trig_cond_AUTO_NO_SWING Reg.trig_cmp_AUTO_NO_SWING t false
      |>.autoStatus Reg.trig_cond_AUTO_NO_SOURCE Reg.trig_cmp_AUTO_NO_SOURCE t false).autoStatus Reg.trig_cond_AUTO_OVERRIDDEN
        Reg.trig_cmp_AUTO_OVERRIDDEN t false

/-- A weft adds to the extremes of the loops that measure its stream (R139). -/
def Dev.autoAdd (d : Dev) (w : Weft) : Dev :=
  (List.range 20).foldl (fun (d : Dev) t =>
    if d.autoOn t && d.autoListed t && d.autoInput t == w.input then
      let a := KMap.at d.trig.auto {} t
      let e := w.samples.foldl (fun (e : Option (Int × Int)) x => match e with
        | none => some (x, x)
        | some (lo, hi) => some (min lo x, max hi x)) a.ext
      { d with trig.auto := KMap.put d.trig.auto t { a with ext := e } }
    else d) d

/-! ### Trigger outputs (R171 to R173) -/

/-- SEL of an output in force: the expert modes replace it (R172). -/
def Dev.outSel (d : Dev) (n : Nat) : Nat :=
  if n = 0 then (if d.flag Reg.trig_OUT0_PROV then 4 else d.fget Reg.trig_SEL0)
  else if d.flag Reg.trig_OUT1_CANCEL then 5 else d.fget Reg.trig_SEL1

/-- The level of the TRIG_OUT_n pin: a pulse, the armed level, or rest, under POL (R171). -/
def Dev.trigOutPin (d : Dev) (n : Nat) : Bool :=
  let active := KMap.at d.trig.pulsing false n || (d.outSel n == 2 && d.armed)
  active != (if n = 0 then d.flag Reg.trig_POL0 else d.flag Reg.trig_POL1)

/-- WIDTH in force, in ticks. -/
def Dev.outWidth (d : Dev) (n : Nat) : Nat := max 1 (if n = 0 then d.fget Reg.trig_WIDTH0 else d.fget Reg.trig_WIDTH1)

/-- An instant in eighths of a slice-clock tick, as 2^-32 nominal ticks. -/
def Dev.nominal8 (d : Dev) (t8 : Nat) : Int := (d.tb.acc : Int) + ((t8 : Int) - (8 * d.loom.tick : Nat)) * d.tb.inc / 8

/-- Schedule a pulse that starts 112 ticks after an instant in eighths of a tick; one that starts before the last has ended,
or within a tick of its end, extends it, also one that has ended by then (R171, R173). -/
def Dev.schedule (d : Dev) (n at8 : Nat) : Dev :=
  let p : Pulse := { start := at8 + 896, stop := at8 + 896 + 8 * d.outWidth n }
  let ps := KMap.at d.trig.pulses [] n
  match ps.getLast? with
  | some q =>
    if p.start ≤ q.stop + 8 then
      { d with trig.pulses := KMap.put d.trig.pulses n (ps.dropLast ++ [{ q with stop := max q.stop p.stop }]) }.raise 18 Ev.trig_OUT_MERGED
    else { d with trig.pulses := KMap.put d.trig.pulses n (ps ++ [p]) }
  | none =>
    match (KMap.find d.trig.ended n).filter fun q => decide (p.start ≤ q.stop + 8) with
    | some q => { d with trig.pulses := KMap.put d.trig.pulses n [{ q with stop := max q.stop p.stop, told := true }] }.raise 18 Ev.trig_OUT_MERGED
    | none => { d with trig.pulses := KMap.put d.trig.pulses n [p] }

/-- Schedule a pulse on every output with a given SEL in force. -/
def Dev.pulse (d : Dev) (sel at8 : Nat) : Dev := ((List.range 2).filter fun n => d.outSel n == sel).foldl (fun (d : Dev) n => d.schedule n at8) d

/-- The pulse at the head of an output's schedule begins (R171); its start is a TIC event (Table 07.1). -/
def trigOutPulse (n : Nat) (d : Dev) : Dev :=
  match KMap.at d.trig.pulses [] n with
  | [] => d
  | p :: _ =>
    if KMap.at d.trig.pulsing false n || 8 * (d.loom.tick + 1) ≤ p.start then d
    else
      let d1 := { d with trig.pulsing := KMap.put d.trig.pulsing n true }
      let d2 := if p.told then d1 else d1.ticInternal (9 + n) (p.start * 2 ^ 29 : Nat) (d.nominal8 p.start) d.tickMarks
      d2.emit (.trigOut n (d1.trigOutPin n))

/-- The pulse in progress ends. -/
def trigOutPulseEnd (n : Nat) (d : Dev) : Dev :=
  match KMap.at d.trig.pulses [] n with
  | [] => d
  | p :: rest =>
    if !KMap.at d.trig.pulsing false n || 8 * (d.loom.tick + 1) ≤ p.stop then d
    else
      let d1 := { d with
        trig.pulsing := KMap.put d.trig.pulsing n false
        trig.pulses := KMap.put d.trig.pulses n rest
        trig.ended := KMap.put d.trig.ended n p }
      d1.emit (.trigOut n (d1.trigOutPin n))

/-! ### Commands -/

/-- LEVEL_CHANGE_APPLY (R124). -/
def execLevelChangeApply (src : Fin 8) (input : Option Bool) (s : State) : Host.Outcome State Fault Refusal :=
  .next (s.live fun s => s.onDev (levelChangeApply src input))

/-- COMPARATOR_EDGE (R123). -/
def execComparatorEdge (x : Fin 4) (rising : Bool) (tu : Fin 128) (s : State) : Host.Outcome State Fault Refusal :=
  .next (s.live fun s => s.onDev (stateEdge x rising tu))

/-- TRIG_IN_EDGE (R125). -/
def execTrigInEdge (k : Fin 4) (rising : Bool) (tu : Fin 128) (s : State) : Host.Outcome State Fault Refusal :=
  .next (s.live fun s => s.onDev (stateEdge (4 + k) rising tu))

/-- COND_CFG_WRITE (R134, R135). -/
def execCondCfgWrite (who : Requester) (n : Fin 16) (val : Word) (s : State) : Host.Outcome State Fault Refusal :=
  .next (s.live fun s => s.onDev fun d => d.writeGateIf who 18 (0x100 + 0x20 * n) val.toNat (fun d => (condVerdict n val.toNat d).isSome)
    (condCfgWrite n val.toNat))

/-- AUTO_LEVEL_WINDOW_END (R139). -/
def execAutoLevelWindowEnd (tgt : Fin 20) (s : State) : Host.Outcome State Fault Refusal := .next (s.live fun s => s.onDev (autoLevelWindowEnd tgt))

/-- AUTO_EN_WRITE (R141). -/
def execAutoEnWrite (who : Requester) (tgt : Fin 20) (val : Word) (s : State) : Host.Outcome State Fault Refusal :=
  .next (s.live fun s => s.onDev fun d => d.writeGateIf who 18 (if (tgt : Nat) < 16 then 0x300 + 8 * tgt else 0x58 + 0x10 * (tgt - 16)) val.toNat
    (autoRefused tgt val.toNat) (autoEnWrite tgt val.toNat))

/-- TRIG_OUT_PULSE (R171). -/
def execTrigOutPulse (n : Fin 2) (s : State) : Host.Outcome State Fault Refusal := .next (s.live fun s => s.onDev (trigOutPulse n))

/-- TRIG_OUT_PULSE_END (R171). -/
def execTrigOutPulseEnd (n : Fin 2) (s : State) : Host.Outcome State Fault Refusal := .next (s.live fun s => s.onDev (trigOutPulseEnd n))

end Sys2Proof.Machine
end

