-- ==== Sys2Proof/Machine/Tseq.lean ====
section
/-!
DEFINITION. The sequencer: transitions, holdoff, the checks of a trigger action, provisional triggers, commits, the merge point
(R138, R143 to R156, R165, R167 to R170, R206, R210, R384, R386, R515).
-/

namespace Sys2Proof.Machine

/-! ### Tables (R144, R146, R147, R151, R164) -/

/-- The active bank of a TSEQ table for the tick under evaluation. -/
def Dev.seqWord (d : Dev) (sel addr : Nat) : Nat := d.tget 19 sel (d.tseq.banks.getD sel (d.tctlOf 19 sel).bank) addr

/-- Whether the shadow bank of a TSEQ table may not be swapped in (R147). -/
def Dev.tseqSwapBad (d : Dev) (sel : Nat) : Bool :=
  match sel with
  | 0 => (List.range 256).any fun w => decide (5 < bitField (d.tshadow 19 0 w) 5 3)
  | 1 => (List.range 16).any fun s => let a := bitField (d.tshadow 19 1 (2 * s + 1)) 4 3; a != 0 && a != 4 && a != 5
  | _ => false

/-- Whether the shadow bank of a kernel table may not be swapped in (R164). -/
def Dev.vernSwapBad (d : Dev) (sel : Nat) : Bool :=
  let tap := fun (p t : Nat) => toSigned 16 (d.tshadow 20 sel (8 * p + t / 2) / 2 ^ (16 * (t % 2)))
  !((List.range 16).all fun t => tap 0 t == (if t = 7 then 16384 else 0)) ||
    (List.range 256).any fun p => decide (4 < (((List.range 16).map (tap p)).sum - 16384).natAbs)

/-! ### Commits (R203, R206, R386) -/

/-- Trigger sample index: the last sample at or before an instant (R165). -/
def sampleAt (n : Nat) (at16 : Int) : Int := (at16 * n).fdiv 65536

/-- The window of a trigger sample index; none before stream index 0. -/
def Dev.windowAt (d : Dev) (t : Int) : Option (Nat × Nat) := if t < 0 then none else d.windowOf t.toNat

/-- Whether a window shares samples with the previous accepted segment's (R156). -/
def Dev.overlaps (d : Dev) (w : Nat × Nat) : Bool :=
  match d.acq.prevWindow with
  | some p => decide (p.1 ≤ w.2) && decide (w.1 ≤ p.2)
  | none => false

/-- The last three checks of a trigger action: overlap, capacity, Ledger slot (R155, R156, R168, R210); a rejection is counted
by the check that fails. -/
def Dev.commitChecks (d : Dev) (w : Nat × Nat) (prov : Bool) (outstanding : Nat) : Bool × Dev :=
  if d.flag Reg.acq_SEG_MODE && d.overlaps w then (false, d.finc Reg.trig_OVERLAP_REJECT)
  else if prov && decide (256 ≤ outstanding) then (false, (d.finc Reg.trig_PROV_REJECT).raise 18 Ev.trig_PROV_FULL)
  else if d.slotReusable d.acq.nextSeg then (true, d)
  else
    let d1 := (d.finc Reg.ledg_FULL_REJECT).raise 23 Ev.ledg_LEDGER_FULL
    let lag := d.flag Reg.ledg_SPILL_LEDGER_EN && (match d.seg (d.acq.nextSeg - 2 ^ d.resLog2) with
      | some g => g.final && !g.copied
      | none => false)
    (false, if lag then d1.raise 23 Ev.ledg_LEDGER_SPILL_LAG else d1)

/-- Timestamp words of an instant in 2^-16 nominal ticks (R58). -/
def stampWords (epoch stamp : Nat) : List Nat :=
  [epoch % 65536 + 65536 * (stamp % 65536), stamp / 65536 % 2 ^ 32, stamp / 2 ^ 48 % 2 ^ 32]

/-- Commit a trigger: the Ledger entry and the Till's bindings (R206, R252). -/
def Dev.commitTrigger (d : Dev) (w : Nat × Nat) (t cause epoch stamp : Nat) (prov fb : Bool) : Dev :=
  let n := d.acq.nextSeg
  let flags := Bool.bit prov + 4 * Bool.bit (d.overlaps w) + 32 * Bool.bit fb
  ((d.commitSeg w t cause flags (d.auxSeqFor (w.1 * (65536 / samplesPer d.mode) : Nat)) (stampWords epoch stamp)).tillBind n).tillExcludeAll.tallyCount 3 1 1

/-! ### Provisional triggers (R167 to R170) -/

/-- Forget a provisional trigger. -/
def Dev.dropProv (d : Dev) (p : Prov) : Dev := { d with tseq.provs := d.tseq.provs.filter fun q => q.id != p.id }

/-- A resolution that reaches a trigger before its merge point (R386). -/
def Dev.resolveMerge (d : Dev) (id : Nat) (ok : Bool) : Dev :=
  { d with tseq.merge := d.tseq.merge.map fun m => if m.id = id then { m with confirmed := some ok } else m }

/-- Confirm a provisional trigger: PROVISIONAL clears, CONFIRM is sent, outputs for confirmed triggers pulse (R169, R171,
R172). `at8` is the confirming instant in eighths of a tick. -/
def Dev.confirmProv (d : Dev) (p : Prov) (at8 : Nat) : Dev :=
  let d1 := (d.dropProv p).tallyCount 1 2 1
  let d2 := match p.seg with
    | some n => d1.confirmSeg n
    | none => d1.resolveMerge p.id true
  if p.kind = .remote then d2 else (d2.trigMsg 1 p.seqT p.stamp).pulse 1 at8

/-- Cancel a provisional trigger: RETRACTED, CANCEL, PROV_RETRACTED; its readers and tickets let it go (R169, R171, R172). -/
def Dev.cancelProv (d : Dev) (p : Prov) (at8 : Nat) : Dev :=
  let d1 := (d.dropProv p).tallyCount 1 3 1
  let d2 := match p.seg with
    | some n => ((d1.retractSeg n).tillRetract n).ticketsRetract n
    | none => d1.resolveMerge p.id false
  let d3 := d2.raise 18 Ev.trig_PROV_RETRACTED
  if p.kind = .remote then d3 else (d3.trigMsg 2 p.seqT p.stamp).pulse 5 at8

/-- Cancel one whose qualification time has run out. -/
def Dev.expireProv (d : Dev) (p : Prov) (at8 : Nat) : Dev := (d.raise 18 Ev.trig_QUAL_EXPIRED).cancelProv p at8

/-- The first 16-bit eighth of an instant in 2^-16 tick. -/
def eighth (at16 : Nat) : Nat := at16 / 8192

/-- Expire every local provisional trigger whose deadline lies before an instant (R167). -/
def Dev.expireBefore (d : Dev) (at16 : Nat) : Dev :=
  (d.tseq.provs.filter fun p => p.kind != .remote && decide (p.deadline < at16)).foldl (fun (d : Dev) p =>
    d.expireProv p (p.deadline / 65536 * 8)) d

/-- The outcome of a unit's candidate (R167). A candidate already resolved ignores it. -/
def Dev.candOutcome (d : Dev) (unit index : Nat) (met : Bool) (at8 : Nat) : Dev :=
  match d.tseq.provs.find? fun p => p.kind == .cand unit index with
  | none => d
  | some p => if met then d.confirmProv p at8 else d.cancelProv p at8

/-- Resolve every outstanding TRIG_PROV trigger (CONFIRM, CANCEL, RESTART). -/
def Dev.resolveAll (d : Dev) (ok : Bool) (at8 : Nat) : Dev :=
  (d.tseq.provs.filter fun p => p.kind == .prov).foldl (fun (d : Dev) p =>
    if ok then d.confirmProv p at8 else d.cancelProv p at8) d

/-- Every candidate outstanding fails: a mode change (R137). -/
def Dev.failCandidates (d : Dev) : Dev :=
  (d.tseq.provs.filter fun p => match p.kind with
    | .cand _ _ => true
    | _ => false).foldl (fun (d : Dev) p => d.cancelProv p (8 * d.loom.tick)) d

/-! ### Holdoff (R148 to R152) -/

/-- Whether a trigger instant at an event index lies within a holdoff. -/
def Holdoff.blocks (h : Holdoff) (at16 : Int) (index : Nat) : Bool :=
  h.events.isSome || h.ended == some index || decide (at16 < h.until16)

/-- Count a detection mask of an event index: the event holdoff ends at the reference instant of its last detection (R151). -/
def Holdoff.count (h : Holdoff) (dets : List Report) (index : Nat) : Holdoff :=
  match h.events with
  | none => h
  | some (c, left) =>
    match dets.find? fun r => r.unit == c with
    | none => h
    | some r => if left ≤ 1 then {
          until16 := max h.until16 r.ref.at16
          events := none
          ended := some index }
        else { h with events := some (c, left - 1) }

/-- The holdoff that a transition starts, and the device with the random draw made (R148 to R152): `minimum` for an accepted
trigger action, the named one with HO_EN. -/
def Dev.startHoldoff (d : Dev) (from16 : Int) (sel : Option Nat) (minimum : Bool) : Holdoff × Dev :=
  let base := if minimum then from16 + (d.minHoldoff * 512 : Nat) else from16
  match sel with
  | none => ({ until16 := base }, d)
  | some h =>
    let w0 := d.seqWord 2 (4 * h)
    let time := min (2 ^ 40) (d.seqWord 2 (4 * h + 1) + 2 ^ 32 * (d.seqWord 2 (4 * h + 2) % 512))
    match w0 % 4 with
    | 1 => ({ until16 := max base (from16 + (time * 65536 : Nat)) }, d)
    | 2 => ({ until16 := base, events := some (bitField w0 2 4, d.seqWord 2 (4 * h + 3) + 1) }, d)
    | 3 =>
      let v := lfsrSteps 32 d.tseq.lfsr
      let len := min (2 ^ 40) (time + v % 2 ^ bitField w0 8 5)
      ({ until16 := max base (from16 + (len * 65536 : Nat)) }, { d with tseq.lfsr := v })
    | _ => ({ until16 := base }, d)

/-! ### Trigger actions (R155, R386) -/

/-- The earliest reference instant of a list of detections (R138). -/
def earliest : List Report → Option Ref
  | [] => none
  | r :: rs => match earliest rs with
    | some b => if r.ref.at16 ≤ b.at16 then some r.ref else some b
    | none => some r.ref

/-- Whether the bucket limits triggers now (R150). -/
def Dev.bucketOn (d : Dev) : Bool := d.fget Reg.tseq_MIN_HOLDOFF != 0 && decide (d.minHoldoff < d.holdoffFloor)

/-- The checks that a trigger passes in the sequencer: pre-fill, holdoff, bucket. -/
def Dev.seqChecks (d : Dev) (w : Option (Nat × Nat)) (at16 : Int) (index : Nat) : Bool × Dev :=
  if !d.preFilled w then (false, d.finc Reg.acq_PRE_FILL_REJECT)
  else if (d.tseq.hold.any fun h => h.blocks at16 index) then (false, d.finc Reg.trig_HOLDOFF_REJECT)
  else if d.bucketOn && d.tseq.tokens == 0 then (false, (d.finc Reg.trig_RATE_REJECT).raise 18 Ev.trig_RATE_LIMITED)
  else (true, d)

/-- An accepted trigger: its number, messages, pulses, TIC event and urgent trigger (R150, R169, R171, R172, R384, R396). -/
def Dev.announce (d : Dev) (ref : Ref) (prov : Bool) (at8 : Nat) : Dev :=
  let seqT := d.tseq.nextSeqT
  let d1 := { d with
    tseq.nextId := d.tseq.nextId + 1
    tseq.nextSeqT := (seqT + 1) % 4096
    tseq.tokens := if d.bucketOn then d.tseq.tokens - 1 else d.tseq.tokens
    aux.urgMain := d.aux.urgMain + 1 }
  let d2 := (d1.trigMsg (if prov then 0 else 1) seqT ref.stamp).pulse 4 at8
  if prov then d2.tallyCount 1 1 1 else (d2.pulse 1 at8).ticInternal 8 (ref.at16 * 65536) (ref.stamp * 65536 : Nat) ref.marks

/-- A trigger action at an event index (R155): the device, and whether it was accepted. -/
def Dev.triggerAction (d : Dev) (index n mask : Nat) (ref : Ref) (kind : Option ProvKind) : Bool × Dev :=
  let t := sampleAt n ref.at16
  let w := d.windowAt t
  let at16 := index * (65536 / n)
  let c := d.seqChecks w ref.at16 index
  if !c.1 then c
  else match w with
    | none => (false, d)
    | some win =>
      let prov := kind.isSome
      let rx := d.flag Reg.cas_TRIG_RX
      let k := if rx then (true, c.2) else c.2.commitChecks win prov c.2.tseq.provs.length
      if !k.1 then k
      else
        let id := k.2.tseq.nextId
        let seqT := k.2.tseq.nextSeqT
        let me := k.2.fget Reg.cas_DEV_ID
        let seg := k.2.acq.nextSeg
        let d1 := k.2.announce ref prov (eighth at16)
        let d2 := if rx then { d1 with tseq.merge := d1.tseq.merge ++ [{
              id := id
              stamp := ref.stamp
              epoch := ref.epoch
              origin := me
              seqT := seqT
              loc := true
              t := t
              cause := mask
              fb := ref.fb
              prov := prov }] }
          else d1.commitTrigger win t.toNat mask ref.epoch ref.stamp prov ref.fb
        (true, match kind with
          | none => d2
          | some kd => { d2 with tseq.provs := d2.tseq.provs ++ [{
              id := id
              kind := kd
              seg := if rx then none else some seg
              deadline := at16 + clampNat 16 20480 (d.fget Reg.tseq_QUAL_TIME) * 65536
              origin := me
              seqT := seqT
              stamp := ref.stamp }] })

/-! ### Transitions (R143, R145, R146) -/

/-- Enter a state at an instant: its timer restarts. -/
def Dev.enterState (d : Dev) (s : Nat) (at16 : Nat) : Dev :=
  { d with
    tseq.state := s
    tseq.entered := at16 }

/-- Start a holdoff in place of the running one. -/
def Dev.setHoldoff (d : Dev) (from16 : Int) (sel : Option Nat) (minimum : Bool) : Dev :=
  let r := d.startHoldoff from16 sel minimum
  { r.2 with tseq.hold := some r.1 }

/-- Take a transition selected by unit c at an event index with detections `dets`, the earliest of which is `ref`. -/
def Dev.transition (d : Dev) (index n mask : Nat) (dets : List Report) (ref : Ref) (c : Nat) : Dev :=
  let w := d.seqWord 0 (16 * d.tseq.state + c)
  let action := bitField w 5 3
  let at16 := index * (65536 / n)
  let sel := if bitAt w 8 then some (bitField w 9 4) else none
  let fb := dets.any fun r => r.ref.fb
  if action = 1 ∨ action = 2 then
    let cand := dets.any fun r => r.unit == c && r.kind == .det true
    let kind : Option ProvKind := if action = 2 then some .prov else if cand then some (.cand c index) else none
    let r := (if fb then d.raise 18 Ev.trig_INTERP_FALLBACK else d).triggerAction index n mask ref kind
    if r.1 then (r.2.setHoldoff ref.at16 sel true).enterState (bitField w 1 4) at16 else r.2
  else
    let d1 := if action = 3 then d.resolveAll true (eighth at16)
      else if action = 4 ∨ action = 5 then d.resolveAll false (eighth at16) else d
    let d2 := if sel.isSome then d1.setHoldoff ref.at16 sel false else d1
    d2.enterState (if action = 5 then d.fget Reg.tseq_START_STATE else bitField w 1 4) at16

/-- Evaluate the detections of one event index (R143). -/
def Dev.seqIndex (d : Dev) (index n : Nat) (dets : List Report) : Dev :=
  match earliest dets with
  | none => d
  | some ref =>
    let mask := dets.foldl (fun m r => m ||| 2 ^ r.unit) 0
    let d1 := { d with tseq.hold := d.tseq.hold.map fun h => h.count dets index }
    match (List.range 16).find? fun c => bitAt mask c && bitAt (d1.seqWord 0 (16 * d1.tseq.state + c)) 0 with
    | none => d1
    | some c => d1.transition index n mask dets ref c

/-- Whether the state timer expires at a tick boundary (R146). -/
def Dev.stateDue (d : Dev) (tick : Nat) : Bool :=
  let s := d.tseq.state
  bitAt (d.seqWord 1 (2 * s + 1)) 7 && decide (d.tseq.entered < (tick * 65536 : Nat)) &&
    decide (d.tseq.entered + (d.seqWord 1 (2 * s) * 65536 : Nat) ≤ (tick * 65536 : Nat))

/-- The state timer expires: TO_NEXT with TO_ACTION. -/
def Dev.stateExpire (d : Dev) (tick : Nat) : Dev :=
  let w := d.seqWord 1 (2 * d.tseq.state + 1)
  let action := bitField w 4 3
  let d1 := d.raise 19 Ev.tseq_STATE_TIMEOUT
  let d2 := if action = 4 ∨ action = 5 then d1.resolveAll false (8 * tick) else d1
  d2.enterState (if action = 5 then d.fget Reg.tseq_START_STATE else w % 16) (tick * 65536)

/-- The sequencer at the boundary that begins a tick: table swaps, the start of an arm, RESTART, the state timer (R146, R147,
R153). A RESTART written asks for no arm (R174). -/
def Dev.seqBoundary (d : Dev) (t : TrigItem) : Dev :=
  let at16 := t.tick * 65536
  let d1 := if t.banks = d.tseq.banks then d else { d with
    tseq.banks := t.banks
    tseq.entered := at16 }
  if !t.eval then (if t.restart then (d1.resolveAll false (8 * t.tick)).enterState (d1.fget Reg.tseq_START_STATE) at16 else d1)
  else
    let seed := d1.fget Reg.tseq_RAND_SEED
    let d2 := if !t.start then d1 else { d1 with
      tseq.state := d1.fget Reg.tseq_START_STATE
      tseq.entered := at16
      tseq.hold := none
      tseq.lfsr := if seed = 0 then 0x1D872B41 else seed }
    let d3 := if t.restart then (d2.resolveAll false (8 * t.tick)).enterState (d2.fget Reg.tseq_START_STATE) at16 else d2
    if d3.stateDue t.tick then d3.stateExpire t.tick else d3

/-- One event index of a tick: expiries before it, outcomes, the decision, outcomes of candidates of the index itself. -/
def Dev.seqStep (t : TrigItem) (n : Nat) (reports : List Report) (d : Dev) (index : Nat) : Dev :=
  let rs := reports.filter fun r => r.index == index
  let at16 := index * (65536 / n)
  let outcomes := fun (d : Dev) => rs.foldl (fun (d : Dev) r => match r.kind with
    | .outcome i met => d.candOutcome r.unit i met (eighth at16)
    | .det _ => d) d
  let d1 := outcomes (d.expireBefore at16)
  if t.eval then
    outcomes (d1.seqIndex index n (rs.filter fun r => match r.kind with
      | .det _ => true
      | .outcome _ _ => false))
  else d1

/-- Distinct event indices in rising order. -/
def insertIndex (i : Nat) : List Nat → List Nat
  | [] => [i]
  | x :: t => if i = x then x :: t else if i < x then i :: x :: t else x :: insertIndex i t

/-- The status fields of the TSEQ page (Table 06.7, R154). -/
def Dev.tseqStatus (d : Dev) (n tick : Nat) : Dev :=
  let now := tick * 65536
  let left : Nat := match d.tseq.hold with
    | none => 0
    | some h => if h.events.isSome then 2 ^ 32 - 1 else min (2 ^ 32 - 1) ((h.until16 - (now : Nat)).toNat / 65536)
  let active := d.tseq.hold.any fun h => h.events.isSome || decide ((now : Int) < h.until16)
  ((((d.fset Reg.tseq_STATE d.tseq.state).fbit Reg.tseq_HOLDOFF_ACTIVE active).fset Reg.tseq_HOLDOFF_LEFT left).fset Reg.tseq_PROV_OUT
    d.tseq.provs.length).fbit Reg.tseq_PREFILL (d.acq.evaluating && !d.preFilled (d.windowAt ((n * tick : Nat) - 1)))

/-! ### Evaluating a tick -/

/-- The level fields report what the last evaluated sample showed (R518). -/
def Dev.levelFields (d : Dev) (levels : Nat) : Dev :=
  let d1 := d.fset Reg.trig_STATE levels
  let d2 := (List.range 4).foldl (fun (d : Dev) k => (d.fbit Reg.trig_cmp_LVL_STATE (bitAt levels k) k).fbit Reg.trig_tin_OUT
    (bitAt levels (4 + k)) k) d1
  (List.range 16).foldl (fun (d : Dev) u => match KMap.find d.trig.rt u with
    | some r => d.fbit Reg.trig_cond_LVL_STATE r.lvA u
    | none => d) d2

/-- Evaluate one tick: units, then the sequencer over its event indices. -/
def Dev.evalTick (d : Dev) (t : TrigItem) (next : Option TrigItem) : Dev :=
  let n := samplesPer d.mode
  let c : TrigCtx := {
    d := d
    n := n
    prev := d.trig.prev.filter fun p => p.tick + 1 == t.tick
    cur := t
    next := next.filter fun p => p.tick == t.tick + 1 }
  let r := c.allUnits
  let sticky := r.2.foldl (fun m x => match x.kind with
    | .det _ => m ||| 2 ^ x.unit
    | .outcome _ _ => m) (d.fget Reg.trig_MET_STICKY)
  let d1 := ({ d with
    trig.rt := r.1
    trig.prev := some t }.fset Reg.trig_MET_STICKY sticky).levelFields (c.levelsAfter 7)
  let d2 := d1.seqBoundary t
  let d3 := (r.2.foldl (fun l x => insertIndex x.index l) []).foldl (Dev.seqStep t n r.2) d2
  let d4 := d3.expireBefore ((t.tick + 1) * 65536)
  ({ d4 with tseq.now := t.tick + 1 }).tseqStatus n (t.tick + 1)

/-- Whether every edge of a tick is placed or will not be: no conversion for the trigger is running (log entry 26). -/
def Dev.edgesDone (d : Dev) (t : TrigItem) : Bool := (t.edges.filterMap d.edge).all fun e => e.unitT.isNone

/-- Forget the edges that neither a tick still to be evaluated nor the TIC needs. -/
def Dev.pruneEdges (d : Dev) : Dev :=
  { d with vern.edges := d.vern.edges.filter fun e =>
      decide (d.loom.tick ≤ e.tick) || e.unitC.isSome || e.unitT.isSome || (d.trig.todo.any fun t => t.edges.contains e.id) ||
        d.tic.ch.any fun c => c.2.evs.any fun v => v.edge == some e.id }

/-- Evaluate waiting ticks, oldest first, as far as their conversions are complete; the last one waits for its successor. -/
def Dev.drainTicks : Nat → Dev → Dev
  | 0, d => d
  | fuel + 1, d =>
    match d.trig.todo with
    | t :: nx :: rest =>
      if d.edgesDone t then Dev.drainTicks fuel ({ d with trig.todo := nx :: rest }.evalTick t (some nx)) else d
    | _ => d

/-- Evaluate what can be evaluated. -/
def Dev.trigDrain (d : Dev) : Dev := (Dev.drainTicks d.trig.todo.length d).pruneEdges

/-- Evaluate every waiting tick: the stream run ends (R511). -/
def Dev.flushTicks : Nat → Dev → Dev
  | 0, d => d
  | fuel + 1, d =>
    match d.trig.todo with
    | [] => d
    | t :: rest => Dev.flushTicks fuel ({ d with trig.todo := rest }.evalTick t rest.head?)

/-! ### Binding tickets of new segments (R303) -/

/-- The segments committed since a segment number, other than retracted ones, give rise to their binding tickets. -/
def State.bindSince (s : State) (first : Nat) : State :=
  ((List.range (s.dev.acq.nextSeg - first)).map (first + ·)).foldl (fun (s : State) n =>
    match s.dev.seg n with
    | some g => if bitAt g.flags 1 then s else s.bindingTickets n
    | none => s) s

/-- Run a change of the device that may commit segments. -/
def State.onTrig (s : State) (f : Dev → Dev) : State := (s.onDevHbm f).bindSince s.dev.acq.nextSeg

/-! ### The merge point (R386) -/

/-- Put a trigger among those that wait, in order of instant and ORIGIN. -/
def insertMerge (m : Merge) : List Merge → List Merge
  | [] => [m]
  | x :: t => if m.stamp < x.stamp || (m.stamp == x.stamp && m.origin < x.origin) then m :: x :: t else x :: insertMerge m t

/-- The local device's position in nominal time, in 2^-16 ticks. -/
def Dev.nowStamp16 (d : Dev) : Nat := d.tb.acc / 2 ^ 16

/-- Commit one trigger at its merge point, or refuse it. -/
def Dev.mergeOne (d : Dev) (m : Merge) : Dev :=
  let gone := { d with tseq.provs := d.tseq.provs.filter fun p => p.id != m.id }
  let prov := m.prov && m.confirmed.isNone
  let w := d.windowAt m.t
  if m.confirmed = some false then gone
  else if !m.loc && !d.preFilled w then gone.finc Reg.acq_PRE_FILL_REJECT
  else match w with
    | none => gone
    | some win =>
      let k := d.commitChecks win prov ((d.tseq.provs.filter fun p => p.seg.isSome).length)
      if !k.1 then { k.2 with tseq.provs := gone.tseq.provs }
      else
        let n := k.2.acq.nextSeg
        let d1 := k.2.commitTrigger win m.t.toNat m.cause m.epoch m.stamp prov m.fb
        { d1 with tseq.provs := d1.tseq.provs.map fun p => if p.id = m.id then { p with seg := some n } else p }

/-- The merge point: every trigger whose instant lies H ticks back is committed, in order of instant and ORIGIN. -/
def mergePoint (d : Dev) : Dev :=
  let due := d.tseq.merge.filter fun m => decide (m.stamp + d.fget Reg.cas_H_TICKS * 65536 ≤ d.nowStamp16)
  let d1 := { d with tseq.merge := d.tseq.merge.filter fun m => !decide (m.stamp + d.fget Reg.cas_H_TICKS * 65536 ≤ d.nowStamp16) }
  let d2 := (due.foldl (fun l m => insertMerge m l) []).foldl Dev.mergeOne d1
  d2.fset Reg.tseq_PROV_OUT d2.tseq.provs.length

/-! ### Commands -/

/-- A conversion completes, and what waited for it is evaluated. -/
def vernDone (u code : Nat) (d : Dev) : Dev := (vernConvert u code d).trigDrain

/-- A conversion times out, and what waited for it is evaluated. -/
def vernLost (u : Nat) (d : Dev) : Dev := (vernTimeout u d).trigDrain

/-- VERNIER_CONVERSION_DONE (R158). -/
def execVernierConversionDone (u : Fin 64) (code : Nat) (s : State) : Host.Outcome State Fault Refusal :=
  .next (s.live fun s => s.onTrig (vernDone u code))

/-- CONV_TIMEOUT (R162). -/
def execConvTimeout (u : Fin 64) (s : State) : Host.Outcome State Fault Refusal := .next (s.live fun s => s.onTrig (vernLost u))

/-- The state timer, at the boundary up to which detections have been evaluated. -/
def stateTimeout (d : Dev) : Dev :=
  if d.acq.evaluating && d.stateDue d.tseq.now then
    (d.stateExpire d.tseq.now).tseqStatus (samplesPer d.mode) d.tseq.now else d

/-- STATE_TIMEOUT (R146). -/
def execStateTimeout (s : State) : Host.Outcome State Fault Refusal := .next (s.live fun s => s.onDev stateTimeout)

/-- The bucket gains a token (R150). -/
def bucketRefill (d : Dev) : Dev := { d with tseq.tokens := min 64 (d.tseq.tokens + 1) }

/-- BUCKET_REFILL (R150). -/
def execBucketRefill (s : State) : Host.Outcome State Fault Refusal := .next (s.live fun s => s.onDev bucketRefill)

/-- TSEQ_RESTART (R174): at the next weft boundary, as ACTION RESTART. -/
def execTseqRestart (who : Requester) (s : State) : Host.Outcome State Fault Refusal :=
  .next (s.live fun s => s.onDev fun d => d.writeGate who 19 0x040 0x100 false fun d => { d with tseq.restart := true })

/-- A provisional trigger's qualification time has run out (R167), up to the tick that has been evaluated. -/
def qualExpired (seg : Nat) (d : Dev) : Dev :=
  match d.tseq.provs.find? fun p => p.seg == some seg && p.kind != .remote with
  | some p => if p.deadline ≤ d.tseq.now * 65536 then
      let d1 := d.expireProv p (p.deadline / 65536 * 8)
      d1.fset Reg.tseq_PROV_OUT d1.tseq.provs.length else d
  | none => d

/-- QUAL_EXPIRED (R167). -/
def execQualExpired (seg : Nat) (s : State) : Host.Outcome State Fault Refusal := .next (s.live fun s => s.onDev (qualExpired seg))

/-- MERGE_POINT (R386). -/
def execMergePoint (s : State) : Host.Outcome State Fault Refusal := .next (s.live fun s => s.onTrig mergePoint)

end Sys2Proof.Machine
end

