-- ==== Sys2Proof/Machine/Weft.lean ====
section
/-!
DEFINITION. One tick of the slice-clock islands as a whole: the Loom's weft, capture, decimation, automatic levels, the tick's
hand-over to the trigger (R86, R121, R128); the arm boundary (R36, R153, R187); a mode change (R72, R136, R201).
-/

namespace Sys2Proof.Machine

/-- Put an edge among those of a tick in order of time. -/
def insertEdge (e : Edge) : List Edge → List Edge
  | [] => [e]
  | x :: t => if e.tu < x.tu then e :: x :: t else x :: insertEdge e t

/-- What the tick of the next weft hands to the trigger, but for its wefts: a snapshot at its weft boundary (R124, R128,
R135). -/
def Dev.trigItem (d : Dev) : TrigItem :=
  let es := (d.vern.edges.filter fun e => e.tick == d.loom.tick).foldl (fun l e => insertEdge e l) []
  { tick := d.loom.tick
    edges := es.map (·.id)
    levels := es.foldl (fun m e => m ^^^ 2 ^ e.src) d.trig.levels
    acc := d.tb.acc
    inc := d.tb.inc
    epoch := d.fget Reg.tbase_EPOCH
    marks := d.tickMarks
    units := (List.range 16).map d.unitCfg
    srcs := (List.range 8).map d.srcInForce
    fs := (d.loom.cur.map (·.fs)).getD []
    banks := (List.range 3).map fun s => (d.tctlOf 19 s).bank
    eval := d.acq.evaluating
    start := d.tseq.start
    restart := d.tseq.restart }

/-- LEVEL_NOW of the units under automatic level (Table 05.9). -/
def Dev.levelNow (d : Dev) : Dev :=
  (List.range 16).foldl (fun (d : Dev) n => d.fsetS Reg.trig_cond_LEVEL_NOW (d.unitCfg n).l1 n) d

/-- One tick: the slices sample, the wefts of the tick before go to the rings, the decimators, the automatic levels and the
trigger. -/
def weftEmit (raw : List (BitVec 12)) (d : Dev) : Dev :=
  let item := d.trigItem
  let passes := d.sliceClock && d.loom.run.isSome && d.loom.cur.isSome
  let r := d.loomTick raw
  let d1 := r.2.foldl (fun (d : Dev) w => ((d.captureWeft w).deciWeft w).autoAdd w) r.1
  if !passes then d1
  else
    let d2 := { d1 with
      trig.todo := d1.trig.todo ++ [{ item with wefts := r.2.map fun (w : Weft) => (w.input, w.samples) }]
      tseq.start := false
      tseq.restart := false }
    (d2.levelNow.ticStart false).trigDrain

/-- WEFT_EMIT (R86). -/
def execWeftEmit (raw : List (BitVec 12)) (s : State) : Host.Outcome State Fault Refusal := .next (s.live fun s => s.onTrig (weftEmit raw))

/-- The arm boundary (R36): rings, sequencer and waiting TIC channels start. Nothing happens without an arm that waits for it. -/
def armBoundary (d : Dev) : Dev :=
  if d.acq.armPending && d.loom.run.isSome then ({ d.armTake with tseq.start := true }).ticStart true else d

/-- ARM_BOUNDARY (R36). -/
def execArmBoundary (s : State) : Host.Outcome State Fault Refusal := .next (s.live fun s => s.onDevHbm armBoundary)

/-- A mode change takes effect (R72): units are initialised anew and candidates fail (R136, R137), rings are laid out afresh
(R201), partitions are aborted (R271). -/
def Dev.changeMode (d : Dev) (m : Nat) : Dev :=
  let d1 := (Dev.flushTicks d.trig.todo.length d).failCandidates
  let d2 := { d1 with
    trig.prev := none
    trig.rt := []
    trig.modeGen := d1.trig.modeGen + 1 }
  (((d2.modeChange m).layAll).tillAbortAll).srcIdle

/-- MODE_WRITE (R72): a write to LOOM_0.CFG. -/
def execModeWrite (who : Requester) (val : Word) (s : State) : Host.Outcome State Fault Refusal :=
  .next (s.live fun s => s.onDevHbm (loomCfgWrite who 0 val.toNat fun m d => d.changeMode m))

end Sys2Proof.Machine
end

