-- ==== Sys2Proof/Machine/Cascade.lean ====
section
/-!
DEFINITION. The cascade (chapter 15): ports, topology and identity, time transfer, trigger messages of other devices, frames and
their acknowledgement, images and copies between devices.
-/

namespace Sys2Proof.Machine

/-! ### Frames received (R373, R374) -/

/-- Take a frame that has arrived on a port in state `lo` to 3: one that fails its CRC is counted and discarded; one already
accepted is discarded; an acknowledged class is acknowledged both times. Also whether the frame is new. -/
def Dev.acceptFrame (d : Dev) (n cls lo : Nat) (c : FrameCheck) : Dev × Bool :=
  let st := d.fget Reg.cas_port_STATE n
  if st < lo || 3 < st then (d, false)
  else if !c.crcOk then (d.finc Reg.cas_port_CRC_ERRS 1 n, false)
  else
    let k := n * 16 + cls
    let seen := KMap.at d.cas.rx [] k
    let d1 := if ackedClass cls then d.emit (.ack n cls (c.seq % 2 ^ 32)) else d
    if seen.contains (c.seq % 2 ^ 32) then (d1, false)
    else ({ d1 with cas.rx := KMap.put d1.cas.rx k (c.seq % 2 ^ 32 :: seen) }, true)

/-- Act on a frame, if it is new. -/
def Dev.onFrame (d : Dev) (n cls lo : Nat) (c : FrameCheck) (f : Dev → Dev) : Dev :=
  let r := d.acceptFrame n cls lo c
  if r.2 then f r.1 else r.1

/-! ### Topology (R376, R377, R381, R382) -/

/-- The two largest of a list. -/
def topTwo (l : List Nat) : Nat × Nat :=
  l.foldl (fun p x => if p.1 ≤ x then (x, p.1) else if p.2 < x then (p.1, x) else p) (0, 0)

/-- The largest number of hops between two devices below this one, or between it and one of them (R377). -/
def Dev.hopsBelow (d : Dev) : Nat :=
  let heights := (List.range 4).map fun n => ((d.belowPort n).map (·.2)).foldl max 0
  let inside := (List.range 4).map fun n => if d.downUp n then ((d.casPort n).peer.map (·.hops)).getD 0 else 0
  max ((topTwo heights).1 + (topTwo heights).2) (inside.foldl max 0)

/-- Whether this device or one below it has an alternate uplink (R382). -/
def Dev.anyAlternate (d : Dev) : Bool :=
  (!d.flag Reg.cas_ROOT && (d.uplink 2).isSome) ||
    (List.range 4).any fun n => d.downUp n && ((d.casPort n).peer.map (·.alternates)).getD false

/-- The MGMT frame of the far end of the uplink in use, if that leads to a root. -/
def Dev.parent (d : Dev) : Option MgmtFrame :=
  (d.activeUplink.bind fun n => if 2 ≤ d.fget Reg.cas_port_STATE n ∧ d.fget Reg.cas_port_STATE n ≤ 3 then (d.casPort n).peer else none).filter
    fun m => m.depth.isSome

/-- The roots that the far ends of the links know of. -/
def Dev.knownRoots (d : Dev) : List Nat :=
  (List.range 4).flatMap fun n =>
    if 2 ≤ d.fget Reg.cas_port_STATE n ∧ d.fget Reg.cas_port_STATE n ≤ 3 then
      ((d.casPort n).peer.map fun m => (if m.depth.isSome then [m.rootId] else []) ++ m.otherRoot.toList).getD []
    else []

/-- The root that this device belongs to. -/
def Dev.myRoot (d : Dev) : Option Nat := if d.flag Reg.cas_ROOT then some (d.fget Reg.cas_DEV_ID) else d.parent.map (·.rootId)

/-- A root other than its own that the device has learnt of: the lowest (log entry 34). -/
def Dev.otherRoot (d : Dev) : Option Nat :=
  match d.myRoot with
  | none => none
  | some r => (d.knownRoots.filter (· != r)).foldl (fun o x => some (match o with
    | some y => min x y
    | none => x)) none

/-- What the device says of itself in a MGMT frame on a port. Its subtree it reports up the uplink in use. -/
def Dev.mgmtOf (d : Dev) (n : Nat) : MgmtFrame :=
  let up := d.activeUplink == some n
  { devId := d.fget Reg.cas_DEV_ID
    root := d.flag Reg.cas_ROOT
    depth := if d.flag Reg.cas_ROOT then some 0 else d.parent.map fun m => m.depth.getD 0 + 1
    rootId := d.myRoot.getD 0
    otherRoot := d.otherRoot
    hopsMax := d.fget Reg.cas_HOPS_MAX
    horizon := d.fget Reg.cas_HORIZON_NS
    below := if up then (List.range 4).flatMap d.belowPort else []
    hops := if up then d.hopsBelow else 0
    alternates := up && d.anyAlternate }

/-- The status of the topology after a change: ROLE_NOW, DEPTH, ROOT_ID, HOPS_MAX, and at a member the root's horizon (R377, R381). -/
def Dev.topology (d : Dev) : Dev :=
  let set := fun (d : Dev) (role depth root hops : Nat) =>
    (((d.fset Reg.cas_ROLE_NOW role).fset Reg.cas_DEPTH depth).fset Reg.cas_ROOT_ID root).fset Reg.cas_HOPS_MAX hops
  if d.flag Reg.cas_ROOT then set d 1 0 (d.fget Reg.cas_DEV_ID) (min 31 d.hopsBelow)
  else match d.parent with
    | some m => (set d 2 (m.depth.getD 0 + 1) m.rootId m.hopsMax).fset Reg.cas_HORIZON_NS (clampNat 500 16000 m.horizon)
    | none => set d 0 0 0 0

/-- ROOT_CONFLICT and HORIZON_SHORT, as each condition begins; of two roots that with the higher DEV_ID yields and coasts (R377, R382). -/
def Dev.rootChecks (d : Dev) : Dev :=
  let root := d.flag Reg.cas_ROOT
  let c := root && d.otherRoot.isSome
  let need := 200 + 96 * d.fget Reg.cas_HOPS_MAX + (if d.anyAlternate then 2000 else 0)
  let s := root && decide (d.fget Reg.cas_HORIZON_NS < need)
  let y := c && d.knownRoots.any fun r => decide (r < d.fget Reg.cas_DEV_ID)
  let d0 := if y && !d.cas.yields then refLost d else d
  let d1 := { d0 with cas.conflict := c, cas.yields := y, cas.short := s }
  let d2 := if c && !d.cas.conflict then d1.raise 69 Ev.cas_ROOT_CONFLICT else d1
  if s && !d.cas.short then d2.raise 69 Ev.cas_HORIZON_SHORT else d2

/-- Send a MGMT frame on a port that measures or is up, where there is something new to say. -/
def Dev.tell (d : Dev) (n : Nat) : Dev :=
  let st := d.fget Reg.cas_port_STATE n
  let m := d.mgmtOf n
  if st < 2 || 3 < st || (d.casPort n).told == some m then d
  else (d.setCasPort n { d.casPort n with told := some m }).sendFrame n 3 (.mgmt m)

/-- A change of the topology, or of what the device says of itself. -/
def casUpdate (d : Dev) : Dev := (List.range 4).foldl Dev.tell d.topology.rootChecks

/-! ### Time transfer (R378, R379) -/

/-- The timebase source of the cascade is lost: SYNCED clears, and a timebase disciplined by it coasts (R62, R379). -/
def Dev.syncLost (d : Dev) : Dev :=
  let d1 := d.fbit Reg.cas_SYNCED false
  if d1.fget Reg.tbase_REF_SEL = 3 then refLost d1 else d1

/-- Begin the measurement of a port's delay. -/
def Dev.measureAgain (d : Dev) (n : Nat) : Dev := d.setCasPort n { d.casPort n with exchanges := 0, delaySum := 0 }

/-- The primary uplink is lost: the device switches to its alternate, if that is up, and measures it (R379). -/
def failover (d : Dev) : Dev :=
  if d.flag Reg.cas_ROOT || d.flag Reg.cas_ALT_ACTIVE then d
  else match (d.uplink 2).filter d.portUp with
    | none => casUpdate d.syncLost
    | some n => casUpdate ((((((d.syncLost.fbit Reg.cas_ALT_ACTIVE true).finc Reg.cas_FAILOVERS).degrade 69 0 true).planSoon.measureAgain n).raise 69
        Ev.cas_FAILOVER))

/-- The primary uplink has been up for 1 s: the device returns to it along the same path (R379). -/
def primaryReturn (d : Dev) : Dev :=
  match (d.uplink 1).filter d.portUp with
  | none => d
  | some n => if d.flag Reg.cas_ALT_ACTIVE then
      casUpdate (((d.syncLost.fbit Reg.cas_ALT_ACTIVE false).degrade 69 0 false).measureAgain n) else d

/-- The six 32-bit words of a SYNC frame: two times in the layout of R58, the epoch bits zero (R378). -/
def syncPayload (depart arrive : Nat) : List Nat :=
  let ws := stampWords 0 depart ++ stampWords 0 arrive
  [ws.getD 0 0 + 2 ^ 32 * ws.getD 1 0, ws.getD 2 0 + 2 ^ 32 * ws.getD 3 0, ws.getD 4 0 + 2 ^ 32 * ws.getD 5 0]

/-- SYNC frames leave every port that measures or is up, at the times that the port's vernier unit takes; a root that yields to
another sends none (R377, R378). -/
def syncSend (departs : List Nat) (d : Dev) : Dev :=
  if d.cas.yields then d
  else (List.range 4).foldl (fun (d : Dev) n =>
    if d.fget Reg.cas_port_STATE n = 2 ∨ d.fget Reg.cas_port_STATE n = 3 then
      d.sendFrame n 1 (.words (d.fget Reg.cas_DEV_ID) 0x3FF (syncPayload (departs.getD n 0 % 2 ^ 80) (d.casPort n).got))
    else d) d

/-- The mean of k values that sum to a number of 2^-17 nominal ticks, in fs, rounded (R58). -/
def Dev.fsOf (d : Dev) (x : Int) (k : Nat := 1) : Int := roundDivAway (x * 8000000000000) (k * 2 ^ 17 * max 1 (d.fget Reg.tbase_NOMINAL_FREQ))

/-- A SYNC frame's exchange: the child's delay and offset (R378). DELAY is the mean of 64 exchanges; the loop is fed −offset where the
timebase follows this port; the source is valid after 100 µs of frames, and after a failover once the delay has been measured again
(R379). -/
def syncExchange (n : Nat) (t : SyncTimes) (d : Dev) : Dev :=
  let p := d.casPort n
  let up := d.fget Reg.cas_port_ROLE n = 1 ∨ d.fget Reg.cas_port_ROLE n = 2
  let two := ((t.t2 : Int) - t.t1) + ((t.t4 : Int) - t.t3)
  let asym := d.fgetS Reg.cas_port_ASYM n
  let delay := d.fsOf two - asym
  let offset := d.fsOf (2 * ((t.t2 : Int) - t.t1)) - delay
  let k := p.exchanges + 1
  let sum := if k ≤ 64 then p.delaySum + two else p.delaySum
  let d1 := d.setCasPort n { p with
    got := if up then t.t2 else t.t4
    exchanges := k
    frames := p.frames + 1
    delaySum := sum }
  let d2 := if k = 64 then d1.fset Reg.cas_port_DELAY (clampInt 0 0xFFFFFFFF (d.fsOf sum 64 - asym)).toNat n
    else d1
  if d.flag Reg.cas_ROOT || !decide up then d2
  else
    let d3 := d2.fsetS Reg.cas_port_OFFSET (clampInt (-2147483648) 2147483647 offset) n
    if d.activeUplink ≠ some n then d3
    else
      let err := -(roundDivAway (offset * (2 ^ 16 * d.fget Reg.tbase_NOMINAL_FREQ : Nat)) 8000000000000)
      let d4 :=
        if d3.fget Reg.tbase_REF_SEL ≠ 3 then d3
        else if d3.flag Reg.tbase_REF_VALID && !d3.flag Reg.tbase_COASTING then d3.track d3.tb.inc err
        else d3.fsetS Reg.tbase_PHASE_ERR (clampInt (-2147483648) 2147483647 err)
      if 100 ≤ p.frames + 1 ∧ 64 ≤ k then d4.fbit Reg.cas_SYNCED true else d4

/-- A SYNC frame arrives. -/
def syncFrame (n : Nat) (c : FrameCheck) (t : SyncTimes) (d : Dev) : Dev := d.onFrame n 1 2 c (syncExchange n t)

/-! ### Frames without acknowledgement (R374) -/

/-- The next hop acknowledges a frame. -/
def frameAcknowledged (n cls seq : Nat) (d : Dev) : Dev :=
  { d with cas.held := d.cas.held.filter fun h => !(h.port == n && h.cls == cls && h.seq == seq) }

/-- The port on which a frame is sent again: the alternate uplink in place of the primary, else the same port; none while that is
down. -/
def Dev.resendPort (d : Dev) (n : Nat) : Option Nat :=
  if d.fget Reg.cas_port_ROLE n = 1 ∧ !d.flag Reg.cas_ROOT then
    (match (d.uplink 2).filter d.portUp with
    | some a => some a
    | none => if d.portUp n then some n else none)
  else if d.portUp n then some n else none

/-- Send a held frame again: on its own port as it was, on another port as that port's next frame. TIMEOUT_COUNT, RECOVERY_COUNT and
RESENDS count it; a change of path raises FAILOVER (Table 17.2). -/
def Dev.resend (d : Dev) (h : HeldFrame) : Dev :=
  match d.resendPort h.port with
  | none => d
  | some n =>
    let d1 := ((d.countTimeout 69).countRecovery 69).finc Reg.cas_RESENDS
    if n = h.port then (d1.logErr 69 0xF1 n h.seq).emit (frameOut n h.cls h.seq h.what)
    else ((({ d1 with cas.held := d1.cas.held.filter (· != h) }).sendFrame n h.cls h.what).raise 69 Ev.cas_FAILOVER).logErr 69
      Ev.cas_FAILOVER n h.seq

/-- 2 µs have passed without an acknowledgement. -/
def frameAckTimeout (n cls seq : Nat) (d : Dev) : Dev :=
  match d.cas.held.find? fun h => h.port == n && h.cls == cls && h.seq == seq with
  | some h => d.resend h
  | none => d

/-! ### Ports (R372, R390) -/

/-- Whether a port may train: EN, a ROLE, and a cable (R372). -/
def Dev.mayTrain (d : Dev) (n : Nat) : Bool := d.flag Reg.cas_EN && d.fget Reg.cas_port_ROLE n != 0 && d.flag Reg.cas_port_PRSNT n

/-- A port in state 0 that may train does: its frame counts on the receiving side begin afresh (log entry 34). -/
def Dev.portTrain (d : Dev) (n : Nat) : Dev :=
  if d.fget Reg.cas_port_STATE n != 0 || !d.mayTrain n then d
  else { (d.fset Reg.cas_port_STATE 1 n).setCasPort n {} with
    cas.rx := d.cas.rx.filter fun e => e.1 / 16 != n }

/-- CAS_n_PRSNT_N goes low. -/
def portPresent (n : Nat) (d : Dev) : Dev := (d.fbit Reg.cas_port_PRSNT true n).portTrain n

/-- Training completes: the ends exchange MGMT frames and measure the link. -/
def portTrained (n : Nat) (d : Dev) : Dev :=
  if d.fget Reg.cas_port_STATE n = 1 then casUpdate ((d.fset Reg.cas_port_STATE 2 n).measureAgain n) else d

/-- The link has been measured: the port is up. -/
def portUpNow (n : Nat) (d : Dev) : Dev :=
  if d.fget Reg.cas_port_STATE n = 2 then
    casUpdate ((d.fset Reg.cas_port_STATE 3 n).raise 69 (Ev.cas_PORT_UP + n))
  else d

/-- A port leaves its link for a state: PORT_DOWN where it was up, the time source fails over, held frames are sent again. -/
def Dev.portLeave (d : Dev) (n st : Nat) : Dev :=
  let up := d.portUp n
  let src := d.activeUplink == some n
  let d1 := ((d.fset Reg.cas_port_STATE st n).fset Reg.cas_port_PEER_ID 0 n).setCasPort n {}
  let d2 := if up then d1.raise 69 (Ev.cas_PORT_DOWN + n) else d1
  let d3 := if up && src then (if d2.flag Reg.cas_ALT_ACTIVE then (d2.syncLost).further 69 1 else failover d2) else d2
  casUpdate ((d3.cas.held.filter fun h => h.port == n).foldl (fun (d : Dev) h => d.resend h) d3)

/-- CAS_n_PRSNT_N goes high, or block lock is lost for 1 µs. -/
def portDown (n : Nat) (present : Bool) (d : Dev) : Dev :=
  let d1 := if present then d else d.fbit Reg.cas_port_PRSNT false n
  if d1.fget Reg.cas_port_STATE n = 0 then d1 else d1.portLeave n 0

/-- A ROLE, EN, ROOT, DEV_ID or HORIZON_NS has been written: ports train that may, ports in role 0 go off (log entry 34). -/
def casConfig (d : Dev) : Dev :=
  casUpdate ((List.range 4).foldl (fun (d : Dev) n =>
    if d.fget Reg.cas_port_ROLE n = 0 ∧ d.fget Reg.cas_port_STATE n ≠ 0 then d.portLeave n 0 else d.portTrain n) d)

/-- A MGMT frame: the far end's identity and topology; equal DEV_IDs block the port (R377). -/
def mgmtFrame (n : Nat) (c : FrameCheck) (m : MgmtFrame) (d : Dev) : Dev :=
  d.onFrame n 3 2 c fun d =>
    if m.devId = d.fget Reg.cas_DEV_ID then
      ((d.portLeave n 4).raise 69 Ev.cas_ID_CONFLICT).fset Reg.cas_port_PEER_ID m.devId n
    else casUpdate ((d.setCasPort n { d.casPort n with peer := some m }).fset Reg.cas_port_PEER_ID m.devId n)

/-! ### Trigger messages of other devices (R375, R384, R385) -/

/-- The full tick count nearest the device's own whose low 24 bits are given (R385). -/
def rebuildTick (now lo : Nat) : Nat :=
  let base := now / 2 ^ 24 * 2 ^ 24 + lo % 2 ^ 24
  if now + 2 ^ 23 < base ∧ 2 ^ 24 ≤ base then base - 2 ^ 24 else if base + 2 ^ 23 < now then base + 2 ^ 24 else base

/-- The trigger sample index of an instant in 2^-16 nominal ticks, on the device's own stream, at its present INC (log entry 34). -/
def Dev.indexAt (d : Dev) (stamp : Nat) : Int :=
  let n := samplesPer d.mode
  (((d.loom.tick * d.tb.inc : Nat) + ((stamp * 2 ^ 16 : Nat) - (d.tb.acc : Int))) * (n : Int)).fdiv (max 1 d.tb.inc : Nat)

/-- A remote trigger joins those that wait for their merge point. -/
def Dev.remoteTrigger (d : Dev) (m : TrigMessage) (stamp : Nat) (prov : Bool) : Dev :=
  let id := d.tseq.nextId
  let g : Merge := {
    id := id
    stamp := stamp
    epoch := d.fget Reg.tbase_EPOCH
    origin := m.origin.toNat
    seqT := m.seqT.toNat
    loc := false
    t := d.indexAt stamp
    cause := d.fget Reg.cas_RX_CAUSE
    fb := false
    prov := prov }
  let d1 := { d with tseq.nextId := id + 1, tseq.merge := d.tseq.merge ++ [g] }
  if !prov then d1
  else
    let p : Prov := {
      id := id
      kind := .remote
      seg := none
      deadline := stamp + 2 * d.fget Reg.cas_H_TICKS * 65536
      origin := m.origin.toNat
      seqT := m.seqT.toNat
      stamp := stamp }
    let d2 := { d1 with tseq.provs := d1.tseq.provs ++ [p] }
    d2.fset Reg.tseq_PROV_OUT d2.tseq.provs.length

/-- The outstanding provisional remote trigger of an ORIGIN and SEQ_T. -/
def Dev.remoteProv (d : Dev) (origin seqT : Nat) : Option Prov :=
  d.tseq.provs.find? fun p => p.kind == .remote && p.origin == origin && p.seqT == seqT

/-- Remember an accepted message. -/
def Dev.rxRemember (d : Dev) (m : TrigMessage) : Dev :=
  { d with cas.msgs := d.cas.msgs ++ [{ origin := m.origin.toNat, seqT := m.seqT.toNat, typ := m.typ.toNat, at16 := d.nowStamp16 }] }

/-- Handle a trigger message (R385, R386): late ones and duplicates are refused, a CONFIRM or CANCEL resolves, the rest are remote
triggers. -/
def trigMessage (m : TrigMessage) (d : Dev) : Dev :=
  let now := d.nowStamp16
  let h := d.fget Reg.cas_H_TICKS * 65536
  let stamp := rebuildTick (now / 65536) m.tickLo.toNat * 65536 + m.frac.toNat
  let d0 := { d with cas.msgs := d.cas.msgs.filter fun x => decide (now ≤ x.at16 + 2 * h) }
  let same := d0.cas.msgs.filter fun x => x.origin == m.origin.toNat && x.seqT == m.seqT.toNat
  let after := match d.acq.stopAt with
    | some t => decide (t < stamp)
    | none => false
  if !d.flag Reg.cas_TRIG_RX || !d.armed || after || m.typ = 3 then d
  else
    let fresh := m.typ = 0 ∨ (m.typ = 1 ∧ !(same.any fun x => x.typ == 0))
    if fresh ∧ stamp + h < now then (d0.finc Reg.cas_LATE_REJECT).raise 69 Ev.cas_LATE
    else if same.any fun x => x.typ == m.typ.toNat then d0.finc Reg.cas_DUP_DROP
    else if m.typ = 0 then (d0.remoteTrigger m stamp true).rxRemember m
    else match d0.remoteProv m.origin.toNat m.seqT.toNat with
      | some p =>
        let d1 := (if m.typ = 1 then d0.confirmProv p 0 else d0.cancelProv p 0).rxRemember m
        d1.fset Reg.tseq_PROV_OUT d1.tseq.provs.length
      | none => if m.typ = 1 then (d0.remoteTrigger m stamp false).rxRemember m else d0

/-- Remember a message as forwarded: of an ORIGIN, those of the last 2,048 trigger numbers are kept (DESIGN CHOICE, log entry 34). -/
def Dev.passOn (d : Dev) (m : TrigMessage) : Dev :=
  let k := (m.origin.toNat, m.seqT.toNat, m.typ.toNat)
  { d with cas.passed := k :: d.cas.passed.filter fun x => x.1 != k.1 || decide ((k.2.1 + 4096 - x.2.1) % 4096 < 2048) }

/-- A TRIG frame arrives: it joins, once, the forwarding delay line for every other port that is up, and its message is handled. -/
def trigFrame (n : Nat) (c : FrameCheck) (m : TrigMessage) (d : Dev) : Dev :=
  d.onFrame n 2 3 c fun d0 =>
    let known := d0.cas.passed.contains (m.origin.toNat, m.seqT.toNat, m.typ.toNat)
    let ports := if known then [] else d0.upPorts.filter (· != n)
    let d := if known then d0 else d0.passOn m
    let w := trigPayload m.typ.toNat m.origin.toNat m.seqT.toNat (m.tickLo.toNat * 65536 + m.frac.toNat)
    trigMessage m { d with
      cas.forward := if ports.isEmpty then d.cas.forward
        else d.cas.forward ++ [{ ports := ports, what := .words m.origin.toNat 0x3FF [w] }] }

/-- The delay line releases its oldest frame, on the ports that are still up. -/
def trigForward (d : Dev) : Dev :=
  match d.cas.forward with
  | [] => d
  | f :: rest => (f.ports.filter d.portUp).foldl (fun (d : Dev) n => d.sendFrame n 2 f.what) { d with cas.forward := rest }

/-- A provisional remote trigger is unresolved 2H after its instant: QUAL_EXPIRED, and it is cancelled. -/
def remoteQualExpired (origin seqT : Nat) (d : Dev) : Dev :=
  match d.remoteProv origin seqT with
  | none => d
  | some p =>
    if p.deadline ≤ d.nowStamp16 then
      let d1 := d.expireProv p 0
      d1.fset Reg.tseq_PROV_OUT d1.tseq.provs.length
    else d

/-! ### Images of other devices (R387) -/

/-- A piece of an image arrives: the first begins it, each later one must join on. -/
def Dev.imagePiece (d : Dev) (src k first : Nat) (ws : List Nat) : Dev :=
  let key := src * 16 + k
  if first = 0 then { d with cas.images := KMap.put d.cas.images key ws }
  else match KMap.find d.cas.images key with
    | none => d
    | some got => if got.length = first then { d with cas.images := KMap.put d.cas.images key (got ++ ws) } else d

/-- Whether a received image can be merged into partition k: its CRC, the partition's mode and image, the
cases of R296, and no full training of a stack (R336). -/
def Dev.xaccOk (d : Dev) (k : Nat) (h image : List Nat) : Bool :=
  let t := d.shape k
  h.getD 14 0 == crc32c image && bitField (h.getD 0 0) 4 3 == t.mode && decide (t.mode ≤ 2) && image.length == t.words && d.partIs k != 3 &&
    !d.flag Reg.accu_part_AUTO_DUMP k && (t.mode != 0 || decide (d.fget Reg.accu_part_RECORDS k + h.getD 6 0 ≤ d.recordLimit k)) &&
    !d.flag Reg.mems_TRAINING

/-- A whole image has arrived: it is merged into its partition, behind a running sweep, or refused (R387, R296). -/
def State.xaccImage (s : State) (k src : Nat) : State :=
  match KMap.find s.dev.cas.images (src * 16 + k) with
  | none => s
  | some ws =>
    let h := ws.take 16
    let image := ws.drop 16
    if ws.length < 16 || 4 * image.length < h.getD 13 0 || (s.dev.part k).sweep.isSome then s
    else
      let s1 := s.onDev fun d => { d with cas.images := KMap.del d.cas.images (src * 16 + k) }
      if s.dev.xaccOk k h image then (s1.tillMerge k (h.getD 6 0) ((image.flatMap wordBytes).map (·.toNat))).onDev fun d => d.snapDue k true
      else s1.onDev fun d => (d.raise 69 Ev.cas_XACC_REFUSED).sendData (d.fget Reg.cas_DEV_ID) src (.imageRefused k)

/-! ### Copies between devices (R388, R389) -/

/-- Whether a copy of `len` bytes may land at an offset of the HBM tier here. -/
def Dev.copyOk (d : Dev) (dst len : Nat) : Bool :=
  let sp := (dst, len)
  let meets := fun (b n : Nat) => n != 0 && spansMeet sp (b, n)
  decide (dst + len ≤ hbmSize) && !(d.ringsOn.any fun r => spansMeet sp (d.ringSpan r)) && !spansMeet sp d.ledgSpan && !d.flag Reg.mems_TRAINING &&
    (List.range 16).all fun k =>
      let t := d.shape k
      !meets (d.fget Reg.accu_part_DUMP_BASE k * 65536) (d.fget Reg.accu_part_DUMP_SLOTS k * t.slotBytes) &&
      !meets (d.fget Reg.accu_part_RES_BASE k * 65536) (d.fget Reg.accu_part_RES_SIZE k * 65536) &&
      !meets (d.fget Reg.accu_part_EXT_BASE k * 65536) (if d.flag Reg.accu_part_HBM_EXT k then 4 * (t.points - t.capacity) else 0)

/-- The length of the copy that XFER_LEN asks for. -/
def Dev.xferLen (d : Dev) : Nat := if d.fget Reg.cas_XFER_LEN = 0 then 2 ^ 32 else d.fget Reg.cas_XFER_LEN

/-- GO: ignored while a copy runs; an address or length off the grid of 64 refuses it (R389, R514). The bytes leave in DATA frames; a
copy to the device itself is made when it completes. -/
def State.xferGo (s : State) : State :=
  let d := s.dev
  let src := d.fget64 Reg.cas_XFER_SRC_W0 Reg.cas_XFER_SRC_W1
  let dst := d.fget64 Reg.cas_XFER_DST_W0 Reg.cas_XFER_DST_W1
  let id := d.fget Reg.cas_XFER_ID
  let me := d.fget Reg.cas_DEV_ID
  let len := d.xferLen
  let bad : Option Field := if src % 64 ≠ 0 then some Reg.cas_XFER_SRC_W0 else if dst % 64 ≠ 0 then some Reg.cas_XFER_DST_W0
    else if len % 64 ≠ 0 then some Reg.cas_XFER_LEN else none
  if d.flag Reg.cas_BUSY then s
  else match bad with
    | some f => s.onDev fun d => d.logErr 69 0xF2 0 (fieldLocator f)
    | none =>
      s.onDev fun d =>
        let d1 := ({ d with cas.xfer := some (src, dst, len, id) }.fbit Reg.cas_BUSY true).fbit Reg.cas_ERR false
        if id = me then d1
        else (List.range ((len + 511) / 512)).foldl (fun (d : Dev) k =>
          d.sendData me id (.copy dst len (512 * k) (s.hbmWords (src + 512 * k) (min 128 ((len - 512 * k) / 4))))) d1

/-- The copy has completed, or its destination has refused it: XFER_DONE (R389). -/
def State.xferDone (s : State) (ok : Bool) : State :=
  match s.dev.cas.xfer with
  | none => s
  | some (src, dst, len, id) =>
    let here := id == s.dev.fget Reg.cas_DEV_ID
    let good := if here then s.dev.copyOk dst len else ok
    let s1 := if here && good then s.hbmStore dst (s.hbmWords src (len / 4)) else s
    s1.onDev fun d => (({ d with cas.xfer := none }.fbit Reg.cas_BUSY false).fbit Reg.cas_ERR (!good)).raise 69 Ev.cas_XFER_DONE

/-- Bytes of a copy arrive: the first decide whether it may land; the last are answered. -/
def State.copyPiece (s : State) (src dst len at_ : Nat) (ws : List Nat) : State :=
  let answer := fun (s : State) (ok : Bool) => s.onDev fun d => d.sendData (d.fget Reg.cas_DEV_ID) src (.copyDone ok)
  let s1 := if at_ = 0 ∧ s.dev.copyOk dst len then s.onDev fun d => { d with cas.copies := KMap.put d.cas.copies src len } else s
  if at_ = 0 ∧ !s.dev.copyOk dst len then answer (s.onDev fun d => { d with cas.copies := KMap.del d.cas.copies src }) false
  else match KMap.find s1.dev.cas.copies src with
    | none => s1
    | some left =>
      let s2 := s1.hbmStore (dst + at_) ws
      if left ≤ 4 * ws.length then answer (s2.onDev fun d => { d with cas.copies := KMap.del d.cas.copies src }) true
      else s2.onDev fun d => { d with cas.copies := KMap.put d.cas.copies src (left - 4 * ws.length) }

/-- A DATA frame lands here. -/
def State.dataLand (s : State) (src : Nat) (p : DataPart) : State :=
  match p with
  | .image k first ws => s.onDev fun d => d.imagePiece src (k % 16) first ws
  | .imageRefused _ => s.onDev fun d => d.raise 69 Ev.cas_XACC_REFUSED
  | .copy dst len at_ ws => s.copyPiece src dst len at_ ws
  | .copyDone ok => if (s.dev.cas.xfer.map (·.2.2.2)) = some src then s.xferDone ok else s

/-- A DATA frame arrives: it lands, or goes on toward its destination (R388). -/
def State.dataFrame (s : State) (n : Nat) (c : FrameCheck) (f : DataFrame) : State :=
  let r := s.dev.acceptFrame n 4 3 c
  let s1 := s.onDev fun _ => r.1
  if !r.2 then s1
  else if f.dst = s.dev.fget Reg.cas_DEV_ID then s1.dataLand f.src f.part
  else s1.onDev fun d => d.sendData f.src f.dst f.part

/-! ### Commands -/

/-- PORT_PRESENT (R390). -/
def execPortPresent (n : Fin 4) (s : State) : Host.Outcome State Fault Refusal := .next (s.live fun s => s.onDev (portPresent n))

/-- PORT_TRAINED (R390). -/
def execPortTrained (n : Fin 4) (s : State) : Host.Outcome State Fault Refusal := .next (s.live fun s => s.onDev (portTrained n))

/-- PORT_UP (R390). -/
def execPortUp (n : Fin 4) (s : State) : Host.Outcome State Fault Refusal := .next (s.live fun s => s.onDev (portUpNow n))

/-- PORT_DOWN (R390). -/
def execPortDown (n : Fin 4) (present : Bool) (s : State) : Host.Outcome State Fault Refusal :=
  .next (s.live fun s => s.onDev (portDown n present))

/-- MGMT_FRAME (R377). -/
def execMgmtFrame (n : Fin 4) (check : FrameCheck) (frame : MgmtFrame) (s : State) : Host.Outcome State Fault Refusal :=
  .next (s.live fun s => s.onDev (mgmtFrame n check frame))

/-- SYNC_SEND (R378). -/
def execSyncSend (departs : List Nat) (s : State) : Host.Outcome State Fault Refusal := .next (s.live fun s => s.onDev (syncSend departs))

/-- SYNC_FRAME (R378). -/
def execSyncFrame (n : Fin 4) (check : FrameCheck) (frame : SyncTimes) (s : State) : Host.Outcome State Fault Refusal :=
  .next (s.live fun s => s.onDev (syncFrame n check frame))

/-- FAILOVER (R379). -/
def execFailover (s : State) : Host.Outcome State Fault Refusal := .next (s.live fun s => s.onDev failover)

/-- PRIMARY_RETURN (R379). -/
def execPrimaryReturn (s : State) : Host.Outcome State Fault Refusal := .next (s.live fun s => s.onDev primaryReturn)

/-- TRIG_FRAME (R385). -/
def execTrigFrame (n : Fin 4) (check : FrameCheck) (frame : TrigMessage) (s : State) : Host.Outcome State Fault Refusal :=
  .next (s.live fun s => s.onTrig (trigFrame n check frame))

/-- TRIG_FORWARD (R375). -/
def execTrigForward (s : State) : Host.Outcome State Fault Refusal := .next (s.live fun s => s.onDev trigForward)

/-- FRAME_ACK_TIMEOUT (R374). -/
def execFrameAckTimeout (n : Fin 4) (cls seq : Nat) (s : State) : Host.Outcome State Fault Refusal :=
  .next (s.live fun s => s.onDev (frameAckTimeout n cls seq))

/-- FRAME_ACKNOWLEDGED (R374). -/
def execFrameAcknowledged (n : Fin 4) (cls seq : Nat) (s : State) : Host.Outcome State Fault Refusal :=
  .next (s.live fun s => s.onDev (frameAcknowledged n cls seq))

/-- DATA_FRAME (R388). -/
def execDataFrame (n : Fin 4) (check : FrameCheck) (frame : DataFrame) (s : State) : Host.Outcome State Fault Refusal :=
  .next (s.live fun s => s.dataFrame n check frame)

/-- REMOTE_QUAL_EXPIRED (R385). -/
def execRemoteQualExpired (origin seqT : Nat) (s : State) : Host.Outcome State Fault Refusal :=
  .next (s.live fun s => s.onDevHbm (remoteQualExpired origin seqT))

/-- XACC_IMAGE (R387). -/
def execXaccImage (k : Fin 16) (src : Nat) (s : State) : Host.Outcome State Fault Refusal := .next (s.live fun s => s.xaccImage k src)

/-- XFER_GO (R389): a write to XFER_ID's register with GO at 1. -/
def execXferGo (who : Requester) (val : Word) (s : State) : Host.Outcome State Fault Refusal :=
  .next (s.live fun s =>
    if s.dev.flag Reg.hdr_FREEZE 69 then s.onDev fun d => d.logDiscard who 69 0x084 val.toNat
    else ((s.onDev fun d => d.fset Reg.cas_XFER_ID val.toNat).xferGo).onDev fun d => d.cfgEpoch 69)

/-- XFER_DONE (R389). -/
def execXferDone (ok : Bool) (s : State) : Host.Outcome State Fault Refusal := .next (s.live fun s => s.xferDone ok)

end Sys2Proof.Machine
end

