-- ==== Sys2Proof/Machine/Tables.lean ====
section
/-!
DEFINITION. Table windows and TABLE_LOAD (R481 to R488): the tables of every page, reads and writes through the window and the
BAR2 aperture, CRCs, copies, swaps with their owners' checks, and Tyast images.
-/

namespace Sys2Proof.Machine

/-! ### The tables of the device -/

/-- The kinds of table (R482). -/
inductive TableKind where
  | banked | direct | readOnly
  deriving DecidableEq, Repr

/-- KIND of TABLE_CTRL (Table 21.5). -/
def TableKind.code : TableKind → Nat
  | .banked => 0
  | .direct => 1
  | .readOnly => 2

/-- What a table is: its kind, its words (TABLE_LEN), whether its writes follow R16. -/
structure TableDef where
  kind : TableKind
  len : Nat
  expert : Bool := false
  deriving DecidableEq, Repr

/-- The injectable EVENT bits of a page (R508, Table 17.8). -/
def injMapWord (p : Nat) : Nat :=
  if p = 2 then 0x3 else if p = 3 then 0x62 else if p = 5 then 0x3FF else if p = 6 then 0x11
  else if 8 ≤ p ∧ p ≤ 15 then 1 else if p = 17 then 0x32C0 else if p = 18 then 2 else if p = 20 then 3
  else if p = 21 then 0x2200 else if p = 22 then 4 else if p = 23 then 0x20 else if p = 24 then 2
  else if p = 25 then 0x340000 else if p = 26 then 0x1F0 else if p = 28 then 2 else if p = 29 then 3
  else if 32 ≤ p ∧ p ≤ 63 then 1 else if p = 64 ∨ p = 65 then 0xC else if p = 66 then 1 else if p = 68 then 0x41
  else if p = 69 then 0x1F0 else 0

/-- Frozen pseudo-channels, lowest first (MEMS.FROZEN). -/
def Dev.frozenPcs (d : Dev) : List Nat :=
  (List.range 64).filter fun p => bitAt (d.fget64 Reg.mems_FROZEN_W0 Reg.mems_FROZEN_W1) p

/-- The table at a TABLE_SEL of a page (R67, R95, R118, R144 to R147, R164, R215, R222, R234, R243, R275, R304, R322, R352,
R353, R371, R387, R407, R427, R443, R470). ALARM is banked (DEDUCED, log entry 28). -/
def Dev.tableDef (d : Dev) (page sel : Nat) : Option TableDef :=
  if page = 4 then (if sel = 0 then some ⟨.readOnly, 96, false⟩ else if sel = 1 then some ⟨.readOnly, 64, false⟩ else none)
  else if page = 6 then (if sel = 0 then some ⟨.readOnly, 32768, false⟩ else none)
  else if page = 7 then (if sel = 0 then some ⟨.readOnly, 128, false⟩ else none)
  else if 12 ≤ page ∧ page ≤ 15 then
    (if sel = 0 then some ⟨.banked, 68, true⟩ else if sel ≤ 3 then some ⟨.banked, 272, true⟩ else none)
  else if page = 16 then (if sel = 0 then some ⟨.banked, 544, true⟩ else if sel = 1 then some ⟨.readOnly, 32, false⟩ else none)
  else if page = 17 then
    (if sel = 0 then some ⟨.readOnly, 544, false⟩ else if sel = 1 then some ⟨.readOnly, 16, false⟩
     else if sel = 2 then some ⟨.readOnly, 32, false⟩ else if sel = 3 then some ⟨.readOnly, 128, false⟩ else none)
  else if page = 19 then
    (if sel = 0 then some ⟨.banked, 256, false⟩ else if sel = 1 then some ⟨.banked, 32, false⟩
     else if sel = 2 then some ⟨.banked, 64, false⟩ else none)
  else if page = 20 then (if sel < 3 then some ⟨.banked, 2048, true⟩ else none)
  else if page = 23 then (if sel = 0 then some ⟨.banked, 256, false⟩ else if sel = 1 then some ⟨.readOnly, 256, false⟩ else none)
  else if page = 24 then (if sel < 8 then some ⟨.banked, 32, false⟩ else if sel = 8 then some ⟨.readOnly, 64, false⟩ else none)
  else if page = 25 then (if sel < 16 then some ⟨.direct, (d.shape sel).words, false⟩ else none)
  else if page = 26 then
    (if sel < 4 then some ⟨.banked, 40, false⟩ else if sel = 4 then some ⟨.banked, 40, false⟩
     else if sel = 5 then some ⟨.readOnly, Config.auxTrimLen, false⟩ else none)
  else if page = 29 then (if sel = 0 then some ⟨.banked, 256, false⟩ else if sel = 1 then some ⟨.banked, 2048, false⟩ else none)
  else if page = 30 then (if sel = 0 then some ⟨.direct, 128, false⟩ else none)
  else if page = 66 then
    (if sel = 0 then some ⟨.readOnly, 128, false⟩ else if sel = 1 then some ⟨.readOnly, 256, false⟩
     else if sel = 2 then some ⟨.readOnly, 128 * d.frozenPcs.length, false⟩ else none)
  else if page = 67 then (if sel = 0 then some ⟨.readOnly, 512, false⟩ else none)
  else if page = 68 then (if sel = 0 then some ⟨.readOnly, 32, false⟩ else none)
  else if page = 69 then (if sel = 0 then some ⟨.banked, 16, false⟩ else none)
  else if page = 70 then (if sel = 0 then some ⟨.direct, 3072, false⟩ else if sel = 1 then some ⟨.readOnly, 1536, false⟩ else none)
  else none

/-- TABLE_COUNT of a page (Table 21.1): its tables are numbered from 0. -/
def Dev.tableCount (d : Dev) (page : Nat) : Nat := ((List.range 32).filter fun s => (d.tableDef page s).isSome).length

/-- The EVENT bit TABLE_REFUSED of a page that defines it (R484). -/
def tableRefusedBit (page : Nat) : Option Nat :=
  if page = 19 then some Ev.tseq_TABLE_REFUSED else if page = 20 then some Ev.vern_TABLE_REFUSED
  else if page = 23 then some Ev.ledg_TABLE_REFUSED else if page = 26 then some Ev.aux_TABLE_REFUSED
  else if page = 29 then some Ev.benchg_TABLE_REFUSED else if page = 69 then some Ev.cas_TABLE_REFUSED else none

/-- Whether the Assayer owns a table word (R110): the SLICE_CORR, FIR and SKEW_TRIM entries of a group whose MANUAL bit is 0. -/
def Dev.assayerOwns (d : Dev) (page sel addr : Nat) : Bool :=
  if 12 ≤ page ∧ page ≤ 15 then !bitAt (d.fget Reg.assay_MANUAL) (page - 12)
  else if page = 16 ∧ sel = 0 then !bitAt (d.fget Reg.assay_MANUAL) (addr / 4 / 34)
  else false

/-! ### Reading -/

/-- A word of a table as the window reads it: of the shadow bank of a banked table, otherwise the live word (R482). -/
def State.tableWord (s : State) (page sel addr : Nat) : Nat :=
  let d := s.dev
  match d.tableDef page sel with
  | none => 0
  | some t =>
    if t.len ≤ addr then 0
    else match t.kind with
      | .banked => d.tshadow page sel addr
      | .direct => if page = 25 then s.tillGet sel (d.shape sel) addr else d.tget page sel 0 addr
      | .readOnly =>
        if page = 7 then injMapWord addr
        else if page = 17 ∧ sel = 0 ∧ addr % 4 = 2 then min (KMap.at d.assay.ageMs 0 (addr / 4) / 1000) (2 ^ 32 - 1)
        else if page = 26 then Config.auxTrimWord addr % 2 ^ 32
        else if page = 70 then Config.directory addr % 2 ^ 20
        else if page = 66 ∧ sel = 2 then d.tget 66 2 0 (128 * d.frozenPcs.getD (addr / 128) 0 + addr % 128)
        else d.tget page sel 0 addr

/-- The words of a table that its CRC covers (R485). -/
def State.tableWords (s : State) (page sel : Nat) : List Nat :=
  match s.dev.tableDef page sel with
  | none => []
  | some t => (List.range t.len).map (s.tableWord page sel)

/-- TABLE_SEL and TABLE_ADDR of a requester in a page (R481). -/
def busKey (who : Requester) (page : Nat) : Nat := 128 * who.code + page

def Dev.tableSel (d : Dev) (who : Requester) (page : Nat) : Nat := KMap.at d.bus.tableSel 0 (busKey who page)

def Dev.tableAddr (d : Dev) (who : Requester) (page : Nat) : Nat := KMap.at d.bus.tableAddr 0 (busKey who page)

def Dev.setTableSel (d : Dev) (who : Requester) (page v : Nat) : Dev :=
  { d with bus.tableSel := KMap.put d.bus.tableSel (busKey who page) v }

def Dev.setTableAddr (d : Dev) (who : Requester) (page v : Nat) : Dev :=
  { d with bus.tableAddr := KMap.put d.bus.tableAddr (busKey who page) (v % 2 ^ 25) }

/-- The value that a read returns to its requester. -/
def Dev.answer (d : Dev) (who : Requester) (v : Nat) : Dev := { d with bus.data := KMap.put d.bus.data who.code v }

/-- The shadow of a multi-word table entry's higher word, beyond the shadows of registers (R18, R23). -/
def entryShadowKey (who : Requester) (page sel addr : Nat) : Nat := 3 * (2 ^ 32 + tkey page sel 0 addr) + who.code

/-- Latch words into shadows (R18). -/
def Dev.latchAll (d : Dev) (ws : List (Nat × Nat)) : Dev :=
  { d with bus.shadow := ws.foldl (fun (m : KMap Nat) w => KMap.put m w.1 w.2) d.bus.shadow }

/-- A read of a table word. A read of word 0 of a SLICE_QUALITY entry latches its words 1 to 3, which reads of those words
return (R118, R482). -/
def State.tableRead (s : State) (who : Requester) (page sel addr : Nat) : State :=
  if page = 17 ∧ sel = 0 ∧ addr < 544 then
    if addr % 4 = 0 then
      s.onDev fun d => d.latchAll (([addr + 1, addr + 2, addr + 3] : List Nat).map fun a =>
        (entryShadowKey who page sel a, s.tableWord page sel a)) |>.answer who (s.tableWord page sel addr)
    else s.onDev fun d => d.answer who (KMap.at d.bus.shadow 0 (entryShadowKey who page sel addr))
  else s.onDev fun d => d.answer who (s.tableWord page sel addr)

/-! ### Writing -/

/-- The bits of a table word that its layout gives a field: the others are reserved and read 0 (R14; Tables 03.11, 06.1, 06.3, 08.4, 11.9,
12.7 and 16.2, R146, R387, R400, R467). -/
def tableBits (page sel addr : Nat) : Nat :=
  if 12 ≤ page ∧ page ≤ 15 ∧ sel = 0 then (if addr % 2 = 0 then 0xFFFF else 0xFFFFFF)
  else if page = 19 then
    (if sel = 0 then 0x1FFF
     else if sel = 1 then (if addr % 2 = 0 then 0xFFFFFFFF else 0xFF)
     else if addr % 4 = 0 then 0x1F3F else if addr % 4 = 2 then 0x1FF else 0xFFFFFFFF)
  else if page = 23 ∧ sel = 0 then (if addr % 4 = 2 then 0x3FFFFF else if addr % 4 = 3 then 3 else 0xFFFFFFFF)
  else if page = 26 then (if sel < 4 then 0x7FFF else 0x8FFF0FFF)
  else if page = 29 ∧ sel = 1 then (if addr % 32 < 16 then 0xFFFFFFFF else if addr % 32 = 16 then 0xFFFF0001 else 0)
  else if page = 30 then 0xFFFF1FFF
  else if page = 69 then 0x7FFF
  else if page = 70 ∧ sel = 0 ∧ addr % 2 = 1 then 0xFFFF
  else 0xFFFFFFFF

/-- The value that a table word takes of a value written: trims of SKEW_TRIM beyond ±100 are held at the nearer limit (R95), reserved bits
stay 0. -/
def heldWord (page sel addr v : Nat) : Nat :=
  if page = 16 ∧ sel = 0 then
    ((List.range 4).map fun k => ofSigned 8 (clampInt (-100) 100 (toSigned 8 (byteOf v k))) * 2 ^ (8 * k)).sum
  else v &&& tableBits page sel addr

/-- Store a word in a table: in its shadow bank, or in a direct table at once (R482). -/
def State.tablePut (s : State) (page sel addr val : Nat) : State :=
  match s.dev.tableDef page sel with
  | none => s
  | some t => match t.kind with
    | .banked => s.onDev fun d => d.tset page sel (1 - (d.tctlOf page sel).bank) addr (heldWord page sel addr val)
    | .direct =>
      if page = 25 then s.tillSet sel (s.dev.shape sel) addr val else s.onDev fun d => d.tset page sel 0 addr (heldWord page sel addr val)
    | .readOnly => s

/-- Whether a write of a table word is discarded: by FREEZE (R473), beyond the tables or the table's words (R481), in a
read-only table, without expert access where the table asks for it (R482), in an entry that the Assayer owns (R110), while a
swap is pending (R484) or a load holds the table (R488), and in a partition that is not idle (R275). -/
def Dev.tableShut (d : Dev) (page sel addr : Nat) : Bool :=
  d.flag Reg.hdr_FREEZE page ||
  match d.tableDef page sel with
  | none => true
  | some t =>
    decide (t.len ≤ addr) || (t.kind == .readOnly) || (t.expert && !d.expertOpen page) || d.assayerOwns page sel addr ||
      ((t.kind == .banked) && ((d.tctlOf page sel).swapPending || (d.tctlOf page sel).loadBusy)) ||
      (page == 25 && d.partIs sel != 0)

/-- A write of a table word. One that arrives while a CRC of the same bank is computed is held (R485). -/
def State.tableWrite (s : State) (who : Requester) (page sel addr val : Nat) : State :=
  if s.dev.tableShut page sel addr then s.onDev fun d => d.logDiscard who page 0xC08 val
  else
    let c := s.dev.tctlOf page sel
    (if c.crcBusy then s.onDev fun d => d.tctlSet page sel { c with held := c.held ++ [(addr, val)] }
     else s.tablePut page sel addr val).onDev fun d => d.cfgEpoch page

/-- A write of TABLE_SEL (R481). -/
def tableSelWrite (who : Requester) (page val : Nat) (d : Dev) : Dev :=
  if d.tableCount page = 0 then d
  else d.writeGate who page 0xC00 val false fun d => (d.setTableSel who page (val % 32)).setTableAddr who page 0

/-- An access to TABLE_DATA (R481); on a page without tables the offset is not implemented (R14). -/
def State.tableData (s : State) (who : Requester) (page : Nat) (write : Option Nat) : State :=
  let sel := s.dev.tableSel who page
  let addr := s.dev.tableAddr who page
  if s.dev.tableCount page = 0 then (match write with
    | none => s.onDev fun d => d.answer who 0
    | some _ => s)
  else
    (match write with
    | none => s.tableRead who page sel addr
    | some v => s.tableWrite who page sel addr v).onDev fun d => d.setTableAddr who page (addr + 1)

/-- A host access through a table aperture (R483). -/
def State.tableAperture (s : State) (page w : Nat) (write : Option Nat) : State :=
  let sel := s.dev.tableSel .host page
  let addr := s.dev.tableAddr .host page / 8192 * 8192 + w
  if s.dev.tableCount page = 0 then (match write with
    | none => s.onDev fun d => d.answer .host 0
    | some _ => s)
  else match write with
    | none => s.tableRead .host page sel addr
    | some v => s.tableWrite .host page sel addr v

/-! ### TABLE_CTRL: CRC, copy, swap request -/

/-- Start the CRC of a table (R485). -/
def State.crcStart (s : State) (page sel : Nat) : State :=
  let c := s.dev.tctlOf page sel
  if c.crcBusy then s
  else
    let v := crc32c (s.tableWords page sel)
    s.onDev fun d => d.tctlSet page sel { c with crcBusy := true, crcNext := v }

/-- A write of TABLE_CTRL that acts on the selected table, if it exists (R481). -/
def State.tableCtrl (s : State) (who : Requester) (page val : Nat) (act : TableDef → Nat → State → State) : State :=
  if s.dev.flag Reg.hdr_FREEZE page then s.onDev fun d => d.logDiscard who page 0xC0C val
  else match s.dev.tableDef page (s.dev.tableSel who page) with
    | none => s
    | some t => (act t (s.dev.tableSel who page) s).onDev fun d => d.cfgEpoch page

/-- CRC_CHECK (R485). -/
def State.crcCheck (s : State) (who : Requester) (page : Nat) : State :=
  s.tableCtrl who page 2 fun _ sel s => s.crcStart page sel

/-- A table's CRC computation completes into TABLE_CRC; writes held meanwhile take effect (R485). -/
def State.crcDoneOf (s : State) (page sel : Nat) : State :=
  let c := s.dev.tctlOf page sel
  if c.crcBusy then
    c.held.foldl (fun (s : State) w => s.tablePut page sel w.1 w.2)
      (s.onDev fun d => d.tctlSet page sel { c with crcBusy := false, crc := c.crcNext, held := [] })
  else s

/-- CRC_DONE (R485). -/
def State.crcDone (s : State) (page : Nat) : State := (List.range 32).foldl (fun (s : State) sel => s.crcDoneOf page sel) s

/-- Copy the active bank of a table into its shadow bank (R482). -/
def Dev.copyBank (d : Dev) (page sel len : Nat) : Dev :=
  (List.range len).foldl (fun (d : Dev) a => d.tset page sel (1 - (d.tctlOf page sel).bank) a (d.tactive page sel a)) d

/-- The copy of a table (R482): no effect on direct and read-only tables; a copy is a write of the shadow bank, discarded where such
writes are (R16, R484, R488). -/
def State.tableCopyOf (s : State) (who : Requester) (page sel : Nat) (t : TableDef) (val : Nat) : State :=
  s.onDev fun d =>
    let c := d.tctlOf page sel
    if t.kind != .banked then d
    else if (t.expert && !d.expertOpen page) || c.swapPending || c.loadBusy then d.logDiscard who page 0xC0C val
    else d.copyBank page sel t.len

/-- COPY (R482). -/
def State.tableCopy (s : State) (who : Requester) (page : Nat) : State :=
  s.tableCtrl who page 4 fun t sel s => s.tableCopyOf who page sel t 4

/-- Request a swap: SWAP_PENDING; with CHECK_EN the shadow's CRC is computed first (R484). -/
def State.swapRequest (s : State) (page sel : Nat) : State :=
  let c := s.dev.tctlOf page sel
  if c.swapPending then s
  else
    let s1 := s.onDev fun d => d.tctlSet page sel { c with swapPending := true }
    if c.checkEn then s1.crcStart page sel else s1

/-- SWAP (R484): no effect on direct and read-only tables. -/
def State.tableSwap (s : State) (who : Requester) (page : Nat) : State :=
  s.tableCtrl who page 1 fun t sel s => if t.kind == .banked then s.swapRequest page sel else s

/-! ### The owners' checks and the swap -/

/-- SPILL_MAP (R215): refused while armed with a spill user enabled, or when the extents exceed 2^21 units. -/
def Dev.spillMapBad (d : Dev) : Bool :=
  (d.armed && (d.flag Reg.ledg_SPILL_LEDGER_EN || d.flag Reg.acq_AUTO_SPILL ||
    (List.range 12).any fun r => d.flag Reg.acq_ring_STREAM_EN r)) ||
  decide (2 ^ 21 < ((List.range 64).map fun e =>
    if bitAt (d.tshadow 23 0 (4 * e + 3)) 0 then d.tshadow 23 0 (4 * e + 2) % 2 ^ 22 else 0).sum)

/-- A sequence table of an auxiliary converter (R407, Tables 16.1 and 16.2). -/
def Dev.auxTableBad (d : Dev) (sel : Nat) : Bool :=
  (List.range 40).any fun i =>
    let w := d.tshadow 26 sel i
    decide (39 < w % 64) || (bitAt w 6 && decide (15 < w % 64)) || decide (8 < bitField w 7 4) || decide (8 < bitField w 11 4)

/-- A bench's neighbour list: itself, a repeat, or a value after the end (R304). -/
def neighbourListBad (b : Nat) : List Nat → Bool
  | [] => false
  | x :: xs => if x = 0xFF then xs.any (· != 0xFF) else x == b || xs.contains x || neighbourListBad b xs

/-- NEIGHBOUR (R304). -/
def Dev.neighbourBad (d : Dev) : Bool :=
  (List.range 32).any fun b => neighbourListBad b ((List.range 32).map fun n => byteOf (d.tshadow 29 0 (8 * b + n / 4)) (n % 4))

/-- BINDING (R304): a running entry whose template fails admission for a reason that does not depend on the segment. -/
def State.bindingBad (s : State) : Bool :=
  (List.range 64).any fun e =>
    bitAt (s.dev.tshadow 29 1 (32 * e + 16)) 0 &&
      s.admitStatus { ws := (List.range 16).map fun k =>
        let w := s.dev.tshadow 29 1 (32 * e + k)
        if k = 2 ∨ k = 3 then 0xFFFFFFFF else if k = 4 then w - w % 512 + 1 else w } 1 0 false != 0

/-- XACC (R387): an enabled entry whose DEST_ID is the device itself (DEDUCED, log entry 28). -/
def Dev.xaccBad (d : Dev) : Bool :=
  (List.range 16).any fun k => bitAt (d.tshadow 69 0 k) 0 && bitField (d.tshadow 69 0 k) 1 10 == d.fget Reg.cas_DEV_ID

/-- Whether the owning chapter's checks refuse a swap (R484). -/
def State.swapBad (s : State) (page sel : Nat) : Bool :=
  if page = 19 then s.dev.tseqSwapBad sel
  else if page = 20 then s.dev.vernSwapBad sel
  else if page = 23 then s.dev.spillMapBad
  else if page = 26 then decide (sel < 4) && s.dev.auxTableBad sel
  else if page = 29 then (if sel = 0 then s.dev.neighbourBad else s.bindingBad)
  else if page = 69 then s.dev.xaccBad
  else false

/-- Exchange the banks of a table (R484): a FIR of the decimators serves outputs that began under it (R234). -/
def Dev.exchange (d : Dev) (page sel : Nat) : Dev :=
  let c := d.tctlOf page sel
  let old := if page = 24 then d.firTaps sel else []
  let d1 := (d.tctlSet page sel { c with bank := 1 - c.bank, swapPending := false, lastRefused := false }).cfgEpoch page
  if page = 24 then d1.firSwapped sel old else d1

/-- Refuse a swap (R484). -/
def Dev.swapRefused (d : Dev) (page sel : Nat) : Dev :=
  let d1 := d.tctlSet page sel { d.tctlOf page sel with swapPending := false, lastRefused := true }
  match tableRefusedBit page with
  | some b => d1.raise page b
  | none => d1

/-- A load learns that the swap of a table has taken effect, or has been refused or cancelled (R488). -/
def TableLoad.note (l : TableLoad) (t : Nat × Nat) (refused : Bool) : TableLoad :=
  match l.waiting with
  | none => l
  | some ts => if ts.contains t then { l with waiting := some (ts.filter (· != t)), refused := l.refused || refused } else l

/-- Tell the loads about a table's swap. -/
def Dev.noteSwap (d : Dev) (page sel : Nat) (refused : Bool) : Dev :=
  { d with qm.loads := d.qm.loads.map fun (l : TableLoad) => l.note (page, sel) refused }

/-- Set or clear LOAD_BUSY of some tables. -/
def Dev.setLoadBusy (d : Dev) (ts : List (Nat × Nat)) (b : Bool) : Dev :=
  ts.foldl (fun (d : Dev) t => d.tctlSet t.1 t.2 { d.tctlOf t.1 t.2 with loadBusy := b }) d

/-- End a load: LOAD_BUSY clears and the command completes (R488). -/
def Dev.loadEnd (d : Dev) (l : TableLoad) (status : Nat) : Dev :=
  (({ d with qm.loads := d.qm.loads.filter fun (x : TableLoad) => x.cmd != l.cmd }).setLoadBusy l.tables false).finishCmd l.cmd
    status l.result

/-- Complete every load whose swaps have all taken effect or been refused (R488). -/
def Dev.loadsComplete (d : Dev) : Dev :=
  (d.qm.loads.filter fun (l : TableLoad) => l.waiting == some []).foldl
    (fun (d : Dev) l => d.loadEnd l (if l.refused then 1 else 0)) d

/-- A pending swap of a table takes effect, or is refused; it waits while a CRC of the table is computed (R484, R485). -/
def State.swapResolve (s : State) (page sel : Nat) : State :=
  let c := s.dev.tctlOf page sel
  if !c.swapPending || c.crcBusy then s
  else
    let v := crc32c (s.tableWords page sel)
    let s1 := if c.checkEn then s.onDev fun d => d.tctlSet page sel { c with crc := v } else s
    if (c.checkEn && v != c.expect) || s1.swapBad page sel then
      s1.onDev fun d => (d.swapRefused page sel).noteSwap page sel true
    else s1.onDev fun d => (d.exchange page sel).noteSwap page sel false

/-- The pages whose swaps take effect together: the Loom's at one weft (R84), any other page's by itself (R484). -/
def swapPages (page : Nat) : List Nat := if 12 ≤ page ∧ page ≤ 16 then [12, 13, 14, 15, 16] else [page]

/-- SWAP_TAKE_EFFECT: the pending swaps of a page reach their point (R484). -/
def State.swapTakeEffect (s : State) (page : Nat) : State :=
  ((swapPages page).foldl (fun (s : State) p => (List.range 32).foldl (fun (s : State) sel => s.swapResolve p sel) s) s).onDev
    Dev.loadsComplete

/-- Cancel the swaps of a page that have not taken effect (R472): the shadow keeps its contents. A load that waits for one
counts it as refused (DESIGN CHOICE, log entry 28). -/
def Dev.swapsCancel (d : Dev) (page : Nat) : Dev :=
  ((List.range 32).foldl (fun (d : Dev) sel =>
    let c := d.tctlOf page sel
    if c.swapPending then (d.tctlSet page sel { c with swapPending := false }).noteSwap page sel true else d) d).loadsComplete

/-- PAGE_STATUS.BUSY of a page, but for a soft reset, which takes no time here (Table 21.1). -/
def Dev.tablesBusy (d : Dev) (page : Nat) : Bool :=
  (List.range 32).any fun sel => let c := d.tctlOf page sel; c.swapPending || c.crcBusy || c.loadBusy

/-! ### Tyast images (R486) -/

/-- A section of an image (Table 21.7). -/
structure ImgSection where
  page : Nat
  sel : Nat
  check : Bool
  merge : Bool
  start : Nat
  words : List Nat
  expect : Nat
  deriving DecidableEq, Repr

/-- The sections of an image's remaining words; none where a reserved bit is set, a COUNT is 0, or the words do not come out
even. -/
def imgSections : Nat → List Nat → Option (List ImgSection)
  | 0, [] => some []
  | n + 1, w0 :: start :: count :: expect :: rest =>
    if bitAt w0 7 || bitField w0 13 11 != 0 || bitField w0 26 6 != 0 || count == 0 || decide (rest.length < count) then none
    else (imgSections n (rest.drop count)).map fun t =>
      { page := w0 % 128, sel := bitField w0 8 5, check := bitAt w0 24, merge := bitAt w0 25, start := start,
        words := rest.take count, expect := expect } :: t
  | _, _ => none

/-- Whether IMAGE_CRC holds: over every byte but its own (Table 21.6). -/
def tyastCrcOk (ws : List Nat) : Bool := crc32c (ws.take 7 ++ ws.drop 8) == ws.getD 7 0

/-- The sections of an image of `len` bytes whose header is good (Table 21.6). -/
def imgParse (ws : List Nat) (len : Nat) : Option (List ImgSection) :=
  let n := bitField (ws.getD 1 0) 16 8
  if ws.getD 0 0 != 0x54594131 || bitField (ws.getD 1 0) 0 16 != 1 || bitField (ws.getD 1 0) 24 8 != 0 || n == 0 || decide (64 < n) ||
      ws.getD 2 0 != len || 4 * ws.length != len || (ws.drop 4).take 3 != [0, 0, 0] then none
  else imgSections n (ws.drop 8)

/-- Whether a section names something that cannot be loaded (R487). -/
def Dev.sectionBad (d : Dev) (x : ImgSection) : Bool :=
  match d.tableDef x.page x.sel with
  | none => true
  | some t => (t.kind != .banked) || d.flag Reg.hdr_FREEZE x.page || decide (t.len < x.start + x.words.length)

/-- Whether two of some sections name one table. -/
def sectionsRepeat : List ImgSection → Bool
  | [] => false
  | x :: t => (t.any fun y => y.page == x.page && y.sel == x.sel) || sectionsRepeat t

/-- Whether a section needs a permission that it does not have (R16, R110, R487). -/
def Dev.sectionDenied (d : Dev) (x : ImgSection) : Bool :=
  (match d.tableDef x.page x.sel with
  | some t => t.expert && !d.expertOpen x.page
  | none => false) ||
  (decide (12 ≤ x.page) && decide (x.page ≤ 15) && d.assayerOwns x.page x.sel 0) ||
  (x.page == 16 && x.sel == 0 && ((!x.merge && d.fget Reg.assay_MANUAL != 15) ||
    (List.range x.words.length).any fun k => d.assayerOwns 16 0 (x.start + k)))

/-- Write one section into its table's shadow bank; TABLE_CRC is that of the whole shadow (R488). -/
def State.sectionWrite (s : State) (x : ImgSection) : State :=
  let len := match s.dev.tableDef x.page x.sel with
    | some t => t.len
    | none => 0
  let s1 := s.onDev fun d =>
    let bank := 1 - (d.tctlOf x.page x.sel).bank
    let d1 := (List.range len).foldl (fun (d : Dev) a =>
      d.tset x.page x.sel bank a (if x.merge then d.tactive x.page x.sel a else 0)) d
    (d1.tsetWords x.page x.sel bank x.start (x.words.mapIdx fun k v => heldWord x.page x.sel (x.start + k) v)).fset Reg.hdr_CFG_EPOCH
      (d1.fget Reg.hdr_CFG_EPOCH x.page + x.words.length) x.page
  let v := crc32c (s1.tableWords x.page x.sel)
  s1.onDev fun d => d.tctlSet x.page x.sel { d.tctlOf x.page x.sel with crc := v }

/-- Write sections in order from number n on; also the section at which a CHECK fails, and the last TABLE_CRC (R488). -/
def State.sectionsWrite (s : State) (n : Nat) : List ImgSection → State × Option Nat × Nat
  | [] => (s, none, 0)
  | x :: t =>
    let s1 := s.sectionWrite x
    let v := (s1.dev.tctlOf x.page x.sel).crc
    if x.check && v != x.expect then (s1, some n, v)
    else match t with
      | [] => (s1, none, v)
      | _ => s1.sectionsWrite (n + 1) t

/-- The status with which TABLE_LOAD refuses an image before it writes anything, 0 where it does not (R487). -/
def Dev.imgStatus (d : Dev) (ws : List Nat) (len : Nat) : Nat :=
  if !tyastCrcOk ws then 6
  else match imgParse ws len with
    | none => 1
    | some xs =>
      if (xs.any d.sectionBad) || sectionsRepeat xs then 1
      else if xs.any d.sectionDenied then 2
      else if xs.any fun x => let c := d.tctlOf x.page x.sel; c.swapPending || c.loadBusy then 7
      else 0

/-- TABLE_LOAD starts (R487, R488): command `id`, the image read, its length in bytes, and the swap bit. -/
def State.tableLoad (s : State) (id : Nat) (ws : List Nat) (len : Nat) (swap : Bool) : State :=
  let st := s.dev.imgStatus ws len
  if st != 0 then s.onDev fun d => d.finishCmd id st 0
  else
    let xs := (imgParse ws len).getD []
    let ts := xs.map fun x => (x.page, x.sel)
    let r := (s.onDev fun d => d.setLoadBusy ts true).sectionsWrite 0 xs
    match r.2.1 with
    | some n => r.1.onDev fun d => (d.setLoadBusy ts false).finishCmd id 6 (r.2.2 + 2 ^ 32 * n)
    | none => r.1.onDev fun d => { d with qm.loads := d.qm.loads ++
        [{ cmd := id, tables := ts, swap := swap, result := r.2.2 + 2 ^ 32 * 0xFFFF }] }

/-- The oldest load whose swaps have not been requested finishes writing its sections: it requests its swaps together, or
completes (R488). -/
def State.sectionsDone (s : State) : State :=
  match s.dev.qm.loads.find? fun (l : TableLoad) => l.waiting.isNone with
  | none => s
  | some l =>
    if l.swap then
      l.tables.foldl (fun (s : State) t => s.swapRequest t.1 t.2)
        (s.onDev fun d => { d with qm.loads := d.qm.loads.map fun (x : TableLoad) =>
          if x.cmd = l.cmd then { x with waiting := some x.tables } else x })
    else s.onDev fun d => d.loadEnd l 0

/-! ### Meanings -/

/-- TABLE_SEL_WRITE (R481). -/
def execTableSelWrite (who : Requester) (page : Fin 128) (val : Word) (s : State) : Host.Outcome State Fault Refusal :=
  .next (s.live fun s => s.onDev (tableSelWrite who page val.toNat))

/-- TABLE_DATA_ACCESS (R481, R482). -/
def execTableDataAccess (who : Requester) (page : Fin 128) (write : Option Word) (s : State) : Host.Outcome State Fault Refusal :=
  .next (s.live fun s => s.tableData who page (write.map BitVec.toNat))

/-- TABLE_APERTURE_ACCESS (R483). -/
def execTableApertureAccess (page : Fin 128) (w : Fin 8192) (write : Option Word) (s : State) :
    Host.Outcome State Fault Refusal :=
  .next (s.live fun s => s.tableAperture page w (write.map BitVec.toNat))

/-- SWAP (R484). -/
def execSwap (who : Requester) (page : Fin 128) (s : State) : Host.Outcome State Fault Refusal :=
  .next (s.live fun s => s.tableSwap who page)

/-- SWAP_TAKE_EFFECT (R484). -/
def execSwapTakeEffect (page : Fin 128) (s : State) : Host.Outcome State Fault Refusal :=
  .next (s.live fun s => s.swapTakeEffect page)

/-- CRC_CHECK (R485). -/
def execCrcCheck (who : Requester) (page : Fin 128) (s : State) : Host.Outcome State Fault Refusal :=
  .next (s.live fun s => s.crcCheck who page)

/-- CRC_DONE (R485). -/
def execCrcDone (page : Fin 128) (s : State) : Host.Outcome State Fault Refusal :=
  .next (s.live fun s => s.crcDone page)

/-- COPY (R482). -/
def execCopy (who : Requester) (page : Fin 128) (s : State) : Host.Outcome State Fault Refusal :=
  .next (s.live fun s => s.tableCopy who page)

/-- TABLE_LOAD_SECTIONS_DONE (R488). -/
def execTableLoadSectionsDone (s : State) : Host.Outcome State Fault Refusal :=
  .next (s.live fun s => s.sectionsDone)

end Sys2Proof.Machine
end

