-- ==== Sys2Proof/Machine/Sched.lean ====
section
/-!
DEFINITION. The pseudo-channel schedulers of the HBM subsystem: the classes and page hints of requests, the order in which they
are served, the open rows of the banks and the counts of activates (R330, R331, R342, R343). Which requests reach a scheduler, and
how many it has served, comes with the commands that follow it (log entry 29).
-/

namespace Sys2Proof.Machine

/-! ### Requests (Tables 13.1 and 13.2) -/

/-- The class of a source's requests (Table 13.1). -/
def reqClass : HbmSource → Nat
  | .capture => 0
  | .refresh | .replay => 1
  | .decimator => 2
  | .ledger | .tillFeed _ | .spill | .egress _ | .erase _ => 3
  | .rebuild within => if within then 4 else 5
  | .load _ _ | .bench _ | .tillExt _ | .bar6 | .recipe => 5

/-- The page hint of a source's requests (Table 13.2). -/
def reqHint : HbmSource → PageHint
  | .capture | .decimator | .tillFeed _ | .spill | .rebuild _ => .opened
  | .ledger => .closed
  | .load _ h | .egress h | .erase h => h
  | .bench _ | .tillExt _ | .bar6 | .recipe | .refresh | .replay => .auto

/-- The requester whose activates of a row are counted (R342): a bench, a Till island, BAR6, the Ledger or the spill engine. -/
def reqFrom : HbmSource → Option Nat
  | .load b _ | .bench b => some b
  | .tillFeed t | .tillExt t => some (32 + t)
  | .bar6 => some 36
  | .ledger => some 37
  | .spill => some 38
  | .capture | .refresh | .replay | .decimator | .egress _ | .erase _ | .rebuild _ | .recipe => none

/-- The stack of a pseudo-channel (R327). -/
def stackOf (pc : Nat) : Nat := pc / 32

/-- The number of a row of a bank of a pseudo-channel. -/
def rowKey (pc bank row : Nat) : Nat := (48 * pc + bank) * 2 ^ 24 + row % 2 ^ 24

/-- The requests that wait in a scheduler, oldest first. -/
def Dev.waiting (d : Dev) (pc : Nat) : List HbmReq := KMap.at d.mem.reqs [] pc

/-- Whether a request is a refresh, which reads and writes no line. -/
def isRefresh (r : HbmReq) : Bool := r.source == HbmSource.refresh

/-- Whether two requests are to one line. -/
def sameLine (a b : HbmReq) : Bool := !isRefresh a && !isRefresh b && a.line == b.line

/-! ### Open rows (R331) -/

/-- Whether a bank's open row is that of a request. -/
def Dev.rowOpen (d : Dev) (pc : Nat) (r : HbmReq) : Bool :=
  match KMap.find d.mem.openRows (48 * pc + r.bank) with
  | some o => !isRefresh r && o.row == r.row
  | none => false

/-- Close the rows of a pseudo-channel that have been open without an access for 1 µs; one that AUTO holds for a waiting request
stays. -/
def Dev.closeStale (d : Dev) (pc : Nat) : Dev :=
  { d with mem.openRows := d.mem.openRows.filter fun p => p.1 / 48 != pc || p.2.auto || d.ticksToUs (d.nowTick - p.2.since) == 0 }

/-- The page of a bank after an access: OPEN leaves its row open, CLOSE precharges, AUTO leaves it open only while a further request to
the row waits; a refresh closes it. -/
def Dev.pageAfter (d : Dev) (pc : Nat) (r : HbmReq) : Dev :=
  let k := 48 * pc + r.bank
  let keep := match reqHint r.source with
    | .opened => true
    | .closed => false
    | .auto => !isRefresh r && (d.waiting pc).any fun x => !isRefresh x && x.bank == r.bank && x.row == r.row
  { d with mem.openRows :=
      if keep then KMap.put d.mem.openRows k { row := r.row, since := d.nowTick, auto := decide (reqHint r.source = PageHint.auto) } else KMap.del d.mem.openRows k }

/-! ### Activates (R342, R343) -/

/-- The key of a requester's activates of a row. -/
def actKey (q pc : Nat) (r : HbmReq) : Nat := q * 2 ^ 40 + rowKey pc r.bank r.row

/-- ACT_LIMIT as it is held (Table 13.5). -/
def Dev.actLimit (d : Dev) (m : Nat) : Nat := clampNat 4 255 (d.fget Reg.memc_ACT_LIMIT m)

/-- Whether a request waits for the end of the window: its requester has reached ACT_LIMIT activates of its row (R342). -/
def Dev.throttled (d : Dev) (pc : Nat) (r : HbmReq) : Bool :=
  match reqFrom r.source with
  | some q => decide (d.actLimit (stackOf pc) ≤ KMap.at d.mem.acts 0 (actKey q pc r))
  | none => false

/-- Count a requester's activate of a row; reaching ACT_LIMIT is counted and raised (R342). -/
def Dev.countAct (d : Dev) (pc : Nat) (r : HbmReq) : Dev :=
  match reqFrom r.source with
  | none => d
  | some q =>
    let m := stackOf pc
    let n := KMap.at d.mem.acts 0 (actKey q pc r)
    let d1 := { d with mem.acts := KMap.put d.mem.acts (actKey q pc r) (n + 1) }
    if n + 1 = d.actLimit m then (d1.finc Reg.memc_THROTTLES 1 m).raise (64 + m) Ev.memc_THROTTLE else d1

/-- The entry with the lowest count, the first of several. -/
def lowestRow : List (Nat × Nat) → Option (Nat × Nat)
  | [] => none
  | e :: t => match lowestRow t with
    | none => some e
    | some f => if f.2 < e.2 then some f else some e

/-- An activate of a row in a bank's table of 64 (R343). -/
def activateRow (t : List (Nat × Nat)) (row : Nat) : List (Nat × Nat) :=
  if t.any (·.1 == row) then t.map fun e => if e.1 = row then (row, e.2 + 1) else e
  else if t.length < 64 then t ++ [(row, 1)]
  else match lowestRow t with
    | none => [(row, 1)]
    | some e => t.map fun x => if x = e then (row, e.2 + 1) else x

/-- Requests reach a scheduler; the pseudo-channel leaves power-down (R344). -/
def Dev.enqueue (d : Dev) (pc : Nat) (rs : List HbmReq) : Dev :=
  if rs.isEmpty then d
  else { d with mem.reqs := KMap.put d.mem.reqs pc (d.waiting pc ++ rs), mem.powerDown := andNot d.mem.powerDown (2 ^ pc) }

/-- A row is activated (R343): a count that reaches HAMMER_THRESH brings a targeted refresh in class 1 and restarts at 0. -/
def Dev.hammerRow (d : Dev) (pc bank row : Nat) : Dev :=
  let m := stackOf pc
  let t := activateRow (KMap.at d.mem.rows [] (48 * pc + bank)) row
  if t.any fun (e : Nat × Nat) => e.1 == row && decide (clampNat 256 2048 (d.fget Reg.memc_HAMMER_THRESH m) ≤ e.2) then
    ((({ d with mem.rows := KMap.put d.mem.rows (48 * pc + bank) (t.map fun (e : Nat × Nat) => if e.1 = row then (row, 0) else e) }.enqueue pc
      [{ source := .refresh, bank := bank, row := row, line := 0 }]).finc Reg.memc_HAMMER_REFRESH 1 m).raise (64 + m) Ev.memc_HAMMER)
  else { d with mem.rows := KMap.put d.mem.rows (48 * pc + bank) t }

/-! ### Service (R330) -/

/-- The requests that may be served now, oldest first: not throttled, and with no earlier request to the same line waiting. -/
def Dev.readyAfter (d : Dev) (pc : Nat) (seen : List HbmReq) : List HbmReq → List HbmReq
  | [] => []
  | r :: t => if d.throttled pc r || seen.any (sameLine r) then d.readyAfter pc (r :: seen) t else r :: d.readyAfter pc (r :: seen) t

/-- The next request that a scheduler serves: of the lowest class that has one ready, the oldest to an open row, else the oldest
(R330; that the open row goes first is DESIGN CHOICE, log entry 29). -/
def Dev.nextReq (d : Dev) (pc : Nat) : Option HbmReq :=
  let rs := d.readyAfter pc [] (d.waiting pc)
  let c := (rs.map fun r => reqClass r.source).foldl min 6
  let best := rs.filter fun r => reqClass r.source == c
  match best.find? (d.rowOpen pc) with
  | some r => some r
  | none => best.head?

/-- Serve one request: it leaves the scheduler, activates its row unless that is open, and leaves the page as its hint says. -/
def Dev.serveReq (d : Dev) (pc : Nat) (r : HbmReq) : Dev :=
  let d1 := { d with mem.reqs := KMap.put d.mem.reqs pc ((d.waiting pc).erase r) }
  let d2 := if isRefresh r || d.rowOpen pc r then d1 else (d1.hammerRow pc r.bank r.row).countAct pc r
  d2.pageAfter pc r

/-- Serve up to `n` requests. -/
def Dev.serveReqs (d : Dev) (pc : Nat) : Nat → Dev
  | 0 => d
  | n + 1 => match d.nextReq pc with
    | some r => (d.serveReq pc r).serveReqs pc n
    | none => d

/-- Requests reach the scheduler of a pseudo-channel, and it serves some. None reach one in full training, or frozen without a region
in its place (R334, R348). -/
def Dev.hbmTraffic (d : Dev) (pc : Nat) (rs : List HbmReq) (served : Nat) : Dev :=
  if d.flag Reg.mems_TRAINING || (bitAt (d.fget64 Reg.mems_FROZEN_W0 Reg.mems_FROZEN_W1) pc && !bitAt d.mem.replaced pc) then d
  else ((d.closeStale pc).enqueue pc rs).serveReqs pc served

end Sys2Proof.Machine
end

