-- ==== Sys2Proof/Machine/Hbm.lean ====
section
/-!
DEFINITION. The HBM memory subsystem (chapter 13): training, data-rate steps, live retrains, refresh tiers and owed refreshes,
row-disturb defence, power-down, errors, freezes, rebuilds and lost lines. The stripes' parity is kept implicitly: what a line
holds is what a read gives, from its chunk or rebuilt from parity, until no redundancy is left (log entry 29).
-/

namespace Sys2Proof.Machine

/-! ### Stacks, spare regions, groups -/

/-- Free spare regions of a stack. -/
def Dev.spares (d : Dev) (m : Nat) : Nat := d.fget (if m = 0 then Reg.mems_SPARES_0 else Reg.mems_SPARES_1)

/-- Set a stack's free spare regions; with one free again no retrain is deferred (R335). -/
def Dev.setSpares (d : Dev) (m n : Nat) : Dev :=
  let d1 := d.fset (if m = 0 then Reg.mems_SPARES_0 else Reg.mems_SPARES_1) n
  if d.spares m < n then d1.fbit Reg.mems_RETRAIN_DEFERRED false else d1

/-- Take a spare region for good: DEGRADED with the stack's last one (R349). -/
def Dev.takeSpare (d : Dev) (m : Nat) : Dev :=
  let d1 := (d.setSpares m (d.spares m - 1)).planSoon
  if d1.spares m = 0 then d1.degrade 66 m true else d1

/-- Whether a pseudo-channel is frozen. -/
def Dev.frozen (d : Dev) (pc : Nat) : Bool := bitAt (d.fget64 Reg.mems_FROZEN_W0 Reg.mems_FROZEN_W1) pc

/-- Whether a pseudo-channel is out of service: frozen, and no spare region in its place yet. -/
def Dev.pcOut (d : Dev) (pc : Nat) : Bool := d.frozen pc && !bitAt d.mem.replaced pc

/-- The pseudo-channels of a stripe group (R328). -/
def groupMembers (g : Nat) : List Nat := (List.range 16).map fun i => 4 * i + g

/-- Show the retrain in progress, the lower stack's first (DEDUCED, log entry 29: one field serves both stacks). -/
def Dev.showRetrain (d : Dev) : Dev :=
  match KMap.find d.mem.retrain 0, KMap.find d.mem.retrain 1 with
  | some r, _ => (d.fbit Reg.mems_RETRAIN true).fset Reg.mems_RETRAIN_PC r.pc
  | none, some r => (d.fbit Reg.mems_RETRAIN true).fset Reg.mems_RETRAIN_PC r.pc
  | none, none => (d.fbit Reg.mems_RETRAIN false).fset Reg.mems_RETRAIN_PC 0

/-- Show the rebuild in progress, the lower stack's first (DEDUCED, log entry 29). -/
def Dev.showRebuild (d : Dev) : Dev :=
  match KMap.find d.mem.rebuild 0, KMap.find d.mem.rebuild 1 with
  | some p, _ => (d.fbit Reg.mems_REBUILD true).fset Reg.mems_REBUILD_PC p
  | none, some p => (d.fbit Reg.mems_REBUILD true).fset Reg.mems_REBUILD_PC p
  | none, none => (d.fbit Reg.mems_REBUILD false).fset Reg.mems_REBUILD_PC 0

/-- The timebase in µs at the nominal frequency. -/
def Dev.nowUs (d : Dev) : Nat := d.ticksToUs d.nowTick

/-! ### Eyes (R333, R353) -/

/-- Word 0 of an EYE entry. -/
def eyeWord (e : LaneEye) : Nat := e.rd % 256 + 256 * (e.wr % 256) + 65536 * (e.rdCode % 256) + 16777216 * (e.wrCode % 256)

/-- The narrower eye of a lane. -/
def laneWorst (e : LaneEye) : Nat := min e.rd e.wr

/-- WORST_EYE and WORST_LANE: the narrowest eye of the 256 entries, ties to the lowest. -/
def Dev.worstEye (d : Dev) : Dev :=
  let w := fun (e : Nat) => let v := d.tget 67 0 0 (2 * e); min (v % 256) (v / 256 % 256)
  let e := (List.range 256).foldl (fun (b : Nat) e => if w e < w b then e else b) 0
  (d.fset Reg.memt_WORST_EYE (w e)).fset Reg.memt_WORST_LANE e

/-- Store a lane's EYE entry after training: HOURS 0; `live` counts a live retrain. -/
def Dev.setEye (d : Dev) (pc lane : Nat) (e : LaneEye) (repaired live : Bool) : Dev :=
  let a := 2 * (4 * pc + lane)
  let w := d.tget 67 0 0 (a + 1)
  d.tsetWords 67 0 0 a [eyeWord e, Bool.bit (repaired || bitAt w 0) + 256 * (min 255 (bitField w 8 8 + Bool.bit live))]

/-- Store the EYE entries of a pseudo-channel's lanes. -/
def Dev.setEyes (d : Dev) (pc n : Nat) (live : Bool) (repaired : Nat → Bool) : List LaneEye → Dev
  | [] => d
  | e :: es => (d.setEye pc n e (repaired n) live).setEyes pc (n + 1) live repaired es

/-! ### Full training and the data rate (R333, R334, R336) -/

/-- Whether a lane's eye is narrower than EYE_MIN. -/
def Dev.eyeBad (d : Dev) (e : LaneEye) : Bool := decide (laneWorst e < d.fget Reg.memt_EYE_MIN)

/-- The lanes of a pseudo-channel after repair, and whether each was repaired (R333). -/
def Dev.repairedLanes (d : Dev) (r : TrainResult) : List (LaneEye × Bool) :=
  (r.lanes.take 4).zipIdx.map fun p => if d.eyeBad p.1 then (r.spare.getD p.2 p.1, true) else (p.1, false)

/-- Whether a pseudo-channel is to be mapped to a spare region. -/
def Dev.trainFailed (d : Dev) (r : TrainResult) : Bool := !r.cmdOk || (d.repairedLanes r).any fun p => d.eyeBad p.1

/-- One pseudo-channel's training result: its eyes, or those of the spare region that takes its place; with no region left,
start-up fails with cause 2 (R333). -/
def Dev.trainPc (d : Dev) (r : TrainResult) : Dev :=
  let l := d.repairedLanes r
  if !d.trainFailed r then d.setEyes r.pc 0 false (fun n => (l.map Prod.snd).getD n false) (l.map Prod.fst)
  else if d.spares (stackOf r.pc) = 0 then d.startFail 2
  else (d.takeSpare (stackOf r.pc)).setEyes r.pc 0 false (fun _ => false) (r.region.take 4)

/-- Start full training of both stacks (R336): no request waits and no row stays open. -/
def Dev.trainStart (d : Dev) : Dev := { d with mem.reqs := [], mem.openRows := [] }.fbit Reg.mems_TRAINING true

/-- Full training completes (R333, R336): a requested rate is in force; a request held meanwhile trains the stacks again. -/
def hbmTrainingDone (rs : List TrainResult) (d : Dev) : Dev :=
  if !d.flag Reg.mems_TRAINING then d
  else
    let d1 := ((rs.filter fun r => decide (r.pc < 64)).foldl Dev.trainPc d).worstEye.fbit Reg.mems_TRAINING false
    let d2 := if d1.flag Reg.top_FAILED then d1 else d1.startSet Reg.top_HBM_TRAINED
    if d2.mem.rateHeld then ({ d2 with mem.rateHeld := false }).trainStart
    else if d2.flag Reg.mems_RATE_PENDING then
      ((d2.fbit Reg.mems_RATE_PENDING false).fset Reg.mems_RATE_NOW (d2.fget Reg.mems_RATE)).raise 66 Ev.mems_RATE_DONE
    else d2

/-- Whether the spill engine and the Ledger staging buffer are empty (R336). -/
def Dev.spillIdle (d : Dev) : Bool :=
  d.acq.spilling.isNone && (d.acq.segs.all fun p => !p.2.staged) &&
    (List.range 12).all fun r => !d.flag Reg.acq_ring_STREAM_EN r || decide ((d.ring r).write ≤ (d.ring r).spill)

/-- Whether a data-rate step may be accepted (R336). -/
def Dev.rateOk (d : Dev) : Bool :=
  !d.armed && ((List.range 16).all fun k => d.partIs k == 0) && d.fget Reg.benchg_TICKETS_OUT == 0 && d.spillIdle &&
    !(d.flag Reg.aux_HBM_EN && (List.range 4).any fun c => d.flag Reg.aux_auxc_EN c) && !d.flag Reg.cas_BUSY

/-- A write to RATE_CTRL.RATE (R336, R509). The reserved code 3 is refused (DEDUCED, log entry 29). -/
def rateWrite (who : Requester) (val : Nat) (d : Dev) : Dev :=
  if val % 4 = d.fget Reg.mems_RATE then d.writeGate who 66 0x040 val false id
  else d.writeGateIf who 66 0x040 val (fun d => !d.rateOk || val % 4 == 3) fun d =>
    if !d.rateOk || val % 4 == 3 then (d.raise 66 Ev.mems_RATE_REFUSED).logDiscard who 66 0x040 val
    else
      let d1 := (d.fset Reg.mems_RATE (val % 4)).fbit Reg.mems_RATE_PENDING true
      if d.flag Reg.mems_TRAINING || d.flag Reg.mems_RETRAIN then { d1 with mem.rateHeld := true } else d1.trainStart

/-! ### Freeze, rebuild, lost lines (R347 to R350) -/

/-- End a retrain at once: the pseudo-channel returns on its previous centres and the shadow is freed (R335). -/
def Dev.retrainAbort (d : Dev) (m : Nat) : Dev :=
  match KMap.find d.mem.retrain m with
  | none => d
  | some r =>
    (({ (if r.swept then d.tsetWords 67 0 0 (8 * r.pc) r.old else d) with mem.retrain := KMap.del d.mem.retrain m }).setSpares m
      (d.spares m + 1)).showRetrain

/-- A frozen pseudo-channel takes a free spare region of its stack as its rebuild target, if there is one and no other rebuild
runs there (R349); otherwise its group is without redundancy (R350). -/
def Dev.rebuildStart (d : Dev) (pc : Nat) : Dev :=
  let m := stackOf pc
  if d.spares m != 0 && (KMap.find d.mem.rebuild m).isNone then
    ((({ d.takeSpare m with mem.rebuild := KMap.put d.mem.rebuild m pc, mem.waiting := d.mem.waiting.filter (· != pc) }).fset
      Reg.mems_REBUILD_BLOCKS 0).showRebuild)
  else
    let d1 := { d with mem.waiting := if d.mem.waiting.contains pc then d.mem.waiting else d.mem.waiting ++ [pc] }.fsetBit
      Reg.mems_GROUP_DEGRADED (pc % 4) true
    if d.spares m = 0 && !d.mem.waiting.contains pc then (d1.raise 66 Ev.mems_SPARE_EXHAUSTED).degrade 66 (2 + pc % 4) true
    else d1

/-- The record-space lines of a pseudo-channel: 15 of 16 stripes, the first of them (R328). -/
def firstLineOf (pc : Nat) : Nat :=
  ((List.range 960).find? fun l => linePc l == pc).getD 0

/-- Lines that can no longer be rebuilt: recorded, counted, LINE_LOST, contained (R350). -/
def Dev.linesLost (d : Dev) (pc line count : Nat) : Dev :=
  (((d.lostLines pc line count).finc Reg.mems_LOST_LINES count).raise 66 Ev.mems_LINE_LOST).contain 66 0 true

/-- All lines of a pseudo-channel are lost (DEDUCED, log entry 29: one record, its lines are not contiguous). -/
def Dev.pcDead (d : Dev) (pc : Nat) : Dev :=
  if bitAt d.mem.dead pc then d
  else (({ d with mem.dead := d.mem.dead ||| 2 ^ pc }).linesLost pc (firstLineOf pc) 11796480)

/-- Free words, `n` of them, from a count on. -/
def freeWords (ctr n : Nat) : List Nat := (List.range n).map fun k => Config.freeValue (ctr + k) % 2 ^ 32

/-- Freeze a pseudo-channel (R348): its record, its retry buffer, its bit and event; then its rebuild, or the loss of its group's
redundancy, or of its lines where another member is out of service. Bank, row, syndrome and the retry-buffer entries are free
values (log entry 5). -/
def Dev.freeze (d : Dev) (pc cause : Nat) : Dev :=
  if d.frozen pc then d
  else
    let g := pc % 4
    let d0 := [0, 1].foldl (fun (d : Dev) m => match KMap.find d.mem.retrain m with
      | some r => if r.pc % 4 = g then d.retrainAbort m else d
      | none => d) (d.further 66 (2 ^ stackOf pc)).planSoon
    let others := (groupMembers g).filter d0.pcOut
    let f := freeWords d0.freeCtr 130
    let rec7 := [pc + 256 * cause] ++ d0.nowStamp ++
      [f.getD 0 0 % 64 + (f.getD 0 0 / 256) * 256, f.getD 1 0,
        d0.fget Reg.memc_STACK_TEMP (stackOf pc) + 65536 * d0.fget Reg.memc_DRAM_TJ (stackOf pc)]
    let d1 := (({ d0 with freeCtr := d0.freeCtr + 130, mem.freezeSeq := d0.mem.freezeSeq + 1 }).tsetWords 66 0 0
      (8 * (d0.mem.freezeSeq % 16)) (rec7 ++ [crc32c rec7])).tsetWords 66 2 0 (128 * pc) (f.drop 2)
    let v := d1.fget64 Reg.mems_FROZEN_W0 Reg.mems_FROZEN_W1 ||| 2 ^ pc
    let d1 := { d1 with mem.reqs := KMap.del d1.mem.reqs pc, mem.openRows := d1.mem.openRows.filter fun p => p.1 / 48 != pc }
    let d2 := ((d1.fset64 Reg.mems_FROZEN_W0 Reg.mems_FROZEN_W1 v).raise 66 Ev.mems_PC_FROZEN).logErr 66 Ev.mems_PC_FROZEN pc cause
    if others.isEmpty then d2.rebuildStart pc
    else (others.foldl Dev.pcDead (d2.pcDead pc)).fsetBit Reg.mems_GROUP_DEGRADED g true

/-- The region of a stack replaces a pseudo-channel. -/
def Dev.rebuilt (m pc : Nat) (d : Dev) : Dev :=
  let g := pc % 4
  let d1 := ({ d with mem.rebuild := KMap.del d.mem.rebuild m, mem.replaced := d.mem.replaced ||| 2 ^ pc }).fset
    Reg.mems_REBUILD_BLOCKS 384
  let d2 := d1.showRebuild.raise 66 Ev.mems_REBUILD_DONE
  if (groupMembers g).any d2.pcOut then d2
  else (d2.fsetBit Reg.mems_GROUP_DEGRADED g false).degrade 66 (2 + g) false

/-- A rebuild completes: the region replaces the pseudo-channel (R349), and one that waits takes the stack's other region. -/
def rebuildDone (m : Nat) (d : Dev) : Dev :=
  match KMap.find d.mem.rebuild m with
  | none => d
  | some pc =>
    let d3 := d.recovered 66 pc (Dev.rebuilt m pc)
    match d3.mem.waiting.find? fun p => stackOf p == m && !bitAt d3.mem.dead p with
    | some p => d3.rebuildStart p
    | none => d3

/-! ### Errors (R345 to R347) -/

/-- A corrected error (R345): a row with 4 within 24 h is to be replaced, or reported where its bank has no spare row left. -/
def eccCorrected (pc bank row : Nat) (d : Dev) : Dev :=
  let k := rowKey pc bank row
  let now := d.nowUs
  let ts := ((now :: KMap.at d.mem.corrected [] k).filter fun t => decide (now < t + 86400000000)).take 4
  let d1 := { d with mem.corrected := KMap.put d.mem.corrected k ts }.finc Reg.memc_ECC_CORR 1 (stackOf pc)
  if ts.length < 4 || d1.mem.rowsDue.contains k || d1.mem.rowsKept.contains k then d1
  else if 8 ≤ KMap.at d1.mem.rowsUsed 0 (48 * pc + bank) then { d1 with mem.rowsKept := d1.mem.rowsKept ++ [k] }
  else { d1 with
    mem.rowsDue := d1.mem.rowsDue ++ [k]
    mem.rowsUsed := KMap.put d1.mem.rowsUsed (48 * pc + bank) (KMap.at d1.mem.rowsUsed 0 (48 * pc + bank) + 1) }

/-- A parity alert: a replay; the third within 1 ms freezes the pseudo-channel (R346, R347). -/
def parityAlert (pc : Nat) (d : Dev) : Dev :=
  let now := d.nowUs
  let ts := ((now :: KMap.at d.mem.alerts [] pc).filter fun t => decide (now < t + 1000)).take 3
  let d1 := ({ d with mem.alerts := KMap.put d.mem.alerts pc ts }.finc Reg.memc_PARITY_REPLAYS 1 (stackOf pc)).raise
    (64 + stackOf pc) Ev.memc_PARITY_ALERT
  if ts.length = 3 then d1.freeze pc 1 else d1

/-- A transaction times out; `again` where the transaction before it on the pseudo-channel did too. It is retried and counted;
the third in a row freezes the pseudo-channel (R347). -/
def transactionTimeout (pc : Nat) (again : Bool) (d : Dev) : Dev :=
  let n := if again then KMap.at d.mem.timeouts 0 pc + 1 else 1
  let d1 := (({ d with mem.timeouts := KMap.put d.mem.timeouts pc n }).countTimeout 66).countRecovery 66
  if 3 ≤ n then { d1 with mem.timeouts := KMap.put d1.mem.timeouts pc 0 }.freeze pc 2 else d1.logErr 66 0xF1 pc 0

/-- A read finds an uncorrectable data error (R347, R350): it is answered from parity and the pseudo-channel is frozen; where
another member of the group is out of service, the line is lost and reads as zeros. -/
def State.uncorrectable (s : State) (pc line : Nat) : State :=
  if (groupMembers (pc % 4)).any fun p => p != pc && s.dev.pcOut p then
    (s.onDev fun d => d.linesLost pc line 1).hbmStoreBytes (64 * line) (List.replicate 64 0)
  else s.onDev fun d => d.freeze pc 0

/-! ### Live retrains (R335) -/

/-- A planned retrain starts, or is deferred while no spare region is free. It does not start while another runs in the stack,
while a member of its group is out of service or retrained, during full training, or for a frozen pseudo-channel. -/
def retrainStart (pc : Nat) (d : Dev) : Dev :=
  let m := stackOf pc
  let busy := d.frozen pc || d.flag Reg.mems_TRAINING || (KMap.find d.mem.retrain m).isSome ||
    ((groupMembers (pc % 4)).any d.pcOut) || ([0, 1].any fun n => match KMap.find d.mem.retrain n with
      | some r => r.pc % 4 == pc % 4
      | none => false)
  if busy then d
  else if d.spares m = 0 then (d.fbit Reg.mems_RETRAIN_DEFERRED true).raise 66 Ev.mems_RETRAIN_DEFERRED
  else { d.setSpares m (d.spares m - 1) with mem.retrain := KMap.put d.mem.retrain m { pc := pc } }.showRetrain

/-- The sweep completes (R335, R345): the new centres take effect and rows due are replaced; a lane below EYE_MIN fails the
sweep and freezes the pseudo-channel with cause 3, its shadow becoming its rebuild target. -/
def retrainSweepDone (pc : Nat) (eyes : List LaneEye) (d : Dev) : Dev :=
  let m := stackOf pc
  match KMap.find d.mem.retrain m with
  | none => d
  | some r =>
    if r.pc != pc || r.swept then d
    else if eyes.any d.eyeBad then
      (({ d with mem.retrain := KMap.del d.mem.retrain m }).setSpares m (d.spares m + 1)).showRetrain.freeze pc 3
    else
      let old := (List.range 8).map fun k => d.tget 67 0 0 (8 * pc + k)
      let d1 := (d.setEyes pc 0 true (fun _ => false) (eyes.take 4)).worstEye
      { d1 with
        mem.retrain := KMap.put d1.mem.retrain m { r with swept := true, old := old }
        mem.corrected := d1.mem.corrected.filter fun p => p.1 / 2 ^ 24 / 48 != pc || !d1.mem.rowsDue.contains p.1
        mem.rowsDue := d1.mem.rowsDue.filter fun k => k / 2 ^ 24 / 48 != pc }

/-- The copy-back completes: the shadow is freed (R335). A data-rate step held meanwhile starts (R336). -/
def retrainDone (pc : Nat) (d : Dev) : Dev :=
  let m := stackOf pc
  match KMap.find d.mem.retrain m with
  | none => d
  | some r =>
    if r.pc != pc || !r.swept then d
    else
      let d1 := (((({ d with mem.retrain := KMap.del d.mem.retrain m }).setSpares m (d.spares m + 1)).showRetrain.finc
        Reg.memt_RETRAINS)).raise 66 Ev.mems_RETRAIN_DONE
      if d1.mem.rateHeld && d1.mem.retrain.isEmpty then ({ d1 with mem.rateHeld := false }).trainStart else d1

/-! ### Refresh (R338 to R341) -/

/-- The banks of a stack, as 48 × pseudo-channel + bank. -/
def bankKeys (m : Nat) (o : KMap Nat) : List Nat := (KMap.keys o).filter fun k => k / 48 / 32 == m

/-- OWED_MAX: the largest owed count of a stack's banks (Table 13.5). -/
def Dev.owedMax (d : Dev) (m : Nat) : Dev :=
  d.fset Reg.memc_OWED_MAX (min 31 (((bankKeys m d.mem.owed).map fun k => KMap.at d.mem.owed 0 k).foldl max 0)) m

/-- The multiplier in force (R339): the smallest in the intersection of [floor, ×8] and the policy range; without one it parks
at the floor with POLICY_CONFLICT. -/
def Dev.refMult (d : Dev) (m : Nat) : Dev :=
  let tier := d.fget Reg.memc_TIER m
  let floor := max tier (d.fget (if m = 0 then Reg.age_REF_FLOOR_0 else Reg.age_REF_FLOOR_1))
  let lo := max floor (d.fget Reg.memc_POL_MIN m)
  let bad := decide (min 3 (d.fget Reg.memc_POL_MAX m) < lo)
  let d1 := (d.fset Reg.memc_MULT (if bad then floor else lo) m).fbit Reg.memc_OVERRIDDEN_REF bad m
  if bad && !d.flag Reg.memc_OVERRIDDEN_REF m then d1.raise (64 + m) Ev.memc_POLICY_CONFLICT else d1

/-- Owed counts go over to a changed interval. On a tier crossing they are rounded up, with what each bank owes beyond its whole
intervals in 1/1,000 from `parts`, and issued at once (R341); otherwise whole intervals stay a time. -/
def Dev.owedConvert (d : Dev) (m old : Nat) (crossing : Bool) (parts : List (Nat × Nat)) : Dev :=
  let new := d.fget Reg.memc_MULT m
  let owing := (bankKeys m d.mem.owed).filter fun k => KMap.at d.mem.owed 0 k != 0
  let conv := fun (k : Nat) =>
    let milli := 1000 * KMap.at d.mem.owed 0 k + (KMap.at parts 0 k) % 1000
    if crossing then (milli * 2 ^ new + 1000 * 2 ^ old - 1) / (1000 * 2 ^ old) else KMap.at d.mem.owed 0 k * 2 ^ new / 2 ^ old
  let d1 := (owing.foldl (fun (d : Dev) k => { d with mem.owed := KMap.put d.mem.owed k (conv k) }) d).owedMax m
  if crossing && !owing.isEmpty then (d1.finc Reg.memc_CATCHUPS 1 m).raise (64 + m) Ev.memc_CATCHUP else d1

/-- Work out a stack's multiplier again after a change of its policy or floor. -/
def Dev.refUpdate (d : Dev) (m : Nat) : Dev := (d.refMult m).owedConvert m (d.fget Reg.memc_MULT m) false []

/-- The tier of a temperature and a DRAM junction, in 0.01 °C, with bounds lowered by a hysteresis (Table 13.4). -/
def tierAt (temp tj : Int) (down : Int) : Nat :=
  if 13500 - down < tj then 3 else if 10500 - down < temp + (if down = 0 then 1 else 0) then 2
  else if 8500 - down < temp + (if down = 0 then 1 else 0) then 1 else 0

/-- The time in force of power-down (R344): within the intersection of the safety envelope and the policy range; without one it
parks at the envelope's nearer bound (DEDUCED, log entry 29) with POLICY_CONFLICT. -/
def Dev.pdSet (d : Dev) (m want : Nat) : Dev :=
  let hi := if 2 ≤ d.fget Reg.memc_TIER m then 2000 else 65535
  let pmin := d.fget Reg.memc_PD_POL_MIN m
  let pmax := d.fget Reg.memc_PD_POL_MAX m
  let lo := max 25 pmin
  let bad := decide (min hi pmax < lo)
  let v := if bad then (if hi < pmin then hi else 25) else clampNat lo (min hi pmax) want
  let d1 := (d.fset Reg.memc_PD_NOW v m).fbit Reg.memc_OVERRIDDEN_PD bad m
  if bad && !d.flag Reg.memc_OVERRIDDEN_PD m then d1.raise (64 + m) Ev.memc_POLICY_CONFLICT else d1

/-- Work out a stack's power-down time again. -/
def Dev.pdUpdate (d : Dev) (m : Nat) : Dev :=
  d.pdSet m (if d.flag Reg.memc_PD_ADAPT m then d.fget Reg.memc_PD_NOW m else d.fget Reg.memc_PD_TIMER m)

/-- A stack's temperatures are measured (R338): a tier is entered at its lower bound and left 2 °C below it; the multiplier, the
owed refreshes and the power-down time follow (R339, R341, R344). -/
def tierChange (m : Nat) (temp tj : Int) (parts : List (Nat × Nat)) (d : Dev) : Dev :=
  let cur := d.fget Reg.memc_TIER m
  let new := max (tierAt temp tj 0) (min cur (tierAt temp tj 200))
  let d1 := (d.fsetS Reg.memc_STACK_TEMP temp m).fsetS Reg.memc_DRAM_TJ tj m
  if new = cur then d1
  else
    let d2 := (d1.fset Reg.memc_TIER new m).fbit Reg.memc_STACK_HOT (new == 3) m
    let d3 := d2.raiseMask (64 + m) (2 ^ Ev.memc_TIER_CHANGE + (if new = 3 then 2 ^ Ev.memc_STACK_HOT else 0))
    ((d3.refMult m).owedConvert m (d.fget Reg.memc_MULT m) true parts).pdUpdate m

/-- Whether classes 0 to 3 hold requests to a bank (R340). -/
def Dev.bankBusy (d : Dev) (pc bank : Nat) : Bool := (d.waiting pc).any fun r => r.bank == bank && decide (reqClass r.source ≤ 3)

/-- A bank's refresh interval elapses (R340), during which requests reached the scheduler and some were served: the bank refreshes and
its row closes, or it owes while classes 0 to 3 hold requests to it; owing 8 it is refreshed in class 1. Its table of rows is cleared
at the start of each refresh window (R343). -/
def refreshDue (pc bank : Nat) (rs : List HbmReq) (served : Nat) (d0 : Dev) : Dev :=
  let d := d0.hbmTraffic pc rs served
  let k := 48 * pc + bank
  let o := KMap.at d.mem.owed 0 k + 1
  let w := (KMap.at d.mem.window 0 k + 1) % 8192
  let late := d.bankBusy pc bank && decide (o < 8)
  { d with
    mem.owed := KMap.put d.mem.owed k (if late then o else 0)
    mem.openRows := if late then d.mem.openRows else KMap.del d.mem.openRows k
    mem.window := KMap.put d.mem.window k w
    mem.rows := if w = 0 then KMap.put d.mem.rows k [] else d.mem.rows }.owedMax (stackOf pc)

/-! ### Row-disturb defence (R342, R343) -/

/-- A 1 µs window of a stack ends: its counts restart, and the schedulers of its pseudo-channels serve requests that waited for it
(R342). -/
def actWindowEnd (m : Nat) (resumed : List (Fin 64 × Nat)) (d : Dev) : Dev :=
  resumed.foldl (fun d p => if stackOf p.1 = m then d.hbmTraffic p.1 [] p.2 else d)
    { d with mem.acts := d.mem.acts.filter fun p => p.1 % 2 ^ 40 / 2 ^ 24 / 48 / 32 != m }

/-! ### Power-down (R344) -/

/-- A pseudo-channel without a request enters power-down; none does while the device is armed. -/
def pdEntry (pc : Nat) (d : Dev) : Dev :=
  if d.armed || d.flag Reg.mems_TRAINING || !(d.waiting pc).isEmpty then d else { d with mem.powerDown := d.mem.powerDown ||| 2 ^ pc }

/-- A request reaches a pseudo-channel: it leaves power-down. -/
def Dev.pdLeave (d : Dev) (pc : Nat) : Dev := { d with mem.powerDown := andNot d.mem.powerDown (2 ^ pc) }

/-- The power-down time is reconsidered: `hits` of `total` requests met a powered-down channel (R344). Its rounding is open
(log entry 13). -/
def pdAdaptTick (m hits total : Nat) (d : Dev) : Dev :=
  let now := d.fget Reg.memc_PD_NOW m
  if !d.flag Reg.memc_PD_ADAPT m then d.pdUpdate m
  else
    let f := d.free
    let r := if 5 * now % 4 = 0 then 0 else f.1 % 2
    let r2 := if 3 * now % 4 = 0 then 0 else f.1 % 2
    if total < 100 * hits then f.2.pdSet m (5 * now / 4 + r)
    else if 1000 * hits < total then f.2.pdSet m (3 * now / 4 + r2)
    else d.pdSet m now

/-! ### Meanings -/

/-- HBM_TRAINING_DONE (R333). -/
def execHbmTrainingDone (results : List TrainResult) (s : State) : Host.Outcome State Fault Refusal :=
  .next (s.live fun s => s.onDev (hbmTrainingDone results))

/-- RATE_WRITE (R336). -/
def execRateWrite (who : Requester) (val : Word) (s : State) : Host.Outcome State Fault Refusal :=
  .next (s.live fun s => s.onDev (rateWrite who val.toNat))

/-- RETRAIN_START (R335). -/
def execRetrainStart (pc : Fin 64) (s : State) : Host.Outcome State Fault Refusal := .next (s.live fun s => s.onDev (retrainStart pc))

/-- RETRAIN_SWEEP_DONE (R335). -/
def execRetrainSweepDone (pc : Fin 64) (eyes : List LaneEye) (s : State) : Host.Outcome State Fault Refusal :=
  .next (s.live fun s => s.onDev (retrainSweepDone pc eyes))

/-- RETRAIN_DONE (R335). -/
def execRetrainDone (pc : Fin 64) (s : State) : Host.Outcome State Fault Refusal := .next (s.live fun s => s.onDev (retrainDone pc))

/-- REFRESH_DUE (R340). -/
def execRefreshDue (pc : Fin 64) (bank : Fin 48) (traffic : List HbmReq × Nat) (s : State) : Host.Outcome State Fault Refusal :=
  .next (s.live fun s => s.onDev (refreshDue pc bank traffic.1 traffic.2))

/-- TIER_CHANGE (R338 to R341). -/
def execTierChange (m : Fin 2) (temp tj : Int) (parts : List (Nat × Nat)) (s : State) : Host.Outcome State Fault Refusal :=
  .next (s.live fun s => s.onDev (tierChange m temp tj parts))

/-- ACT_WINDOW_END (R342). -/
def execActWindowEnd (m : Fin 2) (resumed : List (Fin 64 × Nat)) (s : State) : Host.Outcome State Fault Refusal :=
  .next (s.live fun s => s.onDev (actWindowEnd m resumed))

/-- HAMMER (R330, R331, R343): requests reach a pseudo-channel's scheduler and are served; their activates are counted. -/
def execHammer (pc : Fin 64) (reqs : List HbmReq) (served : Nat) (s : State) : Host.Outcome State Fault Refusal :=
  .next (s.live fun s => s.onDev fun d => d.hbmTraffic pc reqs served)

/-- PD_ENTRY (R344). -/
def execPdEntry (pc : Fin 64) (s : State) : Host.Outcome State Fault Refusal := .next (s.live fun s => s.onDev (pdEntry pc))

/-- PD_ADAPT_TICK (R344). -/
def execPdAdaptTick (m : Fin 2) (hits total : Nat) (s : State) : Host.Outcome State Fault Refusal :=
  .next (s.live fun s => s.onDev (pdAdaptTick m hits total))

/-- HBM_ECC_CORRECTED (R345). -/
def execHbmEccCorrected (pc : Fin 64) (bank : Fin 48) (row : Nat) (s : State) : Host.Outcome State Fault Refusal :=
  .next (s.live fun s => s.onDev (eccCorrected pc bank row))

/-- PARITY_ALERT (R346, R347). -/
def execParityAlert (pc : Fin 64) (s : State) : Host.Outcome State Fault Refusal := .next (s.live fun s => s.onDev (parityAlert pc))

/-- HBM_TRANSACTION_TIMEOUT (R347). -/
def execHbmTransactionTimeout (pc : Fin 64) (again : Bool) (s : State) : Host.Outcome State Fault Refusal :=
  .next (s.live fun s => s.onDev (transactionTimeout pc again))

/-- REBUILD_DONE (R349). -/
def execRebuildDone (m : Fin 2) (s : State) : Host.Outcome State Fault Refusal := .next (s.live fun s => s.onDev (rebuildDone m))

/-- UNCORRECTABLE_DATA_ERROR (R347, R350). -/
def execUncorrectableDataError (pc : Fin 64) (line : Nat) (s : State) : Host.Outcome State Fault Refusal :=
  .next (s.live fun s => s.uncorrectable pc line)

end Sys2Proof.Machine
end

