-- ==== Sys2Proof/Machine/Foreman.lean ====
section
/-!
DEFINITION. The Foreman beside its commands: handshake channels (R27, R28), reads of page error logs (R414), the device error log
(R415, R416), and the life-cycle state that the ROM reads (R444, R445).
-/

namespace Sys2Proof.Machine

/-! ### Handshake channels (R27, R28) -/

/-- A channel. -/
def Dev.channel (d : Dev) (ch : Nat) : Channel := KMap.at d.fore.channels {} ch

/-- Replace a channel. -/
def Dev.setChannel (d : Dev) (ch : Nat) (c : Channel) : Dev := { d with fore.channels := KMap.put d.fore.channels ch c }

/-- A transfer arrives (R27): it is accepted if its sequence value differs from that of the last transfer accepted, and acknowledged
in either case; the source retains it until the acknowledgement reaches it. -/
def handshakeTransfer (ch : Nat) (seq : Bool) (payload : Nat) (acked : Bool) (d : Dev) : Dev :=
  let c := d.channel ch
  d.setChannel ch { c with
    sent := seq
    accepted := seq
    count := if seq = c.accepted then c.count else c.count + 1
    retained := if acked then none else some payload
    resent := if acked then false else c.resent }

/-- A retained transfer is not acknowledged in time (R28): it is resent; if it was resent already, the synchroniser pair is reset and
it is sent again. The source page counts and records the expiry, for which no page has an EVENT bit (R514). -/
def handshakeTimeout (ch p : Nat) (d : Dev) : Dev :=
  let c := d.channel ch
  if c.retained.isNone then d
  else (((d.setChannel ch { c with resent := !c.resent }).countTimeout p).countRecovery p).logErr p 0xF1 ch 0

/-! ### Page error logs (R414) -/

/-- The words of a page's error log (Table 17.4). -/
def Dev.errWords (d : Dev) (p : Nat) : List Nat :=
  [d.fget Reg.hdr_ERR_CODE p + 256 * d.fget Reg.hdr_ERR_INJECTED p + 512 * d.fget Reg.hdr_ERR_OVERWRITTEN p +
      1024 * d.fget Reg.hdr_ERR_VALID p + 65536 * d.fget Reg.hdr_ERR_COUNT p,
    d.fget Reg.hdr_ERR_DETAIL0 p, d.fget Reg.hdr_ERR_DETAIL1 p, d.fget Reg.hdr_ERR_TIME p]

/-- The shadow of a register's word (R18, R23). -/
def shadowKey (who : Requester) (off : Nat) : Nat := 3 * off + who.code

/-- A read of ERR_LOG_W0 (R414): it returns W0, latches W1 to W3, and clears VALID, OVERWRITTEN and COUNT; a record made in the same
cycle is then held with COUNT 1. -/
def errLogRead (who : Requester) (p : Nat) (same : Option ErrRecord) (d : Dev) : Dev :=
  let ws := d.errWords p
  let d1 := (d.answer who (ws.getD 0 0)).latchAll
    (([1, 2, 3] : List Nat).map fun k => (shadowKey who (4096 * p + 0x30 + 4 * k), ws.getD k 0))
  let d2 := ((d1.fset Reg.hdr_ERR_VALID 0 p).fset Reg.hdr_ERR_OVERWRITTEN 0 p).fset Reg.hdr_ERR_COUNT 0 p
  match same with
  | none => d2
  | some r =>
    let log := fun (d : Dev) => d.logErr p r.code r.detail0 r.detail1
    if r.injected then d2.asInjected log else log d2

/-! ### The device error log (R415, R416) -/

/-- Records that the log holds. -/
def logSize : Nat := 4096

/-- A record of the device error log with its CRC (Table 17.5). -/
def logRecord (p : Nat) (injected : Bool) (code cls detail0 detail1 : Nat) (stamp : List Nat) (seq : Nat) : List Nat :=
  let ws := [p % 128 + 128 * Bool.bit injected + 256 * (code % 256) + 65536 * (cls % 256), detail0 % 2 ^ 32, detail1 % 2 ^ 32,
    stamp.getD 0 0, stamp.getD 1 0, stamp.getD 2 0, seq % 2 ^ 32]
  ws ++ [crc32c ws]

/-- Append a record: the ring keeps the latest 4,096 (R415). -/
def NonVolatile.append (nv : NonVolatile) (p : Nat) (injected : Bool) (code cls detail0 detail1 : Nat) (stamp : List Nat) :
    NonVolatile :=
  { nv with
    log := KMap.put nv.log (nv.logNext % logSize) (logRecord p injected code cls detail0 detail1 stamp nv.logNext)
    logNext := nv.logNext + 1 }

/-- Clear the device error log. -/
def NonVolatile.clearLog (nv : NonVolatile) : NonVolatile := { nv with log := [], logNext := 0 }

/-- CLASS of a page's record: contained, degraded, else recovered, or information for a discarded write or a refusal (Table 17.5). -/
def Dev.logClass (d : Dev) (p code : Nat) : Nat :=
  if d.isContained p then 3 else if d.isDegraded p then 2 else if code = 0xF0 ∨ code = 0xF2 then 0 else 1

/-- The Foreman collects a page's error record (R415); the fraction of the record's time is not kept anywhere (log entry 31). -/
def logCollect (p : Nat) (d : Dev) (nv : NonVolatile) : Dev × NonVolatile :=
  let n := d.fget Reg.hdr_ERR_COUNT p
  if n = 0 || !d.fore.running then (d, nv)
  else
    let ws := d.errWords p
    let w0 := ws.getD 0 0
    let f := d.free
    let stamp := f.2.stampOf (ws.getD 3 0 + 2 ^ 32 * (d.nowTick / 2 ^ 32)) f.1
    let nv1 := nv.append p (bitAt w0 8) (w0 % 256) (d.logClass p (w0 % 256)) (ws.getD 1 0) (ws.getD 2 0) stamp
    let nv2 := if bitAt w0 9 then nv1.append p false 0 4 (n - 1) 0 d.nowStamp else nv1
    (errLogRead .foreman p none f.2, nv2)

/-- The record that stands for records overwritten before they were returned (R416). -/
def skipRecord (d : Dev) (n seq : Nat) : List Nat := logRecord 2 false 0 4 n 0 d.nowStamp seq

/-- The records that GET_LOG returns to a class: their words, and the number of the next record to return (R416). -/
def NonVolatile.logOut (nv : NonVolatile) (d : Dev) (next room : Nat) : List Nat × Nat :=
  let first := nv.logNext - logSize
  let skip := if next < first then skipRecord d (first - next) next else []
  let from_ := max next first
  let n := min (nv.logNext - from_) (room - skip.length / 8)
  (skip ++ (List.range n).flatMap (fun k => KMap.at nv.log [] ((from_ + k) % logSize)), from_ + n)

/-- GET_LOG for a class, into a buffer (R416): the words written and the device with what it has returned. -/
def getLogWords (d : Dev) (nv : NonVolatile) (cls len : Nat) : List Nat × Dev :=
  let r := nv.logOut d (KMap.at d.fore.logRead 0 cls) (len / 32)
  (r.1, { d with fore.logRead := KMap.put d.fore.logRead cls r.2 })

/-! ### The life-cycle state (R444, R445) -/

/-- An OTP entry that carries a state: the code and its complement (R445). -/
def otpEntry (code : Nat) : Nat := code + 16 * (15 - code)

/-- Whether the halves of an OTP entry agree. -/
def otpAgrees (e : Nat) : Bool := e % 16 + e / 16 == 15

/-- The life-cycle state: the code of the last entry whose halves agree, or BLANK (R445). -/
def otpState (otp : List Nat) : Nat :=
  match otp.reverse.find? otpAgrees with
  | some e => e % 16
  | none => 0

/-- Whether maker access is open: MDIAG and the RWL fields (Table 19.1). -/
def makerOpen (state : Nat) : Bool := state == 0 || state == 1 || state == 3

/-- Whether expert access is permitted in a state under an owner policy (Table 19.1). -/
def expertPermit (state policy : Nat) : Bool := makerOpen state || (state == 2 && bitAt policy 0)

/-- Whether injection may be armed in a state under an owner policy (Table 19.1). -/
def injectPermit (state policy : Nat) : Bool := makerOpen state || (state == 2 && bitAt policy 1)

/-- The LIFE page shows what OTP and MRAM hold, and the permits of the state (R444, R460). TAP_REMAIN other than 0 keeps the debug
instructions open. -/
def Dev.lifeSync (d : Dev) (nv : NonVolatile) : Dev :=
  let st := otpState nv.otp
  let pol := if st = 2 then nv.policy else 0
  ((((((((((((d.fset Reg.life_STATE st).fset Reg.life_ENTRIES_USED nv.otp.length).fset Reg.life_POLICY pol).fbit Reg.life_TAP_OPEN
    (st == 0 || d.fget Reg.life_TAP_REMAIN != 0)).fbit Reg.life_MDIAG_OPEN (makerOpen st)).fbit Reg.life_RWL_OPEN (makerOpen st)).fbit
    Reg.life_EXPERT_PERMIT (expertPermit st pol)).fbit Reg.life_INJECT_PERMIT (injectPermit st pol)).fset Reg.life_OTP_SVN nv.otpSvn).fset
    Reg.life_MRAM_SVN nv.mramSvn).fset Reg.life_ATT_RESERVED nv.attReserved).fset Reg.life_BOOT_PREF nv.bootPref).fset
    Reg.life_KEY_REVOKED nv.revoked

/-! ### The meanings -/

/-- HANDSHAKE_TRANSFER (R27). -/
def execHandshakeTransfer (ch : Nat) (seq : Bool) (payload : Nat) (acked : Bool) (s : State) : Host.Outcome State Fault Refusal :=
  .next (s.live fun s => s.onDev (handshakeTransfer ch seq payload acked))

/-- HANDSHAKE_TIMEOUT (R28). -/
def execHandshakeTimeout (ch : Nat) (page : Fin 128) (s : State) : Host.Outcome State Fault Refusal :=
  .next (s.live fun s => s.onDev (handshakeTimeout ch page))

/-- ERR_LOG_READ (R414). -/
def execErrLogRead (who : Requester) (page : Fin 128) (same : Option ErrRecord) (s : State) : Host.Outcome State Fault Refusal :=
  .next (s.live fun s => s.onDev (errLogRead who page same))

/-- LOG_COLLECT (R415). -/
def execLogCollect (page : Fin 128) (s : State) : Host.Outcome State Fault Refusal :=
  .next (s.live fun s => s.onDevNv (logCollect page))

end Sys2Proof.Machine
end

