-- ==== Sys2Proof/Machine/LifeCycle.lean ====
section
/-!
DEFINITION. Life-cycle, firmware and attestation (chapter 19): signed requests and their journalled transitions, the start of the ROM
and its choice of image, anti-rollback, attestation reports and the debug TAP. What cryptography says of a request or an image is an
operand.
-/

namespace Sys2Proof.Machine

/-! ### The debug TAP and injection (R426, R450, R456) -/

/-- The TAP closes: a debug unlock ends (R456); in BLANK the TAP stays open (Table 19.1). -/
def Dev.tapClose (d : Dev) : Dev :=
  if d.fget Reg.life_TAP_REMAIN = 0 then d
  else ((d.fset Reg.life_TAP_REMAIN 0).fbit Reg.life_TAP_OPEN (d.fget Reg.life_STATE == 0)).raise 1 Ev.life_TAP_LOCKED

/-- Injection is disarmed (R426). -/
def Dev.disarm (d : Dev) : Dev :=
  if d.flag Reg.inj_ARMED then (d.fbit Reg.inj_ARMED false).raise 7 Ev.inj_DISARMED else d

/-- The expert gate closes where the life-cycle no longer permits expert access (R478). -/
def Dev.gateFollows (d : Dev) : Dev := if d.flag Reg.life_EXPERT_PERMIT then d else d.fbit Reg.top_OPEN false

/-- A change of life-cycle state or policy shows in the LIFE page (R450). -/
def Dev.lifeChanged (d : Dev) (nv : NonVolatile) : Dev := (d.lifeSync nv).gateFollows

/-! ### Transitions (R445, R448, R449) -/

/-- Program the next OTP entry with a state (R445): entries 0 to 14 for any, entry 15 for RETIRED; nothing where the array already
gives it. -/
def otpProgram (otp : List Nat) (code : Nat) : List Nat :=
  if otpState otp = code then otp
  else if otp.length < 15 || (code == 4 && otp.length == 15) then otp ++ [otpEntry code] else otp

/-- Whether an OTP entry is left for a transition (R445). -/
def otpFree (otp : List Nat) (code : Nat) : Bool := decide (otp.length < 15) || (code == 4 && otp.length == 15)

/-- The erasures and stores of a transition (Table 19.3); each can be repeated (R449). -/
def State.lifeEffects (j : Journal) (s : State) : State :=
  if j.target = 4 then { s with nv.idSeed := false, nv.ownerKey := [], nv.ownerDigest := [] }
  else if j.source = 0 then { s with nv := { s.nv.clearLog with idSeed := true }, dev.fore.logRead := [] }
  else if j.source = 1 then { s with nv.ownerKey := j.payload, nv.ownerDigest := j.digest, nv.policy := 0 }
  else if j.source = 2 then
    { s with nv.ownerKey := [], nv.ownerDigest := [], nv.policy := 0, hbm := [], dev.till.banks := [] }
  else { s with nv := s.nv.clearLog, dev.fore.logRead := [] }

/-- Steps 3 to 5 of a transition (R449): the erasures, the OTP entry, DONE. -/
def State.lifeAdvance (j : Journal) (s : State) : State :=
  let s1 := s.lifeEffects j
  { s1 with nv.otp := otpProgram s1.nv.otp j.target, nv.journal := none, dev := (s1.dev.fbit Reg.life_JOURNAL_BUSY false) }

/-- The life-cycle state has changed (R450): the permits follow, injection is disarmed, a debug unlock ends. -/
def State.lifeEntered (s : State) : State := s.onDev fun d => ((d.lifeChanged s.nv).disarm).tapClose

/-- The ROM finds PREPARE without DONE and repeats steps 3 to 5 (R449); a command still outstanding then receives its completion
(R418). -/
def State.journalReplay (s : State) : State :=
  match s.nv.journal with
  | none => s
  | some j =>
    let s1 := (s.lifeAdvance j).lifeEntered
    s1.onDev fun d =>
      let d1 := d.raise 1 Ev.life_JOURNAL_REPLAY
      match j.cmd with
      | some id => (d1.raise 1 Ev.life_TRANSITION_DONE).finishCmd id 0 j.target
      | none => d1

/-! ### The ROM (R417, R419, R445, R453, R454) -/

/-- OTP_TORN where the ROM finds a torn entry (R445). -/
def Dev.noteTorn (d : Dev) (otp : List Nat) : Dev := if otp.all otpAgrees then d else d.raise 1 Ev.life_OTP_TORN

/-- The valid copy of the margin plan with the higher SEQ (R432). -/
def NonVolatile.plan (nv : NonVolatile) : Option Plan :=
  match nv.planA, nv.planB with
  | some a, some b => if a.seq < b.seq then some b else some a
  | some a, none => some a
  | none, p => p

/-- A plan's fields come into force in the AGE page (R432, Table 18.8). -/
def Dev.planShow (d : Dev) (p : Plan) : Dev :=
  ((((((((d.fbit Reg.age_VALID true).fbit Reg.age_DEFAULT false).fset Reg.age_PLAN_SEQ p.seq).fset Reg.age_PROJECTED_YEARS p.years).fset
    Reg.age_LIMITER p.limiter).fset Reg.age_GUARD_CORE p.guardCore).fset Reg.age_GUARD_SRAM p.guardSram).fset Reg.age_REF_FLOOR_0
    p.floor0).fset Reg.age_REF_FLOOR_1 p.floor1 |>.fset Reg.age_RETRAIN_DAYS p.retrainDays

/-- The retirements that a plan requests: at most one per group, and none in a group with one in progress (R432). -/
def Dev.planRetires (d : Dev) (slices : List Nat) : List Nat :=
  [0, 1, 2, 3].filterMap fun g => if d.retiring g then none else slices.find? fun s => s / 34 == g && d.role g (s % 34) == 0

/-- Request retirements (R78, R432). -/
def Dev.retireAll (d : Dev) (ss : List Nat) : Dev :=
  ss.foldl (fun (d : Dev) s => (d.retireRequest s).raise 4 Ev.age_RETIRE_REQUESTED) d

/-- A slice that the stored plan names as retired and that serves a position is retired again (R432). -/
def Dev.planRetire (d : Dev) (nv : NonVolatile) : Dev :=
  match nv.plan with
  | some p => if d.flag Reg.top_CAL_LOADED then d.retireAll (d.planRetires p.retired) else d
  | none => d

/-- The ROM reads the stored plan at cold reset; without a valid copy the default plan applies (R432). -/
def Dev.planLoad (d : Dev) (nv : NonVolatile) : Dev :=
  match nv.plan with
  | some p => ((d.planShow p).refUpdate 0).refUpdate 1
  | none => (d.fbit Reg.age_DEFAULT true).raise 4 Ev.age_DEFAULT_PLAN

/-- In RETIRED the ROM does not load firmware (R445). -/
def Dev.retiredCheck (d : Dev) : Dev := if d.fget Reg.life_STATE = 4 then d.startFail 3 else d

/-- The Foreman core pair is reset and starts from ROM (R417): the nonce is gone (R446), the image selection begins anew. Until an image
runs again ROM_RECOVERY is 1 (R34). -/
def Dev.foremanDown (d : Dev) : Dev :=
  { d with
    fore.running := false
    fore.failedImages := 0
    fore.recovery := false
    fore.nonce := none }.fbit Reg.life_ROM_RECOVERY true

/-- What the ROM does at every start before it reads firmware: the life-cycle state, a journal without DONE (R417, R449). -/
def State.romBegin (s : State) : State :=
  let s1 := s.journalReplay
  s1.onDev fun d => ((d.lifeChanged s1.nv).noteTorn s1.nv.otp).retiredCheck

/-- The Foreman restarts from ROM (R417). -/
def State.foremanRestart (s : State) : State := (s.onDev Dev.foremanDown).romBegin

/-- What the ROM does at cold reset (Table 01.7, R114, R430, R432, R440, R454, R457): a plan is asked for; fuses are programmed until OTP_SVN equals MRAM_SVN. -/
def State.romStart (s : State) : State :=
  let s1 := { s with nv.otpSvn := max s.nv.otpSvn s.nv.mramSvn }.romBegin
  s1.onDev fun d =>
    let d1 := { d with
      fore.attNext := s1.nv.attReserved
      fore.planDue := true }.fset Reg.life_ATT_NEXT s1.nv.attReserved
    let d2 := match s1.nv.trip with
      | some k => (d1.fbit Reg.pwr_LAST_TRIP true).fset Reg.pwr_TRIP_SENSOR k
      | none => d1
    let d3 := (d2.fset Reg.age_HOURS s1.nv.hours).fset Reg.top_CAL_BANK_SRC (((loadChoice s1.nv).map Prod.snd).getD 2)
    (d3.planLoad s1.nv).startSet Reg.top_ROM_DONE

/-- ROM recovery (R419, R453). -/
def Dev.enterRecovery (d : Dev) : Dev :=
  ((({ d with fore.running := false, fore.recovery := true }.fbit Reg.life_ROM_RECOVERY true).degrade 2 2 true).planSoon.raise 2 Ev.fore_ROM_RECOVERY)

/-- The Foreman leaves what ROM recovery reported, once firmware runs again (R41). -/
def Dev.leaveRecovery (d : Dev) : Dev :=
  (({ d with fore.recovery := false }.fbit Reg.life_ROM_RECOVERY false).degrade 2 2 false).contain 2 0 false

/-- FLOOR (R452). -/
def Dev.svnFloor (d : Dev) : Nat := max (d.fget Reg.life_OTP_SVN) (d.fget Reg.life_MRAM_SVN)

/-- The first check of R452 that an image fails, 1 to 5; 0 where it is valid. -/
def Dev.imageCheck (d : Dev) (img : FwImage) : Nat :=
  if !img.headerOk then 1
  else if !img.keyOk || bitAt (d.fget Reg.life_KEY_REVOKED) img.keySlot.toNat then 2
  else if !img.sigOk then 3
  else if !img.bodyOk then 4
  else if img.svn.toNat < d.svnFloor then 5
  else 0

/-- Firmware starts from an image (R453): the other image than BOOT_PREF names leaves none in reserve (Table 17.6). -/
def Dev.fwStart (d : Dev) (slot : Nat) (img : FwImage) : Dev :=
  let d1 := { d with
    fore.running := true
    fore.fwDigest := img.digest.map BitVec.toNat }
  let d2 := (((d1.fset Reg.top_FW_IMAGE slot).fset Reg.life_FW_IMAGE slot).fset Reg.life_FW_SVN img.svn.toNat).leaveRecovery
  let d3 := d2.degrade 2 1 (d2.fore.failedImages != 0)
  (d3.startSet Reg.top_FW_VALID).startupCal

/-- The Foreman, running again, appends a trip record to the device log (R440); its CODE and CLASS are the model's (log entry 31). -/
def NonVolatile.tripLogged (nv : NonVolatile) (d : Dev) : NonVolatile :=
  match nv.trip with
  | none => nv
  | some k => { nv.append 3 false Ev.pwr_THERM_WARN 3 k 0 d.nowStamp with trip := none }

/-- The read of a firmware image completes (R452, R453). A ROM that has not yet made its first step makes it (Table 01.7). -/
def State.imageRead (img : FwImage) (s : State) : State :=
  let s := if s.dev.flag Reg.top_ROM_DONE then s else s.romStart
  let d := s.dev
  if d.fore.running || d.romRecovery || d.fget Reg.life_STATE == 4 then s
  else
    let slot := (s.nv.bootPref + d.fore.failedImages) % 2
    if d.imageCheck img = 0 then
      { s with dev := (d.fwStart slot img).planRetire s.nv, nv := s.nv.tripLogged d }
    else if d.fore.failedImages = 0 then
      { s with dev := { d with fore.failedImages := 1 }.countRecovery 2 |>.logErr 2 0xF2 slot 0 }
    else { s with dev := (d.logErr 2 0xF2 slot 0).startFail 1 |>.enterRecovery }

/-- An expiry of the Foreman's watchdog, or a lockstep mismatch (R417, R419): the core pair restarts; a third expiry within 10 s of the
first leaves it in ROM recovery. -/
def State.foremanExpiry (bit atMs : Nat) (s : State) : State :=
  if s.dev.romRecovery || s.dev.fget Reg.life_STATE == 4 then s
  else
    let times := (atMs :: s.dev.fore.expiries.filter fun t => decide (atMs ≤ t + 10000)).take 3
    let s1 := s.onDev fun d =>
      (((({ d with fore.expiries := times }.countTimeout 2).countRecovery 2).raise 2 bit).logErr 2 bit 0 0)
    let s2 := s1.foremanRestart
    if times.length < 3 then s2 else s2.onDev fun d => (d.enterRecovery).contain 2 0 true

/-! ### Commands (R447, R455) -/

/-- Whether the Foreman, or the ROM in its place, takes a command of a queue: firmware takes all, ROM recovery and RETIRED the ones of
R453 and R445 on the admin queue; none where it completes with NOT_PERMITTED. -/
def Dev.servesCmd (d : Dev) (q op : Nat) : Bool :=
  if d.fget Reg.life_STATE == 4 then q == 0 && (op == 0x50 || op == 0x54 || op == 0x40)
  else if d.romRecovery then q == 0 && (op == 0x50 || op == 0x52 || op == 0x56 || op == 0x57 || op == 0x40)
  else true

/-- Whether something executes commands: firmware, ROM recovery, or the ROM of a RETIRED device. -/
def Dev.serving (d : Dev) : Bool := d.fore.running || d.romRecovery || (d.fget Reg.life_STATE == 4 && d.flag Reg.top_ROM_DONE)

/-- LIFE.STATUS as a word (Table 19.8). -/
def Dev.lifeStatus (d : Dev) : Nat :=
  d.fget Reg.life_STATE + 16 * d.fget Reg.life_ENTRIES_USED + 512 * d.fget Reg.life_JOURNAL_BUSY + 1024 * d.fget Reg.life_ATT_READY +
    2048 * d.fget Reg.life_ROM_RECOVERY

/-- LIFE.SVN as a word (Table 19.8). -/
def Dev.lifeSvn (d : Dev) : Nat := d.fget Reg.life_OTP_SVN + 256 * d.fget Reg.life_MRAM_SVN + 65536 * d.fget Reg.life_FW_SVN

/-- LC_STATUS (Table 19.6). -/
def lcStatus (id : Nat) (d : Dev) : Dev := d.finishCmd id 0 (d.lifeStatus + 2 ^ 32 * d.lifeSvn)

/-- GET_NONCE: a fresh nonce replaces an earlier one (R446). -/
def getNonce (id nonce : Nat) (d : Dev) : Dev := { d with fore.nonce := some nonce }.finishCmd id 0 nonce

/-- Whether Table 19.3 gives a request of a kind and signer in a state, and its TARGET lies in the range of Table 19.2. -/
def lcAllowed (state policy kind signer target : Nat) : Bool :=
  match kind with
  | 1 => [(0, 1, 0), (1, 2, 0), (2, 3, 1), (3, 1, 0), (0, 4, 0), (1, 4, 0), (3, 4, 0), (2, 4, 1)].contains (state, target, signer)
  | 2 => state == 2 && signer == 1 && decide (target < 8)
  | 3 => ((state == 1 || state == 3) && signer == 0 || state == 2 && signer == 1 && bitAt policy 2) && decide (1 ≤ target) &&
      decide (target ≤ 3600)
  | 4 => state != 4 && signer == 0 && decide (target < 4)
  | _ => false

/-- Whether a signed request is accepted (R447). -/
def Dev.lcAccepts (d : Dev) (r : LcRequest) : Bool :=
  lcAllowed (d.fget Reg.life_STATE) (d.fget Reg.life_POLICY) r.kind.toNat r.signer.toNat r.target.toNat &&
    r.uid.toNat == d.fget64 Reg.life_UID_W0 Reg.life_UID_W1 && d.fore.nonce == some r.nonce.toNat && r.sigOk

/-- Whether record space or the Till is in use, so that it cannot be erased (R449). -/
def Dev.eraseBusy (d : Dev) : Bool := d.armed || (List.range 16).any fun k => d.fget Reg.accu_part_STATE k != 0

/-- A KIND 1 request (R449): PREPARE, then the transition, the completion and the Foreman's restart; a cut leaves PREPARE without
DONE. -/
def State.lcTransition (id : Nat) (r : LcRequest) (s : State) : State :=
  let st := s.dev.fget Reg.life_STATE
  let j : Journal :=
    { source := st, target := r.target.toNat, payload := r.payload.map BitVec.toNat, digest := r.digest.map BitVec.toNat, cmd := some id }
  if st = 2 ∧ j.target = 3 ∧ s.dev.eraseBusy then s.onDev fun d => d.finishCmd id 7 0
  else if !otpFree s.nv.otp j.target then s.onDev fun d => d.finishCmd id 3 0
  else match r.cut with
    | none => ((s.lifeAdvance j).lifeEntered.onDev fun d => (d.raise 1 Ev.life_TRANSITION_DONE).finishCmd id 0 j.target).foremanRestart
    | some entry =>
      let s1 := s.lifeEffects j
      { s1 with
        nv.journal := some j
        nv.otp := match entry with
          | some e => s1.nv.otp ++ [e.toNat]
          | none => s1.nv.otp
        dev := s1.dev.fbit Reg.life_JOURNAL_BUSY true }

/-- LC_REQUEST (R447 to R450, R456). The nonce is discarded whether the request is accepted or refused (R446). -/
def State.lcRequest (id : Nat) (r : LcRequest) (s : State) : State :=
  let ok := s.dev.lcAccepts r
  let s1 := { s with dev.fore.nonce := none }
  if !ok then s1.onDev fun d => (d.raise 1 Ev.life_TRANSITION_REFUSED).finishCmd id 2 0
  else match r.kind.toNat with
    | 1 => s1.lcTransition id r
    | 2 =>
      let s2 := { s1 with nv.policy := r.target.toNat }
      s2.onDev fun d =>
        let d1 := d.lifeChanged s2.nv
        let d2 := if bitAt r.target.toNat 2 then d1 else d1.tapClose
        (d2.raise 1 Ev.life_TRANSITION_DONE).finishCmd id 0 r.target.toNat
    | 3 => s1.onDev fun d => ((((d.fset Reg.life_TAP_REMAIN r.target.toNat).fbit Reg.life_TAP_OPEN true).raise 1
        Ev.life_TAP_UNLOCKED)).finishCmd id 0 (d.fget Reg.life_STATE)
    | _ =>
      let s2 := { s1 with nv.revoked := s1.nv.revoked ||| 2 ^ r.target.toNat }
      s2.onDev fun d => ((d.lifeSync s2.nv).raise 1 Ev.life_TRANSITION_DONE).finishCmd id 0 (d.fget Reg.life_STATE)

/-- The nonce expires (R446). -/
def nonceExpiry (d : Dev) : Dev := { d with fore.nonce := none }

/-- A list of words brought to a length. -/
def fitWords (n : Nat) (ws : List Nat) : List Nat := (ws ++ List.replicate n 0).take n

/-- ATT_READY follows the tree that the next index needs (R458). -/
def Dev.attReady (d : Dev) : Dev := d.fbit Reg.life_ATT_READY (d.fore.trees.contains (d.fore.attNext / 2 ^ 15))

/-- A bottom tree is ready: the current one, or the next once half of the current one's leaves are used (R458). -/
def treeReady (tree : Nat) (d : Dev) (nv : NonVolatile) : Dev × NonVolatile :=
  let c := d.fore.attNext / 2 ^ 15
  if d.fore.running && nv.idSeed && (tree == c || tree == c + 1 && decide (2 ^ 14 ≤ d.fore.attNext % 2 ^ 15)) &&
      !d.fore.trees.contains tree then
    ({ d with fore.trees := tree :: d.fore.trees.filter fun t => decide (c ≤ t) }.attReady, nv)
  else (d, nv)

/-- The words of an attestation report's body (Table 19.7). -/
def Dev.reportBody (d : Dev) (nv : NonVolatile) (challenge : List Nat) (q : Nat) : List Nat :=
  [1 + 65536 * d.fget Reg.life_STATE, d.fget Reg.life_UID_W0, d.fget Reg.life_UID_W1] ++ fitWords 8 challenge ++
    fitWords 8 d.fore.fwDigest ++
    [d.fget Reg.life_FW_SVN + 256 * d.fget Reg.life_FW_IMAGE + 65536 * d.fget Reg.top_ROM_VERSION,
      d.fget Reg.life_OTP_SVN + 256 * d.fget Reg.life_MRAM_SVN + 2 ^ 16 * d.fget Reg.life_TAP_OPEN + 2 ^ 17 * d.fget Reg.inj_ARMED +
        2 ^ 18 * d.fget Reg.life_EXPERT_PERMIT + 2 ^ 19 * d.fget Reg.life_ROM_RECOVERY] ++
    fitWords 8 nv.ownerDigest ++
    [d.fget Reg.life_POLICY, d.activeSeq nv % 2 ^ 32, d.fget Reg.top_CAL_BANK_SRC + 65536 * d.fget Reg.age_PROJECTED_YEARS,
      d.fget Reg.age_HOURS] ++ d.nowStamp ++ [q] ++ List.replicate 27 0

/-- A bus address held in two words of an entry. -/
def entryAddr (ws : List Nat) : Nat := ws.getD 1 0 + 2 ^ 32 * ws.getD 2 0

/-- ATTEST (R457 to R459): the index is used only once its block is reserved. -/
def attest (id : Nat) (ws sig : List Nat) (d : Dev) (nv : NonVolatile) : Dev × NonVolatile :=
  let q := d.fore.attNext
  if d.fget Reg.life_STATE = 0 then (d.finishCmd id 2 0, nv)
  else if ws.getD 3 0 < 3540 then (d.finishCmd id 1 0, nv)
  else if 2 ^ 30 ≤ q then ((d.raise 1 Ev.life_ATTEST_EXHAUSTED).finishCmd id 2 0, nv)
  else if !d.fore.trees.contains (q / 2 ^ 15) then (d.finishCmd id 7 0, nv)
  else
    let nv1 := if nv.attReserved ≤ q then { nv with attReserved := nv.attReserved + 1024 } else nv
    let d1 := d.emit (.hostWrite (entryAddr ws) (d.reportBody nv (ws.drop 4) q ++ fitWords 821 sig))
    let d2 := { d1 with fore.attNext := q + 1 }
    (((d2.fset Reg.life_ATT_NEXT (q + 1)).fset Reg.life_ATT_RESERVED nv1.attReserved).attReady.finishCmd id 0 q, nv1)

/-- GET_CERT: UID, identity public key and the maker's signature (R455). The maker signs it on the way out of BLANK, so that a BLANK
device has none (DESIGN CHOICE, log entry 32). -/
def getCert (id : Nat) (ws cert : List Nat) (d : Dev) : Dev :=
  if d.fget Reg.life_STATE = 0 then d.finishCmd id 2 0
  else if ws.getD 3 0 < 3032 then d.finishCmd id 1 0
  else (d.emit (.hostWrite (entryAddr ws) ([d.fget Reg.life_UID_W0, d.fget Reg.life_UID_W1] ++ fitWords 756 cert))).finishCmd id 0 3032

/-- DEBUG_LOCK (R456). -/
def debugLock (id : Nat) (d : Dev) : Dev := d.tapClose.finishCmd id 0 0

/-- Whether a slot holds the firmware that runs (R455). -/
def Dev.slotRuns (d : Dev) (slot : Nat) : Bool := d.fore.running && d.fget Reg.life_FW_IMAGE == slot

/-- FW_WRITE (R455, R499): the flash itself is outside the device. -/
def fwWrite (id : Nat) (ws : List Nat) (d : Dev) : Dev :=
  let len := ws.getD 3 0
  let off := ws.getD 4 0
  let slot := ws.getD 5 0 % 2
  if len = 0 || len % 4096 != 0 || decide (2 ^ 20 < len) || off % 4096 != 0 || decide (2 ^ 24 < off + len) || d.slotRuns slot then
    d.finishCmd id 1 0
  else (d.emit (.flash slot off len)).finishCmd id 0 len

/-- FW_ACTIVATE (R452, R453, R455): the slot is checked and BOOT_PREF set to it; with RESTART the Foreman restarts. -/
def State.fwActivate (id : Nat) (ws : List Nat) (img : FwImage) (s : State) : State :=
  let slot := ws.getD 1 0 % 2
  let check := s.dev.imageCheck img
  if s.dev.slotRuns slot then s.onDev fun d => d.finishCmd id 1 0
  else if check != 0 then s.onDev fun d => d.finishCmd id 1 check
  else
    let s1 := { s with nv.bootPref := slot }.onDev fun d =>
      let d1 := d.fset Reg.life_BOOT_PREF slot
      (if d.fget Reg.life_BOOT_PREF = slot then d1 else d1.raise 1 Ev.life_FW_ACTIVATED).finishCmd id 0 0
    if bitAt (ws.getD 1 0) 1 then s1.foremanRestart else s1

/-- FW_COMMIT (R454): MRAM_SVN rises to FW_SVN, then the fuses follow. -/
def fwCommit (id : Nat) (d : Dev) (nv : NonVolatile) : Dev × NonVolatile :=
  let v := d.fget Reg.life_FW_SVN
  if v ≤ d.svnFloor then (d.finishCmd id 0 d.svnFloor, nv)
  else
    let nv1 := { nv with mramSvn := max nv.mramSvn v, otpSvn := max nv.otpSvn v }
    (((d.lifeSync nv1).raise 1 Ev.life_ROLLBACK_RAISED).finishCmd id 0 v, nv1)

/-! ### The meanings -/

/-- FIRMWARE_IMAGE_READ_DONE (R452, R453). -/
def execFirmwareImageReadDone (img : FwImage) (s : State) : Host.Outcome State Fault Refusal := .next (s.live fun s => s.imageRead img)

/-- WATCHDOG (R417, R419). -/
def execWatchdog (atMs : Nat) (s : State) : Host.Outcome State Fault Refusal :=
  .next (s.live fun s => s.foremanExpiry Ev.fore_WATCHDOG atMs)

/-- LOCKSTEP (R417, R419). -/
def execLockstep (atMs : Nat) (s : State) : Host.Outcome State Fault Refusal :=
  .next (s.live fun s => s.foremanExpiry Ev.fore_LOCKSTEP atMs)

/-- NONCE_EXPIRY (R446). -/
def execNonceExpiry (s : State) : Host.Outcome State Fault Refusal := .next (s.live fun s => s.onDev nonceExpiry)

/-- TAP_LOCKED (R456). -/
def execTapLocked (s : State) : Host.Outcome State Fault Refusal := .next (s.live fun s => s.onDev Dev.tapClose)

/-- BOTTOM_TREE_READY (R458). -/
def execBottomTreeReady (tree : BitVec 15) (s : State) : Host.Outcome State Fault Refusal :=
  .next (s.live fun s => s.onDevNv (treeReady tree.toNat))

/-- TAP_INSTRUCTION (R444, R456): a debug instruction decodes as BYPASS while the TAP is closed; what it does while the TAP is open
the manual does not say. Boundary scan touches the pins alone. -/
def execTapInstruction (ir : TapInstr) (s : State) : Host.Outcome State Fault Refusal :=
  match ir with
  | .bypass => .next s
  | .boundaryScan _ => .next s
  | .debug _ _ => if s.dev.flag Reg.life_TAP_OPEN && !s.dev.fore.off then .refused .debugInstructionUnspecified else .next s

end Sys2Proof.Machine
end

