-- ==== Sys2Proof/Machine/Power.lean ====
section
/-!
DEFINITION. Ageing, margins, power and thermal (chapter 18): monitors and trends, the margin plan, the AVSBus loop, the die sensors,
throttling and the thermal trip. Counts, voltages, temperatures and trend quantities are measured outside the model and come as
operands; fits and projections are computed from the summaries.
-/

namespace Sys2Proof.Machine

/-- A quotient rounded to a neighbouring whole number; which one the manual leaves open where it is not whole (log entry 5). -/
def Dev.roundOpen (d : Dev) (num : Int) (den : Nat) : Int × Dev :=
  if num % den = 0 then (num / den, d) else let f := d.free; (num / den + (f.1 % 2 : Nat), f.2)

/-! ### Ageing monitors and trends (R428, R429) -/

/-- DEG of a monitor, as AGEMON holds it. -/
def Dev.deg (d : Dev) (k : Nat) : Int := toSigned 16 (d.tget 4 0 0 k % 65536)

/-- The highest non-negative DEG of a range of monitors (Table 18.3). -/
def Dev.degMax (d : Dev) (lo n : Nat) : Nat := ((List.range n).map fun k => (d.deg (lo + k)).toNat).foldl max 0

/-- Store DEG of monitor k from the counts of its stressed and its reference oscillator over one gate (R428). -/
def Dev.degStore (d : Dev) (k : Nat) (c : Nat × Nat) : Dev :=
  let r := if c.2 = 0 then let f := d.free; (toSigned 16 (f.1 % 65536), f.2) else d.roundOpen (1000000 * ((c.2 : Int) - c.1)) c.2
  r.2.tset 4 0 0 k (ofSigned 16 (clampInt (-32768) 32767 r.1))

/-- Store the DEGs of the monitors in order. -/
def Dev.degStores (d : Dev) (k : Nat) : List (Nat × Nat) → Dev
  | [] => d
  | c :: cs => (d.degStore k c).degStores (k + 1) cs

/-- Another hour in word a of a table entry, at [31:16], saturating. -/
def Dev.hourMore (d : Dev) (page a : Nat) : Dev :=
  let w := d.tget page 0 0 a
  d.tset page 0 0 a (w % 65536 + 65536 * min 65535 (w / 65536 + 1))

/-- The hours since the trainings and scans that the EYE and MARGIN tables hold grow (R353, R371). -/
def Dev.tableHours (d : Dev) : Dev :=
  let d1 := (List.range 256).foldl (fun (d : Dev) e => if d.tget 67 0 0 (2 * e) = 0 then d else d.hourMore 67 (2 * e + 1)) d
  (List.range 16).foldl (fun (d : Dev) l => if d.tget 68 0 0 (2 * l + 1) % 16 = 0 then d else d.hourMore 68 (2 * l + 1)) d1

/-- The hourly measurement of the ageing monitors (R428): a change of more than 1,000 ppm since the last plan asks for one (R430). -/
def ageingMeasure (counts : List (Nat × Nat)) (d : Dev) (nv : NonVolatile) : Dev × NonVolatile :=
  let h := min (2 ^ 32 - 1) (nv.hours + 1)
  let d1 := (d.degStores 0 (counts.take 96)).tableHours
  let d2 := ((d1.fset Reg.age_DEG_MAX_CORE (d1.degMax 0 88)).fset Reg.age_DEG_MAX_SRAM (d1.degMax 88 8)).fset Reg.age_HOURS h
  let moved := (List.range 96).any fun k => decide (1000 < (d2.deg k - KMap.at d2.fore.planDeg 0 k).natAbs)
  (if moved then { d2 with fore.planDue := true } else d2, { nv with hours := h })

/-- Whether a summary is kept when the clock shows `hours`: daily for 4,096 days, beyond that one in 30 (R429). -/
def Trend.kept (t : Trend) (hours : Nat) : Bool := decide (hours / 24 ≤ t.hours / 24 + 4096) || t.hours / 24 % 30 == 0

/-- The Foreman stores the daily summaries of the trend quantities (R429). -/
def trendSummary (values : List (Nat × Nat × Int)) (d : Dev) (nv : NonVolatile) : Dev × NonVolatile :=
  if !d.fore.running then (d, nv)
  else
    let new := values.map fun v => ({ hours := nv.hours, code := v.1, element := v.2.1, value := v.2.2 } : Trend)
    (d, { nv with trends := new ++ nv.trends.filter fun t => t.kept nv.hours })

/-! ### The margin plan (R430 to R432) -/

/-- RECOMPUTE requests a plan (R430). -/
def recompute (d : Dev) : Dev := { d with fore.planDue := true }

/-- The Foreman starts a plan; none while it runs no firmware (R419, R430). -/
def planStart (d : Dev) : Dev :=
  if d.fore.running then { d with fore.planDue := false }.fbit Reg.age_COMPUTING true else d

/-- REF_FLOOR for a shortest retention in µs: the smallest multiplier M with t_ret ≥ 4 × 31.9488 ms / M, else ×8 (Table 18.3). -/
def refFloor (tRet : Nat) : Nat :=
  if 1277952 ≤ 10 * tRet then 0 else if 1277952 ≤ 20 * tRet then 1 else if 1277952 ≤ 40 * tRet then 2 else 3

/-- A guard-band: its base and a mV for each begun 1,000 ppm of DEG (Table 18.3). -/
def guardBand (base deg : Nat) : Nat := base + (deg + 999) / 1000

/-- Whether any trained eye lies within 20 % of EYE_MIN (Table 18.3). -/
def Dev.eyeNear (d : Dev) : Bool :=
  (List.range 256).any fun e =>
    let w := d.tget 67 0 0 (2 * e)
    w != 0 && decide (5 * min (w % 256) (w / 256 % 256) ≤ 6 * d.fget Reg.memt_EYE_MIN)

/-- The limits of a trend source, in the units of its quantity: the one a falling fit reaches, and the one a rising fit reaches
(Table 18.2; the units of codes 5, 7, 9 and 10, and the codes at the edges of a band under R47, are read as log entry 43 says). -/
def trendLimits : Nat → Option Int × Option Int
  | 1 => (none, some 850)
  | 2 => (none, some 860)
  | 3 => (some (-90), some 90)
  | 4 => (some 0, none)
  | 5 => (some 45000, some 55000)
  | 6 => (some 983, some 64552)
  | 7 => (some 15974, none)
  | 8 => (some 0, none)
  | 9 => (some 2, none)
  | 10 => (some 35, none)
  | 11 => (none, some 100)
  | _ => (none, none)

/-- The least-squares fit q = q0 + B √t of daily summaries (R429), with t in hours and its roots in units of 2^-32: `det` is the
determinant in units of 2^-64, `slope` is B times `det` in units of 2^-32, `level` is q0 times `det`. -/
structure TrendFit where
  det : Int
  slope : Int
  level : Int

/-- The fit of a quantity's summaries. -/
def trendFit (ts : List Trend) : TrendFit :=
  let n : Int := ts.length
  let h : Int := (ts.map fun t => (t.hours : Int)).sum * 2 ^ 64
  let r : Int := (ts.map fun t => (isqrt (t.hours * 2 ^ 64) : Int)).sum
  let q : Int := (ts.map fun t => t.value).sum
  let rq : Int := (ts.map fun t => (isqrt (t.hours * 2 ^ 64) : Int) * t.value).sum
  { det := n * h - r * r, slope := n * rq - r * q, level := q * h - r * rq }

/-- When a fit reaches a limit, as its hours from now: a fraction; now already where the fit passed the limit before (R429). -/
def TrendFit.hoursTo (f : TrendFit) (limit : Int) (now : Nat) : Nat × Nat :=
  let num := limit * f.det - f.level
  let left := (num * num : Int) - 2 ^ 64 * f.slope * f.slope * now
  (if decide (0 ≤ num) == decide (0 < f.slope) then left.toNat else 0, 2 ^ 64 * f.slope.natAbs * f.slope.natAbs)

/-- A projection (R429): the element, its quantity today, the limit that its fit reaches, and the hours until then as a fraction. -/
structure Projection where
  code : Nat
  element : Nat
  value : Int
  limit : Int
  num : Nat
  den : Nat

/-- The projection of one element's quantity: none where its fit does not move towards a limit (R429). -/
def NonVolatile.project (nv : NonVolatile) (code element : Nat) : Option Projection :=
  let ts := nv.trends.filter fun t => t.code == code && t.element == element
  let f := trendFit ts
  let limit := if f.slope < 0 then (trendLimits code).1 else if 0 < f.slope then (trendLimits code).2 else none
  match ts.head?, limit with
  | some t, some l =>
    let h := f.hoursTo l nv.hours
    some { code := code, element := element, value := t.value, limit := l, num := h.1, den := h.2 }
  | _, _ => none

/-- The projection that comes first of two. -/
def Projection.first (a b : Projection) : Projection := if a.num * b.den ≤ b.num * a.den then a else b

/-- The projection that comes first of a list. -/
def leastProjection : List Projection → Option Projection
  | [] => none
  | p :: ps => match leastProjection ps with
    | some q => some (p.first q)
    | none => some p

/-- The projections of one trend source (Table 18.2). -/
def NonVolatile.projections (nv : NonVolatile) (code : Nat) : List Projection :=
  ((nv.trends.filter fun t => t.code == code).map Trend.element).eraseDups.filterMap fun e => nv.project code e

/-- The years that a projection leaves, in 0.1-year units of 876.6 hours; the rounding is open (log entry 43). -/
def Dev.yearsOf (d : Dev) (p : Projection) : Nat × Dev :=
  let r := d.roundOpen (10 * p.num : Nat) (8766 * p.den)
  (r.1.toNat, r.2)

/-- Show a source in LIMITS (R443): its least projection; without one YEARS saturates and the other words are open (log entry 43). -/
def Dev.limitShow (nv : NonVolatile) (d : Dev) (code : Nat) : Dev :=
  let a := 4 * (code - 1)
  match leastProjection (nv.projections code) with
  | some p =>
    let y := d.yearsOf p
    y.2.tsetWords 4 1 0 a [code + 65536 * min 65535 y.1, p.element, ofSigned 32 p.value, ofSigned 32 p.limit]
  | none =>
    let x := d.free
    let y := x.2.free
    let z := y.2.free
    z.2.tsetWords 4 1 0 a [code + 65536 * 65535, x.1 % 2 ^ 32, y.1 % 2 ^ 32, z.1 % 2 ^ 32]

/-- The codes of the trend sources (Table 18.2). -/
def trendCodes : List Nat := [1, 2, 3, 4, 5, 6, 7, 8, 9, 10, 11]

/-- PROJECTED_YEARS and LIMITER (R431): of the least projection, saturating at 9,999; which code LIMITER gives where nothing projects
exhaustion is open (log entry 43). -/
def Dev.planYears (d : Dev) (nv : NonVolatile) : (Nat × Nat) × Dev :=
  match leastProjection (trendCodes.filterMap fun c => leastProjection (nv.projections c)) with
  | some p => let y := d.yearsOf p; ((min 9999 y.1, p.code), y.2)
  | none => let x := d.free; ((9999, x.1 % 256), x.2)

/-- The retire list: active slices whose residual reaches its limit within RETIRE_HORIZON days (Table 18.3). -/
def Dev.retireList (d : Dev) (nv : NonVolatile) : List Nat :=
  (List.range 136).filter fun s => d.role (s / 34) (s % 34) == 0 &&
    match nv.project 3 s with
    | some p => decide (p.num ≤ 24 * d.fget Reg.age_RETIRE_HORIZON * p.den)
    | none => false

/-- The narrowest eye of a pseudo-channel at its last training, in ps (R353). -/
def Dev.eyeOf (d : Dev) (pc : Nat) : Nat :=
  ((List.range 4).map fun l => let w := d.tget 67 0 0 (8 * pc + 2 * l); min (w % 256) (w / 256 % 256)).foldl min 255

/-- The retrain list (Table 18.3): the narrowest eye, as scanned, has lost 10 % since the last training, or the training is as many
days old as RETRAIN_DAYS says. -/
def Dev.retrainList (d : Dev) (eyes : List (Nat × Nat)) (days : Nat) : List Nat :=
  (List.range 64).filter fun pc =>
    eyes.any (fun e => e.1 == pc && decide (10 * e.2 ≤ 9 * d.eyeOf pc)) ||
      (d.eyeOf pc != 0 && decide (24 * days ≤ d.tget 67 0 0 (8 * pc + 1) / 65536))

/-- Store a plan in the copy that is not in force; a failed write leaves that copy invalid (R432). -/
def NonVolatile.storePlan (nv : NonVolatile) (p : Plan) (ok : Bool) : NonVolatile :=
  let c := if ok then some p else none
  if nv.plan.isSome && nv.plan == nv.planA then { nv with planB := c } else { nv with planA := c }

/-- A plan is complete: its fields are derived, applied and stored (R431, R432). -/
def planDone (p : PlanData) (d : Dev) (nv : NonVolatile) : Dev × NonVolatile :=
  if !d.flag Reg.age_COMPUTING || !d.fore.running then (d, nv)
  else
    let shown := trendCodes.foldl (Dev.limitShow nv) d
    let least := shown.planYears nv
    let ask := d.planRetires (d.retireList nv)
    let days := if d.eyeNear then 7 else 30
    let old := nv.plan
    let new : Plan :=
      { seq := (old.map Plan.seq).getD 0 + 1
        guardCore := guardBand 20 (d.degMax 0 88)
        guardSram := guardBand 15 (d.degMax 88 8)
        floor0 := refFloor p.tRet0
        floor1 := refFloor p.tRet1
        retrainDays := days
        years := least.1.1
        limiter := least.1.2
        retrain := d.retrainList (p.eyes.map fun e => (e.1.val, e.2)) days
        retired := (old.map Plan.retired).getD [] ++ ask }
    let near := decide (new.years < d.fget Reg.age_WARN_YEARS) &&
      (!d.flag Reg.age_VALID || decide (d.fget Reg.age_WARN_YEARS ≤ d.fget Reg.age_PROJECTED_YEARS))
    let d1 := (least.2.planShow new).fbit Reg.age_COMPUTING false
    let d2 := ((d1.refUpdate 0).refUpdate 1).retireAll ask
    let d3 := { d2 with fore.planDeg := (List.range 96).foldl (fun (m : KMap Int) k => KMap.put m k (d2.deg k)) [] }
    (d3.raiseMask 4 (2 ^ Ev.age_PLAN_DONE + (if near then 2 ^ Ev.age_LIMIT_NEAR else 0) +
      if p.stored then 0 else 2 ^ Ev.age_PLAN_STORE_FAIL), nv.storePlan new p.stored)

/-! ### The supply voltages (R433 to R435) -/

/-- The target of a rail: the least voltage in both the safety envelope [lo, hi] and the policy range, else the envelope's bound
nearest the policy; and whether the two conflict (R434). -/
def railTarget (lo hi polMin polMax : Nat) : Nat × Bool :=
  if hi < lo then (hi, false)
  else if max lo polMin ≤ min hi polMax then (max lo polMin, false)
  else (if hi < polMin then hi else lo, true)

/-- One step of a rail towards its target, of at most 5 mV (R433). -/
def railStep (now target : Nat) : Nat := clampNat (now - 5) (now + 5) target

/-- The AVSBus works again (R435). -/
def Dev.avsRecovered (d : Dev) : Dev :=
  if d.flag Reg.pwr_AVS_HOLD then ((d.fbit Reg.pwr_AVS_HOLD false).degrade 3 0 false).countRecovery 3 else d

/-- The safety envelope of a rail cannot be met, or can again (R434). -/
def Dev.railExhausted (d : Dev) (sram bad : Bool) : Dev :=
  let d1 := d.contain 3 (Bool.bit sram) bad
  let any := bitAt (KMap.at d1.fore.contained 0 3) 0 || bitAt (KMap.at d1.fore.contained 0 3) 1
  let d2 := d1.fbit Reg.pwr_EXHAUSTED any
  if any && !d.flag Reg.pwr_EXHAUSTED then d2.raise 3 Ev.pwr_MARGIN_EXHAUSTED else d2

/-- A voltage write of the loop (R433, R434), with V_CPM and the rail's current in mA as read; the loop starts once the ROM has read the
plan. -/
def avsTransaction (sram : Bool) (cpm ma : Nat) (d : Dev) : Dev :=
  if !d.flag Reg.top_ROM_DONE || d.flag Reg.pwr_AVS_HOLD then d
  else
    let now := d.fget (if sram then Reg.pwr_VSRAM_NOW else Reg.pwr_VCORE_NOW)
    let lo := cpm + d.fget (if sram then Reg.age_GUARD_SRAM else Reg.age_GUARD_CORE)
    let hi := if sram then 860 else 850
    let ov := if sram then Reg.pwr_OVERRIDDEN_SRAM else Reg.pwr_OVERRIDDEN_CORE
    let t := railTarget lo hi (d.fget (if sram then Reg.pwr_VSRAM_POL_MIN else Reg.pwr_VCORE_POL_MIN))
      (d.fget (if sram then Reg.pwr_VSRAM_POL_MAX else Reg.pwr_VCORE_POL_MAX))
    let v := railStep now t.1
    let d1 := (d.fset (if sram then Reg.pwr_V_CPM_SRAM else Reg.pwr_V_CPM_CORE) cpm).railExhausted sram (decide (hi < lo))
    let d2 := if t.2 && !d1.flag ov then (d1.fbit ov true).raise 3 Ev.pwr_POLICY_CONFLICT else d1.fbit ov t.2
    let d3 := if v = now then d2 else (d2.fset (if sram then Reg.pwr_VSRAM_NOW else Reg.pwr_VCORE_NOW) v).emit (.avs sram v)
    let r := d3.roundOpen (ma * v) 10000
    r.2.fset (if sram then Reg.pwr_P_SRAM else Reg.pwr_P_CORE) r.1.toNat

/-- Three consecutive failures (R435): the voltage holds. -/
def avsFail (sram : Bool) (d : Dev) : Dev :=
  if d.flag Reg.pwr_AVS_HOLD then d
  else (((d.fbit Reg.pwr_AVS_HOLD true).degrade 3 0 true).raise 3 Ev.pwr_AVS_FAIL).logErr 3 Ev.pwr_AVS_FAIL (Bool.bit sram) 0

/-- The loop retries (R435). -/
def avsRetry (ok : Bool) (d : Dev) : Dev := if ok then d.avsRecovered else d

/-! ### Temperature and throttling (R437 to R440) -/

/-- Whether sensor i is valid. -/
def Dev.sensorOn (d : Dev) (i : Nat) : Bool := bitAt (d.fget Reg.pwr_TS_VALID) i

/-- A reading lies outside −55 to +175 °C. -/
def tempOut (t : Int) : Bool := decide (t < -880) || decide (2800 < t)

/-- Whether sensor i differs by more than 15 °C from the mean of the other valid sensors. -/
def Dev.sensorFar (d : Dev) (temps : List Int) (i : Nat) : Bool :=
  let others := (List.range 12).filter fun j => j != i && d.sensorOn j && !tempOut (temps.getD j 0)
  let n := others.length
  n != 0 && decide (240 * n < (temps.getD i 0 * n - (others.map fun j => temps.getD j 0).sum).natAbs)

/-- A sensor is excluded until cold reset (R437). -/
def Dev.sensorFail (d : Dev) (i : Nat) : Dev :=
  (((d.fsetBit Reg.pwr_TS_VALID i false).degrade 3 1 true).raise 3 Ev.pwr_SENSOR_FAIL).logErr 3 Ev.pwr_SENSOR_FAIL i 0

/-- One sensor's reading: TEMP_i in 0.01 °C, and its validity (R437). -/
def Dev.sensorRead (d : Dev) (temps : List Int) (far : Bool) (i : Nat) : Dev :=
  let t := temps.getD i 0
  let r := d.roundOpen (t * 25) 4
  let d1 := r.2.fsetS Reg.pwr_TEMP r.1 i
  if !d.sensorOn i then d1
  else
    let n := if far then KMap.at d1.fore.outliers 0 i + 1 else 0
    let d2 := { d1 with fore.outliers := KMap.put d1.fore.outliers i n }
    if tempOut t || decide (10 ≤ n) then d2.sensorFail i else d2

/-- The throttle stage at a temperature in 1/16 °C (R438): stages are entered at their thresholds and left 3 °C below them. -/
def stageAt (old : Nat) (tj thr : Int) (atFloor : Bool) : Nat :=
  let keep := fun (n : Nat) (th : Int) => decide (n ≤ old) && decide (th - 48 < tj)
  if decide (2320 ≤ tj) || keep 3 2320 then 3
  else if (decide (thr + 128 ≤ tj) && atFloor) || keep 2 (thr + 128) then 2
  else if decide (thr ≤ tj) || keep 1 thr then 1
  else 0

/-- Set the throttle stage (R438). -/
def Dev.setStage (d : Dev) (st : Nat) : Dev :=
  let old := d.fget Reg.pwr_STAGE
  let d1 := (d.fset Reg.pwr_STAGE st).fset Reg.pwr_TILL_MHZ (if 2 ≤ st then 800 else 1600)
  if old < st then d1.raise 3 Ev.pwr_THROTTLE else if st = 0 && old != 0 then d1.raise 3 Ev.pwr_THROTTLE_END else d1

/-- The sensors are read (R437): TJ_MAX is the highest valid reading; it keeps its value while no sensor is valid. -/
def thermalRead (temps : List Int) (d : Dev) : Dev :=
  let far := (List.range 12).map (d.sensorFar temps)
  let d1 := (List.range 12).foldl (fun (d : Dev) i => d.sensorRead temps (far.getD i false) i) d
  match (List.range 12).filter d1.sensorOn with
  | [] => d1
  | i :: is =>
    let hot := is.foldl (fun (b : Nat) j => if temps.getD b 0 < temps.getD j 0 then j else b) i
    let tj := temps.getD hot 0
    let d2 := { d1 with fore.tj := tj }.fsetS Reg.pwr_TJ_MAX (d1.fgetS Reg.pwr_TEMP hot)
    let d3 := d2.setStage (stageAt (d2.fget Reg.pwr_STAGE) tj (16 * d2.fget Reg.pwr_THROTTLE_TJ) (d2.fget Reg.pwr_JM_MHZ == 400))
    if decide (2240 ≤ tj) && decide (d.fore.tj < 2240) then d3.raise 3 Ev.pwr_THERM_WARN else d3

/-- The bench islands step by 200 MHz, down to 400 MHz in a stage, up again out of it (R438). -/
def throttleStep (d : Dev) : Dev :=
  let f := d.fget Reg.pwr_JM_MHZ
  d.fset Reg.pwr_JM_MHZ (if d.fget Reg.pwr_STAGE = 0 then min 1600 (f + 200) else max 400 (f - 200))

/-- A valid sensor reaches 150 °C (R440): a trip record, THERM_N low, the device stopped until cold reset. -/
def thermalTrip (sensor : Nat) (d : Dev) (nv : NonVolatile) : Dev × NonVolatile :=
  if !d.sensorOn sensor then (d, nv)
  else
    let d1 := if d.fore.tj < 2240 then d.raise 3 Ev.pwr_THERM_WARN else d
    ({ d1 with
      fore.thermN := true
      fore.off := true }, { nv with trip := some sensor })

/-! ### The meanings -/

/-- AGEING_MEASURE (R428). -/
def execAgeingMeasure (counts : List (Nat × Nat)) (s : State) : Host.Outcome State Fault Refusal :=
  .next (s.live fun s => s.onDevNv (ageingMeasure counts))

/-- TREND_SUMMARY (R429). -/
def execTrendSummary (values : List (Nat × Nat × Int)) (s : State) : Host.Outcome State Fault Refusal :=
  .next (s.live fun s => s.onDevNv (trendSummary values))

/-- RECOMPUTE (R430). -/
def execRecompute (who : Requester) (s : State) : Host.Outcome State Fault Refusal :=
  .next (s.live fun s => s.onDev fun d => d.writeGate who 4 0x40 1 false recompute)

/-- PLAN_START (R430). -/
def execPlanStart (s : State) : Host.Outcome State Fault Refusal := .next (s.live fun s => s.onDev planStart)

/-- PLAN_DONE (R432). -/
def execPlanDone (plan : PlanData) (s : State) : Host.Outcome State Fault Refusal := .next (s.live fun s => s.onDevNv (planDone plan))

/-- AVS_TRANSACTION (R433). -/
def execAvsTransaction (sram : Bool) (cpm ma : Nat) (s : State) : Host.Outcome State Fault Refusal :=
  .next (s.live fun s => s.onDev (avsTransaction sram cpm ma))

/-- AVS_FAIL (R435). -/
def execAvsFail (sram : Bool) (s : State) : Host.Outcome State Fault Refusal := .next (s.live fun s => s.onDev (avsFail sram))

/-- AVS_RETRY (R435). -/
def execAvsRetry (ok : Bool) (s : State) : Host.Outcome State Fault Refusal := .next (s.live fun s => s.onDev (avsRetry ok))

/-- THERMAL_READ (R437). -/
def execThermalRead (temps : List Int) (s : State) : Host.Outcome State Fault Refusal := .next (s.live fun s => s.onDev (thermalRead temps))

/-- THROTTLE_STEP (R438). -/
def execThrottleStep (s : State) : Host.Outcome State Fault Refusal := .next (s.live fun s => s.onDev throttleStep)

/-- THERMAL_TRIP (R440). -/
def execThermalTrip (sensor : Fin 12) (s : State) : Host.Outcome State Fault Refusal :=
  .next (s.live fun s => s.onDevNv (thermalTrip sensor))

end Sys2Proof.Machine
end

