-- ==== Sys2Proof/Machine/Pcie.lean ====
section
/-!
DEFINITION. The host link (chapter 14): BAR6, link loss and return, RESYNC's end of a hold, time transfer, link power and lane
margining.
-/

namespace Sys2Proof.Machine

/-! ### BAR6 (R334, R358) -/

/-- Whether an access lies within the largest window that the BAR Size field offers, 64 GiB (R358). The window chosen is Configuration
Space, which no command writes: an access that reaches the device lies within it (DESIGN CHOICE, log entry 30). -/
def inBar6 (off len : Nat) : Bool := decide (0 < len) && decide (off + len ≤ 2 ^ 36)

/-- An access that touches a byte at or above 45 GiB is counted once (R358). -/
def Dev.bar6Outside (d : Dev) (off len : Nat) : Dev := if off + len ≤ hbmSize then d else d.finc Reg.pcie_BAR6_OUTSIDE

/-- Whether an access reaches a stack in full training (R334). -/
def Dev.bar6Aborts (d : Dev) (off : Nat) : Bool := d.flag Reg.mems_TRAINING && decide (off < hbmSize)

/-- The pseudo-channels that an access reaches leave power-down (R344). -/
def Dev.bar6Wakes (d : Dev) (off len : Nat) : Dev :=
  if d.mem.powerDown = 0 then d
  else (List.range ((len + 63) / 64 + 1)).foldl (fun (d : Dev) k => d.pdLeave (linePc (off / 64 + k))) d

/-- A host read through BAR6 (R358): bytes at or above 45 GiB read zero; in full training it completes with Completer Abort and
returns nothing (R334). -/
def State.bar6Read (s : State) (off len : Nat) : State :=
  if !inBar6 off len then s
  else if s.dev.bar6Aborts off then s.onDev fun d =>
    { ((d.linkBusy.bar6Outside off len).finc Reg.mems_BAR6_ABORTS) with bus.bar6 := [] }
  else
    let bytes := (List.range len).map fun k => if off + k < hbmSize then s.hbmByte (off + k) else 0
    s.onDev fun d => { ((d.linkBusy.bar6Outside off len).bar6Wakes off len) with bus.bar6 := bytes }

/-- A host write through BAR6 (R358): bytes at or above 45 GiB are discarded; in full training all are (R334). -/
def State.bar6Write (s : State) (off : Nat) (bytes : List Byte) : State :=
  if !inBar6 off bytes.length then s
  else if s.dev.bar6Aborts off then s.onDev fun d => (d.linkBusy.bar6Outside off bytes.length).finc Reg.mems_BAR6_ABORTS
  else (s.onDev fun d => (d.linkBusy.bar6Outside off bytes.length).bar6Wakes off bytes.length).hbmStoreBytes off
    (bytes.take (hbmSize - off))

/-! ### Link loss and hold (R364 to R367) -/

/-- Every STREAM queue in one state goes to another (R364, R367). -/
def Dev.streamStates (d : Dev) (a b : Nat) : Dev :=
  { d with qm.ctx := d.qm.ctx.map fun p => if p.2.typ = 4 ∧ p.2.state = a then (p.1, { p.2 with state := b }) else p }

/-- µs of the current hold, saturating (HOLD_TIME). -/
def Dev.holdTime (d : Dev) : Nat :=
  if d.holding then min (d.ticksToUs (d.nowTick - d.pcie.holdFrom)) (2 ^ 32 - 1) else d.fget Reg.pcie_HOLD_TIME

/-- DL_Down (R364): a link hold while PERST_N stays deasserted; one already in progress goes on. -/
def linkDown (d : Dev) : Dev :=
  if !d.flag Reg.pcie_DL_UP then d
  else
    let d1 := ((((((d.fbit Reg.pcie_DL_UP false).fset Reg.pcie_SPEED 0).fset Reg.pcie_WIDTH 0).fbit Reg.pcie_BME false).fbit
      Reg.pcie_PTM_EN false).fbit Reg.pcie_IN_L1 false).finc Reg.pcie_LINK_DOWNS
    if d.pcie.perstN then d1
    else
      let d2 := if d.holding then d1 else { d1 with pcie.holdFrom := d.nowTick, pcie.lost := 0, pcie.fullRaised := false }.fbit
        Reg.pcie_HOLD true
      ({ d2 with pcie.adminOnly := false, pcie.d3hot := false }.streamStates 1 3).raise 68 Ev.pcie_LINK_DOWN

/-- The link trains to a speed and a width, no faster than SPEED_CAP (R359, R366). -/
def linkUp (speed width refclk : Nat) (d : Dev) : Dev :=
  if d.pcie.perstN || d.flag Reg.pcie_DL_UP then d
  else ((((d.fbit Reg.pcie_DL_UP true).fset Reg.pcie_SPEED (clampNat 1 (clampNat 1 5 (d.fget Reg.pcie_SPEED_CAP)) speed)).fset
    Reg.pcie_WIDTH width).fset Reg.pcie_REFCLK_MODE refclk).raise 68 Ev.pcie_LINK_UP

/-- The link goes over to another speed or width while it is up (R371). -/
def linkSpeedChange (speed width : Nat) (d : Dev) : Dev :=
  let v := clampNat 1 (clampNat 1 5 (d.fget Reg.pcie_SPEED_CAP)) speed
  if !d.flag Reg.pcie_DL_UP || (d.fget Reg.pcie_SPEED == v && d.fget Reg.pcie_WIDTH == width) then d
  else ((d.fset Reg.pcie_SPEED v).fset Reg.pcie_WIDTH width).raise 68 Ev.pcie_SPEED_CHANGE

/-- The unmasked vectors that are pending are signalled, once messages may be sent. -/
def Dev.sendPending (d : Dev) : Dev :=
  (d.pcie.pba.filter fun p => p.2 && KMap.at d.pcie.msixWords 1 (4 * p.1 + 3) % 2 == 0).foldl (fun (d : Dev) p =>
    { d with pcie.pba := KMap.put d.pcie.pba p.1 false }.msix p.1) d

/-- The host enables bus mastering, with PTM or without (R360, R366): in a hold the admin SUBMIT queue alone is consumed. The
function is in D0 and its PME_Status has been cleared (log entry 30). -/
def busMasterEnable (ptmEn : Bool) (d : Dev) : Dev :=
  if !d.flag Reg.pcie_DL_UP then d
  else
    let d1 := { (d.fbit Reg.pcie_BME true).fbit Reg.pcie_PTM_EN ptmEn with
      pcie.adminOnly := d.holding
      pcie.d3hot := false
      pcie.pmeStatus := false }
    if d.holding then d1 else d1.sendPending

/-- End a hold: HOLD_TIME keeps its length. -/
def Dev.holdEnd (d : Dev) : Dev :=
  { (d.fset Reg.pcie_HOLD_TIME d.holdTime).fbit Reg.pcie_HOLD false with pcie.adminOnly := false }

/-- An accepted RESYNC (R367): the egress buffer is written to the host in order, paused queues go on, the hold ends, and the
command completes after the buffered contents. The drain takes no time here (log entry 30). -/
def Dev.resync (d : Dev) (id : Nat) : Dev :=
  if !d.holding then d.finishCmd id 1 0
  else
    let t := d.holdTime
    let d1 := ({ d with out := d.pcie.egress.reverse ++ d.out, pcie.egress := [] }.fset Reg.pcie_EGRESS_LEVEL 0).holdEnd
    let d2 := (d1.streamStates 3 1).finishCmd id 0 (t + 2 ^ 32 * d.pcie.lost)
    (KMap.keys d2.qm.streams).foldl Dev.serveStream d2

/-! ### Time transfer (R360, R361) -/

/-- TRIGGER, or the PERIOD timer: one dialogue; refused while PTM is not enabled; ignored while a dialogue runs. -/
def ptmStart (d : Dev) : Dev :=
  if d.pcie.ptmBusy then d
  else if !d.flag Reg.pcie_PTM_EN then d.raise 68 Ev.pcie_PTM_REFUSED
  else { d with pcie.ptmBusy := true }

/-- A write of 1 to TRIGGER. -/
def ptmTrigger (who : Requester) (d : Dev) : Dev := d.writeGate who 68 0x060 1 false ptmStart

/-- A dialogue completes with a pair, or fails. -/
def ptmDone (ok : Bool) (hostNs devTs : Nat) (d : Dev) : Dev :=
  if !d.pcie.ptmBusy then d
  else
    let d1 := { d with pcie.ptmBusy := false }
    if !ok || !d.flag Reg.pcie_PTM_EN then d1.raise 68 Ev.pcie_PTM_REFUSED
    else ((((d1.fset64 Reg.pcie_PTM_HOST_W0 Reg.pcie_PTM_HOST_W1 hostNs).fset Reg.pcie_PTM_DEV_W0 devTs).fset Reg.pcie_PTM_DEV_W1
      (devTs / 2 ^ 32)).fset Reg.pcie_PTM_DEV_W2 (devTs / 2 ^ 64)).raise 68 Ev.pcie_PTM_DONE

/-! ### Link power (R369) -/

/-- L1_NOW after a change of the policy range: within its intersection with 10 µs to 10 ms, or parked at the nearer envelope
bound with POLICY_CONFLICT. -/
def Dev.l1Update (d : Dev) : Dev :=
  let pmin := d.fget Reg.pcie_L1_POL_MIN
  let pmax := d.fget Reg.pcie_L1_POL_MAX
  let lo := max 10 pmin
  let bad := decide (min 10000 pmax < lo)
  let v := if bad then (if 10000 < pmin then 10000 else 10) else clampNat lo (min 10000 pmax) (d.fget Reg.pcie_L1_NOW)
  let d1 := (d.fset Reg.pcie_L1_NOW v).fbit Reg.pcie_L1_OVERRIDDEN bad
  if bad && !d.flag Reg.pcie_L1_OVERRIDDEN then d1.raise 68 Ev.pcie_POLICY_CONFLICT else d1

/-- Whether the QM9640 may request L1 when the link has been idle for L1_NOW. -/
def Dev.l1Ok (d : Dev) : Bool :=
  d.flag Reg.pcie_DL_UP && d.pcie.egress.isEmpty && !(d.armed && (List.range 12).any fun r => d.flag Reg.acq_ring_STREAM_EN r)

/-- The link enters L1: on the device's request, or because the host has put the function in D3hot (R369, R501). -/
def l1Entry (d3hot : Bool) (d : Dev) : Dev :=
  if d3hot && d.flag Reg.pcie_DL_UP then { d.fbit Reg.pcie_IN_L1 true with pcie.d3hot := true }
  else if d.l1Ok then d.fbit Reg.pcie_IN_L1 true else d

/-! ### Lane margining (R370) -/

/-- The Foreman starts a scan of every lane, at 16.0 or 32.0 GT/s. -/
def marginScanStart (d : Dev) : Dev :=
  if d.flag Reg.pcie_DL_UP && decide (4 ≤ d.fget Reg.pcie_SPEED) && d.pcie.marginTodo.isEmpty && !d.romRecovery then
    { d with pcie.marginTodo := List.range 16 }
  else d

/-- A scan completes with the margins of its lanes. -/
def marginDone (results : List (Fin 16 × Word)) (d : Dev) : Dev :=
  if d.pcie.marginTodo.isEmpty then d
  else
    (results.foldl (fun (d : Dev) r => d.tsetWords 68 0 0 (2 * r.1.val) [r.2.toNat, d.fget Reg.pcie_SPEED])
      { d with pcie.marginTodo := [] }).raise 68 Ev.pcie_MARGIN_DONE

/-- A host margining command reaches a lane: where the Foreman is scanning it, the lane is scanned again after the others. -/
def hostMarginCommand (lane : Nat) (d : Dev) : Dev :=
  match d.pcie.marginTodo with
  | l :: ls => if l = lane then { d with pcie.marginTodo := ls ++ [l] } else d
  | [] => d

/-! ### Meanings -/

/-- BAR6_READ (R358). -/
def execBar6Read (off len : Nat) (s : State) : Host.Outcome State Fault Refusal := .next (s.live fun s => s.bar6Read off len)

/-- BAR6_WRITE (R358). -/
def execBar6Write (off : Nat) (bytes : List Byte) (s : State) : Host.Outcome State Fault Refusal := .next (s.live fun s => s.bar6Write off bytes)

/-- LINK_DOWN (R364). -/
def execLinkDown (s : State) : Host.Outcome State Fault Refusal := .next (s.live fun s => s.onDev linkDown)

/-- LINK_UP (R366). -/
def execLinkUp (speed : Fin 6) (width : Fin 32) (refclk : Fin 3) (s : State) : Host.Outcome State Fault Refusal :=
  .next (s.live fun s => s.onDev (linkUp speed width refclk))

/-- BUS_MASTER_ENABLE (R366). -/
def execBusMasterEnable (ptmEn : Bool) (s : State) : Host.Outcome State Fault Refusal := .next (s.live fun s => s.onDev (busMasterEnable ptmEn))

/-- PTM_TRIGGER (R360). -/
def execPtmTrigger (who : Requester) (s : State) : Host.Outcome State Fault Refusal := .next (s.live fun s => s.onDev (ptmTrigger who))

/-- PTM_DONE (R360). -/
def execPtmDone (ok : Bool) (hostNs devTs : Nat) (s : State) : Host.Outcome State Fault Refusal :=
  .next (s.live fun s => s.onDev (ptmDone ok hostNs devTs))

/-- L1_ENTRY (R369). -/
def execL1Entry (d3hot : Bool) (s : State) : Host.Outcome State Fault Refusal := .next (s.live fun s => s.onDev (l1Entry d3hot))

/-- MARGIN_SCAN_START (R370). -/
def execMarginScanStart (s : State) : Host.Outcome State Fault Refusal := .next (s.live fun s => s.onDev marginScanStart)

/-- MARGIN_DONE (R370). -/
def execMarginDone (results : List (Fin 16 × Word)) (s : State) : Host.Outcome State Fault Refusal :=
  .next (s.live fun s => s.onDev (marginDone results))

/-- HOST_MARGIN_COMMAND (R370). -/
def execHostMarginCommand (lane : Fin 16) (s : State) : Host.Outcome State Fault Refusal :=
  .next (s.live fun s => s.onDev (hostMarginCommand lane))

/-- LINK_SPEED_CHANGE (R371). -/
def execLinkSpeedChange (speed : Fin 6) (width : Fin 32) (s : State) : Host.Outcome State Fault Refusal :=
  .next (s.live fun s => s.onDev (linkSpeedChange speed width))

end Sys2Proof.Machine
end

