-- ==== Sys2Proof/Machine/Queues.lean ====
section
/-!
DEFINITION. Queues, commands and delivery (chapter 12): queue contexts, doorbells, the consumption of submission entries and the start
of every command of Table 12.3 and Table 19.6, the admin queues, queue errors. Entries, images and requests are read from host memory
and come as operands.
-/

namespace Sys2Proof.Machine

/-! ### Contexts (R306 to R308) -/

/-- A word of a queue context, as BAR2 shows it (Table 12.1). -/
def Dev.contextWord (d : Dev) (q k : Nat) : Nat :=
  let c := d.qctx q
  match k with
  | 0 => c.typ + 16 * c.cls + 256 * c.log2 + 2 ^ 13 * c.esize + 2 ^ 17 * c.grant + 2 ^ 21 * c.state
  | 1 => c.base % 2 ^ 32
  | 2 => c.base / 2 ^ 32
  | 3 => c.cq + 2 ^ 16 * c.vector + 2 ^ 27 * Bool.bit c.irqEn
  | 4 => c.coalCnt + 2 ^ 16 * c.coalUs
  | 5 => c.wbAddr % 2 ^ 32
  | 6 => c.wbAddr / 2 ^ 32
  | 7 => c.head
  | 8 => c.tail
  | 9 => Bool.bit c.irqArmed + 2 * Bool.bit c.overflow
  | 10 => c.dropped
  | _ => 0

/-- QUEUES_ACTIVE: host queues with a TYPE (Table 12.8). -/
def Dev.queuesCount (d : Dev) : Dev := d.fset Reg.qmgr_QUEUES_ACTIVE (d.qm.ctx.filter fun p => p.2.typ != 0).length

/-- Remove a queue with its undelivered records and the ticket entry it presented. -/
def Dev.dropQueue (d : Dev) (q : Nat) : Dev :=
  { d with
    qm.ctx := KMap.del d.qm.ctx q
    qm.streams := KMap.del d.qm.streams q
    bench.offered := d.bench.offered.filter fun p => p.1 != q }.queuesCount

/-! ### Doorbells (R309, R310) -/

/-- Whether a doorbell index is refused (R310). -/
def QCtx.doorbellBad (c : QCtx) (v : Nat) : Bool :=
  if c.typ = 1 then decide (2 ^ c.log2 < (v + 2 ^ 32 - c.head) % 2 ^ 32) else decide (c.used < (v + 2 ^ 32 - c.head) % 2 ^ 32)

/-- A doorbell write (R309, R310): an aligned write of 4 or 8 bytes; any other write of BAR4 is discarded and counted (R357). -/
def doorbellWrite (q : Nat) (low high : Option Nat) (d0 : Dev) : Dev :=
  let d := d0.linkBusy
  let c := d.qctx q
  if low.isNone && high.isNone then d.finc Reg.pcie_BAD_ACCESS
  else if c.typ = 0 ∨ c.cls = 0 then d.finc Reg.qmgr_DB_IGNORED
  else if c.state = 2 then d
  else
    let bad := match low with
      | some v => c.doorbellBad v
      | none => false
    if bad then ((d.qset q { c with state := 2 }).raise 28 Ev.qmgr_DOORBELL_ERR).logErr 28 Ev.qmgr_DOORBELL_ERR q 0
    else
      let c1 := match low with
        | some v => if c.typ = 1 then { c with tail := v } else { c with head := v }
        | none => c
      let c2 := match high with
        | some w => if bitAt w 0 then { c1 with irqArmed := true } else c1
        | none => c1
      (d.qset q c2).signalIfDue q

/-- The oldest unsignalled entry of a queue has waited for COAL_US (R321). -/
def coalesceTimer (q : Nat) (d : Dev) : Dev :=
  let c := d.qctx q
  if c.unsignalled = 0 then d else (d.qset q { c with late := true }).signalIfDue q

/-! ### CREATE_QUEUE, DELETE_QUEUE, RESET_QUEUE (R314, R315, Table 12.3) -/

/-- The context that CREATE_QUEUE's words describe. -/
def contextOf (ws : List Nat) : QCtx :=
  let w := fun (k : Nat) => ws.getD k 0
  { typ := w 1 % 8
    cls := bitField (w 1) 4 2
    log2 := bitField (w 1) 8 5
    esize := bitField (w 1) 13 4
    grant := bitField (w 1) 17 4
    state := 1
    base := w 2 + 2 ^ 32 * w 3
    cq := w 4 % 2 ^ 16
    vector := bitField (w 4) 16 11
    irqEn := bitAt (w 4) 27
    coalCnt := w 5 % 2 ^ 16
    coalUs := w 5 / 2 ^ 16
    wbAddr := w 6 + 2 ^ 32 * w 7
    irqArmed := true }

/-- Whether CREATE_QUEUE may create a queue (Table 12.3). The MSI-X capability enables all 2,048 vectors (log entry 33). -/
def Dev.createOk (d : Dev) (q : Nat) (c : QCtx) : Bool :=
  decide (2 ≤ q) && decide (q ≤ 65279) && (d.qctx q).typ == 0 && decide (1 ≤ c.typ) && decide (c.typ ≤ 4) &&
    (c.cls == 1 || c.cls == 2) && decide (4 ≤ c.log2) && decide (c.log2 ≤ 16) &&
    (if c.typ = 4 then decide (6 ≤ c.esize) && decide (c.esize ≤ 12) else c.esize == 0) && c.base % 4096 == 0 &&
    (c.typ != 1 || (d.qctx c.cq).typ == 2) && (c.typ == 4 || c.wbAddr == 0) && c.wbAddr % 8 == 0 && (c.cls == 2 || c.grant == 0)

/-- CREATE_QUEUE (Table 12.3). -/
def createQueue (id : Nat) (ws : List Nat) (d : Dev) : Dev :=
  let q := ws.getD 8 0
  let c := contextOf ws
  if d.createOk q c then (d.qset q c).queuesCount.finishCmd id 0 0 else d.finishCmd id 1 0

/-- Whether something still delivers to a queue (R315). -/
def Dev.queueInUse (d : Dev) (q : Nat) : Bool :=
  (d.bench.tickets.any fun x => x.t.destQ == q || x.t.streamQ == q) ||
  ((List.range 16).any fun k => d.fget Reg.accu_part_STATE k != 0 && d.flag Reg.accu_part_RES_TO_QUEUE k &&
    d.fget Reg.accu_part_RES_QUEUE k == q) ||
  ((List.range 8).any fun n => d.fget Reg.tic_ch_MODE n != 0 && d.flag Reg.tic_ch_TO_QUEUE n && d.fget Reg.tic_ch_QUEUE n == q) ||
  (d.flag Reg.aux_QUEUE_EN && d.fget Reg.aux_QUEUE == q) ||
  ((List.range 64).any fun e => bitAt (d.tactive 29 1 (32 * e + 16)) 0 &&
    (d.tactive 29 1 (32 * e + 5) % 65536 == q || d.tactive 29 1 (32 * e + 5) / 65536 == q))

/-- DELETE_QUEUE (R315). -/
def deleteQueue (id : Nat) (ws : List Nat) (d : Dev) : Dev :=
  let q := ws.getD 1 0
  let t := (d.qctx q).typ
  if t = 0 ∨ q ≤ 1 ∨ (t = 2 ∧ d.qm.ctx.any fun p => p.2.typ == 1 && p.2.cq == q) then d.finishCmd id 1 0
  else if d.queueInUse q then d.finishCmd id 7 0
  else (d.dropQueue q).finishCmd id 0 0

/-- RESET_QUEUE (Table 12.3). -/
def resetQueue (id : Nat) (ws : List Nat) (d : Dev) : Dev :=
  let q := ws.getD 1 0
  let c := d.qctx q
  if c.typ = 0 then d.finishCmd id 1 0
  else
    let d1 := d.qset q { c with
      head := 0
      tail := 0
      state := 1
      dropped := 0
      irqArmed := true
      overflow := false
      seq := 0
      lost := 0
      unsignalled := 0
      late := false }
    { d1 with bench.offered := d1.bench.offered.filter fun p => p.1 != q }.finishCmd id 0 0

/-! ### The other commands of Table 12.3 -/

/-- The highest number of a range that is not among some numbers. -/
def lastMissing (top : Nat) (good : List Nat) : Nat :=
  top - ((List.range (good.length + 1)).find? fun k => !good.contains (top - k)).getD 0

/-- RELEASE (R211, Table 12.3): each held segment of the range is released; the others are ignored, and each is recorded. -/
def releaseCmd (id : Nat) (ws : List Nat) (d : Dev) : Dev :=
  let first := ws.getD 1 0 + 2 ^ 32 * ws.getD 2 0
  let count := ws.getD 3 0
  if count = 0 then d.finishCmd id 1 0
  else
    let good := d.acq.segs.filter fun p => p.2.held && decide (first ≤ p.1) && decide (p.1 < first + count)
    let d1 := good.foldl (fun (d : Dev) p => d.releaseSeg p.2) d
    let bad := count - good.length
    let n := lastMissing (first + count - 1) (good.map Prod.fst)
    let d2 := if bad = 0 then d1 else
      let d3 := d1.logErr 23 0xF2 (n % 2 ^ 32) (n / 2 ^ 32 % 2 ^ 32)
      (if bad = 1 then d3 else d3.fbit Reg.hdr_ERR_OVERWRITTEN true 23).finc Reg.hdr_ERR_COUNT (bad - 1) 23
    d2.finishCmd id 0 good.length

/-- CALIBRATE (R108, Table 04.2). -/
def calibrate (id groups : Nat) (d : Dev) : Dev :=
  let r := d.fgRequest groups
  if r.1 = 0 then { r.2 with assay.cmds := r.2.assay.cmds ++ [({ cmd := id, groups := groups } : CalCmd)] } else r.2.finishCmd id r.1 0

/-- CAL_COMMIT (R113). -/
def calCommit (id : Nat) (d : Dev) : Dev :=
  { d with
    assay.commitReq := true
    assay.commitManual := true
    assay.commitCmds := d.assay.commitCmds ++ [id] }

/-- GET_LOG (R416). -/
def getLog (id cls : Nat) (ws : List Nat) (d : Dev) (nv : NonVolatile) : Dev × NonVolatile :=
  if ws.getD 3 0 < 32 then (d.finishCmd id 1 0, nv)
  else
    let r := getLogWords d nv cls (ws.getD 3 0)
    ((if r.1.isEmpty then r.2 else r.2.emit (.hostWrite (entryAddr ws) r.1)).finishCmd id 0 (4 * r.1.length), nv)

/-! ### Starting a command (R311, R312, R314) -/

/-- Whether an opcode other than TICKET is defined (Table 12.3, Table 19.6). -/
def opDefined (op : Nat) : Bool :=
  [0x01, 0x02, 0x03, 0x10, 0x11, 0x12, 0x20, 0x21, 0x30, 0x31, 0x40, 0x41].contains op || (decide (0x50 ≤ op) && decide (op ≤ 0x58))

/-- The operand bits that an opcode defines in word k (Table 12.3, Table 19.6). The STATE bits of CREATE_QUEUE's context word 0 are
the device's (DEDUCED, log entry 33). -/
def operandMask (op k : Nat) : Nat :=
  let all := 2 ^ 32 - 1
  if op = 0x01 then (if k = 1 then 0x1FFF37 else if k = 4 then 0x0FFFFFFF else if k = 8 then 0xFFFF else if k ≤ 7 then all else 0)
  else if op = 0x02 ∨ op = 0x03 then (if k = 1 then 0xFFFF else 0)
  else if op = 0x12 ∨ op = 0x40 ∨ op = 0x51 ∨ op = 0x54 then (if k ≤ 3 then all else 0)
  else if op = 0x20 then (if k = 1 then 0xF else 0)
  else if op = 0x30 then (if k ≤ 3 then all else if k = 4 then 1 else 0)
  else if op = 0x31 then (if k ≤ 2 then all else if k = 3 then 0x3FF else 0)
  else if op = 0x53 then (if k ≤ 11 then all else 0)
  else if op = 0x56 then (if k ≤ 4 then all else if k = 5 then 1 else 0)
  else if op = 0x57 then (if k = 1 then 3 else 0)
  else 0

/-- Whether every operand bit that the opcode does not define is 0 (R311). -/
def operandsOk (op : Nat) (ws : List Nat) : Bool :=
  (List.range 15).all fun k => andNot (ws.getD (k + 1) 0) (operandMask op (k + 1)) == 0

/-- Whether a queue's class may give a command (R314); RESYNC is taken from the admin queue only (R367). -/
def classAllows (q cls op : Nat) : Bool :=
  q == 0 || (cls == 1 && !(op == 1 || op == 2 || op == 3 || op == 0x41 || (decide (0x50 ≤ op) && decide (op ≤ 0x5F))))

/-- Start a command that passed its checks (Table 12.3, Table 19.6). An image of TABLE_LOAD or RECIPE_LOAD that is cut short is one
whose reads were abandoned: the command completes with ABORTED (R364; log entry 33). A request or an image that the outside does not deliver is one
that fails its checks. -/
def State.runCmd (s : State) (id cls : Nat) (ws : List Nat) (data : HostData) : State :=
  let op := ws.headD 0 % 256
  let words := data.words.map BitVec.toNat
  if op = 0x01 then s.onDev (createQueue id ws)
  else if op = 0x02 then s.onDev (deleteQueue id ws)
  else if op = 0x03 then s.onDev (resetQueue id ws)
  else if op = 0x10 then s.onDev (armCommand id)
  else if op = 0x11 then s.onDev (stopCommand id)
  else if op = 0x12 then s.onDev (releaseCmd id ws)
  else if op = 0x20 then s.onDev (calibrate id (ws.getD 1 0))
  else if op = 0x21 then s.onDev (calCommit id)
  else if op = 0x30 then
    if 4 * words.length < ws.getD 3 0 then s.onDev fun d => d.finishCmd id 4 0
    else s.tableLoad id words (ws.getD 3 0) (bitAt (ws.getD 4 0) 0)
  else if op = 0x31 then
    if words.length < 1024 then s.onDev fun d => d.finishCmd id 4 0 else s.recipeLoad id (ws.getD 3 0) words
  else if op = 0x40 then s.onDevNv (getLog id cls ws)
  else if op = 0x41 then s.onDev fun d => d.resync id
  else if op = 0x50 then s.onDev (lcStatus id)
  else if op = 0x51 then match data.req with
    | some r => s.lcRequest id r
    | none => s.onDev fun d => (({ d with fore.nonce := none }).raise 1 Ev.life_TRANSITION_REFUSED).finishCmd id 2 0
  else if op = 0x52 then s.onDev (getNonce id (words.getD 0 0 + 2 ^ 32 * words.getD 1 0))
  else if op = 0x53 then s.onDevNv (attest id ws words)
  else if op = 0x54 then s.onDev (getCert id ws words)
  else if op = 0x55 then s.onDev (debugLock id)
  else if op = 0x56 then s.onDev (fwWrite id ws)
  else if op = 0x57 then match data.image with
    | some img => s.fwActivate id ws img
    | none => s.onDev fun d => d.finishCmd id 1 1
  else s.onDevNv (fwCommit id)

/-- Start a command: its class, the life-cycle, its opcode and operands are checked in that order (R311, R314, R445, R453). -/
def State.startCmd (s : State) (id q cls : Nat) (ws : List Nat) (data : HostData) : State :=
  let op := ws.headD 0 % 256
  if !classAllows q cls op || !s.dev.servesCmd q op then s.onDev fun d => d.finishCmd id 2 0
  else if !opDefined op || !operandsOk op ws then s.onDev fun d => d.finishCmd id 1 0
  else s.runCmd id cls ws data

/-- Whether the next entry of a SUBMIT queue may be consumed as a command (R312, R364, R366): the queue is active and holds one, no
ticket at its head waits for admission, fewer than 256 commands are outstanding, something executes commands, and a hold leaves the admin queue only, once bus mastering is on. -/
def Dev.mayConsume (d : Dev) (q : Nat) : Bool :=
  let c := d.qctx q
  c.typ == 1 && c.state == 1 && c.used != 0 && (d.bench.offered.all fun p => p.1 != q) && decide (d.qm.cmds.length < 256) && d.serving &&
    d.fetches q

/-- Consume a command's entry: HEAD advances, and the entry is kept until the command completes (R312, R418). -/
def Dev.consume (d : Dev) (q : Nat) (ws : List Nat) : Dev :=
  let c := d.qctx q
  let head := (c.head + 1) % 2 ^ 32
  let cmd : Cmd :=
    { id := d.qm.nextId
      opcode := ws.headD 0 % 256
      sq := q
      cq := c.cq
      tag := ws.headD 0 / 2 ^ 16 % 2 ^ 16
      sqHead := head
      entry := ws
      result := none }
  let d1 := d.qset q { c with head := head }
  { d1 with
    qm.nextId := d1.qm.nextId + 1
    qm.cmds := d1.qm.cmds ++ [cmd] }.fset Reg.qmgr_CMDS_OUT (d.qm.cmds.length + 1)

/-- The 16 words of a submission entry (R311). -/
def entryWords (entry : List Word) : List Nat := (List.range 16).map fun k => (entry.getD k 0).toNat

/-- Consume the next entry of a SUBMIT queue and start its command; a ticket is presented for admission instead (R280, R312). -/
def State.submitConsume (s : State) (q : Nat) (entry : List Word) (data : HostData) : State :=
  let ws := entryWords entry
  if ws.headD 0 % 256 = 0x80 then s.onDev (offerTicket q ws)
  else if !s.dev.mayConsume q then s
  else (s.onDev fun d => d.consume q ws).startCmd s.dev.qm.nextId q (s.dev.qctx q).cls ws data

/-- Consume an entry that holds one given command. -/
def State.consumeOp (s : State) (op : Nat) (q : Nat) (entry : List Word) (data : HostData) : State :=
  if (entryWords entry).headD 0 % 256 = op then s.submitConsume q entry data else s

/-! ### Delivery -/

/-- The completions that wait are posted where there is room, commands' and tickets' (R319). -/
def State.completionPost (s : State) : State := (s.onDev Dev.postReady).ticketsPost

/-- The records that wait for a STREAM queue are written where there is room, those of the auxiliary converters among them (R318, R402). -/
def Dev.serveQueue (d : Dev) (q : Nat) : Dev :=
  let d1 := d.serveStream q
  if d1.flag Reg.aux_QUEUE_EN && d1.fget Reg.aux_QUEUE == q then Dev.auxEmitAll 4096 d1 else d1

/-! ### The admin queues and errors (R324, R325) -/

/-- The fields of ADMIN_CTRL other than EN, and the ring bases: locked while EN is 1 (R324). -/
def adminField (f : Field) : Bool :=
  f == Reg.qmgr_SQ_LOG2 || f == Reg.qmgr_CQ_LOG2 || f == Reg.qmgr_IRQ_EN || f == Reg.qmgr_VECTOR || f == Reg.qmgr_ASQ_BASE_W0 ||
    f == Reg.qmgr_ASQ_BASE_W1 || f == Reg.qmgr_ACQ_BASE_W0 || f == Reg.qmgr_ACQ_BASE_W1

/-- Create the admin queues from the admin fields (R324). -/
def Dev.adminCreate (d : Dev) : Dev :=
  let sq : QCtx :=
    { typ := 1, cls := 1, log2 := d.fget Reg.qmgr_SQ_LOG2, state := 1, base := d.fget64 Reg.qmgr_ASQ_BASE_W0 Reg.qmgr_ASQ_BASE_W1, cq := 1,
      irqArmed := true }
  let cq : QCtx :=
    { typ := 2, cls := 1, log2 := d.fget Reg.qmgr_CQ_LOG2, state := 1, base := d.fget64 Reg.qmgr_ACQ_BASE_W0 Reg.qmgr_ACQ_BASE_W1,
      vector := d.fget Reg.qmgr_VECTOR, irqEn := d.flag Reg.qmgr_IRQ_EN, irqArmed := true }
  ((d.fbit Reg.qmgr_EN true).qset 0 sq).qset 1 cq |>.queuesCount

/-- Whether the admin fields describe rings: sizes of 2^4 to 2^16 entries, bases with bits [11:0] at 0 (R307, Table 12.8). -/
def Dev.adminOk (d : Dev) : Bool :=
  decide (4 ≤ d.fget Reg.qmgr_SQ_LOG2) && decide (d.fget Reg.qmgr_SQ_LOG2 ≤ 16) && decide (4 ≤ d.fget Reg.qmgr_CQ_LOG2) &&
    decide (d.fget Reg.qmgr_CQ_LOG2 ≤ 16) && d.fget Reg.qmgr_ASQ_BASE_W0 % 4096 == 0 && d.fget Reg.qmgr_ACQ_BASE_W0 % 4096 == 0

/-- A write of ADMIN_CTRL (R324). EN does not become 1 over fields that describe no rings, and such a write of it is recorded (DESIGN
CHOICE, log entry 33). -/
def adminEnable (who : Requester) (val : Nat) (d : Dev) : Dev :=
  if d.flag Reg.hdr_FREEZE 28 then d.logDiscard who 28 0x040 val
  else
    let en := bitAt val 0
    let was := d.flag Reg.qmgr_EN
    let r := d.writeFields who (28 * 4096 + 0x040) val (fun f => f == Reg.qmgr_EN) fun f => was && adminField f
    let d1 := r.1
    let d2 :=
      if en == was then d1
      else if en then (if d1.adminOk then d1.adminCreate else d1.logDiscard who 28 0x040 val)
      else if d1.qm.cmds.isEmpty then ((d1.fbit Reg.qmgr_EN false).dropQueue 0).dropQueue 1
      else d1.logDiscard who 28 0x040 val
    d2.cfgEpoch 28

/-- A queue goes to STATE 2 after a DMA error (R325): what it carried counts as lost (R318, R319). -/
def Dev.queueFail (d : Dev) (q : Nat) : Dev :=
  let c := d.qctx q
  let lossy := c.typ = 3 ∨ c.typ = 4
  let d1 := d.qset q { c with
    state := 2
    lost := if lossy then satAdd 32 c.lost 1 else c.lost
    dropped := if lossy then satAdd 32 c.dropped 1 else c.dropped
    overflow := c.overflow || c.typ == 3 }
  if c.typ = 4 then (d1.finc Reg.qmgr_STREAM_DROPS).raise 28 Ev.qmgr_STREAM_DROP
  else if c.typ = 3 then (d1.finc Reg.qmgr_EVENT_DROPS).raise 28 Ev.qmgr_EVENT_OVERFLOW
  else d1

/-- A DMA error for a queue (R325). -/
def queueErr (q : Nat) (d : Dev) : Dev :=
  if (d.qctx q).typ = 0 then d else ((d.queueFail q).raise 28 Ev.qmgr_QUEUE_ERR).logErr 28 Ev.qmgr_QUEUE_ERR q 0

/-- A completion timeout of a read for a queue (R325, Table 17.2). -/
def cplTimeout (q : Nat) (d : Dev) : Dev :=
  if (d.qctx q).typ = 0 then d
  else ((queueErr q d).countTimeout 68).raise 68 Ev.pcie_CPL_TIMEOUT |>.logErr 68 Ev.pcie_CPL_TIMEOUT q 0

/-- What function-level reset, PERST_N and DISCARD do to the queues (R325): every host queue and its undelivered records go, EN and
every ROUTE word become 0; completions of commands in progress find no queue. -/
def Dev.queuesReset (d : Dev) : Dev :=
  let d1 := { d with
    qm.ctx := []
    qm.streams := []
    qm.waiting := []
    bench.offered := []
    aux.batch := [] }
  ((d1.fbit Reg.qmgr_EN false).tsetWords 30 0 0 0 (List.replicate 128 0)).queuesCount.postReady

/-! ### The meanings -/

/-- DOORBELL_WRITE (R309). -/
def execDoorbellWrite (q : BitVec 16) (low high : Option Word) (s : State) : Host.Outcome State Fault Refusal :=
  .next (s.live fun s => s.onDev (doorbellWrite q.toNat (low.map BitVec.toNat) (high.map BitVec.toNat)))

/-- SUBMIT_CONSUME (R312). -/
def execSubmitConsume (q : BitVec 16) (entry : List Word) (data : HostData) (s : State) : Host.Outcome State Fault Refusal :=
  .next (s.live fun s => s.submitConsume q.toNat entry data)

/-- CREATE_QUEUE (Table 12.3). -/
def execCreateQueue (sq : BitVec 16) (entry : List Word) (s : State) : Host.Outcome State Fault Refusal :=
  .next (s.live fun s => s.consumeOp 0x01 sq.toNat entry {})

/-- DELETE_QUEUE (R315). -/
def execDeleteQueue (sq : BitVec 16) (entry : List Word) (s : State) : Host.Outcome State Fault Refusal :=
  .next (s.live fun s => s.consumeOp 0x02 sq.toNat entry {})

/-- RESET_QUEUE (Table 12.3). -/
def execResetQueue (sq : BitVec 16) (entry : List Word) (s : State) : Host.Outcome State Fault Refusal :=
  .next (s.live fun s => s.consumeOp 0x03 sq.toNat entry {})

/-- ARM (Table 12.3, R199). -/
def execArm (sq : BitVec 16) (entry : List Word) (s : State) : Host.Outcome State Fault Refusal :=
  .next (s.live fun s => s.consumeOp 0x10 sq.toNat entry {})

/-- STOP (Table 12.3, R202). -/
def execStop (sq : BitVec 16) (entry : List Word) (s : State) : Host.Outcome State Fault Refusal :=
  .next (s.live fun s => s.consumeOp 0x11 sq.toNat entry {})

/-- RELEASE (Table 12.3, R211). -/
def execRelease (sq : BitVec 16) (entry : List Word) (s : State) : Host.Outcome State Fault Refusal :=
  .next (s.live fun s => s.consumeOp 0x12 sq.toNat entry {})

/-- CALIBRATE (R108). -/
def execCalibrate (sq : BitVec 16) (entry : List Word) (s : State) : Host.Outcome State Fault Refusal :=
  .next (s.live fun s => s.consumeOp 0x20 sq.toNat entry {})

/-- CAL_COMMIT (R113). -/
def execCalCommit (sq : BitVec 16) (entry : List Word) (s : State) : Host.Outcome State Fault Refusal :=
  .next (s.live fun s => s.consumeOp 0x21 sq.toNat entry {})

/-- TABLE_LOAD (R486 to R488). -/
def execTableLoad (sq : BitVec 16) (entry image : List Word) (s : State) : Host.Outcome State Fault Refusal :=
  .next (s.live fun s => s.consumeOp 0x30 sq.toNat entry { words := image })

/-- RECIPE_LOAD (R285). -/
def execRecipeLoad (sq : BitVec 16) (entry image : List Word) (s : State) : Host.Outcome State Fault Refusal :=
  .next (s.live fun s => s.consumeOp 0x31 sq.toNat entry { words := image })

/-- GET_LOG (R416). -/
def execGetLog (sq : BitVec 16) (entry : List Word) (s : State) : Host.Outcome State Fault Refusal :=
  .next (s.live fun s => s.consumeOp 0x40 sq.toNat entry {})

/-- RESYNC (R367). -/
def execResync (sq : BitVec 16) (entry : List Word) (s : State) : Host.Outcome State Fault Refusal :=
  .next (s.live fun s => s.consumeOp 0x41 sq.toNat entry {})

/-- LC_STATUS (R455). -/
def execLcStatus (sq : BitVec 16) (entry : List Word) (s : State) : Host.Outcome State Fault Refusal :=
  .next (s.live fun s => s.consumeOp 0x50 sq.toNat entry {})

/-- LC_REQUEST (R447). -/
def execLcRequest (sq : BitVec 16) (entry : List Word) (req : LcRequest) (s : State) : Host.Outcome State Fault Refusal :=
  .next (s.live fun s => s.consumeOp 0x51 sq.toNat entry { req := some req })

/-- GET_NONCE (R446). -/
def execGetNonce (sq : BitVec 16) (entry : List Word) (nonce : BitVec 64) (s : State) : Host.Outcome State Fault Refusal :=
  .next (s.live fun s => s.consumeOp 0x52 sq.toNat entry { words := [nonce.truncate 32, (nonce >>> 32).truncate 32] })

/-- ATTEST (R457 to R459). -/
def execAttest (sq : BitVec 16) (entry sig : List Word) (s : State) : Host.Outcome State Fault Refusal :=
  .next (s.live fun s => s.consumeOp 0x53 sq.toNat entry { words := sig })

/-- GET_CERT (R455). -/
def execGetCert (sq : BitVec 16) (entry cert : List Word) (s : State) : Host.Outcome State Fault Refusal :=
  .next (s.live fun s => s.consumeOp 0x54 sq.toNat entry { words := cert })

/-- DEBUG_LOCK (R456). -/
def execDebugLock (sq : BitVec 16) (entry : List Word) (s : State) : Host.Outcome State Fault Refusal :=
  .next (s.live fun s => s.consumeOp 0x55 sq.toNat entry {})

/-- FW_WRITE (R455, R499). -/
def execFwWrite (sq : BitVec 16) (entry : List Word) (s : State) : Host.Outcome State Fault Refusal :=
  .next (s.live fun s => s.consumeOp 0x56 sq.toNat entry {})

/-- FW_ACTIVATE (R453, R455). -/
def execFwActivate (sq : BitVec 16) (entry : List Word) (image : FwImage) (s : State) : Host.Outcome State Fault Refusal :=
  .next (s.live fun s => s.consumeOp 0x57 sq.toNat entry { image := some image })

/-- FW_COMMIT (R454). -/
def execFwCommit (sq : BitVec 16) (entry : List Word) (s : State) : Host.Outcome State Fault Refusal :=
  .next (s.live fun s => s.consumeOp 0x58 sq.toNat entry {})

/-- COMPLETION_POST (R313, R319). -/
def execCompletionPost (s : State) : Host.Outcome State Fault Refusal := .next (s.live fun s => s.completionPost)

/-- STREAM_RECORD_WRITE (R317, R318). -/
def execStreamRecordWrite (q : BitVec 16) (s : State) : Host.Outcome State Fault Refusal :=
  .next (s.live fun s => s.onDev fun d => d.serveQueue q.toNat)

/-- COALESCE_TIMER (R321). -/
def execCoalesceTimer (q : BitVec 16) (s : State) : Host.Outcome State Fault Refusal :=
  .next (s.live fun s => s.onDev (coalesceTimer q.toNat))

/-- ADMIN_ENABLE (R324). -/
def execAdminEnable (who : Requester) (val : Word) (s : State) : Host.Outcome State Fault Refusal :=
  .next (s.live fun s => s.onDev (adminEnable who val.toNat))

/-- QUEUE_ERR (R325). -/
def execQueueErr (q : BitVec 16) (s : State) : Host.Outcome State Fault Refusal := .next (s.live fun s => s.onDev (queueErr q.toNat))

/-- CPL_TIMEOUT (R325). -/
def execCplTimeout (q : BitVec 16) (s : State) : Host.Outcome State Fault Refusal := .next (s.live fun s => s.onDev (cplTimeout q.toNat))

end Sys2Proof.Machine
end

