-- ==== Sys2Proof/Machine/Inject.lean ====
section
/-!
DEFINITION. Injection (R421 to R427): the condition of an EVENT bit is presented to its detector, whose detection and recovery run as
for a real one, marked INJECTED. A condition that lasts over time is presented until its detector fires, at once here (DESIGN CHOICE,
log entry 35).
-/

namespace Sys2Proof.Machine

/-! ### Presenting a condition -/

/-- Run a change of the device n times. -/
def Dev.repeatOp (f : Dev → Dev) : Nat → Dev → Dev
  | 0, d => d
  | n + 1, d => Dev.repeatOp f n (f d)

/-- An alarm of a channel whose limits are armed (R400). -/
def Dev.injAlarm (c : Nat) (d : Dev) : Dev :=
  if decide (c < 40) && bitAt (d.tactive 26 4 c) 31 then
    (({ d with aux.urgAlarm := d.aux.urgAlarm + 1 }).fsetBit (if c < 32 then Reg.aux_ALARM_W0 else Reg.aux_ALARM_W1) (c % 32) true).raise 26
      Ev.aux_ALARM
  else d

/-- The stream of a ring to the spill tier falls behind: what has not been written is lost (R222). -/
def Dev.injGap (r : Nat) (d : Dev) : Dev :=
  let x := d.ring r
  if d.flag Reg.acq_ring_STREAM_EN r then (d.setRing r (x.spillTo (max x.spill x.issued))).spillGap r x.spill (x.unspilled x.issued) else d

/-- A spill write fails twice (R218). -/
def Dev.injSpillErr (r : Nat) (d : Dev) : Dev :=
  if d.flag Reg.acq_ring_STREAM_EN r then spillErr (.stream ⟨r % 12, Nat.mod_lt _ (by decide)⟩ ((d.ring r).write - (d.ring r).spill)) d
  else if d.acq.spilling.isSome then spillErr .segment d else d

/-- An output block of a chain finds its buffer full (R243). -/
def Dev.injDrop (c : Nat) (d : Dev) : Dev :=
  if d.ringOn (4 + c) && (d.ring (4 + c)).writing then d.deciDrop c (d.ring (4 + c)).issued (d.blockOf (4 + c)).1 else d

/-- A result of a TIC channel is lost (R189), or an event without a vernier instant reaches it (R190). -/
def Dev.injTic (coarse : Bool) (n : Nat) (d : Dev) : Dev :=
  if !(d.ticc n).running then d
  else if coarse then (d.finc Reg.tic_ch_COARSE_COUNT 1 n).raise 21 Ev.tic_COARSE
  else (((d.setTicc n { d.ticc n with lost := true }).finc Reg.tic_ch_LOST_COUNT 1 n).raise 21 Ev.tic_LOST)

/-- A loop's window shows no swing (R140). -/
def Dev.injNoSwing (t : Nat) (d : Dev) : Dev :=
  if d.autoOn t && d.autoListed t then
    (d.autoStatus Reg.trig_cond_AUTO_NO_SWING Reg.trig_cmp_AUTO_NO_SWING t true).raise 18 Ev.trig_NO_SWING else d

/-- A targeted refresh becomes due in a pseudo-channel (R343), for a row that an injection does not name: a free value (log entry 5). -/
def Dev.injHammer (pc : Nat) (d : Dev) : Dev :=
  let f := d.free
  ((f.2.enqueue pc [{ source := .refresh, bank := f.1 % 48, row := f.1 / 48 % 2 ^ 24, line := 0 }]).finc Reg.memc_HAMMER_REFRESH 1
    (stackOf pc)).raise (64 + stackOf pc) Ev.memc_HAMMER

/-- The record of a partition is overwritten before it has been read (R255). -/
def State.injTorn (k : Nat) (s : State) : State :=
  match (s.dev.part k).cur with
  | none => s
  | some c => match s.dev.seg c.seg with
    | none => s
    | some g => s.recordEnd k (s.dev.shape k) g c true

/-- The condition of bit e of page p at an element (Table 17.8). -/
def State.presentAt (s : State) (p e el atMs : Nat) : State :=
  if p = 2 then s.foremanExpiry e atMs
  else if p = 3 then s.onDev fun d =>
    if e = 1 then avsFail (el == 1) d else if e = 5 then (if d.sensorOn el then d.sensorFail el else d)
    else (d.setStage 3).raise 3 Ev.pwr_THERM_WARN
  else if p = 5 then s.onDev fun d =>
    if e < 4 then dllUnlock e d
    else if e < 8 then Dev.repeatOp (dllLockTimeout (e - 4)) 3 (dllUnlock (e - 4) d)
    else if e = 8 then islClkFallback el d
    else if el = d.fget Reg.clk_ISLREF_SRC ∧ el < 3 then islrefSourceValid el (islrefLost el d) else d
  else if p = 6 then s.onDev (if e = 0 then refLost else ppsMissing)
  else if 8 ≤ p ∧ p < 12 then s.onDev fun d => d.raise p Ev.fe_OVERRANGE
  else if 12 ≤ p ∧ p < 16 then s.onDev (sliceFail el)
  else if p = 17 then s.onDev fun d =>
    if e = 6 then runAbandoned el d else if e = 7 then d.raise 17 Ev.assay_QUALITY_LIMIT
    else if e = 9 then Dev.repeatOp mramRetry 2 d else if e = 12 then d.discardTraining fun _ => true else vernStale el d
  else if p = 18 then s.onDev (Dev.injNoSwing el)
  else if p = 20 then
    (if e = 0 then s.onDev fun d => (d.finc Reg.vern_STARVE_COUNT).raise 20 Ev.vern_STARVED else s.onTrig (vernLost el))
  else if p = 21 then s.onDev (Dev.injTic (e == 13) el)
  else if p = 22 then s.onDev (Dev.injGap el)
  else if p = 23 then s.onDev (Dev.injSpillErr el)
  else if p = 24 then s.onDev (Dev.injDrop el)
  else if p = 25 then
    (if e = 18 then s.injTorn el else if e = 20 then s.onDev (Dev.repeatOp (eccFix (el % 4) (el / 4)) 17)
    else if s.dev.partIs el = 0 then s else s.eccLose el 0)
  else if p = 26 then s.onDev (if e = 8 then Dev.injAlarm el else auxConvTimeout (e - 4))
  else if p = 28 then s.onDev (queueErr el)
  else if p = 29 then s.onDev (if e = 0 then ticketTimeout el atMs else benchIsolated el)
  else if 32 ≤ p ∧ p < 64 then s.onDev (ticketTimeout (16 * (p - 32) + el) atMs)
  else if p = 64 ∨ p = 65 then s.onDev (if e = 2 then parityAlert el else Dev.injHammer el)
  else if p = 66 then s.onDev fun d => d.freeze el 0
  else if p = 68 then s.onDev (if e = 0 then linkDown else cplTimeout el)
  else if p = 69 then s.onDev (if e = 8 then failover else portDown (e - 4) true)
  else s

/-- The elements that a bit can affect: the first and how many. -/
def injRange (p e : Nat) : Nat × Nat :=
  if p = 3 then (0, if e = 1 then 2 else if e = 5 then 16 else 1)
  else if p = 5 then (if e = 8 then (0, 44) else if e = 9 then (0, 3) else (e % 4, 1))
  else if 12 ≤ p ∧ p < 16 then (34 * (p - 12), 34)
  else if p = 17 then (0, if e = 6 then 4 else if e = 13 then 64 else 1)
  else if p = 18 then (0, 20)
  else if p = 20 then (0, if e = 1 then 64 else 1)
  else if p = 21 then (0, 8)
  else if p = 22 ∨ p = 23 then (0, 12)
  else if p = 24 then (0, 8)
  else if p = 25 then (0, if e = 20 then 96 else 16)
  else if p = 26 then (if e = 8 then (0, 40) else (e - 4, 1))
  else if p = 28 then (0, 4096)
  else if p = 29 then (0, if e = 0 then 512 else 32)
  else if 32 ≤ p ∧ p < 64 then (0, 16)
  else if p = 64 ∨ p = 65 then (32 * (p - 64), 32)
  else if p = 66 then (0, 64)
  else if p = 68 ∧ e = 6 then (0, 4096)
  else if p = 69 then (e - 4, 1)
  else (0, 1)

/-- Whether presenting a condition at an element makes its detector fire: EVENT bit e is then set. -/
def State.fires (s : State) (p e el atMs : Nat) : Bool :=
  let s0 := s.onDev fun d => d.fset Reg.hdr_EVENT 0 p
  bitAt ((s0.presentAt p e el atMs).dev.fget Reg.hdr_EVENT p) e

/-- The element that an injection affects (R422): TARGET's, or the lowest that can show the condition. -/
def State.injElement (s : State) (p e atMs : Nat) : Option Nat :=
  let r := injRange p e
  if s.dev.fget Reg.inj_PAGE = p then
    (let el := s.dev.fget Reg.inj_ELEMENT
    if r.1 ≤ el ∧ el < r.1 + r.2 ∧ s.fires p e el atMs then some el else none)
  else ((List.range r.2).map (r.1 + ·)).find? fun el => s.fires p e el atMs

/-! ### The last redundancy (R423) -/

/-- How much redundancy the group of an element still has (Table 17.6); none where the group has none that an injection could
take. -/
def Dev.redundancy (d : Dev) (p e el : Nat) : Option Nat :=
  let ones := fun (w n : Nat) => ((List.range n).filter (bitAt w)).length
  if 12 ≤ p ∧ p < 16 then some (d.fget Reg.loom_SPARES_LEFT (p - 12))
  else if p = 66 then some (d.spares (stackOf el) + Bool.bit !((groupMembers (el % 4)).any d.pcOut))
  else if (p = 64 ∨ p = 65) ∧ e = 2 then some (d.spares (stackOf el) + Bool.bit !((groupMembers (el % 4)).any d.pcOut))
  else if p = 25 ∧ e = 20 then some (bitField (d.fget Reg.accu_SPARE_BANKS) (4 * (el % 4)) 4)
  else if p = 20 ∧ e = 1 then some (63 - ones d.vern.retired 64)
  else if p = 29 ∧ e = 1 then some (ones (d.fget Reg.benchg_IN_SERVICE) 32 - 1)
  else if p = 29 ∧ e = 0 then some (15 - ones (d.fget Reg.bench_RETIRED (el / 16)) 16)
  else if 32 ≤ p ∧ p < 64 then some (15 - ones (d.fget Reg.bench_RETIRED (p - 32)) 16)
  else if p = 17 ∧ e = 9 then some (1 + Bool.bit !(d.flag Reg.assay_CALB0_FAILED || d.flag Reg.assay_CALB1_FAILED))
  else if p = 2 then some (3 - d.fore.expiries.length)
  else if p = 5 ∧ e < 9 then some 1
  else if p = 69 ∧ (e = 8 ∨ d.activeUplink = some (e - 4)) then some (Bool.bit !d.flag Reg.cas_ALT_ACTIVE)
  else none

/-- Whether an injection would take the last redundancy of a group of a degraded page. -/
def Dev.lastRedundancy (d : Dev) (p e el : Nat) : Bool :=
  d.isDegraded p && (match d.redundancy p e el with
    | some n => decide (n ≤ 1)
    | none => false)

/-! ### EVENT_INJECT (R421) -/

/-- A refused injection or arm. -/
def Dev.injRefuse (d : Dev) : Dev := ((d.finc Reg.inj_REFUSED).raise 7 Ev.inj_INJ_REFUSED).logErr 7 Ev.inj_INJ_REFUSED 0 0

/-- The elements that rejoin are remembered, so that their rejoining is marked too (R424, R425). -/
def Dev.injMark (d : Dev) (p e el : Nat) : Dev :=
  if (12 ≤ p ∧ p < 16) ∨ p = 66 ∨ (p = 29 ∧ e = 1) then
    { d with fore.marks := (p, el) :: d.fore.marks.filter fun m => m != (p, el) } else d

/-- An injection is presented: it is counted, and the detector fires. -/
def State.inject (s : State) (p e el atMs : Nat) : State :=
  let s1 := s.onDev fun d => ({ d with fore.injecting := true }.injMark p e el)
  ((s1.presentAt p e el atMs).onDev fun d => { d with fore.injecting := false }).onDev fun d =>
    ((d.finc Reg.inj_INJECTIONS).fset Reg.inj_LAST_PAGE p).fset Reg.inj_LAST_BIT e

/-- One bit written to EVENT_INJECT: refused, or presented at its element; where no element can show the condition nothing is
presented (log entry 35). -/
def State.injectBit (p atMs : Nat) (s : State) (e : Nat) : State :=
  let d := s.dev
  if !d.flag Reg.inj_ARMED || !bitAt (injMapWord p) e then s.onDev Dev.injRefuse
  else match s.injElement p e atMs with
    | none => s
    | some el =>
      if d.lastRedundancy p e el && !d.flag Reg.inj_FORCE then s.onDev Dev.injRefuse else s.inject p e el atMs

/-- EVENT_INJECT of a page (R421): each written bit is an injection of its own, the lowest first. -/
def State.eventInject (s : State) (who : Requester) (p val atMs : Nat) : State :=
  if !hasHeader p then s
  else if s.dev.flag Reg.hdr_FREEZE p then s.onDev fun d => d.logDiscard who p (Reg.hdr_EVENT_INJECT.base % 4096) val
  else ((List.range 32).filter (bitAt val)).foldl (State.injectBit p atMs) s

/-! ### Arming (R426) -/

/-- ARM: for ARM_WINDOW seconds, where the life-cycle permits it. -/
def injArm (d : Dev) : Dev := if d.flag Reg.life_INJECT_PERMIT then d.fbit Reg.inj_ARMED true else d.injRefuse

/-! ### Commands -/

/-- EVENT_INJECT (R421). -/
def execEventInject (who : Requester) (page : Fin 128) (val : Word) (atMs : Nat) (s : State) : Host.Outcome State Fault Refusal :=
  .next (s.live fun s => s.eventInject who page val.toNat atMs)

/-- INJ_ARM (R426). -/
def execInjArm (who : Requester) (s : State) : Host.Outcome State Fault Refusal :=
  .next (s.live fun s => s.onDev fun d => d.writeGateIf who 7 0x040 1 (fun d => !d.flag Reg.life_INJECT_PERMIT) injArm)

/-- INJ_DISARM (R426). -/
def execInjDisarm (who : Requester) (s : State) : Host.Outcome State Fault Refusal :=
  .next (s.live fun s => s.onDev fun d => d.writeGate who 7 0x040 2 false Dev.disarm)

/-- ARM_WINDOW_EXPIRY (R426). -/
def execArmWindowExpiry (s : State) : Host.Outcome State Fault Refusal := .next (s.live fun s => s.onDev Dev.disarm)

end Sys2Proof.Machine
end

