-- ==== Sys2Proof/Machine/Tally.lean ====
section
/-!
DEFINITION. The Tally (chapter 20): filters, the group tick, reading and writing counters.
-/

namespace Sys2Proof.Machine

/-- The instance of a field of a group's window. -/
def Dev.grp (d : Dev) (f : Field) (g : Nat) : Nat := d.fget f g

/-- The filter that stands staged in a group's window (R465). -/
def Dev.stagedFilter (d : Dev) (g : Nat) : TallyFilter :=
  { priv := d.grp Reg.grp_PRIV g
    masterKind := d.grp Reg.grp_MASTER_KIND g
    masterLo := d.grp Reg.grp_MASTER_LO g
    masterHi := d.grp Reg.grp_MASTER_HI g
    addrLo := d.fget64 Reg.grp_ADDR_LO_W0 Reg.grp_ADDR_LO_W1 g
    addrHi := d.fget64 Reg.grp_ADDR_HI_W0 Reg.grp_ADDR_HI_W1 g
    subclass := d.grp Reg.grp_SUBCLASS g }

/-- The filter in force in a group. -/
def Dev.groupFilter (d : Dev) (g : Nat) : TallyFilter := KMap.at d.tally.filter {} g

/-- Whether a staged filter awaits the group tick (FILTER_PENDING). -/
def Dev.filterPending (d : Dev) (g : Nat) : Bool := d.stagedFilter g != d.groupFilter g

/-- A group applies its staged filter where that differs; FILTER_EPOCH of its counters increments (R466). -/
def Dev.applyFilter (d : Dev) (g : Nat) : Dev :=
  if !d.filterPending g then d
  else { d with
    tally.filter := KMap.put d.tally.filter g (d.stagedFilter g)
    tally.epoch := KMap.put d.tally.epoch g ((KMap.at d.tally.epoch 0 g + 1) % 256) }

/-- THRESH of counter c as its table words give it (R467). -/
def Dev.threshWord (d : Dev) (c : Nat) : Nat := d.tget 70 0 0 (2 * c) + 2 ^ 32 * (d.tget 70 0 0 (2 * c + 1) % 65536)

/-- The thresholds written through the window come into force. -/
def Dev.applyThresh (d : Dev) : Dev :=
  { d with tally.thresh := (List.range 1536).filterMap fun c => if d.threshWord c = 0 then none else some (c, d.threshWord c) }

/-- The filter fields of a group at their reset values. -/
def Dev.filterDefault (d : Dev) (g : Nat) : Dev :=
  [Reg.grp_PRIV, Reg.grp_MASTER_KIND, Reg.grp_MASTER_LO, Reg.grp_MASTER_HI, Reg.grp_ADDR_LO_W0, Reg.grp_ADDR_LO_W1, Reg.grp_ADDR_HI_W0,
    Reg.grp_ADDR_HI_W1, Reg.grp_SUBCLASS].foldl (fun (d : Dev) f => d.fset f (f.rstAt g) g) d

/-- What a soft reset of the page left for the group tick (R464): filters and THRESH at their reset values. -/
def Dev.tallyResetDue (d : Dev) : Dev :=
  if !d.tally.resetDue then d
  else
    let d1 := (List.range 24).foldl Dev.filterDefault { d with tally.resetDue := false }
    { d1 with tabs := d1.tabs.filter fun e => !(decide (tkey 70 0 0 0 ≤ e.1) && decide (e.1 < tkey 70 0 1 0)) }

/-- TICKS of every group counts the slice-clock ticks (R463). -/
def Dev.countTicks (d : Dev) : Dev :=
  if d.sliceClock then (List.range 24).foldl (fun (d : Dev) g => d.tallyCount g 0 1024) d else d

/-- The group tick (R466): the occurrences since the last one are counted, then staged filters and thresholds come into force. -/
def groupTick (counts : List TallyEvent) (d : Dev) : Dev :=
  let d1 := counts.foldl (fun (d : Dev) e => d.tallyCount (e.counter.val / 64) (e.counter.val % 64) e.count e.attr) d.countTicks
  ((List.range 24).foldl Dev.applyFilter d1.tallyResetDue).applyThresh

/-- CNT_W1 with FILTER_EPOCH and OVF of a counter (Table 20.4). -/
def Dev.counterHigh (d : Dev) (c : Nat) : Nat :=
  KMap.at d.tally.count 0 c / 2 ^ 32 + 2 ^ 16 * KMap.at d.tally.epoch 0 (c / 64) + 2 ^ 31 * Bool.bit (KMap.at d.tally.ovf false c)

/-- A write commits a counter (R468). -/
def Dev.counterSet (d : Dev) (c w0 w1 : Nat) : Dev :=
  { d with
    tally.count := KMap.put d.tally.count c (w0 % 2 ^ 32 + 2 ^ 32 * (w1 % 65536))
    tally.ovf := KMap.put d.tally.ovf c (bitAt w1 31) }

/-- GROUP_TICK (R466). -/
def execGroupTick (counts : List TallyEvent) (s : State) : Host.Outcome State Fault Refusal :=
  .next (s.live fun s => s.onDev (groupTick counts))

end Sys2Proof.Machine
end

