-- ==== Sys2Proof/Machine/Resets.lean ====
section
/-!
DEFINITION. Resets: cold reset, the supplies and PWR_OK (R13, R493, R496); the warm resets PERST_N and function-level reset (R325,
R362, R363, R368), PAGE_CTRL.SOFT_RESET (R472) with what the owning chapters say of it.
-/

namespace Sys2Proof.Machine

/-! ### Soft reset of a page (R472) -/

/-- Whether an access to MDIAG is closed: its other offsets always, its header in the states that do not open it (R444, R476). -/
def Dev.mdiagShut (d : Dev) (p off : Nat) : Bool := p == 31 && (decide (64 ≤ off) || !d.flag Reg.life_MDIAG_OPEN)

/-- Whether a key of the register file names an RC field of a page. -/
def rcKey (p k : Nat) : Bool :=
  k / 131072 == p && (Reg.ofHDR ++ pageOwnFields p).any fun f => f.acc == .rc && f.lsb == k % 32 && (f.instAt (k / 32)).isSome

/-- The events, counts, error log and RC fields of a page clear (R472). -/
def Dev.clearPage (d : Dev) (p : Nat) : Dev :=
  let d1 := { d with regs := d.regs.filter fun e => !rcKey p e.1 }
  [Reg.hdr_EVENT, Reg.hdr_FIRST_BIT, Reg.hdr_FIRST_MULTI, Reg.hdr_FIRST_INJECTED, Reg.hdr_FIRST_VALID, Reg.hdr_ERR_CODE, Reg.hdr_ERR_INJECTED,
    Reg.hdr_ERR_DETAIL0, Reg.hdr_ERR_DETAIL1, Reg.hdr_ERR_TIME].foldl (fun (d : Dev) f => d.fset f 0 p) d1

/-- The staged higher words of a page are discarded (R22). -/
def Dev.dropStaged (d : Dev) (p : Nat) : Dev :=
  { d with bus.staged := d.bus.staged.filter fun e => e.1 % 2 ^ 24 / 4096 != p }

/-- Whether the owning chapter discards a soft reset of a page (R225, R271). -/
def Dev.softDiscarded (d : Dev) (p : Nat) : Bool :=
  ((p == 22 || p == 23) && d.armed) || (p == 25 && (List.range 16).any fun k => d.partIs k != 0)

/-- What the owning chapter adds to a soft reset of a page: GAP_LOG (R225), the TIC's channels (R191), the auxiliary converters
(R407), the Tally's filters, thresholds and SAMPLED (R464); CYCLE_DONE clears with EVENT, so the Assayer counts slices anew. -/
def Dev.softOwn (d : Dev) (p : Nat) : Dev :=
  if p = 17 then { d with assay.ran := [] }
  else if p = 21 then d.ticReset
  else if p = 23 then d.tsetWords 23 1 0 0 (List.replicate 256 0)
  else if p = 26 then (List.range 4).foldl (fun (d : Dev) c => (if d.fltOn c then d else d.auxOff c).fbit Reg.aux_auxc_EN false c) d
  else if p = 70 then (List.range 24).foldl (fun (d : Dev) g => (d.fset Reg.grp_SAMPLED_W0 0 g).fset Reg.grp_SAMPLED_W1 0 g)
    { d with tally.resetDue := true }
  else d

/-- A write of 1 to SOFT_RESET (R472): a warm reset, so injection is disarmed (R426). -/
def softReset (who : Requester) (p val : Nat) (d : Dev) : Dev :=
  if !hasHeader p then d
  else if d.mdiagShut p 8 then d.logDiscard who 1 8 val
  else if d.softDiscarded p then d.logDiscard who p 8 val
  else ((((d.softOwn p).swapsCancel p).dropStaged p).clearPage p).disarm

/-! ### Warm resets of the device (R362, R363, R368) -/

/-- The end of a link hold by DISCARD or a warm reset (R368). -/
def Dev.holdDiscard (d : Dev) : Dev :=
  (({ d.holdEnd with pcie.egress := [] }.fset Reg.pcie_EGRESS_LEVEL 0).queuesReset).raise 68 Ev.pcie_HOLD_DISCARDED

/-- Queues, egress buffer and hold under a warm reset (R325, R362). -/
def Dev.linkReset (d : Dev) : Dev :=
  if d.holding then d.holdDiscard else ({ d with pcie.egress := [] }.fset Reg.pcie_EGRESS_LEVEL 0).queuesReset

/-- Configuration Space, the MSI-X table and its pending bits as the standard of R354 prescribes (PRESUMED, log entry 36). -/
def Dev.configReset (d : Dev) : Dev :=
  { (d.fbit Reg.pcie_BME false).fbit Reg.pcie_PTM_EN false with
    pcie.msixWords := []
    pcie.pba := []
    pcie.d3hot := false }

/-- What function-level reset and PERST_N have in common (R362, R363): FLR_STOPS_ACQ stops the acquisition, the TIC and the queues are
reset, the expert gate closes (R478), injection is disarmed (R426). Higher words that a requester has staged stay staged (R22; DESIGN CHOICE, log
entry 36). -/
def Dev.warmReset (d : Dev) : Dev :=
  let d1 := if d.flag Reg.top_FLR_STOPS_ACQ then d.stopRequest else d
  (((d1.ticReset.disarm).fbit Reg.top_OPEN false).configReset).linkReset

/-- PERST_N is asserted (R362, R364): it also resets the sticky configuration bits, and the link goes down without a hold. -/
def Dev.perstAssert (d : Dev) : Dev :=
  if d.pcie.perstN then d
  else
    let d1 := { d with pcie.perstN := true }
    if d.fore.off then d1
    else { linkDown d1.warmReset with
      pcie.configReady := false
      pcie.pmeStatus := false }

/-- A write of 1 to PCIE.HOLD_CTRL.DISCARD (R368): of use only during a hold. -/
def discard (who : Requester) (d : Dev) : Dev := d.writeGate who 68 0x044 1 false fun d => if d.holding then d.holdDiscard else d

/-! ### Supplies, PWR_OK and cold reset (R13, R34, R496) -/

/-- A supply monitor reports bad: the device is in reset; while PWR_OK is high the reset is latched. THERM_N is released when VDD_IO
leaves its range (R504). -/
def supplyBad (i : Supply) (d : Dev) : Dev :=
  { d with
    fore.badSupplies := d.fore.badSupplies ||| 2 ^ i.bit
    fore.latched := d.fore.latched || d.fore.pwrOk
    fore.thermN := d.fore.thermN && i != .io
    fore.off := true }

/-- A supply monitor reports good. -/
def supplyGood (i : Supply) (d : Dev) : Dev := { d with fore.badSupplies := andNot d.fore.badSupplies (2 ^ i.bit) }

/-- PWR_OK falls: the device is in reset, and a latched reset is released. -/
def pwrOkFall (d : Dev) : Dev :=
  { d with
    fore.pwrOk := false
    fore.latched := false
    fore.off := true }

/-- The device as cold reset leaves it: every volatile state at its reset value. What has left the device, the count of free values
used and the level of PERST_N are no state that a reset clears. -/
def Dev.coldStart (d : Dev) : Dev :=
  { out := d.out
    freeCtr := d.freeCtr
    pcie := { perstN := d.pcie.perstN } }

/-- PWR_OK rises (R496): with every monitor good a cold reset begins, record space reads as undefined until written (R195), the ROM
starts (Table 01.7), and a TAP that was unlocked has closed (R456). With a monitor that reports bad the reset stays. -/
def State.coldReset (s : State) : State :=
  if s.dev.fore.badSupplies = 0 then
    let s1 := ({ s with dev := s.dev.coldStart, hbm := [] }).romStart
    if s.dev.fget Reg.life_TAP_REMAIN = 0 then s1 else s1.onDev fun d => d.raise 1 Ev.life_TAP_LOCKED
  else s.onDev fun d => { d with
    fore.pwrOk := true
    fore.latched := true
    fore.thermN := false }

/-! ### Commands -/

/-- SOFT_RESET (R472). -/
def execSoftReset (who : Requester) (page : Fin 128) (s : State) : Host.Outcome State Fault Refusal :=
  .next (s.live fun s => s.onDev fun d =>
    softReset who page (2 + 4 * d.fget Reg.hdr_EXPERT page + 8 * d.fget Reg.hdr_FREEZE page) d)

/-- COLD_RESET (R13). -/
def execColdReset (s : State) : Host.Outcome State Fault Refusal := .next s.coldReset

/-- SUPPLY_MONITOR_BAD (R496). -/
def execSupplyMonitorBad (i : Supply) (s : State) : Host.Outcome State Fault Refusal := .next (s.onDev (supplyBad i))

/-- SUPPLY_MONITOR_GOOD (R496). -/
def execSupplyMonitorGood (i : Supply) (s : State) : Host.Outcome State Fault Refusal := .next (s.onDev (supplyGood i))

/-- PWR_OK_FALL (R496). -/
def execPwrOkFall (s : State) : Host.Outcome State Fault Refusal := .next (s.onDev pwrOkFall)

/-- PERST_N_ASSERT (R362). -/
def execPerstNAssert (s : State) : Host.Outcome State Fault Refusal := .next (s.onDev Dev.perstAssert)

/-- PERST_N_DEASSERT (R359): link training may start; the trained link is LINK_UP. -/
def execPerstNDeassert (s : State) : Host.Outcome State Fault Refusal := .next (s.onDev fun d => { d with pcie.perstN := false })

/-- FUNCTION_LEVEL_RESET (R362). -/
def execFunctionLevelReset (s : State) : Host.Outcome State Fault Refusal := .next (s.live fun s => s.onDev Dev.warmReset)

/-- CONFIG_SPACE_READY (R359). -/
def execConfigSpaceReady (s : State) : Host.Outcome State Fault Refusal :=
  .next (s.live fun s => s.onDev fun d => if d.pcie.perstN then d else { d with pcie.configReady := true })

/-- DISCARD (R368). -/
def execDiscard (who : Requester) (s : State) : Host.Outcome State Fault Refusal := .next (s.live fun s => s.onDev (discard who))

end Sys2Proof.Machine
end

