-- ==== Sys2Proof/Machine/RegRead.lean ====
section
/-!
DEFINITION. Reads of BAR0 (R11 to R15, R18 to R23, R471 to R481): values that registers show of other state, multi-word values and
their shadows, RC fields, the table window's registers, the MSI-X table.
-/

namespace Sys2Proof.Machine

/-! ### Multi-word values (R18, R21) -/

/-- The arrays of multi-word values: offset of W0 of the first, stride, number, words. INJ.FAULT_PAGES_W0 to W3 are no such value but four
plain registers (DESIGN CHOICE, log entry 36). -/
def multiWords : List (Nat × Nat × Nat × Nat) :=
  [(0x1050, 0, 1, 2), (0x5070, 0, 1, 2), (0x5078, 0, 1, 2), (0x6050, 0, 1, 3), (0x6070, 0, 1, 2), (0x6078, 0, 1, 3), (0x6410, 0, 1, 3),
   (0x1210C, 0x20, 16, 2), (0x12114, 0x20, 16, 2), (0x14044, 0, 1, 2), (0x15130, 0x50, 8, 3), (0x16048, 0, 1, 2), (0x16050, 0, 1, 2),
   (0x16060, 0, 1, 2), (0x16108, 0x40, 12, 2), (0x16110, 0x40, 12, 2), (0x16118, 0x40, 12, 2), (0x16120, 0x40, 12, 2),
   (0x16138, 0x40, 12, 2), (0x17050, 0, 1, 2), (0x17058, 0, 1, 2), (0x17088, 0, 1, 2), (0x17090, 0, 1, 2), (0x18110, 0x40, 8, 2),
   (0x18118, 0x40, 8, 2), (0x18120, 0x40, 8, 2), (0x19D20, 8, 16, 2), (0x1A05C, 0, 1, 2), (0x1C044, 0, 1, 2), (0x1C04C, 0, 1, 2),
   (0x42048, 0, 1, 2), (0x44064, 0, 1, 5), (0x45070, 0, 1, 2), (0x45078, 0, 1, 2), (0x48208, 0x400, 24, 2), (0x48210, 0x400, 24, 2),
   (0x48218, 0x400, 24, 2)]

/-- Where an offset stands in an array of multi-word values: the offset of its W0 and the number of words. -/
def multiIn (off : Nat) (m : Nat × Nat × Nat × Nat) : Option (Nat × Nat) :=
  let k := if m.2.1 = 0 then 0 else (off - m.1) / m.2.1
  let w0 := m.1 + m.2.1 * k
  if m.1 ≤ off ∧ k < m.2.2.1 ∧ off < w0 + 4 * m.2.2.2 then some (w0, m.2.2.2) else none

/-- The multi-word value that a BAR0 offset belongs to. -/
def multiOf (off : Nat) : Option (Nat × Nat) := multiWords.findSome? (multiIn off)

/-- The offsets of a value's higher words. -/
def higherWords (w0 n : Nat) : List Nat := (List.range (n - 1)).map fun k => w0 + 4 * (k + 1)

/-! ### Fields that show other state -/

/-- A field whose value is that of other state, computed when it is read. -/
abbrev Shown := Field × (State → Nat → Nat)

/-- Whether TIMEOUT_CFG.SCALE is implemented in a page (R413). -/
def hasScale (p : Nat) : Bool := p == 17 || p == 29 || (decide (32 ≤ p) && decide (p < 64))

/-- Whether a page has E fields (HAS_EXPERT). -/
def hasExpert (p : Nat) : Bool := hasScale p || (pageOwnFields p).any fun f => f.level == .e

/-- PAGE_ID to PAGE_STATUS and TIMEOUT_CFG of a page (Table 21.1). -/
def shownHeader : List Shown :=
  [(Reg.hdr_HAS_TABLES, fun s p => Bool.bit (s.dev.tableCount p != 0)),
   (Reg.hdr_TABLE_COUNT, fun s p => s.dev.tableCount p),
   (Reg.hdr_HAS_EXPERT, fun _ p => Bool.bit (hasExpert p)),
   (Reg.hdr_HAS_INJECT, fun _ p => Bool.bit (injMapWord p != 0)),
   (Reg.hdr_READY, fun s p => Bool.bit (s.dev.pageReady p)),
   (Reg.hdr_BUSY, fun s p => Bool.bit (s.dev.tablesBusy p)),
   (Reg.hdr_DEGRADED, fun s p => Bool.bit (s.dev.isDegraded p)),
   (Reg.hdr_FAULT_CONTAINED, fun s p => Bool.bit (s.dev.isContained p)),
   (Reg.hdr_SCALE, fun s p => if hasScale p then s.dev.fget Reg.hdr_SCALE p else 0)]

/-- The position at whose cycle and tap slice s is clocked: that to which it is being brought (R77); an idle spare stays at its last one, of
which the manual says only that it is a phase of its group (R76; DESIGN CHOICE, log entry 41). -/
def Dev.clockPos (d : Dev) (s : Nat) : Nat :=
  match d.bringOf (s / 34) fun b => b.phys == s % 34 with
  | some b => b.pos
  | none => d.fget Reg.slice_LOGICAL_POS s

/-- The seconds that are left of a debug unlock (R456): between its beginning and its end the model has no Foreman time, so that which of the
seconds granted are left is a free value (log entry 32). -/
def Dev.tapRemain (d : Dev) : Nat :=
  let n := d.fget Reg.life_TAP_REMAIN
  if n = 0 then 0 else 1 + d.free.1 % n

/-- The values that the TOP, LIFE, TBASE, FE, SLICE and TSEQ pages show of other state. -/
def shownFront : List Shown :=
  [(Reg.top_PART, fun _ _ => if Config.partBE then 2 else 1),
   (Reg.life_TAP_REMAIN, fun s _ => s.dev.tapRemain),
   (Reg.tbase_NOW_W0, fun s _ => s.dev.nowStamp.getD 0 0),
   (Reg.tbase_NOW_W1, fun s _ => s.dev.nowStamp.getD 1 0),
   (Reg.tbase_NOW_W2, fun s _ => s.dev.nowStamp.getD 2 0),
   (Reg.tbase_COAST_TIME, fun s _ => if s.dev.flag Reg.tbase_COASTING then s.dev.coastUs else s.dev.fget Reg.tbase_COAST_TIME),
   (Reg.fe_SAMPLED, fun s x => Bool.bit ((sampledInputs s.dev.mode).contains x)),
   (Reg.fe_BUF_ON, fun s x => Bool.bit ((sampledInputs s.dev.mode).contains x || s.dev.flag Reg.trig_cmp_EN x || s.dev.flag Reg.fe_BUF_FORCE_ON x)),
   (Reg.fe_PATH_DELAY, fun s x => pathDelay s.nv s.dev.mode x),
   (Reg.slice_TAP, fun s i => tapOf s.dev.mode (i / 34) (s.dev.clockPos i)),
   (Reg.slice_CYCLE, fun s i => s.dev.clockPos i / 4),
   (Reg.tseq_MIN_HOLDOFF_FLOOR, fun s _ => s.dev.holdoffFloor),
   (Reg.vern_DV, fun s _ => s.dev.dv)]

/-- The values that the TIC, ACQ, LEDG and AUX pages show of other state. -/
def shownRings : List Shown :=
  [(Reg.acq_ARM, fun s _ => Bool.bit s.dev.armed),
   (Reg.tic_ch_LEVEL, fun s n => s.dev.ticDepth n),
   (Reg.acq_WRITING, fun s _ => ((List.range 12).map fun r => 2 ^ r * Bool.bit (s.dev.ring r).writing).sum),
   (Reg.acq_POST_LEN_W0, fun s _ => s.dev.postLen % 2 ^ 32),
   (Reg.acq_ring_USABLE_W0, fun s r => s.dev.capacity r % 2 ^ 32),
   (Reg.acq_ring_USABLE_W1, fun s r => s.dev.capacity r / 2 ^ 32),
   (Reg.acq_ring_WRITE_INDEX_W0, fun s r => (s.dev.ring r).write % 2 ^ 32),
   (Reg.acq_ring_WRITE_INDEX_W1, fun s r => (s.dev.ring r).write / 2 ^ 32),
   (Reg.acq_ring_OLDEST_VALID_W0, fun s r => s.dev.oldestValid r % 2 ^ 32),
   (Reg.acq_ring_OLDEST_VALID_W1, fun s r => s.dev.oldestValid r / 2 ^ 32),
   (Reg.acq_ring_OLDEST_HELD_W0, fun s r => s.dev.oldestHeld r % 2 ^ 32),
   (Reg.acq_ring_OLDEST_HELD_W1, fun s r => s.dev.oldestHeld r / 2 ^ 32),
   (Reg.acq_ring_WRITE_OFFSET, fun s r => (s.dev.ring r).pos / 64),
   (Reg.acq_ring_SPILL_INDEX_W0, fun s r => (s.dev.ring r).spill % 2 ^ 32),
   (Reg.acq_ring_SPILL_INDEX_W1, fun s r => (s.dev.ring r).spill / 2 ^ 32),
   (Reg.ledg_SPILL_LOG2, fun s _ => s.dev.spillLog2),
   (Reg.aux_BUF_SIZE, fun s _ => if s.dev.flag Reg.aux_HBM_EN then max 1 (s.dev.fget Reg.aux_BUF_SIZE) else s.dev.fget Reg.aux_BUF_SIZE)]

/-- The values that the DECI and ACCU pages show of other state. -/
def shownDeci : List Shown :=
  [(Reg.deci_RATE_TOTAL, fun s _ => s.dev.rateTotal),
   (Reg.deci_SETTLED, fun s _ => ((List.range 8).map fun c => 2 ^ c * Bool.bit (s.dev.chain c).settled).sum),
   (Reg.deci_RUNNING, fun s _ => ((List.range 8).map fun c => 2 ^ c * Bool.bit (s.dev.chainOn c && s.dev.chainSampled c)).sum),
   (Reg.deci_dch_SETTLED, fun s c => Bool.bit (s.dev.chain c).settled),
   (Reg.deci_dch_CENTRE2_W0, fun s c => ofSigned 64 (s.dev.chainCfg c).centre2 % 2 ^ 32),
   (Reg.deci_dch_CENTRE2_W1, fun s c => ofSigned 64 (s.dev.chainCfg c).centre2 / 2 ^ 32),
   (Reg.deci_dch_RATE, fun s c => s.dev.chainRate c),
   (Reg.deci_dch_LATENCY_OUT, fun s c => s.dev.latencyOut c),
   (Reg.accu_part_RES_COUNT_W0, fun s k => if s.dev.fget Reg.accu_part_MODE k == 3 || s.dev.fget Reg.accu_part_MODE k == 4 then
      s.dev.fget Reg.accu_part_RES_COUNT_W0 k else 0),
   (Reg.accu_part_RES_COUNT_W1, fun s k => if s.dev.fget Reg.accu_part_MODE k == 3 || s.dev.fget Reg.accu_part_MODE k == 4 then
      s.dev.fget Reg.accu_part_RES_COUNT_W1 k else 0),
   (Reg.accu_part_PARAM0, fun s k => s.dev.paramRead k 0),
   (Reg.accu_part_PARAM1, fun s k => s.dev.paramRead k 1),
   (Reg.accu_part_PARAM2, fun s k => s.dev.paramRead k 2),
   (Reg.accu_part_PARAM3, fun s k => s.dev.paramRead k 3)]

/-- The time since the attempt that a journeyman executes began, in ns (ELAPSED). -/
def Dev.elapsed (d : Dev) (jm : Nat) : Nat :=
  match d.executing jm with
  | some x => min (2 ^ 32 - 1) ((d.tb.acc - x.started) / 2 ^ 32 * 8000000 / max 1 (d.fget Reg.tbase_NOMINAL_FREQ))
  | none => 0

/-- The values that the BENCH, PCIE, EVT and TALLY pages and the group windows show of other state. -/
def shownBack : List Shown :=
  [(Reg.bench_FALLBACK, fun s b => Bool.bit (bitAt (s.dev.fget64 Reg.clk_ISL_FALLBACK_W0 Reg.clk_ISL_FALLBACK_W1) (7 + b))),
   (Reg.bench_jm_ELAPSED, fun s i => s.dev.elapsed (16 * (i / 256) + i % 256)),
   (Reg.pcie_HOLD_TIME, fun s _ => s.dev.holdTime),
   (Reg.evt_PENDING_W0, fun s _ => summaryWord s.dev.pagePending 0),
   (Reg.evt_PENDING_W1, fun s _ => summaryWord s.dev.pagePending 1),
   (Reg.evt_PENDING_W2, fun s _ => summaryWord s.dev.pagePending 2),
   (Reg.evt_PENDING_W3, fun s _ => summaryWord s.dev.pagePending 3),
   (Reg.evt_DEGRADED_W0, fun s _ => summaryWord s.dev.isDegraded 0),
   (Reg.evt_DEGRADED_W1, fun s _ => summaryWord s.dev.isDegraded 1),
   (Reg.evt_DEGRADED_W2, fun s _ => summaryWord s.dev.isDegraded 2),
   (Reg.evt_DEGRADED_W3, fun s _ => summaryWord s.dev.isDegraded 3),
   (Reg.evt_CONTAINED_W0, fun s _ => summaryWord s.dev.isContained 0),
   (Reg.evt_CONTAINED_W1, fun s _ => summaryWord s.dev.isContained 1),
   (Reg.evt_CONTAINED_W2, fun s _ => summaryWord s.dev.isContained 2),
   (Reg.evt_CONTAINED_W3, fun s _ => summaryWord s.dev.isContained 3),
   (Reg.tally_SAMPLE_SUMMARY, fun s _ => ((List.range 24).map fun g => 2 ^ g * Bool.bit (s.dev.fget64 Reg.grp_SAMPLED_W0 Reg.grp_SAMPLED_W1 g != 0)).sum),
   (Reg.tally_OVF_SUMMARY, fun s _ => ((List.range 24).map fun g => 2 ^ g * Bool.bit (s.dev.tally.ovf.any fun e => e.2 && e.1 / 64 == g)).sum),
   (Reg.grp_FILTER_PENDING, fun s g => Bool.bit (s.dev.filterPending g))]

/-- The shown fields among which those of a page stand. -/
def shownOf (p : Nat) : List Shown :=
  if p < 21 then shownFront else if p = 24 ∨ p = 25 then shownDeci else if p < 27 then shownRings else shownBack

/-- The value that a field reads as (R11): a WO field 0. -/
def State.fieldRead (s : State) (off : Nat) (f : Field) (i : Nat) : Nat :=
  if f.acc == .wo then 0
  else match (if off % 4096 < 64 then shownHeader else shownOf (off / 4096)).find? fun g => g.1 == f with
    | some g => g.2 s i
    | none => s.dev.fget f i

/-- The live word at a BAR0 offset. -/
def State.wordLive (s : State) (off : Nat) : Nat :=
  ((regFields off).map fun fi => s.fieldRead off fi.1 fi.2 % 2 ^ fi.1.width * 2 ^ fi.1.lsb).sum

/-- The word at a BAR0 offset with every field at its reset value: what reads return before READY (R474). -/
def wordReset (off : Nat) : Nat :=
  ((regFields off).map fun fi => if fi.1.acc == .wo then 0 else fi.1.rstAt fi.2 % 2 ^ fi.1.width * 2 ^ fi.1.lsb).sum

/-! ### Reads with effects -/

/-- The RC fields of a register clear on a read; increments of the same cycle stand in the lowest one (R12). SAT can be raised again
once SAT_COUNT has been read (R233). -/
def Dev.rcClear (d : Dev) (off inc : Nat) : Dev :=
  let fs := (regFields off).filter fun fi => fi.1.acc == .rc
  let d1 := fs.foldl (fun (d : Dev) fi => d.fset fi.1 0 fi.2) d
  let d2 := match fs with
    | [] => d1
    | fi :: _ => d1.finc fi.1 inc fi.2
  match fs.find? fun fi => fi.1 == Reg.deci_dch_SAT_COUNT with
  | some fi => d2.setChain fi.2 { d2.chain fi.2 with satRaised := false }
  | none => d2

/-- A read of one of the table window's registers other than TABLE_DATA (Table 21.5). -/
def State.tableReg (s : State) (who : Requester) (p o : Nat) : Nat :=
  let sel := s.dev.tableSel who p
  let c := s.dev.tctlOf p sel
  let t := s.dev.tableDef p sel
  if o = 0xC00 then sel
  else if o = 0xC04 then s.dev.tableAddr who p
  else if o = 0xC0C then
    8 * Bool.bit c.checkEn + 16 * c.bank + 32 * Bool.bit c.swapPending + 64 * Bool.bit c.crcBusy + 128 * Bool.bit c.loadBusy +
      256 * ((t.map fun t => t.kind.code).getD 0) + 1024 * Bool.bit c.lastRefused
  else if o = 0xC10 then c.crc
  else if o = 0xC14 then c.expect
  else if o = 0xC18 then (t.map TableDef.len).getD 0
  else 0

/-- A word of the MSI-X table or the PBA (Table 14.1; PRESUMED, log entry 20). -/
def Dev.msixWord (d : Dev) (off : Nat) : Nat :=
  if off < 0x7F8000 then
    let w := (off - 0x7F0000) / 4
    if w < 8192 then KMap.at d.pcie.msixWords (if w % 4 = 3 then 1 else 0) w else 0
  else
    let w := (off - 0x7F8000) / 4
    if w < 64 then ((List.range 32).map fun i => 2 ^ i * Bool.bit (KMap.at d.pcie.pba false (32 * w + i))).sum else 0

/-- The word that a read of a multi-word value's word returns, with the latching that a read of W0 makes (R18, R19). -/
def State.multiRead (s : State) (who : Requester) (off w0 n : Nat) : State :=
  if off = w0 then s.onDev fun d =>
    (d.latchAll ((higherWords w0 n).map fun o => (shadowKey who o, s.wordLive o))).answer who (s.wordLive off)
  else s.onDev fun d => d.answer who (KMap.at d.bus.shadow 0 (shadowKey who off))

/-- A read of a counter (R468): W0 latches W1. -/
def Dev.counterRead (d : Dev) (who : Requester) (off : Nat) : Dev :=
  let c := (off - 0x48000) / 0x400 * 64 + off % 0x400 / 8
  if off % 8 = 0 then
    (d.latchAll [(shadowKey who (off + 4), d.counterHigh c)]).answer who (KMap.at d.tally.count 0 c % 2 ^ 32)
  else d.answer who (KMap.at d.bus.shadow 0 (shadowKey who off))

/-- A read of the TIC's result registers (R20, R189): W0 removes the oldest result, and its higher words go to the requester's
shadow. -/
def State.ticRead (s : State) (who : Requester) (off : Nat) : State :=
  let n := (off - 0x15140) / 0x50
  if (off - 0x15140) % 0x50 = 0 then
    let s1 := s.onDev (ticResultRead n)
    s1.multiRead who off off 3
  else s.onDev fun d => d.answer who (KMap.at d.bus.shadow 0 (shadowKey who off))

/-- Whether an offset is in the result registers of a TIC channel. -/
def isTicResult (off : Nat) : Bool :=
  decide (0x15140 ≤ off) && decide ((off - 0x15140) / 0x50 < 8) && decide ((off - 0x15140) % 0x50 < 12)

/-- A read of a register that stands for itself: RC fields clear (R11, R12). -/
def State.plainRead (s : State) (who : Requester) (off inc : Nat) : State :=
  s.onDev fun d => (d.rcClear off inc).answer who (s.wordLive off)

/-- A read of a BAR0 register (R11 to R15, R18, R471, R474, R476): the word goes to the requester. -/
def State.bar0Read (s : State) (who : Requester) (off inc : Nat) : State :=
  let p := off / 4096
  let o := off % 4096
  if 0x7F0000 ≤ off then s.onDev fun d => d.answer who (d.msixWord off)
  else if s.dev.mdiagShut p o then s.onDev fun d => d.answer who 0
  else if 72 ≤ p ∧ p < 78 ∧ off % 0x400 < 0x200 then s.onDev fun d => d.counterRead who off
  else if o = 0x30 ∧ hasHeader p then s.onDev (errLogRead who p none)
  else if 0x34 ≤ o ∧ o < 0x40 ∧ hasHeader p then s.onDev fun d => d.answer who (KMap.at d.bus.shadow 0 (shadowKey who off))
  else if 64 ≤ o ∧ p < 72 ∧ !s.dev.pageReady p then s.onDev fun d => d.answer who (wordReset off)
  else if o = 0xC08 ∧ hasHeader p then s.tableData who p none
  else if 0xC00 ≤ o ∧ o < 0xC20 ∧ hasHeader p then
    s.onDev fun d => d.answer who (if s.dev.tableCount p = 0 then 0 else s.tableReg who p o)
  else if isTicResult off then s.ticRead who off
  else match multiOf off with
    | some m => s.multiRead who off m.1 m.2
    | none => s.plainRead who off inc

/-! ### BAR2 (R308, R483) -/

/-- In the addresses that the read commands take, BAR2 follows the 8 MiB of BAR0 (DESIGN CHOICE, log entry 36). -/
def bar2Base : Nat := 0x800000

/-- A read of word k of a queue context: words 0 to 6 stand for themselves, a read of HEAD latches words 8 to 15 (R18, R308). -/
def Dev.contextRead (d : Dev) (q k : Nat) : Dev :=
  let key := fun j => shadowKey .host (bar2Base + 64 * q + 4 * j)
  if k < 7 then d.answer .host (d.contextWord q k)
  else if k = 7 then
    (d.latchAll ((List.range 8).map fun j => (key (j + 8), d.contextWord q (j + 8)))).answer .host (d.contextWord q 7)
  else d.answer .host (KMap.at d.bus.shadow 0 (key k))

/-- A read of a BAR2 doubleword by the host: a queue context, a table aperture, or the reserved rest, which reads 0 (R308, R483,
Table 14.3). -/
def State.bar2Read (s : State) (b : Nat) : State :=
  if b < 0x400000 then s.onDev fun d => d.contextRead (b / 64) (b % 64 / 4)
  else if b < 0x800000 then s.tableAperture ((b - 0x400000) / 0x8000) (b % 0x8000 / 4) none
  else s.onDev fun d => d.answer .host 0

/-- A read at an address: BAR0, or BAR2 for the host (R308, R356). -/
def State.barRead (s : State) (who : Requester) (off inc : Nat) : State :=
  if off < bar2Base then s.bar0Read who off inc
  else match who with
    | .host => s.bar2Read (off - bar2Base)
    | _ => s.onDev fun d => d.answer who 0

/-! ### Commands -/

/-- RC_READ (R12). -/
def execRcRead (who : Requester) (off inc : Nat) (s : State) : Host.Outcome State Fault Refusal :=
  .next (s.live fun s => s.barRead who (off / 4 * 4) inc)

/-- MULTIWORD_W0_READ (R18, R308). -/
def execMultiwordW0Read (who : Requester) (off : Nat) (s : State) : Host.Outcome State Fault Refusal :=
  .next (s.live fun s => s.barRead who (off / 4 * 4) 0)

/-- TIC_RESULT_READ (R189). -/
def execTicResultRead (who : Requester) (n : Fin 8) (s : State) : Host.Outcome State Fault Refusal :=
  .next (s.live fun s => s.bar0Read who (0x15140 + 0x50 * n) 0)

end Sys2Proof.Machine
end

