-- ==== Sys2Proof/Machine/Bar0.lean ====
section
/-!
DEFINITION. Writes of BAR0 (R11 to R16, R21, R410, R473 to R481): each register that performs an action goes to the action's own
meaning, every other one takes its fields' values. In one write, fields take their values before actions run (log entry 36).
-/

namespace Sys2Proof.Machine

/-! ### Plain registers and multi-word values -/

/-- Whether a write of a register may change a field: not where an E field or a locked field would change (R16, R477, R509). -/
def Dev.shutBy (d : Dev) (off val : Nat) (lock : Field → Bool) : Bool :=
  d.changesLocked off val fun f => (f.level == .e && !d.expertOpen (off / 4096)) || lock f

/-- Whether a register has a field that a write stages or sets. -/
def writable (off : Nat) : Bool := (regFields off).any fun fi => fi.1.acc == .rw || fi.1.acc == .wo

/-- A write of a higher word: it is staged for its requester (R21). -/
def Dev.stageWrite (d : Dev) (who : Requester) (off val : Nat) (lock : Field → Bool) : Dev :=
  if d.shutBy off val lock then d.logDiscard who (off / 4096) off val
  else
    let d1 := d.stage who off val
    if writable off then d1.cfgEpoch (off / 4096) else d1

/-- A write of W0: the staged higher words and W0 take effect together (R21), whether or not W0 keeps its value, and whether or not a staged word's own
field has since become closed to expert access or locked (DESIGN CHOICE, log entry 36). -/
def Dev.commitWrite (d : Dev) (who : Requester) (off n val : Nat) (lock : Field → Bool) (act : Dev → Dev) : Dev :=
  if d.shutBy off val lock then d.logDiscard who (off / 4096) off val
  else (d.commitStaged who (higherWords off n)).writePlain who off val lock act

/-- Whether a register has a field that a write can change or act on. -/
def takesWrites (off : Nat) : Bool := (regFields off).any fun fi => fi.1.acc == .rw || fi.1.acc == .rws || fi.1.acc == .wo || fi.1.acc == .w1c

/-- A write of a register without an action of its own: a higher word of a multi-word value is staged, its W0 commits (R21); any
other register takes its fields (R11). -/
def Dev.writeWord (d : Dev) (who : Requester) (off val : Nat) (lock : Field → Bool) (act : Dev → Dev) : Dev :=
  if !takesWrites off then d
  else match multiOf off with
    | some m => if off = m.1 then d.commitWrite who off m.2 val lock act else d.stageWrite who off val lock
    | none => d.writePlain who off val lock act

/-- No field of a register is locked. -/
def noLock (_ : Field) : Bool := false

/-! ### The common header -/

/-- A write of EVENT, in a cycle in which hardware sets the bits of `hw` (R410, R411): a bit cleared and set at once stays 1 and counts
as a new transition. Clearing CYCLE_DONE of a group begins its count of slices anew. -/
def Dev.eventWrite (d : Dev) (p val hw : Nat) : Dev :=
  let old := d.fget Reg.hdr_EVENT p
  let kept := andNot old (andNot val hw)
  let d1 := d.fset Reg.hdr_EVENT kept p
  let d2 := if kept = 0 then (((d1.fset Reg.hdr_FIRST_BIT 0 p).fset Reg.hdr_FIRST_MULTI 0 p).fset Reg.hdr_FIRST_INJECTED 0 p).fset
      Reg.hdr_FIRST_VALID 0 p else d1
  let d3 := if p = 17 then { d2 with assay.ran := d2.assay.ran.filter fun e => bitAt kept e.1 || !bitAt old e.1 } else d2
  let r := d3.setEvent p hw
  let new := r.2 ||| andNot (old &&& val &&& hw) (d.fget Reg.hdr_EVENT_MASK p)
  let x := if new = 0 then (r.1, false) else r.1.route p new
  if x.2 then ((x.1.setAndRoute 28 (2 ^ Ev.qmgr_EVENT_OVERFLOW)).1).egressFull 32 else x.1

/-- EVENT_CLEAR of a page, whose hardware set may come from an injection (R410). -/
def eventClear (who : Requester) (p val hw : Nat) (injected : Bool) (d : Dev) : Dev :=
  if !hasHeader p then d
  else if d.mdiagShut p 0x10 then d.logDiscard who 1 0x10 val
  else if injected then d.asInjected fun d => d.eventWrite p val hw else d.eventWrite p val hw

/-- A write of EVENT_MASK: an EVENT bit that is unmasked enters the pending set (R322; DEDUCED, log entry 36). -/
def Dev.maskWrite (d : Dev) (p val : Nat) : Dev :=
  let new := andNot (d.fget Reg.hdr_EVENT p &&& d.fget Reg.hdr_EVENT_MASK p) val
  let d1 := d.fset Reg.hdr_EVENT_MASK val p
  let x := if new = 0 then (d1, false) else d1.route p new
  if x.2 then ((x.1.setAndRoute 28 (2 ^ Ev.qmgr_EVENT_OVERFLOW)).1).egressFull 32 else x.1

/-- A write of PAGE_CTRL (Table 21.1). -/
def pageCtrlWrite (who : Requester) (p val : Nat) (d : Dev) : Dev :=
  let d1 := (d.fset Reg.hdr_EXPERT (val / 4) p).fset Reg.hdr_FREEZE (val / 8) p
  if bitAt val 1 then softReset who p val d1 else d1

/-- A write in the common header of a page (Table 21.1). -/
def State.headerWrite (s : State) (who : Requester) (p o val : Nat) : State :=
  if o = 0x08 then s.onDev (pageCtrlWrite who p val)
  else if o = 0x10 then s.onDev fun d => d.eventWrite p val 0
  else if o = 0x14 then s.onDev fun d => d.maskWrite p val
  else if o = 0x18 then s.eventInject who p val (s.dev.nowUs / 1000)
  else if o = 0x20 ∧ hasScale p then s.onDev fun d => (d.writeFields who (4096 * p + o) val noLock noLock).1
  else s

/-! ### The table window -/

/-- A write of TABLE_CTRL: CHECK_EN, then CRC_CHECK, COPY and SWAP (Table 21.5). CHECK_EN has no effect on direct and read-only tables
(R482). -/
def State.tableCtrlWrite (s : State) (who : Requester) (p val : Nat) : State :=
  let sel := s.dev.tableSel who p
  match s.dev.tableDef p sel with
  | none => s
  | some t =>
    let s1 := (if t.kind == .banked then s.onDev fun d => d.tctlSet p sel { d.tctlOf p sel with checkEn := bitAt val 3 } else s).onDev
      fun d => d.cfgEpoch p
    let s2 := if bitAt val 1 then s1.crcStart p sel else s1
    let s3 := if bitAt val 2 then s2.tableCopyOf who p sel t val else s2
    if bitAt val 0 && t.kind == .banked then s3.swapRequest p sel else s3

/-- A write in the table window of a page (Table 21.5). -/
def State.tableWindowWrite (s : State) (who : Requester) (p o val : Nat) : State :=
  if s.dev.tableCount p = 0 then s
  else if o = 0xC00 then s.onDev (tableSelWrite who p val)
  else if o = 0xC04 then s.onDev fun d => d.writeGate who p o val false fun d => d.setTableAddr who p val
  else if o = 0xC08 then s.tableData who p (some val)
  else if o = 0xC0C then s.tableCtrlWrite who p val
  else if o = 0xC14 then s.onDev fun d =>
    let sel := d.tableSel who p
    if (d.tableDef p sel).isSome then (d.tctlSet p sel { d.tctlOf p sel with expect := val % 2 ^ 32 }).cfgEpoch p else d
  else s

/-! ### Registers with actions, page by page -/

/-- Whether a write of EXPERT_GATE is refused (R478). -/
def Dev.gateRefused (d : Dev) (val : Nat) : Bool := bitAt val 0 && !(bitField val 16 16 == 0x9640 && d.flag Reg.life_EXPERT_PERMIT)

/-- A write of TOP.EXPERT_GATE (R478). -/
def expertGate (who : Requester) (val : Nat) (d : Dev) : Dev :=
  d.writeGateIf who 0 0x048 val (fun d => d.gateRefused val) fun d =>
    if d.gateRefused val then (d.raise 0 Ev.top_GATE_REFUSED).logErr 0 Ev.top_GATE_REFUSED 0 0
    else if bitAt val 0 then (d.fbit Reg.top_OPEN true).fset Reg.top_OPENED_BY who.code
    else d.fbit Reg.top_OPEN false

/-- CLK: DITHER (R507), island reference (R52). -/
def clkWrite (who : Requester) (o val : Nat) (d : Dev) : Dev :=
  let off := 5 * 4096 + o
  if o = 0x044 then d.writePlain who off val noLock fun d =>
    let d1 := if bitAt val 1 then reseed d else d
    if bitAt val 2 then relock d1 else d1
  else if o = 0x080 then d.writePlain who off val noLock Dev.islrefUpdate
  else d.writeWord who off val noLock id

/-- TBASE: CTRL and NOMINAL_FREQ (R58, R61, R64, R65). SET_COMMIT is an E field. -/
def tbaseWrite (who : Requester) (o val : Nat) (d : Dev) : Dev :=
  let off := 6 * 4096 + o
  if o = 0x040 then
    let was := d.fget Reg.tbase_REF_SEL
    let d1 := d.writePlain who off val noLock fun d =>
      let d1 := if d.fget Reg.tbase_REF_SEL = was then d else refSelChanged d
      if bitAt val 2 then ppsArm d1 else d1
    if !bitAt val 3 then d1 else if d1.expertOpen 6 then setCommit d1 else d1.logDiscard who 6 o val
  else if o = 0x048 then d.writeGate who 6 o val false (nominalFreqWrite val)
  else d.writeWord who off val noLock id

/-- INJ: CTRL (R421, R426). -/
def injWrite (who : Requester) (o val : Nat) (d : Dev) : Dev :=
  let off := 7 * 4096 + o
  if o = 0x040 then
    let r := d.writeFields who off val noLock noLock
    let refused := bitAt val 0 && !r.1.flag Reg.life_INJECT_PERMIT
    let d1 := if bitAt val 0 then injArm r.1 else r.1
    let d2 := if bitAt val 1 then d1.disarm else d1
    if refused && !r.2 && !bitAt val 1 then d2 else d2.cfgEpoch 7
  else d.writeWord who off val noLock id

/-- FE_x: QUIET_CTRL (R91). -/
def feWrite (who : Requester) (x o val : Nat) (d : Dev) : Dev :=
  let off := (8 + x) * 4096 + o
  if o = 0x048 then d.writeGate who (8 + x) o val false fun d => if bitAt val 0 then quietStart x d else d
  else d.writeWord who off val noLock id

/-- SLICE: RETIRE (R78). -/
def sliceWrite (who : Requester) (o val : Nat) (d : Dev) : Dev :=
  if o = 0x400 then d.writeGate who 16 o val true (Dev.retireRequest (val % 256)) else d.writeWord who (16 * 4096 + o) val noLock id

/-- ASSAY: CTRL and FG_CTRL (R105, R107, R110, R113). -/
def assayWrite (who : Requester) (o val : Nat) (d : Dev) : Dev :=
  let off := 17 * 4096 + o
  if o = 0x040 then [0, 1, 2, 3].foldl Dev.dueStatus (d.writePlain who off val noLock fun d => if bitAt val 8 then commitNow d else d)
  else if o = 0x050 then d.writePlain who off val noLock fun d =>
    let d1 := if bitAt val 4 then fgStart (val % 16) d else d
    if bitAt val 5 then fgCancel d1 else d1
  else if o = 0x044 ∨ o = 0x048 then [0, 1, 2, 3].foldl Dev.dueStatus (d.writeWord who off val noLock id)
  else d.writeWord who off val noLock id

/-- TRIG: state sources, condition units, automatic levels (R123, R125, R134, R135, R141). -/
def trigWrite (who : Requester) (o val : Nat) (d : Dev) : Dev :=
  let x := (o - 0x050) / 0x10
  let k := (o - 0x090) / 8
  let n := (o - 0x100) / 0x20
  let t := (o - 0x300) / 8
  if 0x050 ≤ o ∧ o < 0x090 ∧ (o - 0x050) % 0x10 = 0 then
    d.writeGateIf who 18 o val (fun d => (srcVerdict x val d).isSome) (srcCfgWrite x val)
  else if 0x050 ≤ o ∧ o < 0x090 ∧ (o - 0x050) % 0x10 = 8 then
    d.writeGateIf who 18 o val (autoRefused (16 + x) val) (autoEnWrite (16 + x) val)
  else if 0x090 ≤ o ∧ o < 0x0B0 ∧ (o - 0x090) % 8 = 0 then
    d.writeGateIf who 18 o val (fun d => (srcVerdict (4 + k) val d).isSome) (srcCfgWrite (4 + k) val)
  else if 0x100 ≤ o ∧ o < 0x300 ∧ (o - 0x100) % 0x20 = 0 then
    d.writeGateIf who 18 o val (fun d => (condVerdict n val d).isSome) (condCfgWrite n val)
  else if 0x300 ≤ o ∧ o < 0x380 ∧ (o - 0x300) % 8 = 0 then
    d.writeGateIf who 18 o val (autoRefused t val) (autoEnWrite t val)
  else d.writeWord who (18 * 4096 + o) val noLock id

/-- TSEQ: CTRL (R174). -/
def tseqWrite (who : Requester) (o val : Nat) (d : Dev) : Dev :=
  d.writeWord who (19 * 4096 + o) val noLock fun d =>
    if o = 0x040 ∧ bitAt val 8 then { d with tseq.restart := true } else d

/-- TIC: CTRL and the channels' configuration (R187, R188). -/
def ticWrite (who : Requester) (o val : Nat) (d : Dev) : Dev :=
  if o = 0x040 then d.writeGate who 21 o val false fun d => ticStop (val / 256 % 256) (ticArm (val % 256) d)
  else if takesWrites (21 * 4096 + o) then ticConfigWrite who o val d
  else d

/-- ACQ: CTRL, ring blocks and window lengths (R199 to R203). -/
def acqWrite (who : Requester) (o val : Nat) (d : Dev) : Dev :=
  if o = 0x040 then
    let d1 := acqConfigWrite who o val d
    let d2 := if bitAt val 0 then armWrite who val d1 else d1
    if bitAt val 1 then d2.stopRequest else d2
  else if takesWrites (22 * 4096 + o) then ringConfigWrite who o val d
  else d

/-- LEDG: releases, the tail of the segment spill area, configuration (R209, R211, R216, R221). -/
def ledgWrite (who : Requester) (o val : Nat) (d : Dev) : Dev :=
  if o = 0x060 then ledgRelease who val d
  else if o = 0x068 then releaseUptoWrite who val d
  else if (multiOf (23 * 4096 + o)).isSome || o = 0x064 || o = 0x06C then
    (if o = 0x064 || o = 0x06C then (d.stage who (23 * 4096 + o) val).cfgEpoch 23 else d.writeWord who (23 * 4096 + o) val noLock id)
  else if takesWrites (23 * 4096 + o) then ledgConfigWrite who o val d
  else d

/-- DECI: chain configuration (R244). -/
def deciWrite (who : Requester) (o val : Nat) (d : Dev) : Dev :=
  if 0x100 ≤ o ∧ o < 0x300 ∧ o % 0x40 < 0x0C then chainConfigWrite who o val d else d.writeWord who (24 * 4096 + o) val noLock id

/-- PART_k.CTRL: CLEAR, SNAP, SNAP_CLEAR, LOAD, ABORT, in this order (R265, R267, R269, R271). -/
def State.partCtrlWrite (s : State) (who : Requester) (k val : Nat) : State :=
  s.partCtrl who k val fun s =>
    let s1 := if bitAt val 0 then s.tillClear k else s
    let s2 := if bitAt val 1 then s1.onDev fun d => d.tillSnap k (bitAt val 2) else s1
    let s3 := if bitAt val 3 then s2.tillLoad k (bitField val 8 8) else s2
    if bitAt val 4 then s3.onDev fun d => d.tillAbort k else s3

/-- ACCU: partitions (R265 to R271). -/
def State.accuWrite (s : State) (who : Requester) (o val : Nat) : State :=
  let k := (o - 0x100) / 0x30
  let b := (o - 0x100) % 0x30
  if 0x100 ≤ o ∧ o < 0x400 then
    (if b = 0 then s.onDev (partCfgWrite who k val)
     else if b < 0x1C then s.onDev (partConfigWrite who k o val)
     else if b = 0x1C then s.partCtrlWrite who k val
     else s)
  else if 0xC20 ≤ o ∧ o < 0xD20 then s.onDev (partConfigWrite who ((o - 0xC20) / 0x10) o val)
  else s.onDev fun d => d.writeWord who (25 * 4096 + o) val noLock id

/-- AUX and AUXF: CFG of a converter and of a filter (R404, R407). -/
def auxWrite (who : Requester) (p o val : Nat) (d : Dev) : Dev :=
  if p = 26 ∧ 0x100 ≤ o ∧ o < 0x180 ∧ o % 0x20 = 0 then auxEnable who ((o - 0x100) / 0x20) val d
  else if p = 27 ∧ 0x100 ≤ o ∧ o < 0x140 ∧ o % 0x10 = 0 then filterEnable who ((o - 0x100) / 0x10) val d
  else d.writeWord who (p * 4096 + o) val noLock id

/-- QMGR: ADMIN_CTRL and the admin rings' bases (R324). -/
def qmgrWrite (who : Requester) (o val : Nat) (d : Dev) : Dev :=
  if o = 0x040 then adminEnable who val d
  else d.writeWord who (28 * 4096 + o) val (fun f => d.flag Reg.qmgr_EN && adminField f) id

/-- The layout of the scratch region: locked while tickets are out (R293). -/
def scratchField (f : Field) : Bool := f == Reg.benchg_SCRATCH_BASE || f == Reg.benchg_SLOT_UNITS || f == Reg.benchg_SLOTS

/-- BENCHG (R293, R304). -/
def benchgWrite (who : Requester) (o val : Nat) (d : Dev) : Dev :=
  d.writeWord who (29 * 4096 + o) val (fun f => d.fget Reg.benchg_TICKETS_OUT != 0 && scratchField f) Dev.benchStatus

/-- MEMC_m: refresh policy and power-down (R341, R344). -/
def memcWrite (who : Requester) (m o val : Nat) (d : Dev) : Dev :=
  d.writeWord who ((64 + m) * 4096 + o) val noLock fun d =>
    if o = 0x048 then d.refUpdate m else if o = 0x054 ∨ o = 0x058 then d.pdUpdate m else d

/-- PCIE: HOLD_CTRL, PTM_CTRL, the L1 policy (R360, R368, R369). -/
def pcieWrite (who : Requester) (o val : Nat) (d : Dev) : Dev :=
  if o = 0x044 then d.writeGate who 68 o val false fun d => if bitAt val 0 && d.holding then d.holdDiscard else d
  else if o = 0x060 then d.writePlain who (68 * 4096 + o) val noLock fun d => if bitAt val 0 then ptmStart d else d
  else d.writeWord who (68 * 4096 + o) val noLock fun d => if o = 0x078 then d.l1Update else d

/-- Whether any port is in STATE 3. -/
def Dev.anyPortUp (d : Dev) : Bool := (List.range 4).any d.portUp

/-- A second port in an uplink role is refused (R376). -/
def Dev.roleTaken (d : Dev) (n role : Nat) : Bool :=
  (role == 1 || role == 2) && (List.range 4).any fun k => k != n && d.fget Reg.cas_port_ROLE k == role

/-- CAS: CTRL, DEV_ID, HORIZON_NS, roles (R376, R381, R386). -/
def casWrite (who : Requester) (o val : Nat) (d : Dev) : Dev :=
  let off := 69 * 4096 + o
  if o = 0x040 then d.writePlain who off val (fun f => f == Reg.cas_TRIG_RX && d.armed) casConfig
  else if o = 0x044 then d.writePlain who off val (fun _ => d.anyPortUp) casConfig
  else if o = 0x048 then
    (if !d.flag Reg.cas_ROOT then d else d.writePlain who off val (fun _ => d.armed) casUpdate)
  else if 0x100 ≤ o ∧ o < 0x180 ∧ o % 0x20 = 0 then
    (if d.roleTaken ((o - 0x100) / 0x20) (val % 4) then d.logDiscard who 69 o val else d.writePlain who off val noLock casConfig)
  else d.writeWord who off val noLock id

/-- XFER_CTRL (R389): XFER_ID, and GO at bit 16. -/
def State.xferWrite (s : State) (who : Requester) (val : Nat) : State :=
  let s1 := s.onDev fun d => d.writePlain who (69 * 4096 + 0x084) val noLock id
  if bitAt val 16 then s1.xferGo else s1

/-- A write in a counter group window (R465, R468): W1 of a counter is staged and W0 commits; filter fields are staged values of R466.
Group windows are no pages: CFG_EPOCH and FREEZE do not apply. -/
def windowWrite (who : Requester) (off val : Nat) (d : Dev) : Dev :=
  if off % 0x400 < 0x200 then
    let c := (off - 0x48000) / 0x400 * 64 + off % 0x400 / 8
    if off % 8 = 4 then d.stage who off val
    else
      let w1 := (KMap.find d.bus.staged (stageKey who (off + 4))).getD (d.counterHigh c)
      { d with bus.staged := KMap.del d.bus.staged (stageKey who (off + 4)) }.counterSet c val w1
  else match multiOf off with
    | some m =>
      if off = m.1 then ((d.commitStaged who (higherWords off m.2)).writeFields who off val noLock noLock).1
      else d.stage who off val
    | none => (d.writeFields who off val noLock noLock).1

/-- A write of a register of a page outside its header and table window. -/
def State.pageWrite (s : State) (who : Requester) (p o val : Nat) : State :=
  if p = 0 ∧ o = 0x048 then s.onDev (expertGate who val)
  else if p = 4 ∧ o = 0x040 then s.onDev fun d => d.writeGate who 4 o val false fun d => if bitAt val 0 then recompute d else d
  else if p = 5 then s.onDev (clkWrite who o val)
  else if p = 6 then s.onDev (tbaseWrite who o val)
  else if p = 7 then s.onDev (injWrite who o val)
  else if 8 ≤ p ∧ p < 12 then
    (if o = 0x058 then s.onDevNv (pathDelayWrite who (p - 8) val) else s.onDev (feWrite who (p - 8) o val))
  else if 12 ≤ p ∧ p < 16 ∧ o = 0x040 then s.onDevHbm (loomCfgWrite who (p - 12) val fun m d => d.changeMode m)
  else if p = 16 then s.onDev (sliceWrite who o val)
  else if p = 17 then s.onDev (assayWrite who o val)
  else if p = 18 then s.onDev (trigWrite who o val)
  else if p = 19 then s.onDev (tseqWrite who o val)
  else if p = 21 then s.onDev (ticWrite who o val)
  else if p = 22 then s.onDev (acqWrite who o val)
  else if p = 23 then s.onDev (ledgWrite who o val)
  else if p = 24 then s.onDev (deciWrite who o val)
  else if p = 25 then s.accuWrite who o val
  else if p = 26 ∨ p = 27 then s.onDev (auxWrite who p o val)
  else if p = 28 then s.onDev (qmgrWrite who o val)
  else if p = 29 then s.onDev (benchgWrite who o val)
  else if p = 64 ∨ p = 65 then s.onDev (memcWrite who (p - 64) o val)
  else if p = 66 ∧ o = 0x040 then s.onDev (rateWrite who val)
  else if p = 68 then s.onDev (pcieWrite who o val)
  else if p = 69 ∧ o = 0x084 then s.xferWrite who val
  else if p = 69 then s.onDev (casWrite who o val)
  else s.onDev fun d => d.writeWord who (4096 * p + o) val noLock id

/-! ### The MSI-X table -/

/-- A write of the MSI-X table (Table 14.1): unmasking a vector whose pending bit is set sends it. The PBA ignores writes (PRESUMED, log
entry 20). -/
def msixWrite (off val : Nat) (d : Dev) : Dev :=
  let w := (off - 0x7F0000) / 4
  if 8192 ≤ w then d
  else if w % 4 = 3 then
    let d1 := { d with pcie.msixWords := KMap.put d.pcie.msixWords w (val % 2) }
    if val % 2 = 0 && KMap.at d.pcie.pba false (w / 4) && (d.holding || d.flag Reg.pcie_BME) then
      { d1 with pcie.pba := KMap.put d1.pcie.pba (w / 4) false }.emit (.msix (w / 4))
    else d1
  else { d with pcie.msixWords := KMap.put d.pcie.msixWords w (if w % 4 = 0 then val / 4 * 4 % 2 ^ 32 else val % 2 ^ 32) }

/-! ### Every write -/

/-- A write of a BAR0 register with all four bytes enabled (R11, R14, R21, R444, R471 to R481). -/
def State.bar0Write (s : State) (who : Requester) (off val : Nat) : State :=
  let p := off / 4096
  let o := off % 4096
  if 0x7F0000 ≤ off then s.onDev (msixWrite off val)
  else if s.dev.mdiagShut p o then s.onDev fun d => d.logDiscard who 1 o val
  else if 72 ≤ p ∧ p < 78 then s.onDev (windowWrite who off val)
  else if !hasHeader p then s
  else if s.dev.flag Reg.hdr_FREEZE p ∧ o ≠ 0x08 ∧ o ≠ 0x10 ∧ o ≠ 0x14 then s.onDev fun d => d.logDiscard who p o val
  else if o < 0x40 then s.headerWrite who p o val
  else if 0xC00 ≤ o ∧ o < 0xC20 then s.tableWindowWrite who p o val
  else s.pageWrite who p o val

/-! ### Commands -/

/-- REGISTER_WRITE (R11): a write that does not enable all four bytes is discarded (R15). -/
def execRegisterWrite (who : Requester) (off : Nat) (be : BitVec 4) (val : Word) (s : State) : Host.Outcome State Fault Refusal :=
  .next (s.live fun s => if be = 15 ∧ off % 4 = 0 then s.bar0Write who off val.toNat else s)

/-- STAGED_HIGH_WORD_WRITE (R21). -/
def execStagedHighWordWrite (who : Requester) (off : Nat) (val : Word) (s : State) : Host.Outcome State Fault Refusal :=
  .next (s.live fun s => if off % 4 = 0 then s.bar0Write who off val.toNat else s)

/-- MULTIWORD_W0_WRITE (R21). -/
def execMultiwordW0Write (who : Requester) (off : Nat) (val : Word) (s : State) : Host.Outcome State Fault Refusal :=
  .next (s.live fun s => if off % 4 = 0 then s.bar0Write who off val.toNat else s)

/-- EVENT_CLEAR (R410). -/
def execEventClear (who : Requester) (page : Fin 128) (val hw : Word) (injected : Bool) (s : State) : Host.Outcome State Fault Refusal :=
  .next (s.live fun s => s.onDev (eventClear who page val.toNat hw.toNat injected))

/-- EXPERT_GATE_WRITE (R478). -/
def execExpertGateWrite (who : Requester) (val : Word) (s : State) : Host.Outcome State Fault Refusal :=
  .next (s.live fun s => s.onDev (expertGate who val.toNat))

end Sys2Proof.Machine
end

