-- ==== Sys2Proof/Machine/SmBus.lean ====
section
/-!
DEFINITION. The SMBus target (R500).
-/

namespace Sys2Proof.Machine

/-- Whether an offset names an aligned register of a BAR0 page (Table 21.2). -/
def smbusReaches (off : Nat) : Bool := decide (off % 4 = 0) && (hasHeader (off / 4096) || (decide (72 ≤ off / 4096) && decide (off / 4096 < 78)))

/-- An access that reaches no page: a byte count of 0, recorded in TOP with the offset and the requester (R500, R514). -/
def smbusMiss (off : Nat) (d : Dev) : Dev := (d.logErr 0 0xF2 off (4096 * Requester.smbus.code)).emit (.smbus [])

/-- The bytes of a word, the least significant first. -/
def bytesLE (v : Nat) : List Nat := [v % 256, v / 256 % 256, v / 65536 % 256, v / 16777216 % 256]

/-- A Block Write with command 0x10. -/
def State.smbusWrite (s : State) (off val : Nat) : State :=
  if smbusReaches off then s.bar0Write .smbus off val else s.onDev (smbusMiss off)

/-- A Process Call with command 0x11: it returns the 4 bytes at the offset. -/
def State.smbusRead (s : State) (off : Nat) : State :=
  if smbusReaches off then (s.bar0Read .smbus off 0).onDev fun d => d.emit (.smbus (bytesLE (KMap.at d.bus.data 0 Requester.smbus.code)))
  else s.onDev (smbusMiss off)

/-- The device answers the Alert Response Address with its address, 0x5A in [7:1], and releases SMB_ALERT_N (R500; the byte is the SMBus
standard's, PRESUMED, log entry 37). -/
def smbusAlertResponse (d : Dev) : Dev :=
  if d.alertLow then { d with fore.alertAnswered := some d.alertConds }.emit (.smbus [0xB4]) else d

/-- SMBUS_WRITE (R500). -/
def execSmbusWrite (off : Nat) (val : Word) (s : State) : Host.Outcome State Fault Refusal := .next (s.live fun s => s.smbusWrite off val.toNat)

/-- SMBUS_READ (R500). -/
def execSmbusRead (off : Nat) (s : State) : Host.Outcome State Fault Refusal := .next (s.live fun s => s.smbusRead off)

/-- SMBUS_ALERT_RESPONSE (R500). -/
def execSmbusAlertResponse (s : State) : Host.Outcome State Fault Refusal := .next (s.live fun s => s.onDev smbusAlertResponse)

end Sys2Proof.Machine
end

