-- ==== Sys2Proof/Machine/Dispatch.lean ====
section
/-!
DEFINITION. The dispatch of a command to its meaning: one arm per constructor of `Instr`.
-/

namespace Sys2Proof.Machine

/-- The effect of a command on everything but the queue. -/
def exec (i : Instr) (s : State) : Host.Outcome State Fault Refusal :=
  match i with
  | .registerWrite who off be val => Sys2Proof.Machine.execRegisterWrite who off be val s
  | .rcRead who off inc => Sys2Proof.Machine.execRcRead who off inc s
  | .multiwordW0Read who off => Sys2Proof.Machine.execMultiwordW0Read who off s
  | .stagedHighWordWrite who off val => Sys2Proof.Machine.execStagedHighWordWrite who off val s
  | .multiwordW0Write who off val => Sys2Proof.Machine.execMultiwordW0Write who off val s
  | .eventClear who page val hw injected => Sys2Proof.Machine.execEventClear who page val hw injected s
  | .errLogRead who page same => Sys2Proof.Machine.execErrLogRead who page same s
  | .softReset who page => Sys2Proof.Machine.execSoftReset who page s
  | .coldReset => Sys2Proof.Machine.execColdReset s
  | .supplyMonitorBad rail => Sys2Proof.Machine.execSupplyMonitorBad rail s
  | .supplyMonitorGood rail => Sys2Proof.Machine.execSupplyMonitorGood rail s
  | .pwrOkFall => Sys2Proof.Machine.execPwrOkFall s
  | .perstNAssert => Sys2Proof.Machine.execPerstNAssert s
  | .perstNDeassert => Sys2Proof.Machine.execPerstNDeassert s
  | .functionLevelReset => Sys2Proof.Machine.execFunctionLevelReset s
  | .configSpaceReady => Sys2Proof.Machine.execConfigSpaceReady s
  | .watchdog atMs => Sys2Proof.Machine.execWatchdog atMs s
  | .lockstep atMs => Sys2Proof.Machine.execLockstep atMs s
  | .firmwareImageReadDone img => Sys2Proof.Machine.execFirmwareImageReadDone img s
  | .handshakeTransfer ch seq payload acked => Sys2Proof.Machine.execHandshakeTransfer ch seq payload acked s
  | .handshakeTimeout ch page => Sys2Proof.Machine.execHandshakeTimeout ch page s
  | .clksLost => Sys2Proof.Machine.execClksLost s
  | .clksRange => Sys2Proof.Machine.execClksRange s
  | .clksReturn gap phase => Sys2Proof.Machine.execClksReturn gap phase s
  | .dllBandSearch g => Sys2Proof.Machine.execDllBandSearch g s
  | .dllBandTrialEnd g found => Sys2Proof.Machine.execDllBandTrialEnd g found s
  | .dllLock g fine => Sys2Proof.Machine.execDllLock g fine s
  | .dllUnlock g => Sys2Proof.Machine.execDllUnlock g s
  | .dllHandover g up => Sys2Proof.Machine.execDllHandover g up s
  | .dllLockTimeout g => Sys2Proof.Machine.execDllLockTimeout g s
  | .dllRetryTimer g => Sys2Proof.Machine.execDllRetryTimer g s
  | .relock who => Sys2Proof.Machine.execRelock who s
  | .reseed who => Sys2Proof.Machine.execReseed who s
  | .islPllLock island => Sys2Proof.Machine.execIslPllLock island s
  | .islClkFallback island => Sys2Proof.Machine.execIslClkFallback island s
  | .islPllRetry island => Sys2Proof.Machine.execIslPllRetry island s
  | .islrefLost src => Sys2Proof.Machine.execIslrefLost src s
  | .islrefSourceValid src => Sys2Proof.Machine.execIslrefSourceValid src s
  | .islrefResume => Sys2Proof.Machine.execIslrefResume s
  | .freqGateEnd khz => Sys2Proof.Machine.execFreqGateEnd khz s
  | .disciplineSourceValid inRange found => Sys2Proof.Machine.execDisciplineSourceValid inRange found s
  | .refLost => Sys2Proof.Machine.execRefLost s
  | .refReturn phaseErr => Sys2Proof.Machine.execRefReturn phaseErr s
  | .slewDone => Sys2Proof.Machine.execSlewDone s
  | .ppsArm who => Sys2Proof.Machine.execPpsArm who s
  | .ppsInEdge => Sys2Proof.Machine.execPpsInEdge s
  | .ppsMissing => Sys2Proof.Machine.execPpsMissing s
  | .setCommit who => Sys2Proof.Machine.execSetCommit who s
  | .nominalFreqWrite who val => Sys2Proof.Machine.execNominalFreqWrite who val s
  | .modeWrite who val => Sys2Proof.Machine.execModeWrite who val s
  | .modeReady => Sys2Proof.Machine.execModeReady s
  | .pathDelayWrite who x val => Sys2Proof.Machine.execPathDelayWrite who x val s
  | .weftEmit raw => Sys2Proof.Machine.execWeftEmit raw s
  | .retire who slice => Sys2Proof.Machine.execRetire who slice s
  | .substitutionBoundary g => Sys2Proof.Machine.execSubstitutionBoundary g s
  | .sliceFail slice => Sys2Proof.Machine.execSliceFail slice s
  | .spareSettled g pos => Sys2Proof.Machine.execSpareSettled g pos s
  | .idleSpareFail slice => Sys2Proof.Machine.execIdleSpareFail slice s
  | .quietCheckStart who x => Sys2Proof.Machine.execQuietCheckStart who x s
  | .quietDone x => Sys2Proof.Machine.execQuietDone x s
  | .sliceTempSample temps => Sys2Proof.Machine.execSliceTempSample temps s
  | .assayRunStart g => Sys2Proof.Machine.execAssayRunStart g s
  | .dcPhaseEnd g below above => Sys2Proof.Machine.execDcPhaseEnd g below above s
  | .livePhaseEnd g skew fir neighbours => Sys2Proof.Machine.execLivePhaseEnd g skew fir neighbours s
  | .assayRunReturn g fig => Sys2Proof.Machine.execAssayRunReturn g fig s
  | .runAbandoned g => Sys2Proof.Machine.execRunAbandoned g s
  | .livePhaseRestart g => Sys2Proof.Machine.execLivePhaseRestart g s
  | .dllTapMeasure g trims bandMap => Sys2Proof.Machine.execDllTapMeasure g trims bandMap s
  | .vernCalWindowEnd u periodA periodB err => Sys2Proof.Machine.execVernCalWindowEnd u periodA periodB err s
  | .vernStale u => Sys2Proof.Machine.execVernStale u s
  | .fgStart who groups => Sys2Proof.Machine.execFgStart who groups s
  | .fgSliceDone g coeffs fig => Sys2Proof.Machine.execFgSliceDone g coeffs fig s
  | .quietRetryTimer => Sys2Proof.Machine.execQuietRetryTimer s
  | .cancel who => Sys2Proof.Machine.execCancel who s
  | .commitNow who => Sys2Proof.Machine.execCommitNow who s
  | .bankCommitStart => Sys2Proof.Machine.execBankCommitStart s
  | .mramBlockWriteDone => Sys2Proof.Machine.execMramBlockWriteDone s
  | .mramRetry => Sys2Proof.Machine.execMramRetry s
  | .comparatorEdge x rising tu => Sys2Proof.Machine.execComparatorEdge x rising tu s
  | .trigInEdge k rising tu => Sys2Proof.Machine.execTrigInEdge k rising tu s
  | .vernierConversionDone u code => Sys2Proof.Machine.execVernierConversionDone u code s
  | .convTimeout u => Sys2Proof.Machine.execConvTimeout u s
  | .levelChangeApply src input => Sys2Proof.Machine.execLevelChangeApply src input s
  | .condCfgWrite who n val => Sys2Proof.Machine.execCondCfgWrite who n val s
  | .autoLevelWindowEnd tgt => Sys2Proof.Machine.execAutoLevelWindowEnd tgt s
  | .autoEnWrite who tgt val => Sys2Proof.Machine.execAutoEnWrite who tgt val s
  | .stateTimeout => Sys2Proof.Machine.execStateTimeout s
  | .bucketRefill => Sys2Proof.Machine.execBucketRefill s
  | .tseqRestart who => Sys2Proof.Machine.execTseqRestart who s
  | .qualExpired seg => Sys2Proof.Machine.execQualExpired seg s
  | .trigOutPulse n => Sys2Proof.Machine.execTrigOutPulse n s
  | .trigOutPulseEnd n => Sys2Proof.Machine.execTrigOutPulseEnd n s
  | .ticArm who mask => Sys2Proof.Machine.execTicArm who mask s
  | .ticStop who mask => Sys2Proof.Machine.execTicStop who mask s
  | .ticEventReceived n => Sys2Proof.Machine.execTicEventReceived n s
  | .ticGateEnd n => Sys2Proof.Machine.execTicGateEnd n s
  | .ticNoSignal n => Sys2Proof.Machine.execTicNoSignal n s
  | .ticWindowExpiry n => Sys2Proof.Machine.execTicWindowExpiry n s
  | .ticResultRead who n => Sys2Proof.Machine.execTicResultRead who n s
  | .ctrlArm who => Sys2Proof.Machine.execCtrlArm who s
  | .armBoundary => Sys2Proof.Machine.execArmBoundary s
  | .ctrlStop who => Sys2Proof.Machine.execCtrlStop who s
  | .stopBoundary => Sys2Proof.Machine.execStopBoundary s
  | .stopDone => Sys2Proof.Machine.execStopDone s
  | .captureBlockStored r => Sys2Proof.Machine.execCaptureBlockStored r s
  | .ledgerEntryWrite seg => Sys2Proof.Machine.execLedgerEntryWrite seg s
  | .ledgRelease who val => Sys2Proof.Machine.execLedgRelease who val s
  | .releaseUpto who val => Sys2Proof.Machine.execReleaseUpto who val s
  | .autoRelease seg => Sys2Proof.Machine.execAutoRelease seg s
  | .segmentSpillStart => Sys2Proof.Machine.execSegmentSpillStart s
  | .segmentSpillDone => Sys2Proof.Machine.execSegmentSpillDone s
  | .spillStreamWrite r count => Sys2Proof.Machine.execSpillStreamWrite r count s
  | .spillErr err => Sys2Proof.Machine.execSpillErr err s
  | .ringConfigWrite who off val => Sys2Proof.Machine.execRingConfigWrite who off val s
  | .chainConfigWrite who off val => Sys2Proof.Machine.execChainConfigWrite who off val s
  | .partRunSet who k val => Sys2Proof.Machine.execPartRunSet who k val s
  | .partRunClear who k val => Sys2Proof.Machine.execPartRunClear who k val s
  | .tillRecordRead k count => Sys2Proof.Machine.execTillRecordRead k count s
  | .clear who k => Sys2Proof.Machine.execClear who k s
  | .clearDone k => Sys2Proof.Machine.execClearDone k s
  | .snap who k clear => Sys2Proof.Machine.execSnap who k clear s
  | .dumpSweepStart k => Sys2Proof.Machine.execDumpSweepStart k s
  | .dumpDone k => Sys2Proof.Machine.execDumpDone k s
  | .load who k slot => Sys2Proof.Machine.execLoad who k slot s
  | .abort who k => Sys2Proof.Machine.execAbort who k s
  | .eccFix island bank => Sys2Proof.Machine.execEccFix island bank s
  | .eccLost k point => Sys2Proof.Machine.execEccLost k point s
  | .ticket q entry => Sys2Proof.Machine.execTicket q entry s
  | .ticketAdmit => Sys2Proof.Machine.execTicketAdmit s
  | .ticketDispatch => Sys2Proof.Machine.execTicketDispatch s
  | .attemptStart jm => Sys2Proof.Machine.execAttemptStart jm s
  | .ticketSteal jm => Sys2Proof.Machine.execTicketSteal jm s
  | .commitRequest jm ticket attempt => Sys2Proof.Machine.execCommitRequest jm ticket attempt s
  | .ticketTimeout jm atMs => Sys2Proof.Machine.execTicketTimeout jm atMs s
  | .islResetDone b => Sys2Proof.Machine.execIslResetDone b s
  | .benchHeartbeat b => Sys2Proof.Machine.execBenchHeartbeat b s
  | .benchIsolated b => Sys2Proof.Machine.execBenchIsolated b s
  | .benchSelfTestDone b pass => Sys2Proof.Machine.execBenchSelfTestDone b pass s
  | .ticketCommit ticket => Sys2Proof.Machine.execTicketCommit ticket s
  | .recipeValidationDone slot => Sys2Proof.Machine.execRecipeValidationDone slot s
  | .doorbellWrite q low high => Sys2Proof.Machine.execDoorbellWrite q low high s
  | .submitConsume q entry data => Sys2Proof.Machine.execSubmitConsume q entry data s
  | .createQueue sq entry => Sys2Proof.Machine.execCreateQueue sq entry s
  | .deleteQueue sq entry => Sys2Proof.Machine.execDeleteQueue sq entry s
  | .resetQueue sq entry => Sys2Proof.Machine.execResetQueue sq entry s
  | .arm sq entry => Sys2Proof.Machine.execArm sq entry s
  | .stop sq entry => Sys2Proof.Machine.execStop sq entry s
  | .release sq entry => Sys2Proof.Machine.execRelease sq entry s
  | .calibrate sq entry => Sys2Proof.Machine.execCalibrate sq entry s
  | .calCommit sq entry => Sys2Proof.Machine.execCalCommit sq entry s
  | .tableLoad sq entry image => Sys2Proof.Machine.execTableLoad sq entry image s
  | .tableLoadSectionsDone => Sys2Proof.Machine.execTableLoadSectionsDone s
  | .recipeLoad sq entry image => Sys2Proof.Machine.execRecipeLoad sq entry image s
  | .getLog sq entry => Sys2Proof.Machine.execGetLog sq entry s
  | .resync sq entry => Sys2Proof.Machine.execResync sq entry s
  | .completionPost => Sys2Proof.Machine.execCompletionPost s
  | .streamRecordWrite q => Sys2Proof.Machine.execStreamRecordWrite q s
  | .coalesceTimer q => Sys2Proof.Machine.execCoalesceTimer q s
  | .adminEnable who val => Sys2Proof.Machine.execAdminEnable who val s
  | .queueErr q => Sys2Proof.Machine.execQueueErr q s
  | .cplTimeout q => Sys2Proof.Machine.execCplTimeout q s
  | .hbmTrainingDone results => Sys2Proof.Machine.execHbmTrainingDone results s
  | .rateWrite who val => Sys2Proof.Machine.execRateWrite who val s
  | .retrainStart pc => Sys2Proof.Machine.execRetrainStart pc s
  | .retrainSweepDone pc eyes => Sys2Proof.Machine.execRetrainSweepDone pc eyes s
  | .retrainDone pc => Sys2Proof.Machine.execRetrainDone pc s
  | .refreshDue pc bank traffic => Sys2Proof.Machine.execRefreshDue pc bank traffic s
  | .tierChange m temp tj parts => Sys2Proof.Machine.execTierChange m temp tj parts s
  | .actWindowEnd m resumed => Sys2Proof.Machine.execActWindowEnd m resumed s
  | .hammer pc reqs served => Sys2Proof.Machine.execHammer pc reqs served s
  | .pdEntry pc => Sys2Proof.Machine.execPdEntry pc s
  | .pdAdaptTick m hits total => Sys2Proof.Machine.execPdAdaptTick m hits total s
  | .hbmEccCorrected pc bank row => Sys2Proof.Machine.execHbmEccCorrected pc bank row s
  | .parityAlert pc => Sys2Proof.Machine.execParityAlert pc s
  | .hbmTransactionTimeout pc again => Sys2Proof.Machine.execHbmTransactionTimeout pc again s
  | .rebuildDone m => Sys2Proof.Machine.execRebuildDone m s
  | .bar6Read off len => Sys2Proof.Machine.execBar6Read off len s
  | .bar6Write off bytes => Sys2Proof.Machine.execBar6Write off bytes s
  | .linkDown => Sys2Proof.Machine.execLinkDown s
  | .linkUp speed width refclk => Sys2Proof.Machine.execLinkUp speed width refclk s
  | .busMasterEnable ptmEn => Sys2Proof.Machine.execBusMasterEnable ptmEn s
  | .discard who => Sys2Proof.Machine.execDiscard who s
  | .ptmTrigger who => Sys2Proof.Machine.execPtmTrigger who s
  | .ptmDone ok hostNs devTs => Sys2Proof.Machine.execPtmDone ok hostNs devTs s
  | .l1Entry d3hot => Sys2Proof.Machine.execL1Entry d3hot s
  | .marginScanStart => Sys2Proof.Machine.execMarginScanStart s
  | .marginDone results => Sys2Proof.Machine.execMarginDone results s
  | .hostMarginCommand lane => Sys2Proof.Machine.execHostMarginCommand lane s
  | .portPresent n => Sys2Proof.Machine.execPortPresent n s
  | .portTrained n => Sys2Proof.Machine.execPortTrained n s
  | .portUp n => Sys2Proof.Machine.execPortUp n s
  | .portDown n present => Sys2Proof.Machine.execPortDown n present s
  | .mgmtFrame n check frame => Sys2Proof.Machine.execMgmtFrame n check frame s
  | .syncSend departs => Sys2Proof.Machine.execSyncSend departs s
  | .syncFrame n check frame => Sys2Proof.Machine.execSyncFrame n check frame s
  | .failover => Sys2Proof.Machine.execFailover s
  | .primaryReturn => Sys2Proof.Machine.execPrimaryReturn s
  | .trigFrame n check frame => Sys2Proof.Machine.execTrigFrame n check frame s
  | .trigForward => Sys2Proof.Machine.execTrigForward s
  | .frameAckTimeout n cls seq => Sys2Proof.Machine.execFrameAckTimeout n cls seq s
  | .dataFrame n check frame => Sys2Proof.Machine.execDataFrame n check frame s
  | .mergePoint => Sys2Proof.Machine.execMergePoint s
  | .remoteQualExpired origin seqT => Sys2Proof.Machine.execRemoteQualExpired origin seqT s
  | .xaccImage k src => Sys2Proof.Machine.execXaccImage k src s
  | .xferGo who val => Sys2Proof.Machine.execXferGo who val s
  | .xferDone ok => Sys2Proof.Machine.execXferDone ok s
  | .auxEnable who c val => Sys2Proof.Machine.execAuxEnable who c val s
  | .auxConversionDone c code => Sys2Proof.Machine.execAuxConversionDone c code s
  | .regPeriodTimer c => Sys2Proof.Machine.execRegPeriodTimer c s
  | .urgentTrigger src => Sys2Proof.Machine.execUrgentTrigger src s
  | .auxConvTimeout c => Sys2Proof.Machine.execAuxConvTimeout c s
  | .resultNumbered => Sys2Proof.Machine.execResultNumbered s
  | .auxFlushTimer => Sys2Proof.Machine.execAuxFlushTimer s
  | .filterEnable who c val => Sys2Proof.Machine.execFilterEnable who c val s
  | .filterConversion c code => Sys2Proof.Machine.execFilterConversion c code s
  | .eventInject who page val atMs => Sys2Proof.Machine.execEventInject who page val atMs s
  | .injArm who => Sys2Proof.Machine.execInjArm who s
  | .injDisarm who => Sys2Proof.Machine.execInjDisarm who s
  | .armWindowExpiry => Sys2Proof.Machine.execArmWindowExpiry s
  | .logCollect page => Sys2Proof.Machine.execLogCollect page s
  | .ageingMeasure counts => Sys2Proof.Machine.execAgeingMeasure counts s
  | .trendSummary values => Sys2Proof.Machine.execTrendSummary values s
  | .recompute who => Sys2Proof.Machine.execRecompute who s
  | .planStart => Sys2Proof.Machine.execPlanStart s
  | .planDone plan => Sys2Proof.Machine.execPlanDone plan s
  | .avsTransaction sram cpm ma => Sys2Proof.Machine.execAvsTransaction sram cpm ma s
  | .avsFail sram => Sys2Proof.Machine.execAvsFail sram s
  | .avsRetry ok => Sys2Proof.Machine.execAvsRetry ok s
  | .thermalRead temps => Sys2Proof.Machine.execThermalRead temps s
  | .throttleStep => Sys2Proof.Machine.execThrottleStep s
  | .thermalTrip sensor => Sys2Proof.Machine.execThermalTrip sensor s
  | .lcStatus sq entry => Sys2Proof.Machine.execLcStatus sq entry s
  | .lcRequest sq entry req => Sys2Proof.Machine.execLcRequest sq entry req s
  | .getNonce sq entry nonce => Sys2Proof.Machine.execGetNonce sq entry nonce s
  | .nonceExpiry => Sys2Proof.Machine.execNonceExpiry s
  | .attest sq entry sig => Sys2Proof.Machine.execAttest sq entry sig s
  | .getCert sq entry cert => Sys2Proof.Machine.execGetCert sq entry cert s
  | .debugLock sq entry => Sys2Proof.Machine.execDebugLock sq entry s
  | .tapLocked => Sys2Proof.Machine.execTapLocked s
  | .fwWrite sq entry => Sys2Proof.Machine.execFwWrite sq entry s
  | .fwActivate sq entry image => Sys2Proof.Machine.execFwActivate sq entry image s
  | .fwCommit sq entry => Sys2Proof.Machine.execFwCommit sq entry s
  | .bottomTreeReady tree => Sys2Proof.Machine.execBottomTreeReady tree s
  | .expertGateWrite who val => Sys2Proof.Machine.execExpertGateWrite who val s
  | .smbusWrite off val => Sys2Proof.Machine.execSmbusWrite off val s
  | .smbusRead off => Sys2Proof.Machine.execSmbusRead off s
  | .smbusAlertResponse => Sys2Proof.Machine.execSmbusAlertResponse s
  | .groupTick counts => Sys2Proof.Machine.execGroupTick counts s
  | .tableSelWrite who page val => Sys2Proof.Machine.execTableSelWrite who page val s
  | .tableDataAccess who page write => Sys2Proof.Machine.execTableDataAccess who page write s
  | .tableApertureAccess page w write => Sys2Proof.Machine.execTableApertureAccess page w write s
  | .swap who page => Sys2Proof.Machine.execSwap who page s
  | .swapTakeEffect page => Sys2Proof.Machine.execSwapTakeEffect page s
  | .crcCheck who page => Sys2Proof.Machine.execCrcCheck who page s
  | .crcDone page => Sys2Proof.Machine.execCrcDone page s
  | .copy who page => Sys2Proof.Machine.execCopy who page s
  | .uncorrectableDataError pc line => Sys2Proof.Machine.execUncorrectableDataError pc line s
  | .frameAcknowledged n cls seq => Sys2Proof.Machine.execFrameAcknowledged n cls seq s
  | .tapInstruction ir => Sys2Proof.Machine.execTapInstruction ir s
  | .linkSpeedChange speed width => Sys2Proof.Machine.execLinkSpeedChange speed width s

end Sys2Proof.Machine
end

