-- ==== Sys2Proof/Safety.lean ====
section
/-!
DEFINITION. The terms in which claims are stated: the parts of the device that a command leaves unchanged, the fields that raising
an event may write, and the invariants of the machine.
-/

namespace Sys2Proof.Machine

/-- A part of the device beside its register file, for saying what a command leaves unchanged. -/
inductive Part where
  | tabs | tctl | bus | qm | pcie | clk | tb | tally | loom | assay | vern | trig | tseq | tic | acq | chains | till
  | bench | mem | cas | aux | out | freeCtr | degraded | contained | fore
  deriving DecidableEq, Repr

/-- A part is the same in two devices. `fore` is the Foreman's state without the reasons that hold DEGRADED and FAULT_CONTAINED, and
without the note of an answered alert, which any change of FAULT_N or THERM_WARN drops (R500). The bytes that a command queues for the HBM tier are no
part: they are stored by its end. -/
def Part.same (d d' : Dev) : Part → Prop
  | .tabs => d'.tabs = d.tabs
  | .tctl => d'.tctl = d.tctl
  | .bus => d'.bus = d.bus
  | .qm => d'.qm = d.qm
  | .pcie => d'.pcie = d.pcie
  | .clk => d'.clk = d.clk
  | .tb => d'.tb = d.tb
  | .tally => d'.tally = d.tally
  | .loom => d'.loom = d.loom
  | .assay => d'.assay = d.assay
  | .vern => d'.vern = d.vern
  | .trig => d'.trig = d.trig
  | .tseq => d'.tseq = d.tseq
  | .tic => d'.tic = d.tic
  | .acq => d'.acq = d.acq
  | .chains => d'.chains = d.chains
  | .till => d'.till = d.till
  | .bench => d'.bench = d.bench
  | .mem => d'.mem = d.mem
  | .cas => d'.cas = d.cas
  | .aux => d'.aux = d.aux
  | .out => d'.out = d.out
  | .freeCtr => d'.freeCtr = d.freeCtr
  | .degraded => d'.fore.degraded = d.fore.degraded
  | .contained => d'.fore.contained = d.fore.contained
  | .fore => d'.fore = { d.fore with
      degraded := d'.fore.degraded
      contained := d'.fore.contained
      alertAnswered := d'.fore.alertAnswered }

/-- The frame of a change of the device: every part but those listed is unchanged, and so is every field of a register whose key is
not listed. -/
structure Dev.Framed (ps : List Part) (ks : List Nat) (d d' : Dev) : Prop where
  parts : ∀ b : Part, b ∉ ps → b.same d d'
  regs : ∀ k, k ∉ ks → KMap.find d'.regs k = KMap.find d.regs k

/-- The frame of a command that changes the device alone: the rest of the queue, the non-volatile memories and the HBM tier are
unchanged, and so is the device but for what is listed. -/
structure State.Framed (ps : List Part) (ks : List Nat) (s t : State) : Prop where
  dev : Dev.Framed ps ks s.dev t.dev
  pending : t.pending = s.pending
  nv : t.nv = s.nv
  hbm : t.hbm = s.hbm

/-- Bytes stored in the HBM tier: those at `a` onward are `bs`, every other byte is unchanged. -/
def State.Stores (s t : State) (a : Nat) (bs : List Byte) : Prop :=
  (∀ k < bs.length, Memory.read t.hbm (a + k) = bs[k]?) ∧ ∀ b, b < a ∨ a + bs.length ≤ b → Memory.read t.hbm b = Memory.read s.hbm b

/-- The frame of a command that stores bytes in the HBM tier. -/
structure State.StoreFramed (ps : List Part) (ks : List Nat) (s t : State) (a : Nat) (bs : List Byte) : Prop where
  dev : Dev.Framed ps ks s.dev t.dev
  pending : t.pending = s.pending
  nv : t.nv = s.nv
  hbm : s.Stores t a bs

/-- The parts that raising an event may change: its route may post an entry to a queue or signal a vector (R322), write to the host,
and wake the link (R501). -/
def eventParts : List Part := [.qm, .pcie, .out]

/-- The EVENT and EVENT_FIRST fields of a page (R409, R411). -/
def eventFields (p : Nat) : List Nat :=
  [Reg.hdr_EVENT.key p, Reg.hdr_FIRST_BIT.key p, Reg.hdr_FIRST_MULTI.key p, Reg.hdr_FIRST_INJECTED.key p, Reg.hdr_FIRST_VALID.key p]

/-- An EVENT bit of a page is set. -/
def Dev.Raised (d : Dev) (p bit : Nat) : Prop := bitAt (d.fget Reg.hdr_EVENT p) bit = true

/-- The error log of a page holds a record (R414, R514). -/
def Dev.ErrHeld (d : Dev) (p code detail0 detail1 : Nat) : Prop :=
  d.fget Reg.hdr_ERR_CODE p = code ∧ d.fget Reg.hdr_ERR_VALID p = 1 ∧ d.fget Reg.hdr_ERR_DETAIL0 p = detail0 ∧
    d.fget Reg.hdr_ERR_DETAIL1 p = detail1

/-- What an event's route may write: the counts of what it loses, the level of the egress buffer, and the link's L1 (R319, R322, R365,
R369). -/
def routeKeys : List Nat :=
  [Reg.evt_ROUTE_LOST.key 0, Reg.qmgr_EVENT_DROPS.key 0, Reg.pcie_EGRESS_LEVEL.key 0, Reg.pcie_IN_L1.key 0]

/-- The fields that raising an event of page `p` may write: its own EVENT and EVENT_FIRST; where an entry is lost on its route those
of QMGR and PCIE; what the route counts. -/
def eventKeys (p : Nat) : List Nat := eventFields p ++ eventFields 28 ++ eventFields 68 ++ routeKeys

/-- What the registers show of DLL_g (Table 02.5). -/
def dllKeys (g : Nat) : List Nat :=
  [Reg.clk_DLL_STATE.key 0, Reg.clk_ALL_LOCKED.key 0, Reg.clk_FINE.key g, Reg.clk_BAND.key g, Reg.clk_GOOD.key g]

/-- The fields of a page's error log (R414). -/
def errKeys (p : Nat) : List Nat :=
  [Reg.hdr_ERR_CODE.key p, Reg.hdr_ERR_INJECTED.key p, Reg.hdr_ERR_OVERWRITTEN.key p, Reg.hdr_ERR_VALID.key p, Reg.hdr_ERR_COUNT.key p,
    Reg.hdr_ERR_DETAIL0.key p, Reg.hdr_ERR_DETAIL1.key p, Reg.hdr_ERR_TIME.key p]

/-- Every word of every table is unchanged but those whose keys are listed. -/
def Dev.TabFramed (ks : List Nat) (d d' : Dev) : Prop := ∀ k, k ∉ ks → KMap.find d'.tabs k = KMap.find d.tabs k

/-- What a read of a table word leaves with its requester (R118, R482): the word as the window shows it; a read of word 0 of a SLICE_QUALITY entry
latches words 1 to 3 for its requester, whose reads return what was latched. -/
def State.TableWordRead (s t : State) (who : Requester) (page sel addr : Nat) : Prop :=
  if page = 17 ∧ sel = 0 ∧ addr < 544 then
    (addr % 4 = 0 → KMap.at t.dev.bus.data 0 who.code = s.tableWord page sel addr ∧
      ∀ k < 3, KMap.at t.dev.bus.shadow 0 (entryShadowKey who page sel (addr + (k + 1))) = s.tableWord page sel (addr + (k + 1))) ∧
    (addr % 4 ≠ 0 → KMap.at t.dev.bus.data 0 who.code = KMap.at s.dev.bus.shadow 0 (entryShadowKey who page sel addr) ∧
      t.dev.bus.shadow = s.dev.bus.shadow)
  else KMap.at t.dev.bus.data 0 who.code = s.tableWord page sel addr ∧ t.dev.bus.shadow = s.dev.bus.shadow

/-- What a write of a table word that may be made leaves (R14, R95, R482, R485): while a CRC of the table is computed the write is held; else a banked table
has the word in its shadow bank and a direct one in place, its reserved bits 0 and its trims held, and every other word of every table stands; a
word of the Till's image is stored where the partition keeps it. -/
def State.TableWordWritten (s t : State) (page sel addr val : Nat) : Prop :=
  let c := s.dev.tctlOf page sel
  let v := heldWord page sel addr val % 2 ^ 32
  (c.crcBusy = true → t.dev.tctlOf page sel = { c with held := c.held ++ [(addr, val)] } ∧ s.dev.TabFramed [] t.dev) ∧
  (c.crcBusy = false → t.dev.tctl = s.dev.tctl ∧
    ((∃ td, s.dev.tableDef page sel = some td ∧ td.kind = .banked) →
      t.dev.tget page sel (1 - c.bank) addr = v ∧ s.dev.TabFramed [tkey page sel (1 - c.bank) addr] t.dev) ∧
    ((∃ td, s.dev.tableDef page sel = some td ∧ td.kind = .direct) → page ≠ 25 →
      t.dev.tget page sel 0 addr = v ∧ s.dev.TabFramed [tkey page sel 0 addr] t.dev) ∧
    (page = 25 → t.dev.till = (s.tillSet sel (s.dev.shape sel) addr val).dev.till ∧
      t.hbm = (s.tillSet sel (s.dev.shape sel) addr val).hbm ∧ s.dev.TabFramed [] t.dev)) ∧
  (page ≠ 25 ∨ c.crcBusy = true → t.dev.till = s.dev.till ∧ t.hbm = s.hbm)

/-- The words of the shadow bank of a table of `len` words once a section of an image is written into it (R487, R488): the section's words from START on, elsewhere the
active bank's words where MERGE is set, and zeros where it is not. -/
def Dev.sectionImage (d : Dev) (x : ImgSection) (len : Nat) : List Nat :=
  (List.range len).map fun a =>
    if x.start ≤ a ∧ a < x.start + x.words.length then heldWord x.page x.sel a (x.words.getD (a - x.start) 0) % 2 ^ 32
    else if x.merge then d.tactive x.page x.sel a % 2 ^ 32 else 0

/-- A new epoch has begun with an EPOCH entry that carries its number, `causes`, the first tick with its values and an offset in fraction LSBs (R65, Table 02.12); the
rest of the EPOCH table stands. -/
def Dev.EpochBegun (d d' : Dev) (causes : Nat) (off : Int) : Prop :=
  let e := (d.fget Reg.tbase_EPOCH + 1) % 65536
  d'.fget Reg.tbase_EPOCH = e ∧ d'.Raised 6 Ev.tbase_EPOCH_INC ∧ d'.tb.inc = d.tb.inc ∧ d'.tb.slew = d.tb.slew ∧ d'.tb.epochs = d.tb.epochs + 1 ∧
    (∀ k < 8, d'.tget 6 0 0 (e % 4096 * 8 + k) = (epochEntry e causes (d'.tb.acc / 2 ^ 32 % 2 ^ 64) off).getD k 0 % 2 ^ 32) ∧
    d.TabFramed ((List.range 8).map fun k => tkey 6 0 0 (e % 4096 * 8 + k)) d'

/-- The Assayer has nothing going on in group g: no run and no foreground run waits for one, no cycle has begun, no retirement waits. -/
def Dev.AssayIdle (d : Dev) (g : Nat) : Prop :=
  KMap.find d.assay.runs g = none ∧ bitAt d.assay.fgDue g = false ∧ KMap.at d.assay.ran 0 g = 0 ∧ KMap.find d.assay.bgOnly g = none ∧
    KMap.find d.loom.retireWait g = none

/-- The margin plan is asked for anew (R430), unless the change comes from an injection; nothing else of the Foreman's state changes. -/
def Dev.PlanAsked (d d' : Dev) : Prop :=
  d'.fore = { d.fore with
    planDue := d.fore.planDue || !d.fore.injecting
    degraded := d'.fore.degraded
    contained := d'.fore.contained
    alertAnswered := d'.fore.alertAnswered }

/-- What counting in a group of the Tally may write: the record of its last threshold crossing, and the events of the Tally (R467, R468). -/
def countKeys (g : Nat) : List Nat :=
  [Reg.grp_SAMPLED_W0.key g, Reg.grp_SAMPLED_W1.key g, Reg.grp_SAMPLE_CNT.key g, Reg.grp_SAMPLE_JM.key g, Reg.grp_SAMPLE_OP.key g] ++ eventKeys 70

/-- What follows the ticket store: TICKETS_OUT, ORDER_ACTIVE and SLOTS_FREE (Table 11.8). -/
def ticketKeys : List Nat := [Reg.benchg_TICKETS_OUT.key 0, Reg.benchg_ORDER_ACTIVE.key 0, Reg.benchg_SLOTS_FREE.key 0]

/-- DEQUE_LEN of every journeyman. -/
def dequeKeys : List Nat := (List.range 512).map fun j => Reg.bench_jm_DEQUE_LEN.key (j / 16 * 256 + j % 16)

/-- What a bench's registers show of the tickets that its journeymen execute. -/
def jmKeys (b : Nat) : List Nat :=
  Reg.bench_BUSY.key b :: ((List.range 16).map fun j => Reg.bench_jm_RECIPE.key (b * 256 + j)) ++
    (List.range 16).map fun j => Reg.bench_jm_ATTEMPT.key (b * 256 + j)

/-- The fields of the error log of page `p` and those that an event of it may write. -/
def faultKeys (p : Nat) : List Nat := errKeys p ++ eventKeys p

/-- What freezing a pseudo-channel may change: the tables of the MEMS page, the numbers of records and of free values, and what the
memory subsystem holds (R347 to R350). -/
def freezeParts : List Part := [.tabs, .acq, .mem, .degraded, .contained, .fore, .freeCtr] ++ eventParts

/-- The fields that freezing a pseudo-channel may write (R347 to R350). -/
def freezeKeys : List Nat :=
  [Reg.mems_FROZEN_W0.key 0, Reg.mems_FROZEN_W1.key 0, Reg.mems_SPARES_0.key 0, Reg.mems_SPARES_1.key 0, Reg.mems_RETRAIN.key 0,
    Reg.mems_RETRAIN_PC.key 0, Reg.mems_RETRAIN_DEFERRED.key 0, Reg.mems_REBUILD.key 0, Reg.mems_REBUILD_PC.key 0, Reg.mems_REBUILD_BLOCKS.key 0,
    Reg.mems_GROUP_DEGRADED.key 0, Reg.mems_LOST_LINES.key 0] ++ faultKeys 66

/-- A pseudo-channel has been frozen with a cause (R348): its bit, the event and the record of the page. -/
def Dev.FrozenNow (d : Dev) (pc cause : Nat) : Prop :=
  d.frozen pc = true ∧ d.Raised 66 Ev.mems_PC_FROZEN ∧ d.ErrHeld 66 Ev.mems_PC_FROZEN pc cause

/-- The fields that a function-level reset may write (R325, R362, R363, R368, R426, R478). -/
def warmKeys : List Nat :=
  [Reg.top_OPEN.key 0, Reg.acq_STOPPING.key 0, Reg.tic_RUNNING.key 0, Reg.tic_ARM.key 0, Reg.inj_ARMED.key 0, Reg.qmgr_EN.key 0,
    Reg.qmgr_QUEUES_ACTIVE.key 0, Reg.qmgr_CMDS_OUT.key 0, Reg.pcie_BME.key 0, Reg.pcie_PTM_EN.key 0, Reg.pcie_HOLD.key 0,
    Reg.pcie_HOLD_TIME.key 0] ++ eventKeys 7 ++ eventKeys 68

/-- A warm reset of the whole device (R191, R325, R362, R363, R368, R426, R478): the queues with their contexts, streams and routes are gone,
Configuration Space is at its reset values, the TIC's channels have stopped, the expert gate and injection are closed; the analogue path, the
timebase, every table but ROUTE, the acquisition but for a stop that FLR_STOPS_ACQ asks for, and the memories go on. -/
def State.WarmReset (s t : State) (keys : List Nat) : Prop :=
  t.dev.qm.ctx = [] ∧ t.dev.qm.streams = [] ∧ t.dev.qm.waiting = [] ∧ t.dev.flag Reg.qmgr_EN = false ∧ t.dev.fget Reg.qmgr_QUEUES_ACTIVE = 0 ∧
    t.dev.flag Reg.top_OPEN = false ∧ t.dev.flag Reg.inj_ARMED = false ∧ (s.dev.flag Reg.inj_ARMED = true → t.dev.Raised 7 Ev.inj_DISARMED) ∧
    t.dev.holding = false ∧ (s.dev.holding = true → t.dev.Raised 68 Ev.pcie_HOLD_DISCARDED) ∧ t.dev.flag Reg.pcie_BME = false ∧
    t.dev.flag Reg.pcie_PTM_EN = false ∧ t.dev.pcie.egress = [] ∧ t.dev.pcie.msixWords = [] ∧ t.dev.pcie.d3hot = false ∧
    (∀ n < 8, t.dev.ticc n = { s.dev.ticc n with
      running := false
      waiting := false
      evs := []
      pend := none
      hist := []
      count := .idle
      lapsed := false
      fifo := [] }) ∧ t.dev.fget Reg.tic_RUNNING = 0 ∧
    t.dev.flag Reg.acq_STOPPING = (s.dev.flag Reg.acq_STOPPING || (s.dev.flag Reg.top_FLR_STOPS_ACQ && s.dev.armed)) ∧
    (∀ k < 128, t.dev.tget 30 0 0 k = 0) ∧ s.dev.TabFramed ((List.range 128).map fun k => tkey 30 0 0 k) t.dev ∧
    t.dev.bench = { s.dev.bench with offered := [] } ∧ t.dev.aux = { s.dev.aux with batch := [] } ∧
    s.Framed [.tabs, .qm, .pcie, .tic, .bench, .aux, .out] keys t

/-! ### Commands from a SUBMIT queue -/

/-- The device takes the next entry of SUBMIT queue `q` as a command with opcode `op`, and nothing is in the way of its completion: the entry passes the
checks of R311, R312 and R314, no other command is outstanding, no hold is on, and the queue's COMPLETE queue has room. -/
def Dev.TakesCmd (d : Dev) (q op : Nat) (ws : List Nat) : Prop :=
  ws.headD 0 % 256 = op ∧ d.mayConsume q = true ∧ classAllows q (d.qctx q).cls op = true ∧ d.servesCmd q op = true ∧ opDefined op = true ∧
    operandsOk op ws = true ∧ d.qm.cmds = [] ∧ d.holding = false ∧ (d.qctx (d.qctx q).cq).typ = 2 ∧ d.qroom (d.qctx q).cq 1 = true

/-- A command of SUBMIT queue `q` has been consumed and completed (R307, R312, R313, Table 12.2): HEAD of the queue has advanced, the completion entry with the
command's TAG, the status and the result has gone out to the COMPLETE queue's TAIL with its PHASE, that TAIL has advanced, and no command is outstanding. -/
def Dev.CompletedCmd (d d' : Dev) (q : Nat) (ws : List Nat) (status result : Nat) : Prop :=
  let c := d.qctx q
  let cq := d.qctx c.cq
  let head := (c.head + 1) % 2 ^ 32
  (d'.qctx q).head = head ∧ (d'.qctx c.cq).tail = (cq.tail + 1) % 2 ^ 32 ∧ d'.qm.cmds = [] ∧ d'.fget Reg.qmgr_CMDS_OUT = 0 ∧
    Output.hostWrite (cq.base + cq.tail % 2 ^ cq.log2 * 32)
      [(ws.headD 0 / 2 ^ 16 % 2 ^ 16 + 65536 * (status % 256)) ||| (cq.phase cq.tail * 2 ^ 24), q, head, result % 2 ^ 32,
        result / 2 ^ 32 % 2 ^ 32, d.nowStamp.getD 0 0, d.nowStamp.getD 1 0, 0] ∈ d'.out

/-- An MSI-X vector has been signalled (R321, R365, R366, and the standard named in R354; log entry 20): a masked one, or one while nothing may be written
to the host, has its pending bit set; in a hold it waits in the egress buffer; else it goes out. -/
def Dev.Signalled (d d' : Dev) (v : Nat) : Prop :=
  let masked := KMap.at d.pcie.msixWords 1 (4 * v + 3) % 2 = 1
  let quiet := d.holding = false ∧ d.flag Reg.pcie_BME = false
  (masked ∨ quiet → d'.pcie = { d.pcie with pba := KMap.put d.pcie.pba v true } ∧ d'.out = d.out) ∧
  (¬ masked → d.holding = true → d'.pcie = { d.pcie with egress := d.pcie.egress ++ [.msix v] } ∧ d'.out = d.out) ∧
  (¬ masked → d.holding = false → d.flag Reg.pcie_BME = true → d'.pcie = d.pcie ∧ d'.out = .msix v :: d.out)

/-- One command is outstanding and not finished, and nothing is in the way of its completion. -/
def Dev.Outstanding (d : Dev) (c : Cmd) : Prop :=
  d.qm.cmds = [c] ∧ c.result = none ∧ d.holding = false ∧ (d.qctx c.cq).typ = 2 ∧ d.qroom c.cq 1 = true

/-- The outstanding command has been completed with a status and a result (R313, Table 12.2). -/
def Dev.PostedCmd (d d' : Dev) (c : Cmd) (status result : Nat) : Prop :=
  let cq := d.qctx c.cq
  (d'.qctx c.cq).tail = (cq.tail + 1) % 2 ^ 32 ∧ d'.qm.cmds = [] ∧ d'.fget Reg.qmgr_CMDS_OUT = 0 ∧
    Output.hostWrite (cq.base + cq.tail % 2 ^ cq.log2 * 32)
      [(c.tag % 65536 + 65536 * (status % 256)) ||| (cq.phase cq.tail * 2 ^ 24), c.sq, c.sqHead, result % 2 ^ 32,
        result / 2 ^ 32 % 2 ^ 32, d.nowStamp.getD 0 0, d.nowStamp.getD 1 0, 0] ∈ d'.out

/-- The fields that a command's way through its queues may write. -/
def cmdKeys : List Nat := [Reg.qmgr_CMDS_OUT.key 0]

/-! ### The cascade -/

/-- A frame of a class that arrives on port `n` is new: the port is in one of states `lo` to 3, the CRC checks, and no frame of the class with this SEQ
has been accepted there (R373, R374). -/
def Dev.TakesFrame (d : Dev) (n cls lo : Nat) (c : FrameCheck) : Prop :=
  lo ≤ d.fget Reg.cas_port_STATE n ∧ d.fget Reg.cas_port_STATE n ≤ 3 ∧ c.crcOk = true ∧ c.seq % 2 ^ 32 ∉ KMap.at d.cas.rx [] (n * 16 + cls)

/-- The fields that a change of the cascade's topology may write (R377, R381, R382). -/
def topoKeys : List Nat :=
  [Reg.cas_ROLE_NOW.key 0, Reg.cas_DEPTH.key 0, Reg.cas_ROOT_ID.key 0, Reg.cas_HOPS_MAX.key 0, Reg.cas_HORIZON_NS.key 0] ++ eventKeys 69

/-- The fields that the loss of the cascade's time source may write (R62, R379). -/
def syncLostKeys : List Nat :=
  [Reg.cas_SYNCED.key 0, Reg.tbase_REF_VALID.key 0, Reg.tbase_COASTING.key 0, Reg.tbase_SLEWING.key 0, Reg.tbase_COAST_TIME.key 0] ++ eventKeys 6

/-- What a change of the topology changes beside the cascade where a root begins to yield to another: its time source is lost (R377). -/
def yieldParts (d d' : Dev) : List Part := if d'.cas.yields && !d.cas.yields then [.tb] else []

/-- The fields that it may write then. -/
def yieldKeys (d d' : Dev) : List Nat := if d'.cas.yields && !d.cas.yields then syncLostKeys else []

/-- The fields that a change of uplink may write (R379). -/
def failoverKeys : List Nat := [Reg.cas_ALT_ACTIVE.key 0, Reg.cas_FAILOVERS.key 0] ++ topoKeys ++ syncLostKeys

/-! ### What no command undoes -/

/-- What the one-time programmable and monotonic parts of the non-volatile memories may do: OTP entries are only added (R445), the
security versions and the attestation indices reserved only rise (R454, R457), revoked firmware keys stay revoked (R448). -/
structure NonVolatile.Grows (a b : NonVolatile) : Prop where
  otp : a.otp <+: b.otp
  otpSvn : a.otpSvn ≤ b.otpSvn
  mramSvn : a.mramSvn ≤ b.mramSvn
  attReserved : a.attReserved ≤ b.attReserved
  revoked : ∀ n, bitAt a.revoked n = true → bitAt b.revoked n = true

/-- What every command keeps: the commands that wait behind it, the canonical form of the HBM tier, and what the non-volatile memories
only ever gain. -/
structure State.Keeps (s t : State) : Prop where
  pending : t.pending = s.pending
  wf : Memory.wf s.hbm = true → Memory.wf t.hbm = true
  nv : NonVolatile.Grows s.nv t.nv

end Sys2Proof.Machine
end

