-- ==== Sys2Proof/Certificates/Slice0/Obligations.lean ====
section
/-!
DEFINITION. What is claimed of the machine. A statement about a command says that exec answers a next state, what that state holds, and its frame: the parts of
the device and the register fields that may differ (Safety.lean). A device that is off (R440, R493) takes no notice of commands; the statements are about one
that is not.
-/

open Sys2Proof Sys2Proof.Machine

/-- A step takes the command at the front of the queue and runs it with the queue's rest; on an empty queue the device idles (log entry 1). -/
def Obligations.StepRunsFrontCommand : Prop :=
  (∀ (c : Instr) (rest : List Instr) (s : State), s.pending = c :: rest → step s = exec c { s with pending := rest }) ∧
  ∀ s : State, s.pending = [] → step s = .next s

/-- The state right after reset, where the manual gives it: nothing waits, record space lists nothing, every field holds the value of its Reset column, no
event is set, no page is degraded or contained, FAULT_N is high, no link hold, the slices' roles and positions are those of R75, the life-cycle state
of an empty OTP is BLANK. -/
def Obligations.ResetState : Prop :=
  State.reset.pending = [] ∧ State.reset.hbm = [] ∧ Memory.wf State.reset.hbm = true ∧
  (∀ (f : Field) (i : Nat), State.reset.dev.fget f i = f.rstAt i) ∧
  (∀ p : Nat, State.reset.dev.fget Reg.hdr_EVENT p = 0 ∧ State.reset.dev.fget Reg.hdr_FIRST_VALID p = 0 ∧
    State.reset.dev.fget Reg.hdr_ERR_VALID p = 0 ∧ State.reset.dev.isDegraded p = false ∧ State.reset.dev.isContained p = false) ∧
  State.reset.dev.faultLow = false ∧ State.reset.dev.holding = false ∧ State.reset.dev.armed = false ∧
  (∀ s : Nat, s < 136 → State.reset.dev.fget Reg.slice_ROLE s = (if s % 34 = 32 then 1 else if s % 34 = 33 then 3 else 0) ∧
    (s % 34 < 32 → State.reset.dev.fget Reg.slice_LOGICAL_POS s = s % 34)) ∧
  State.reset.dev.fget Reg.life_STATE = 0 ∧ State.reset.nv.otp = []

/-- Every step keeps the canonical form of the HBM tier, from any state that has it: addresses strictly rising, and no byte listed that equals what an
unlisted address reads as (the model's form of memory, log entry 4). -/
def Obligations.StepKeepsMemoryCanonical : Prop :=
  ∀ s t : State, Memory.wf s.hbm = true → step s = .next t → Memory.wf t.hbm = true

/-- Whatever the front command is, a step only adds to what is one-time programmable or monotonic: OTP life-cycle entries, the security versions, the
reserved attestation indices, the revoked firmware keys (R445, R448, R454, R457). -/
def Obligations.StepOnlyGrowsOneTimeState : Prop :=
  ∀ s t : State, step s = .next t → s.nv.Grows t.nv

/-- Every command completes, in every state and with any operands, with the rest of the queue untouched: only a debug instruction on an open TAP, whose
effect the manual does not give (R456), is refused; no command faults. -/
def Obligations.EveryCommandAnswers : Prop :=
  (∀ (c : Instr) (s : State), (∀ ir dr, c = .tapInstruction (.debug ir dr) → s.dev.flag Reg.life_TAP_OPEN = false ∨ s.dev.fore.off = true) →
    ∃ t, exec c s = .next t ∧ t.pending = s.pending) ∧
  ∀ (ir dr : Nat) (s : State), s.dev.flag Reg.life_TAP_OPEN = true → s.dev.fore.off = false →
    exec (.tapInstruction (.debug ir dr)) s = .refused .debugInstructionUnspecified

/-- A device in reset, or stopped by THERMAL_TRIP, takes no notice of any command but those of its supplies, PWR_OK, PERST_N and cold reset (R440, R493,
R496). -/
def Obligations.StoppedDeviceOnlyPowersUp : Prop :=
  ∀ (c : Instr) (s : State), s.dev.fore.off = true →
    exec c s = .next s ∨ c = .coldReset ∨ (∃ i, c = .supplyMonitorBad i) ∨ (∃ i, c = .supplyMonitorGood i) ∨ c = .pwrOkFall ∨
      c = .perstNAssert ∨ c = .perstNDeassert

/-- Writes that are not taken: one that does not enable all four bytes changes nothing (R15); one to a frozen page, but for PAGE_CTRL, EVENT and
EVENT_MASK, changes nothing either and leaves a record with CODE 0xF0 (R473, R514). A write of FE_x's 0x040, which holds the basic field FS_TRIM and
the expert field BUF_FORCE_ON (R16, R70, R477): FS_TRIM always takes its value, held at ±100; BUF_FORCE_ON takes its value where R16 permits it; where
R16 does not, it stays, and a write that would have changed it is recorded with CODE 0xF0. Writing the multi-word value PPS_LOAD (R21, R22): a write
of W1 is staged for its requester and reads still return the committed value; the write of W0 commits both in one step, W1 as it was staged, or as it
stands where nothing is staged. -/
def Obligations.RegisterWrites : Prop :=
  ((∀ (s : State) (who : Requester) (off : Nat) (be : BitVec 4) (val : Word), s.dev.fore.off = false → be ≠ 15 →
     ∃ t, exec (.registerWrite who off be val) s = .next t ∧ s.Framed [] [] t) ∧
   ∀ (s : State) (who : Requester) (p o : Nat) (val : Word), s.dev.fore.off = false → p ≤ 70 → p ≠ 31 → o < 4096 → o % 4 = 0 →
     o ≠ 0x08 → o ≠ 0x10 → o ≠ 0x14 → s.dev.flag Reg.hdr_FREEZE p = true →
     ∃ t, exec (.registerWrite who (4096 * p + o) 15 val) s = .next t ∧ t.dev.ErrHeld p 0xF0 (o + 4096 * who.code) val.toNat ∧
       s.Framed [] (errKeys p) t) ∧
  (∀ (s : State) (who : Requester) (x : Fin 4) (val : Word), s.dev.fore.off = false → s.dev.flag Reg.hdr_FREEZE (8 + x) = false →
     ∃ t, exec (.registerWrite who (0x8040 + 4096 * x) 15 val) s = .next t ∧
       t.dev.fget Reg.fe_FS_TRIM x = ofSigned 8 (clampInt (-100) 100 (toSigned 8 (val.toNat % 256))) ∧
       t.dev.fget Reg.hdr_CFG_EPOCH (8 + x) = (s.dev.fget Reg.hdr_CFG_EPOCH (8 + x) + 1) % 2 ^ 32 ∧
       (s.dev.expertOpen (8 + x) = true →
         t.dev.fget Reg.fe_BUF_FORCE_ON x = val.toNat / 65536 % 2 ∧
         s.Framed [] [Reg.fe_FS_TRIM.key x, Reg.fe_BUF_FORCE_ON.key x, Reg.hdr_CFG_EPOCH.key (8 + x)] t) ∧
       (s.dev.expertOpen (8 + x) = false → val.toNat / 65536 % 2 = s.dev.fget Reg.fe_BUF_FORCE_ON x →
         s.Framed [] [Reg.fe_FS_TRIM.key x, Reg.hdr_CFG_EPOCH.key (8 + x)] t) ∧
       (s.dev.expertOpen (8 + x) = false → val.toNat / 65536 % 2 ≠ s.dev.fget Reg.fe_BUF_FORCE_ON x →
         t.dev.ErrHeld (8 + x) 0xF0 (0x40 + 4096 * who.code) val.toNat ∧
         s.Framed [] (Reg.fe_FS_TRIM.key x :: Reg.hdr_CFG_EPOCH.key (8 + x) :: errKeys (8 + x)) t)) ∧
  ((∀ (s : State) (who : Requester) (val : Word), s.dev.fore.off = false → s.dev.flag Reg.hdr_FREEZE 6 = false →
     ∃ t, exec (.stagedHighWordWrite who 0x6074 val) s = .next t ∧
       t.dev.bus = { s.dev.bus with staged := KMap.put s.dev.bus.staged (stageKey who 0x6074) val.toNat } ∧
       s.Framed [.bus] [Reg.hdr_CFG_EPOCH.key 6] t) ∧
   ∀ (s : State) (who : Requester) (val : Word), s.dev.fore.off = false → s.dev.flag Reg.hdr_FREEZE 6 = false →
     ∃ t, exec (.multiwordW0Write who 0x6070 val) s = .next t ∧
       t.dev.fget Reg.tbase_PPS_LOAD_W0 = val.toNat ∧
       (∀ v, KMap.find s.dev.bus.staged (stageKey who 0x6074) = some v →
         t.dev.fget Reg.tbase_PPS_LOAD_W1 = v % 2 ^ 32 ∧
         t.dev.bus = { s.dev.bus with staged := KMap.del s.dev.bus.staged (stageKey who 0x6074) }) ∧
       (KMap.find s.dev.bus.staged (stageKey who 0x6074) = none →
         t.dev.fget Reg.tbase_PPS_LOAD_W1 = s.dev.fget Reg.tbase_PPS_LOAD_W1 ∧ t.dev.bus = s.dev.bus) ∧
       s.Framed [.bus] [Reg.tbase_PPS_LOAD_W0.key 0, Reg.tbase_PPS_LOAD_W1.key 0, Reg.hdr_CFG_EPOCH.key 6] t)

/-- Reading the multi-word value NOW (R18, R19): a read of W0 returns the live word and latches the two higher words for its requester; a read of W1
returns the shadow as last latched, whatever NOW has become. A read of the RC field TIMEOUT_COUNT of a page returns the value before the increments of
the same cycle, and the field then holds those increments (R12, R412). -/
def Obligations.RegisterReads : Prop :=
  ((∀ (s : State) (who : Requester), s.dev.fore.off = false →
     ∃ t, exec (.multiwordW0Read who 0x6050) s = .next t ∧
       KMap.at t.dev.bus.data 0 who.code = s.dev.fget Reg.tbase_EPOCH % 65536 + s.dev.tb.acc / 2 ^ 16 % 2 ^ 16 * 65536 ∧
       KMap.at t.dev.bus.shadow 0 (shadowKey who 0x6054) = s.dev.nowTick % 2 ^ 32 ∧
       KMap.at t.dev.bus.shadow 0 (shadowKey who 0x6058) = s.dev.nowTick / 2 ^ 32 ∧ s.Framed [.bus] [] t) ∧
   ∀ (s : State) (who : Requester), s.dev.fore.off = false →
     ∃ t, exec (.rcRead who 0x6054 0) s = .next t ∧
       KMap.at t.dev.bus.data 0 who.code = KMap.at s.dev.bus.shadow 0 (shadowKey who 0x6054) ∧
       t.dev.bus.shadow = s.dev.bus.shadow ∧ s.Framed [.bus] [] t) ∧
  (∀ (s : State) (who : Requester) (p inc : Nat), s.dev.fore.off = false → p ≤ 70 → p ≠ 31 →
     ∃ t, exec (.rcRead who (4096 * p + 0x24) inc) s = .next t ∧
       KMap.at t.dev.bus.data 0 who.code = s.dev.fget Reg.hdr_TIMEOUT_COUNT p % 2 ^ 32 ∧
       t.dev.fget Reg.hdr_TIMEOUT_COUNT p = min inc (2 ^ 32 - 1) ∧ s.Framed [.bus] [Reg.hdr_TIMEOUT_COUNT.key p] t)

/-- EVENT_CLEAR (R409 to R411): without a set in the same cycle the written bits clear, and EVENT_FIRST is cleared as EVENT returns to 0; a bit that
hardware sets in the same cycle is 1 afterwards. ERR_LOG_READ (R414): the read of W0 returns W0, latches W1 to W3 and clears VALID, OVERWRITTEN and
COUNT; a record made in the same cycle is then held, with VALID 1 and COUNT 1. LOG_COLLECT (R415): the running Foreman appends the record that a page
holds to the device error log, in the ring of 4,096, and reads it out of the page; where records had been overwritten, a second record tells of them. -/
def Obligations.EventsAndErrorLogs : Prop :=
  ((∀ (s : State) (who : Requester) (p : Fin 128) (val : Word), s.dev.fore.off = false → p.val ≤ 70 → p.val ≠ 31 →
     ∃ t, exec (.eventClear who p val 0 false) s = .next t ∧
       t.dev.fget Reg.hdr_EVENT p = andNot (s.dev.fget Reg.hdr_EVENT p) val.toNat % 2 ^ 32 ∧
       (andNot (s.dev.fget Reg.hdr_EVENT p) val.toNat = 0 → t.dev.fget Reg.hdr_FIRST_VALID p = 0 ∧ t.dev.fget Reg.hdr_FIRST_BIT p = 0) ∧
       (andNot (s.dev.fget Reg.hdr_EVENT p) val.toNat ≠ 0 → s.Framed [.assay] [Reg.hdr_EVENT.key p] t) ∧
       s.Framed [.assay] (eventFields p) t) ∧
   ∀ (s : State) (who : Requester) (p : Fin 128) (val hw : Word) (n : Nat), s.dev.fore.off = false → p.val ≤ 70 → p.val ≠ 31 → n < 32 →
     bitAt hw.toNat n = true →
     ∃ t, exec (.eventClear who p val hw false) s = .next t ∧ t.dev.Raised p n ∧ s.Framed (.assay :: eventParts) (eventKeys p) t) ∧
  (∀ (s : State) (who : Requester) (p : Fin 128) (same : Option ErrRecord), s.dev.fore.off = false →
     ∃ t, exec (.errLogRead who p same) s = .next t ∧
       KMap.at t.dev.bus.data 0 who.code = (s.dev.errWords p).getD 0 0 ∧
       KMap.at t.dev.bus.shadow 0 (shadowKey who (4096 * p + 0x34)) = s.dev.fget Reg.hdr_ERR_DETAIL0 p ∧
       KMap.at t.dev.bus.shadow 0 (shadowKey who (4096 * p + 0x38)) = s.dev.fget Reg.hdr_ERR_DETAIL1 p ∧
       KMap.at t.dev.bus.shadow 0 (shadowKey who (4096 * p + 0x3C)) = s.dev.fget Reg.hdr_ERR_TIME p ∧
       (same = none → t.dev.fget Reg.hdr_ERR_VALID p = 0 ∧ t.dev.fget Reg.hdr_ERR_OVERWRITTEN p = 0 ∧ t.dev.fget Reg.hdr_ERR_COUNT p = 0 ∧
         s.Framed [.bus] [Reg.hdr_ERR_VALID.key p, Reg.hdr_ERR_OVERWRITTEN.key p, Reg.hdr_ERR_COUNT.key p] t) ∧
       (∀ r, same = some r → t.dev.ErrHeld p (r.code % 256) (r.detail0 % 2 ^ 32) (r.detail1 % 2 ^ 32) ∧ t.dev.fget Reg.hdr_ERR_COUNT p = 1 ∧
         t.dev.fget Reg.hdr_ERR_OVERWRITTEN p = 0) ∧
       s.Framed [.bus, .fore] (errKeys p) t) ∧
  (∀ (s : State) (p : Fin 128), s.dev.fore.off = false → s.dev.fore.running = true → s.dev.fget Reg.hdr_ERR_COUNT p ≠ 0 →
     ∃ t, exec (.logCollect p) s = .next t ∧
       t.nv.logNext = s.nv.logNext + 1 + (s.dev.errWords p).getD 0 0 / 512 % 2 ∧
       (KMap.at t.nv.log [] (s.nv.logNext % 4096)).take 3 =
         [p.val % 128 + 128 * ((s.dev.errWords p).getD 0 0 / 256 % 2) + 256 * ((s.dev.errWords p).getD 0 0 % 256) +
             65536 * s.dev.logClass p ((s.dev.errWords p).getD 0 0 % 256),
           s.dev.fget Reg.hdr_ERR_DETAIL0 p % 2 ^ 32, s.dev.fget Reg.hdr_ERR_DETAIL1 p % 2 ^ 32] ∧
       (∀ k < 4096, k ≠ s.nv.logNext % 4096 → k ≠ (s.nv.logNext + 1) % 4096 → KMap.find t.nv.log k = KMap.find s.nv.log k) ∧
       t.nv = { s.nv with log := t.nv.log, logNext := t.nv.logNext } ∧
       t.dev.fget Reg.hdr_ERR_VALID p = 0 ∧ t.dev.fget Reg.hdr_ERR_COUNT p = 0 ∧ t.pending = s.pending ∧ t.hbm = s.hbm ∧
       Dev.Framed [.bus, .freeCtr] [Reg.hdr_ERR_VALID.key p, Reg.hdr_ERR_OVERWRITTEN.key p, Reg.hdr_ERR_COUNT.key p] s.dev t.dev)

/-- EXPERT_GATE_WRITE (R478): REQ with the key, where the life-cycle permits it, opens the gate and records who opened it; REQ otherwise leaves the gate
unchanged, raises GATE_REFUSED and is recorded; REQ at 0 closes it. -/
def Obligations.ExpertGateWrite : Prop :=
  ∀ (s : State) (who : Requester) (val : Word), s.dev.fore.off = false → s.dev.flag Reg.hdr_FREEZE 0 = false →
    (val.toNat % 2 = 1 → val.toNat / 65536 = 0x9640 → s.dev.flag Reg.life_EXPERT_PERMIT = true →
      ∃ t, exec (.expertGateWrite who val) s = .next t ∧ t.dev.flag Reg.top_OPEN = true ∧ t.dev.fget Reg.top_OPENED_BY = who.code ∧
        s.Framed [] [Reg.top_OPEN.key 0, Reg.top_OPENED_BY.key 0, Reg.hdr_CFG_EPOCH.key 0] t) ∧
    (val.toNat % 2 = 1 → (val.toNat / 65536 ≠ 0x9640 ∨ s.dev.flag Reg.life_EXPERT_PERMIT = false) →
      ∃ t, exec (.expertGateWrite who val) s = .next t ∧ t.dev.Raised 0 Ev.top_GATE_REFUSED ∧
        t.dev.ErrHeld 0 Ev.top_GATE_REFUSED 0 0 ∧ s.Framed eventParts (eventKeys 0 ++ errKeys 0) t) ∧
    (val.toNat % 2 = 0 →
      ∃ t, exec (.expertGateWrite who val) s = .next t ∧ t.dev.flag Reg.top_OPEN = false ∧
        s.Framed [] [Reg.top_OPEN.key 0, Reg.hdr_CFG_EPOCH.key 0] t)

/-- Supplies and PWR_OK (R13, R493, R496). A monitor that reports bad holds the device in reset, and latches the reset while PWR_OK is high; its return
does not release it; PWR_OK falling releases the latch and keeps the device in reset. COLD_RESET with every monitor good starts the device with every
volatile part and field at its reset value but what the ROM shows of the non-volatile memories (life-cycle, margin plan or the default plan, hours,
last trip), record space not written, and the security version of OTP raised to that of MRAM (R432, R440, R454, R457); with a monitor that reports bad
the reset is latched. Warm resets of the device (R325, R359, R362, R363, R364, R426, R478). A function-level reset and PERST_N remove every queue with
its routes, clear EN, end a hold, close the expert gate, disarm injection, stop the TIC's channels and, where FLR_STOPS_ACQ is 1, ask an armed
acquisition to stop; Configuration Space goes to its reset values (the model's reading, log entry 36). Everything else stays: the analogue path, the
timebase, the tables, every other field, the memories. PERST_N also takes the link down, without a hold, and clears the sticky bits. While the device
is off only its level is noted. Its return is noted alone; Configuration Space becomes ready only while it is high. SOFT_RESET of a page (R22, R191,
R225, R271, R407, R426, R464, R472): its events, counts, error log and RC fields clear, its staged words are discarded, its pending swaps are
cancelled, and GAP_LOG, the converters outside the filter, the TIC's channels and the Tally's SAMPLED words follow their chapters; configuration
fields but EN of the converters keep their values, so do tables and every other page. An armed injection is disarmed. While the acquisition is armed
the ring pages, and while a partition is not idle the accumulator page, discard it and record it; so does the MDIAG page while it is closed, in LIFE.
A page without a header ignores it. -/
def Obligations.Resets : Prop :=
  ((∀ (s : State) (i : Supply),
     ∃ t, exec (.supplyMonitorBad i) s = .next t ∧ bitAt t.dev.fore.badSupplies i.bit = true ∧ t.dev.inReset = true ∧ t.dev.fore.off = true ∧
       t.dev.fore.latched = (s.dev.fore.latched || s.dev.fore.pwrOk) ∧ s.Framed [.fore] [] t) ∧
   (∀ (s : State) (i : Supply),
     ∃ t, exec (.supplyMonitorGood i) s = .next t ∧ bitAt t.dev.fore.badSupplies i.bit = false ∧ t.dev.fore.off = s.dev.fore.off ∧
       t.dev.fore.latched = s.dev.fore.latched ∧ (∀ j : Supply, j ≠ i → bitAt t.dev.fore.badSupplies j.bit = bitAt s.dev.fore.badSupplies j.bit) ∧
       s.Framed [.fore] [] t) ∧
   (∀ s : State,
     ∃ t, exec .pwrOkFall s = .next t ∧ t.dev.fore.pwrOk = false ∧ t.dev.fore.latched = false ∧ t.dev.inReset = true ∧ t.dev.fore.off = true ∧
       s.Framed [.fore] [] t) ∧
   (∀ s : State, s.dev.fore.badSupplies = 0 →
     let plan := [Reg.age_VALID.key 0, Reg.age_DEFAULT.key 0, Reg.age_PLAN_SEQ.key 0, Reg.age_PROJECTED_YEARS.key 0, Reg.age_LIMITER.key 0,
       Reg.age_GUARD_CORE.key 0, Reg.age_GUARD_SRAM.key 0, Reg.age_REF_FLOOR_0.key 0, Reg.age_REF_FLOOR_1.key 0, Reg.age_RETRAIN_DAYS.key 0] ++
       ([0, 1].flatMap fun m => [Reg.memc_MULT.key m, Reg.memc_OVERRIDDEN_REF.key m, Reg.memc_OWED_MAX.key m, Reg.memc_CATCHUPS.key m])
     let life := [Reg.life_STATE, Reg.life_ENTRIES_USED, Reg.life_POLICY, Reg.life_TAP_OPEN, Reg.life_MDIAG_OPEN, Reg.life_RWL_OPEN,
       Reg.life_EXPERT_PERMIT, Reg.life_INJECT_PERMIT, Reg.life_OTP_SVN, Reg.life_MRAM_SVN, Reg.life_ATT_RESERVED, Reg.life_BOOT_PREF,
       Reg.life_KEY_REVOKED, Reg.life_ATT_NEXT, Reg.life_JOURNAL_BUSY]
     ∃ t, exec .coldReset s = .next t ∧ t.dev.fore.off = false ∧ t.dev.inReset = false ∧ t.hbm = [] ∧ t.pending = s.pending ∧
       t.dev.flag Reg.top_ROM_DONE = true ∧ t.nv.otpSvn = max s.nv.otpSvn s.nv.mramSvn ∧ t.nv.mramSvn = s.nv.mramSvn ∧
       (s.nv.journal = none → t.nv = { s.nv with otpSvn := max s.nv.otpSvn s.nv.mramSvn }) ∧
       t.dev.fget Reg.life_STATE = otpState t.nv.otp ∧ t.dev.fget Reg.life_ATT_NEXT = t.nv.attReserved % 2 ^ 32 ∧
       t.dev.fget Reg.age_HOURS = t.nv.hours % 2 ^ 32 ∧
       (t.dev.flag Reg.pwr_LAST_TRIP = t.nv.trip.isSome ∧ ∀ k, t.nv.trip = some k → t.dev.fget Reg.pwr_TRIP_SENSOR = k % 16) ∧
       (t.nv.plan = none → t.dev.flag Reg.age_DEFAULT = true ∧ t.dev.Raised 4 Ev.age_DEFAULT_PLAN ∧ t.dev.fget Reg.age_GUARD_CORE = 40 ∧
         t.dev.fget Reg.age_GUARD_SRAM = 30) ∧
       (∀ p, t.nv.plan = some p → t.dev.flag Reg.age_DEFAULT = false ∧ t.dev.flag Reg.age_VALID = true ∧
         t.dev.fget Reg.age_GUARD_CORE = p.guardCore % 256 ∧ t.dev.fget Reg.age_GUARD_SRAM = p.guardSram % 256 ∧
         t.dev.fget Reg.age_PLAN_SEQ = p.seq % 65536) ∧
       (otpState t.nv.otp = 4 → t.dev.flag Reg.top_FAILED = true ∧ t.dev.fget Reg.top_FAIL_CAUSE = 3) ∧
       (s.dev.fget Reg.life_TAP_REMAIN ≠ 0 → t.dev.Raised 1 Ev.life_TAP_LOCKED) ∧
       t.dev.fore.running = false ∧ t.dev.fore.planDue = true ∧ t.dev.fore.pwrOk = true ∧ t.dev.fore.latched = false ∧
       State.reset.dev.Framed [.fore, .out, .freeCtr, .pcie, .mem, .qm] ([Reg.top_ROM_DONE.key 0, Reg.top_START_STATE.key 0, Reg.top_READY.key 0, Reg.top_CAL_BANK_SRC.key 0,
         Reg.top_FAILED.key 0, Reg.top_FAIL_CAUSE.key 0, Reg.top_OPEN.key 0, Reg.age_HOURS.key 0, Reg.pwr_LAST_TRIP.key 0, Reg.pwr_TRIP_SENSOR.key 0, Reg.qmgr_CMDS_OUT.key 0] ++
         (life.map fun f => f.key 0) ++ plan ++ eventKeys 0 ++ eventKeys 1 ++ eventKeys 4 ++ eventKeys 64 ++ eventKeys 65) t.dev) ∧
   ∀ s : State, s.dev.fore.badSupplies ≠ 0 →
     ∃ t, exec .coldReset s = .next t ∧ t.dev.fore = { s.dev.fore with
       pwrOk := true
       latched := true
       thermN := false } ∧ t.dev.inReset = true ∧ s.Framed [.fore] [] t) ∧
  ((∀ s : State, s.dev.fore.off = false → ∃ t, exec .functionLevelReset s = .next t ∧ s.WarmReset t warmKeys ∧
     t.dev.flag Reg.pcie_DL_UP = s.dev.flag Reg.pcie_DL_UP ∧ t.dev.pcie.configReady = s.dev.pcie.configReady ∧
     t.dev.pcie.perstN = s.dev.pcie.perstN ∧ t.dev.pcie.pmeStatus = s.dev.pcie.pmeStatus) ∧
   (∀ s : State, s.dev.fore.off = false → s.dev.pcie.perstN = false →
     let down := s.dev.flag Reg.pcie_DL_UP
     ∃ t, exec .perstNAssert s = .next t ∧ t.dev.pcie.perstN = true ∧ t.dev.pcie.configReady = false ∧ t.dev.pcie.pmeStatus = false ∧
       t.dev.flag Reg.pcie_DL_UP = false ∧ (down = true → t.dev.fget Reg.pcie_SPEED = 0 ∧ t.dev.fget Reg.pcie_WIDTH = 0 ∧
         t.dev.flag Reg.pcie_IN_L1 = false ∧ t.dev.fget Reg.pcie_LINK_DOWNS = satAdd 32 (s.dev.fget Reg.pcie_LINK_DOWNS) 1) ∧
       s.WarmReset t (warmKeys ++ [Reg.pcie_DL_UP.key 0, Reg.pcie_SPEED.key 0, Reg.pcie_WIDTH.key 0, Reg.pcie_IN_L1.key 0, Reg.pcie_LINK_DOWNS.key 0])) ∧
   (∀ s : State, s.dev.fore.off = true ∨ s.dev.pcie.perstN = true →
     ∃ t, exec .perstNAssert s = .next t ∧ t.dev.pcie = { s.dev.pcie with perstN := true } ∧ s.Framed [.pcie] [] t) ∧
   (∀ s : State,
     ∃ t, exec .perstNDeassert s = .next t ∧ t.dev.pcie = { s.dev.pcie with perstN := false } ∧ s.Framed [.pcie] [] t) ∧
   ∀ s : State, s.dev.fore.off = false →
     ∃ t, exec .configSpaceReady s = .next t ∧
       t.dev.pcie = { s.dev.pcie with configReady := s.dev.pcie.configReady || !s.dev.pcie.perstN } ∧ s.Framed [.pcie] [] t) ∧
  ((∀ (s : State) (who : Requester) (p : Fin 128), s.dev.fore.off = false → hasHeader p = true → s.dev.mdiagShut p 8 = false →
     s.dev.softDiscarded p = false →
     let armed := s.dev.flag Reg.inj_ARMED
     let evs := if armed then Reg.inj_ARMED.key 0 :: eventKeys 7 else []
     let wiped := [Reg.hdr_EVENT, Reg.hdr_FIRST_BIT, Reg.hdr_FIRST_MULTI, Reg.hdr_FIRST_INJECTED, Reg.hdr_FIRST_VALID, Reg.hdr_TIMEOUT_COUNT,
       Reg.hdr_RECOVERY_COUNT, Reg.hdr_ERR_CODE, Reg.hdr_ERR_INJECTED, Reg.hdr_ERR_OVERWRITTEN, Reg.hdr_ERR_VALID, Reg.hdr_ERR_COUNT,
       Reg.hdr_ERR_DETAIL0, Reg.hdr_ERR_DETAIL1, Reg.hdr_ERR_TIME]
     let own := [Reg.aux_auxc_EN, Reg.aux_auxc_STATE, Reg.aux_auxc_STEP, Reg.aux_auxc_INJ_PENDING, Reg.tic_RUNNING, Reg.tic_ARM]
     ∃ t, exec (.softReset who p) s = .next t ∧ (∀ f ∈ wiped, f.key p ∉ evs → t.dev.fget f p = 0) ∧
       (armed = true → t.dev.flag Reg.inj_ARMED = false ∧ t.dev.Raised 7 Ev.inj_DISARMED) ∧
       (∀ f ∈ pageOwnFields p, ∀ i, f.has i = true → f.key i / 131072 = p.val → f.key i ∉ evs →
         (f.acc = .rc → t.dev.fget f i = f.rstAt i) ∧
         (f.acc ≠ .rc → f ∉ own → KMap.find t.dev.regs (f.key i) = KMap.find s.dev.regs (f.key i))) ∧
       (∀ f ∈ [Reg.hdr_EXPERT, Reg.hdr_FREEZE, Reg.hdr_CFG_EPOCH, Reg.hdr_EVENT_MASK], f.key p ∉ evs → t.dev.fget f p = s.dev.fget f p) ∧
       (∀ k, k / 131072 ≠ p.val → k ∉ evs → p.val ≠ 70 ∨ k / 131072 < 71 → (s.dev.qm.loads = [] ∨ k / 131072 ≠ 28) →
         KMap.find t.dev.regs k = KMap.find s.dev.regs k) ∧
       (p.val = 70 → ∀ g < 24, t.dev.fget Reg.grp_SAMPLED_W0 g = 0 ∧ t.dev.fget Reg.grp_SAMPLED_W1 g = 0) ∧
       t.dev.bus = { s.dev.bus with staged := s.dev.bus.staged.filter fun e => e.1 % 2 ^ 24 / 4096 != p.val } ∧
       (∀ sel < 32, (t.dev.tctlOf p sel).swapPending = false ∧ (t.dev.tctlOf p sel).bank = (s.dev.tctlOf p sel).bank) ∧
       (s.dev.qm.loads = [] → (∀ sel < 32, t.dev.tctlOf p sel = { s.dev.tctlOf p sel with swapPending := false }) ∧
         ∀ p' < 128, p' ≠ p.val → ∀ sel < 32, t.dev.tctlOf p' sel = s.dev.tctlOf p' sel) ∧
       (p.val = 23 → ∀ k < 256, t.dev.tget 23 1 0 k = 0) ∧
       s.dev.TabFramed (if p.val = 23 then (List.range 256).map fun k => tkey 23 1 0 k else []) t.dev ∧
       t.dev.assay = (if p.val = 17 then { s.dev.assay with ran := [] } else s.dev.assay) ∧
       t.dev.tally = (if p.val = 70 then { s.dev.tally with resetDue := true } else s.dev.tally) ∧
       (if p.val = 21 then ∀ n < 8, (t.dev.ticc n).running = false ∧ (t.dev.ticc n).fifo = [] else t.dev.tic = s.dev.tic) ∧
       (if p.val = 26 then ∀ c < 4, t.dev.flag Reg.aux_auxc_EN c = false ∧ (s.dev.fltOn c = false → t.dev.auxc c = {}) ∧
         (s.dev.fltOn c = true → t.dev.auxc c = s.dev.auxc c) else t.dev.aux = s.dev.aux) ∧
       (armed = false → s.dev.qm.loads = [] → Part.out.same s.dev t.dev ∧ Part.pcie.same s.dev t.dev ∧
         (p.val ≠ 21 → Part.qm.same s.dev t.dev) ∧ t.dev.qm.ctx = s.dev.qm.ctx ∧
         (p.val = 21 → t.dev.qm.streams = s.dev.qm.streams.map fun x => (x.1, x.2.filter fun y => y.kind != 1))) ∧
       t.pending = s.pending ∧ t.nv = s.nv ∧ t.hbm = s.hbm ∧
       (∀ b ∈ [Part.clk, .tb, .loom, .vern, .trig, .tseq, .acq, .chains, .till, .bench, .mem, .cas, .freeCtr, .degraded,
         .contained, .fore], b.same s.dev t.dev)) ∧
   (∀ (s : State) (who : Requester) (p : Fin 128), s.dev.fore.off = false → hasHeader p = true → s.dev.softDiscarded p = true →
     s.dev.mdiagShut p 8 = false →
     ∃ t, exec (.softReset who p) s = .next t ∧ t.dev.fget Reg.hdr_ERR_CODE p = 0xF0 ∧ t.dev.fget Reg.hdr_ERR_VALID p = 1 ∧
       s.Framed [] (errKeys p) t) ∧
   (∀ (s : State) (who : Requester) (p : Fin 128), s.dev.fore.off = false → s.dev.mdiagShut p 8 = true →
     ∃ t, exec (.softReset who p) s = .next t ∧ t.dev.fget Reg.hdr_ERR_CODE 1 = 0xF0 ∧ t.dev.fget Reg.hdr_ERR_VALID 1 = 1 ∧
       s.Framed [] (errKeys 1) t) ∧
   ∀ (s : State) (who : Requester) (p : Fin 128), s.dev.fore.off = false → hasHeader p = false →
     ∃ t, exec (.softReset who p) s = .next t ∧ s.Framed [] [] t)

/-- Handshake channels (R27, R28, R412, R514). A transfer whose sequence value differs from that of the last transfer accepted is accepted and counted;
one with an equal value is acknowledged only, so that a resent transfer is never delivered twice; the source retains it until it is acknowledged. A
retained transfer that is not acknowledged in time is sent again: the source page counts the expiry and the recovery and records them. -/
def Obligations.HandshakeChannels : Prop :=
  (∀ (s : State) (ch : Nat) (seq : Bool) (v : Nat) (acked : Bool), s.dev.fore.off = false →
    ∃ t, exec (.handshakeTransfer ch seq v acked) s = .next t ∧ (t.dev.channel ch).accepted = seq ∧
      (t.dev.channel ch).count = (s.dev.channel ch).count + Bool.bit (seq != (s.dev.channel ch).accepted) ∧
      (t.dev.channel ch).retained = (if acked then none else some v) ∧
      (∃ u, exec (.handshakeTransfer ch seq v acked) t = .next u ∧ (u.dev.channel ch).count = (t.dev.channel ch).count) ∧
      s.Framed [.fore] [] t) ∧
  ∀ (s : State) (ch : Nat) (p : Fin 128), s.dev.fore.off = false → (s.dev.channel ch).retained.isSome = true →
    ∃ t, exec (.handshakeTimeout ch p) s = .next t ∧
      t.dev.channel ch = { s.dev.channel ch with resent := !(s.dev.channel ch).resent } ∧
      t.dev.fget Reg.hdr_TIMEOUT_COUNT p = satAdd 32 (s.dev.fget Reg.hdr_TIMEOUT_COUNT p) 1 ∧
      t.dev.fget Reg.hdr_RECOVERY_COUNT p = satAdd 32 (s.dev.fget Reg.hdr_RECOVERY_COUNT p) 1 ∧
      t.dev.ErrHeld p 0xF1 (ch % 2 ^ 32) 0 ∧
      s.Framed [.fore] (Reg.hdr_TIMEOUT_COUNT.key p :: Reg.hdr_RECOVERY_COUNT.key p :: errKeys p) t

/-- WATCHDOG and LOCKSTEP (R417, R419): the Foreman's core pair restarts from ROM, without its nonce; the expiry is counted, raised and recorded. The
third expiry within 10 s leaves it in ROM recovery, with FORE contained. Measurement, memory and delivery go on. FIRMWARE_IMAGE_READ_DONE (R452,
R453), with the ROM started and firmware not running: a valid image runs, with FW_VALID and its SVN shown; an invalid first image makes the ROM try
the other one and is recorded; a second one leads to ROM recovery and START_FAILED. -/
def Obligations.ForemanStarts : Prop :=
  (∀ (s : State) (atMs : Nat) (w : Bool), s.dev.fore.off = false → s.dev.romRecovery = false → s.dev.fget Reg.life_STATE ≠ 4 →
     ∃ t, exec (if w then .watchdog atMs else .lockstep atMs) s = .next t ∧
       t.dev.fore.running = false ∧ t.dev.fore.nonce = none ∧ t.dev.fore.failedImages = 0 ∧
       t.dev.Raised 2 (if w then Ev.fore_WATCHDOG else Ev.fore_LOCKSTEP) ∧
       t.dev.ErrHeld 2 (if w then Ev.fore_WATCHDOG else Ev.fore_LOCKSTEP) 0 0 ∧
       t.dev.fget Reg.hdr_TIMEOUT_COUNT 2 = satAdd 32 (s.dev.fget Reg.hdr_TIMEOUT_COUNT 2) 1 ∧
       t.dev.fget Reg.hdr_RECOVERY_COUNT 2 = satAdd 32 (s.dev.fget Reg.hdr_RECOVERY_COUNT 2) 1 ∧
       t.dev.romRecovery = decide (3 ≤ ((s.dev.fore.expiries.filter fun x => decide (atMs ≤ x + 10000)).length + 1)) ∧
       (t.dev.romRecovery = true → t.dev.isContained 2 = true ∧ t.dev.Raised 2 Ev.fore_ROM_RECOVERY) ∧
       (s.nv.journal = none → t.nv = s.nv ∧ t.hbm = s.hbm) ∧ t.pending = s.pending ∧
       (s.nv.journal = none → s.dev.Framed ([.fore, .degraded, .contained] ++ eventParts) ([Reg.top_OPEN.key 0, Reg.top_FAILED.key 0, Reg.top_FAIL_CAUSE.key 0,
         Reg.hdr_TIMEOUT_COUNT.key 2, Reg.hdr_RECOVERY_COUNT.key 2] ++ ([Reg.life_STATE, Reg.life_ENTRIES_USED, Reg.life_ROM_RECOVERY, Reg.life_POLICY,
         Reg.life_TAP_OPEN, Reg.life_MDIAG_OPEN, Reg.life_RWL_OPEN, Reg.life_EXPERT_PERMIT, Reg.life_INJECT_PERMIT, Reg.life_OTP_SVN, Reg.life_MRAM_SVN,
         Reg.life_ATT_RESERVED, Reg.life_BOOT_PREF, Reg.life_KEY_REVOKED].map fun f => f.key 0) ++ eventKeys 0 ++ eventKeys 1 ++ faultKeys 2) t.dev) ∧
       (∀ b ∈ [Part.tctl, .bus, .clk, .tb, .tally, .loom, .assay, .vern, .trig, .tseq, .tic, .acq, .chains, .mem, .cas, .aux, .bench,
         .tabs, .freeCtr], b.same s.dev t.dev)) ∧
  (∀ (s : State) (img : FwImage), s.dev.fore.off = false → s.dev.flag Reg.top_ROM_DONE = true → s.dev.fore.running = false → s.dev.romRecovery = false →
     s.dev.fget Reg.life_STATE ≠ 4 →
     (s.dev.imageCheck img = 0 →
       ∃ t, exec (.firmwareImageReadDone img) s = .next t ∧ t.dev.fore.running = true ∧ t.dev.flag Reg.top_FW_VALID = true ∧
         t.dev.fget Reg.life_FW_IMAGE = (s.nv.bootPref + s.dev.fore.failedImages) % 2 ∧ t.dev.fget Reg.life_FW_SVN = img.svn.toNat ∧
         t.dev.fore.fwDigest = img.digest.map BitVec.toNat ∧ t.nv.trip = none ∧ t.hbm = s.hbm ∧ t.pending = s.pending ∧
         (s.nv.trip = none → t.nv = s.nv) ∧ (s.nv.plan.all (fun p => p.retired.isEmpty) = true → s.dev.flag Reg.top_CAL_LOADED = false → s.dev.Framed (.degraded :: .contained :: .fore :: eventParts)
           ([Reg.top_FW_VALID.key 0, Reg.top_FW_IMAGE.key 0, Reg.top_READY.key 0, Reg.life_FW_IMAGE.key 0, Reg.life_FW_SVN.key 0, Reg.life_ROM_RECOVERY.key 0] ++ eventKeys 0) t.dev)) ∧
     (s.dev.imageCheck img ≠ 0 → s.dev.fore.failedImages = 0 →
       ∃ t, exec (.firmwareImageReadDone img) s = .next t ∧ t.dev.fore = { s.dev.fore with failedImages := 1, alertAnswered := t.dev.fore.alertAnswered } ∧
         t.dev.ErrHeld 2 0xF2 (s.nv.bootPref % 2) 0 ∧ s.Framed [.fore] (Reg.hdr_RECOVERY_COUNT.key 2 :: errKeys 2) t) ∧
     (s.dev.imageCheck img ≠ 0 → s.dev.fore.failedImages ≠ 0 →
       ∃ t, exec (.firmwareImageReadDone img) s = .next t ∧ t.dev.romRecovery = true ∧ t.dev.Raised 2 Ev.fore_ROM_RECOVERY ∧
         t.dev.flag Reg.top_FAILED = true ∧ t.dev.ErrHeld 2 0xF2 ((s.nv.bootPref + s.dev.fore.failedImages) % 2) 0 ∧
         s.Framed ([.fore, .degraded] ++ eventParts) ([Reg.top_FAILED.key 0, Reg.top_FAIL_CAUSE.key 0, Reg.life_ROM_RECOVERY.key 0] ++ eventKeys 0 ++ faultKeys 2) t))

/-- LC_STATUS, GET_NONCE, GET_CERT and the nonce's expiry (R446, R455). LC_STATUS answers LIFE.STATUS and LIFE.SVN; GET_NONCE makes its value the current
nonce, replacing an earlier one; the expiry discards it; GET_CERT, out of BLANK and with a buffer of 3,032 bytes, writes the UID and the certificate
to the host. Attestation (R457 to R459). ATTEST, out of BLANK, with a buffer of 3,540 bytes, an index left and its tree ready, uses the next index
once and counts it, with a block of 1,024 reserved in MRAM before an index beyond the reserved ones is used. An index of 2^30 raises ATTEST_EXHAUSTED
and completes with NOT_PERMITTED; a tree that is not ready, with BUSY_RETRY. BOTTOM_TREE_READY makes the tree of the next index ready. -/
def Obligations.LifeCycleQueriesAndAttestation : Prop :=
  ((∀ (s : State) (q : BitVec 16) (entry : List Word), s.dev.fore.off = false → s.dev.TakesCmd q.toNat 0x50 (entryWords entry) →
     ∃ t, exec (.lcStatus q entry) s = .next t ∧
       s.dev.CompletedCmd t.dev q.toNat (entryWords entry) 0 (s.dev.lifeStatus + 2 ^ 32 * s.dev.lifeSvn) ∧
       s.Framed eventParts cmdKeys t) ∧
   (∀ (s : State) (q : BitVec 16) (entry : List Word) (nonce : BitVec 64), s.dev.fore.off = false →
     s.dev.TakesCmd q.toNat 0x52 (entryWords entry) →
     ∃ t, exec (.getNonce q entry nonce) s = .next t ∧ s.dev.CompletedCmd t.dev q.toNat (entryWords entry) 0 nonce.toNat ∧
       t.dev.fore = { s.dev.fore with nonce := some nonce.toNat, alertAnswered := t.dev.fore.alertAnswered } ∧
       s.Framed (.fore :: eventParts) cmdKeys t) ∧
   (∀ s : State, s.dev.fore.off = false →
     ∃ t, exec .nonceExpiry s = .next t ∧ t.dev.fore = { s.dev.fore with nonce := none, alertAnswered := t.dev.fore.alertAnswered } ∧
       s.Framed [.fore] [] t) ∧
   ∀ (s : State) (q : BitVec 16) (entry cert : List Word), s.dev.fore.off = false → s.dev.TakesCmd q.toNat 0x54 (entryWords entry) →
     s.dev.fget Reg.life_STATE ≠ 0 → 3032 ≤ (entryWords entry).getD 3 0 →
     ∃ t, exec (.getCert q entry cert) s = .next t ∧ s.dev.CompletedCmd t.dev q.toNat (entryWords entry) 0 3032 ∧
       Output.hostWrite ((entryWords entry).getD 1 0 + 2 ^ 32 * (entryWords entry).getD 2 0)
         ([s.dev.fget Reg.life_UID_W0, s.dev.fget Reg.life_UID_W1] ++ fitWords 756 (cert.map BitVec.toNat)) ∈ t.dev.out ∧
       s.Framed eventParts cmdKeys t) ∧
  ((∀ (s : State) (q : BitVec 16) (entry sig : List Word), s.dev.fore.off = false → s.dev.TakesCmd q.toNat 0x53 (entryWords entry) →
     s.dev.fget Reg.life_STATE ≠ 0 → 3540 ≤ (entryWords entry).getD 3 0 → s.dev.fore.attNext < 2 ^ 30 →
     s.dev.fore.trees.contains (s.dev.fore.attNext / 2 ^ 15) = true →
     ∃ t, exec (.attest q entry sig) s = .next t ∧
       s.dev.CompletedCmd t.dev q.toNat (entryWords entry) 0 s.dev.fore.attNext ∧ t.dev.fore.attNext = s.dev.fore.attNext + 1 ∧
       t.nv = { s.nv with attReserved := if s.nv.attReserved ≤ s.dev.fore.attNext then s.nv.attReserved + 1024 else s.nv.attReserved } ∧
       Output.hostWrite ((entryWords entry).getD 1 0 + 2 ^ 32 * (entryWords entry).getD 2 0)
         (s.dev.reportBody s.nv ((entryWords entry).drop 4) s.dev.fore.attNext ++ fitWords 821 (sig.map BitVec.toNat)) ∈ t.dev.out ∧
       t.hbm = s.hbm ∧ t.pending = s.pending ∧
       Dev.Framed (.fore :: eventParts) (Reg.life_ATT_NEXT.key 0 :: Reg.life_ATT_RESERVED.key 0 :: Reg.life_ATT_READY.key 0 :: cmdKeys) s.dev t.dev) ∧
   (∀ (s : State) (q : BitVec 16) (entry sig : List Word), s.dev.fore.off = false → s.dev.TakesCmd q.toNat 0x53 (entryWords entry) →
     s.dev.fget Reg.life_STATE ≠ 0 → 3540 ≤ (entryWords entry).getD 3 0 →
     (2 ^ 30 ≤ s.dev.fore.attNext →
       ∃ t, exec (.attest q entry sig) s = .next t ∧ t.dev.Raised 1 Ev.life_ATTEST_EXHAUSTED ∧
         s.dev.CompletedCmd t.dev q.toNat (entryWords entry) 2 0 ∧ s.Framed eventParts (cmdKeys ++ eventKeys 1) t) ∧
     (s.dev.fore.attNext < 2 ^ 30 → s.dev.fore.trees.contains (s.dev.fore.attNext / 2 ^ 15) = false →
       ∃ t, exec (.attest q entry sig) s = .next t ∧ s.dev.CompletedCmd t.dev q.toNat (entryWords entry) 7 0 ∧ s.Framed eventParts cmdKeys t)) ∧
   ∀ (s : State) (tree : BitVec 15), s.dev.fore.off = false → s.dev.fore.running = true → s.nv.idSeed = true →
     tree.toNat = s.dev.fore.attNext / 2 ^ 15 →
     ∃ t, exec (.bottomTreeReady tree) s = .next t ∧ t.dev.fore.trees.contains tree.toNat = true ∧
       (s.dev.fore.trees.contains tree.toNat = false → t.dev.flag Reg.life_ATT_READY = true) ∧ s.Framed [.fore] [Reg.life_ATT_READY.key 0] t)

/-- LC_REQUEST (R446 to R450, R456). A request that R447 does not accept is refused: TRANSITION_REFUSED, NOT_PERMITTED, and nothing but the nonce changes.
An accepted one of KIND 1 that is not cut enters its target state: the OTP array gives it, LIFE shows it, injection is disarmed, the Foreman restarts,
and leaving OWNED erases record space; KIND 2 sets the owner policy; KIND 3 opens the TAP for TARGET seconds; KIND 4 revokes a firmware key slot. Each
uses the nonce up. -/
def Obligations.LifeCycleRequest : Prop :=
  (∀ (s : State) (q : BitVec 16) (entry : List Word) (r : LcRequest), s.dev.fore.off = false → s.dev.TakesCmd q.toNat 0x51 (entryWords entry) →
    s.dev.lcAccepts r = false →
    ∃ t, exec (.lcRequest q entry r) s = .next t ∧ s.dev.CompletedCmd t.dev q.toNat (entryWords entry) 2 0 ∧
      t.dev.Raised 1 Ev.life_TRANSITION_REFUSED ∧ t.dev.fore = { s.dev.fore with nonce := none, alertAnswered := t.dev.fore.alertAnswered } ∧
      s.Framed (.fore :: eventParts) (cmdKeys ++ eventKeys 1) t) ∧
  (∀ (s : State) (q : BitVec 16) (entry : List Word) (r : LcRequest), s.dev.fore.off = false → s.dev.TakesCmd q.toNat 0x51 (entryWords entry) →
    s.dev.lcAccepts r = true → r.kind = 1 → r.cut = none → otpFree s.nv.otp r.target.toNat = true → s.dev.eraseBusy = false →
    ∃ t, exec (.lcRequest q entry r) s = .next t ∧ s.dev.CompletedCmd t.dev q.toNat (entryWords entry) 0 r.target.toNat ∧
      otpState t.nv.otp = r.target.toNat ∧ t.dev.fget Reg.life_STATE = r.target.toNat ∧ t.nv.journal = none ∧
      t.dev.Raised 1 Ev.life_TRANSITION_DONE ∧ t.dev.fore.nonce = none ∧ t.dev.fore.running = false ∧ t.dev.flag Reg.inj_ARMED = false ∧
      t.dev.fget Reg.life_TAP_REMAIN = 0 ∧
      (s.dev.fget Reg.life_STATE = 2 → r.target = 3 → t.hbm = [] ∧ t.dev.till.banks = [] ∧ t.nv.ownerKey = []) ∧
      (s.dev.fget Reg.life_STATE = 1 → r.target = 2 → t.nv.ownerKey = r.payload.map BitVec.toNat ∧ t.nv.policy = 0 ∧ t.hbm = s.hbm) ∧
      (r.target = 4 → t.nv.idSeed = false ∧ t.hbm = s.hbm) ∧ t.pending = s.pending) ∧
  (∀ (s : State) (q : BitVec 16) (entry : List Word) (r : LcRequest), s.dev.fore.off = false → s.dev.TakesCmd q.toNat 0x51 (entryWords entry) →
    s.dev.lcAccepts r = true → r.kind = 2 →
    ∃ t, exec (.lcRequest q entry r) s = .next t ∧ s.dev.CompletedCmd t.dev q.toNat (entryWords entry) 0 r.target.toNat ∧
      t.nv = { s.nv with policy := r.target.toNat } ∧ t.dev.Raised 1 Ev.life_TRANSITION_DONE ∧ t.dev.fore.nonce = none ∧ t.hbm = s.hbm) ∧
  (∀ (s : State) (q : BitVec 16) (entry : List Word) (r : LcRequest), s.dev.fore.off = false → s.dev.TakesCmd q.toNat 0x51 (entryWords entry) →
    s.dev.lcAccepts r = true → r.kind = 3 →
    ∃ t, exec (.lcRequest q entry r) s = .next t ∧ s.dev.CompletedCmd t.dev q.toNat (entryWords entry) 0 (s.dev.fget Reg.life_STATE) ∧
      t.dev.fget Reg.life_TAP_REMAIN = r.target.toNat ∧ t.dev.flag Reg.life_TAP_OPEN = true ∧ t.dev.Raised 1 Ev.life_TAP_UNLOCKED ∧
      t.dev.fore.nonce = none ∧
      s.Framed (.fore :: eventParts) (Reg.life_TAP_REMAIN.key 0 :: Reg.life_TAP_OPEN.key 0 :: cmdKeys ++ eventKeys 1) t) ∧
  ∀ (s : State) (q : BitVec 16) (entry : List Word) (r : LcRequest), s.dev.fore.off = false → s.dev.TakesCmd q.toNat 0x51 (entryWords entry) →
    s.dev.lcAccepts r = true → r.kind = 4 →
    ∃ t, exec (.lcRequest q entry r) s = .next t ∧ s.dev.CompletedCmd t.dev q.toNat (entryWords entry) 0 (s.dev.fget Reg.life_STATE) ∧
      t.nv = { s.nv with revoked := s.nv.revoked ||| 2 ^ r.target.toNat } ∧ t.dev.Raised 1 Ev.life_TRANSITION_DONE ∧ t.dev.fore.nonce = none ∧
      t.hbm = s.hbm

/-- The signed requests that Table 19.3 allows (R447): which state, kind, signer and target go together, over every state, policy and request. -/
def Obligations.LifeCycleTable : Prop :=
  ∀ (st pol kind signer target : Nat), lcAllowed st pol kind signer target = true ↔
    (kind = 1 ∧ signer = 0 ∧ (st = 0 ∧ target = 1 ∨ st = 1 ∧ target = 2 ∨ st = 3 ∧ target = 1 ∨ (st = 0 ∨ st = 1 ∨ st = 3) ∧ target = 4)) ∨
    (kind = 1 ∧ signer = 1 ∧ st = 2 ∧ (target = 3 ∨ target = 4)) ∨
    (kind = 2 ∧ signer = 1 ∧ st = 2 ∧ target < 8) ∨
    (kind = 3 ∧ (signer = 0 ∧ (st = 1 ∨ st = 3) ∨ signer = 1 ∧ st = 2 ∧ bitAt pol 2 = true) ∧ 1 ≤ target ∧ target ≤ 3600) ∨
    (kind = 4 ∧ signer = 0 ∧ st ≠ 4 ∧ target < 4)

/-- DEBUG_LOCK and TAP_LOCKED (R456), FW_WRITE (R499), FW_ACTIVATE (R452, R453) and FW_COMMIT (R454). Either of the first two closes an unlocked TAP and
raises TAP_LOCKED. FW_WRITE of whole sectors within the slot that does not run programs them. FW_ACTIVATE of a valid image in the other slot sets
BOOT_PREF. FW_COMMIT of a version above the floor raises MRAM_SVN and OTP_SVN to it. The TAP (R444, R456): boundary scan and BYPASS leave the device
unchanged in every life-cycle state; a debug instruction behaves as BYPASS while the TAP is closed. While it is open the manual gives it no effect,
and it is refused. -/
def Obligations.DebugAndFirmware : Prop :=
  ((∀ (s : State) (q : BitVec 16) (entry : List Word), s.dev.fore.off = false → s.dev.TakesCmd q.toNat 0x55 (entryWords entry) →
     s.dev.fget Reg.life_TAP_REMAIN ≠ 0 →
     ∃ t, exec (.debugLock q entry) s = .next t ∧ s.dev.CompletedCmd t.dev q.toNat (entryWords entry) 0 0 ∧
       t.dev.fget Reg.life_TAP_REMAIN = 0 ∧ t.dev.flag Reg.life_TAP_OPEN = (s.dev.fget Reg.life_STATE == 0) ∧ t.dev.Raised 1 Ev.life_TAP_LOCKED ∧
       s.Framed eventParts (Reg.life_TAP_REMAIN.key 0 :: Reg.life_TAP_OPEN.key 0 :: cmdKeys ++ eventKeys 1) t) ∧
   (∀ s : State, s.dev.fore.off = false → s.dev.fget Reg.life_TAP_REMAIN ≠ 0 →
     ∃ t, exec .tapLocked s = .next t ∧ t.dev.fget Reg.life_TAP_REMAIN = 0 ∧ t.dev.flag Reg.life_TAP_OPEN = (s.dev.fget Reg.life_STATE == 0) ∧
       t.dev.Raised 1 Ev.life_TAP_LOCKED ∧ s.Framed eventParts (Reg.life_TAP_REMAIN.key 0 :: Reg.life_TAP_OPEN.key 0 :: eventKeys 1) t) ∧
   (∀ (s : State) (q : BitVec 16) (entry : List Word), s.dev.fore.off = false → s.dev.TakesCmd q.toNat 0x56 (entryWords entry) →
     let len := (entryWords entry).getD 3 0
     let off := (entryWords entry).getD 4 0
     let slot := (entryWords entry).getD 5 0 % 2
     0 < len → len % 4096 = 0 → len ≤ 2 ^ 20 → off % 4096 = 0 → off + len ≤ 2 ^ 24 → s.dev.slotRuns slot = false →
     ∃ t, exec (.fwWrite q entry) s = .next t ∧ s.dev.CompletedCmd t.dev q.toNat (entryWords entry) 0 len ∧
       Output.flash slot off len ∈ t.dev.out ∧ s.Framed eventParts cmdKeys t) ∧
   (∀ (s : State) (q : BitVec 16) (entry : List Word) (img : FwImage), s.dev.fore.off = false → s.dev.TakesCmd q.toNat 0x57 (entryWords entry) →
     s.dev.slotRuns ((entryWords entry).getD 1 0 % 2) = false → s.dev.imageCheck img = 0 → bitAt ((entryWords entry).getD 1 0) 1 = false →
     ∃ t, exec (.fwActivate q entry img) s = .next t ∧ s.dev.CompletedCmd t.dev q.toNat (entryWords entry) 0 0 ∧
       t.nv = { s.nv with bootPref := (entryWords entry).getD 1 0 % 2 } ∧ t.dev.fget Reg.life_BOOT_PREF = (entryWords entry).getD 1 0 % 2 ∧
       (s.dev.fget Reg.life_BOOT_PREF ≠ (entryWords entry).getD 1 0 % 2 → t.dev.Raised 1 Ev.life_FW_ACTIVATED) ∧ t.hbm = s.hbm ∧
       t.pending = s.pending ∧ Dev.Framed eventParts (Reg.life_BOOT_PREF.key 0 :: cmdKeys ++ eventKeys 1) s.dev t.dev) ∧
   ∀ (s : State) (q : BitVec 16) (entry : List Word), s.dev.fore.off = false → s.dev.TakesCmd q.toNat 0x58 (entryWords entry) →
     s.dev.svnFloor < s.dev.fget Reg.life_FW_SVN →
     ∃ t, exec (.fwCommit q entry) s = .next t ∧
       s.dev.CompletedCmd t.dev q.toNat (entryWords entry) 0 (s.dev.fget Reg.life_FW_SVN) ∧
       t.nv = { s.nv with mramSvn := max s.nv.mramSvn (s.dev.fget Reg.life_FW_SVN), otpSvn := max s.nv.otpSvn (s.dev.fget Reg.life_FW_SVN) } ∧
       t.dev.Raised 1 Ev.life_ROLLBACK_RAISED ∧ t.hbm = s.hbm ∧ t.pending = s.pending) ∧
  (∀ s : State, exec (.tapInstruction .bypass) s = .next s ∧
     (∀ ir, exec (.tapInstruction (.boundaryScan ir)) s = .next s) ∧
     (∀ ir dr, s.dev.flag Reg.life_TAP_OPEN = false → exec (.tapInstruction (.debug ir dr)) s = .next s) ∧
     (∀ ir dr, s.dev.fore.off = false → s.dev.flag Reg.life_TAP_OPEN = true →
       exec (.tapInstruction (.debug ir dr)) s = .refused .debugInstructionUnspecified))

/-- The table window and the aperture (R118, R473, R481, R482, R483, R485, R509, R514). A write of TABLE_SEL selects a table for its requester alone and
clears its TABLE_ADDR. A read of TABLE_DATA returns the selected word and advances the address; a write that may be made stores into the shadow bank
of a banked table, never into the active bank, or at once into a direct table, or is held while a CRC is computed, and advances the address; one that
may not be made is recorded with CODE 0xF0 and stores nothing. An aperture access reaches the host's selected table without moving its address. On a
page without tables nothing is implemented. -/
def Obligations.TableWindowAccess : Prop :=
  (∀ (s : State) (who : Requester) (p : Fin 128) (val : Word), s.dev.fore.off = false → s.dev.tableCount p ≠ 0 → s.dev.flag Reg.hdr_FREEZE p = false →
    ∃ t, exec (.tableSelWrite who p val) s = .next t ∧ t.dev.tableSel who p = val.toNat % 32 ∧ t.dev.tableAddr who p = 0 ∧
      (∀ w : Requester, w ≠ who → t.dev.tableSel w p = s.dev.tableSel w p ∧ t.dev.tableAddr w p = s.dev.tableAddr w p) ∧
      (∀ (w : Requester) (q : Fin 128), q ≠ p → t.dev.tableSel w q = s.dev.tableSel w q ∧ t.dev.tableAddr w q = s.dev.tableAddr w q) ∧
      t.dev.bus = { s.dev.bus with tableSel := t.dev.bus.tableSel, tableAddr := t.dev.bus.tableAddr } ∧
      t.dev.fget Reg.hdr_CFG_EPOCH p = (s.dev.fget Reg.hdr_CFG_EPOCH p + 1) % 2 ^ 32 ∧ s.Framed [.bus] [Reg.hdr_CFG_EPOCH.key p] t) ∧
  (∀ (s : State) (who : Requester) (p : Fin 128) (val : Word), s.dev.fore.off = false → s.dev.tableCount p ≠ 0 → s.dev.flag Reg.hdr_FREEZE p = true →
    ∃ t, exec (.tableSelWrite who p val) s = .next t ∧ t.dev.ErrHeld p 0xF0 (0xC00 + 4096 * who.code) val.toNat ∧ s.Framed [] (errKeys p) t) ∧
  (∀ (s : State) (who : Requester) (p : Fin 128), s.dev.fore.off = false → s.dev.tableCount p ≠ 0 →
    let sel := s.dev.tableSel who p
    let addr := s.dev.tableAddr who p
    ∃ t, exec (.tableDataAccess who p none) s = .next t ∧ s.TableWordRead t who p sel addr ∧
      t.dev.bus = { s.dev.bus with
        data := KMap.put s.dev.bus.data who.code (KMap.at t.dev.bus.data 0 who.code)
        shadow := t.dev.bus.shadow
        tableAddr := KMap.put s.dev.bus.tableAddr (busKey who p) ((addr + 1) % 2 ^ 25) } ∧ s.Framed [.bus] [] t) ∧
  (∀ (s : State) (who : Requester) (p : Fin 128) (val : Word), s.dev.fore.off = false →
    let sel := s.dev.tableSel who p
    let addr := s.dev.tableAddr who p
    s.dev.tableCount p ≠ 0 → s.dev.tableShut p sel addr = false →
    ∃ t, exec (.tableDataAccess who p (some val)) s = .next t ∧ s.TableWordWritten t p sel addr val.toNat ∧
      t.dev.bus = { s.dev.bus with tableAddr := KMap.put s.dev.bus.tableAddr (busKey who p) ((addr + 1) % 2 ^ 25) } ∧
      t.dev.fget Reg.hdr_CFG_EPOCH p = (s.dev.fget Reg.hdr_CFG_EPOCH p + 1) % 2 ^ 32 ∧ t.pending = s.pending ∧ t.nv = s.nv ∧
      Dev.Framed [.tabs, .tctl, .till, .bus] [Reg.hdr_CFG_EPOCH.key p] s.dev t.dev) ∧
  (∀ (s : State) (who : Requester) (p : Fin 128) (val : Word), s.dev.fore.off = false → s.dev.tableCount p ≠ 0 →
    s.dev.tableShut p (s.dev.tableSel who p) (s.dev.tableAddr who p) = true →
    ∃ t, exec (.tableDataAccess who p (some val)) s = .next t ∧ t.dev.ErrHeld p 0xF0 (0xC08 + 4096 * who.code) val.toNat ∧
      t.dev.bus = { s.dev.bus with tableAddr := KMap.put s.dev.bus.tableAddr (busKey who p) ((s.dev.tableAddr who p + 1) % 2 ^ 25) } ∧
      s.Framed [.bus] (errKeys p) t) ∧
  (∀ (s : State) (p : Fin 128) (w : Fin 8192), s.dev.fore.off = false → s.dev.tableCount p ≠ 0 →
    ∃ t, exec (.tableApertureAccess p w none) s = .next t ∧
      s.TableWordRead t .host p (s.dev.tableSel .host p) (s.dev.tableAddr .host p / 8192 * 8192 + w) ∧
      t.dev.bus = { s.dev.bus with
        data := KMap.put s.dev.bus.data 0 (KMap.at t.dev.bus.data 0 0)
        shadow := t.dev.bus.shadow } ∧ s.Framed [.bus] [] t) ∧
  (∀ (s : State) (p : Fin 128) (w : Fin 8192) (val : Word), s.dev.fore.off = false →
    let sel := s.dev.tableSel .host p
    let addr := s.dev.tableAddr .host p / 8192 * 8192 + w
    s.dev.tableCount p ≠ 0 → s.dev.tableShut p sel addr = false →
    ∃ t, exec (.tableApertureAccess p w (some val)) s = .next t ∧ s.TableWordWritten t p sel addr val.toNat ∧
      t.dev.fget Reg.hdr_CFG_EPOCH p = (s.dev.fget Reg.hdr_CFG_EPOCH p + 1) % 2 ^ 32 ∧ t.pending = s.pending ∧ t.nv = s.nv ∧
      Dev.Framed [.tabs, .tctl, .till] [Reg.hdr_CFG_EPOCH.key p] s.dev t.dev) ∧
  (∀ (s : State) (p : Fin 128) (w : Fin 8192) (val : Word), s.dev.fore.off = false → s.dev.tableCount p ≠ 0 →
    s.dev.tableShut p (s.dev.tableSel .host p) (s.dev.tableAddr .host p / 8192 * 8192 + w) = true →
    ∃ t, exec (.tableApertureAccess p w (some val)) s = .next t ∧ t.dev.ErrHeld p 0xF0 0xC08 val.toNat ∧ s.Framed [] (errKeys p) t) ∧
  ∀ (s : State) (who : Requester) (p : Fin 128) (w : Fin 8192) (val : Word), s.dev.fore.off = false → s.dev.tableCount p = 0 →
    exec (.tableSelWrite who p val) s = .next s ∧ exec (.tableDataAccess who p (some val)) s = .next s ∧
    exec (.tableApertureAccess p w (some val)) s = .next s ∧
    (∃ t, exec (.tableDataAccess who p none) s = .next t ∧ t.dev.bus = { s.dev.bus with data := KMap.put s.dev.bus.data who.code 0 } ∧
      s.Framed [.bus] [] t) ∧
    (∃ t, exec (.tableApertureAccess p w none) s = .next t ∧ t.dev.bus = { s.dev.bus with data := KMap.put s.dev.bus.data 0 0 } ∧
      s.Framed [.bus] [] t)

/-- CRC, copy and swap of a table (R16, R84, R234, R473, R482, R484, R485). CRC_CHECK computes the CRC of the bank that the window reads, and CRC_DONE
shows it and lets the writes held meanwhile take effect. COPY makes the shadow bank equal to the active one; where shadow writes are discarded so is
it, with a record. SWAP only asks, and with CHECK_EN starts the CRC; it does nothing to a direct or read-only table. At SWAP_TAKE_EFFECT a pending
swap that passes its checks exchanges the banks; one that fails CHECK_EN or its owner's check leaves both as they are, shows LAST_REFUSED and raises
TABLE_REFUSED where the page has it. -/
def Obligations.TableCrcCopySwap : Prop :=
  (∀ (s : State) (who : Requester) (p : Fin 128), s.dev.fore.off = false → s.dev.flag Reg.hdr_FREEZE p = false →
    (s.dev.tableDef p (s.dev.tableSel who p)).isSome = true →
    let sel := s.dev.tableSel who p
    ∃ t, exec (.crcCheck who p) s = .next t ∧
      t.dev.tctlOf p sel = (if (s.dev.tctlOf p sel).crcBusy then s.dev.tctlOf p sel else { s.dev.tctlOf p sel with
        crcBusy := true, crcNext := crc32c (s.tableWords p sel) }) ∧
      (∀ k < 32, k ≠ sel → t.dev.tctlOf p k = s.dev.tctlOf p k) ∧
      t.dev.fget Reg.hdr_CFG_EPOCH p = (s.dev.fget Reg.hdr_CFG_EPOCH p + 1) % 2 ^ 32 ∧ s.Framed [.tctl] [Reg.hdr_CFG_EPOCH.key p] t) ∧
  (∀ (s : State) (who : Requester) (p : Fin 128), s.dev.fore.off = false → s.dev.flag Reg.hdr_FREEZE p = true →
    (∃ t, exec (.crcCheck who p) s = .next t ∧ t.dev.ErrHeld p 0xF0 (0xC0C + 4096 * who.code) 2 ∧ s.Framed [] (errKeys p) t) ∧
    (∃ t, exec (.copy who p) s = .next t ∧ t.dev.ErrHeld p 0xF0 (0xC0C + 4096 * who.code) 4 ∧ s.Framed [] (errKeys p) t) ∧
    (∃ t, exec (.swap who p) s = .next t ∧ t.dev.ErrHeld p 0xF0 (0xC0C + 4096 * who.code) 1 ∧ s.Framed [] (errKeys p) t)) ∧
  (∀ (s : State) (p : Fin 128) (sel : Fin 32) (td : TableDef), s.dev.fore.off = false →
    (∀ k < 32, (s.dev.tctlOf p k).crcBusy = decide (k = sel.val)) → s.dev.tableDef p sel = some td → td.kind = .banked →
    let held := (s.dev.tctlOf p sel).held
    ∃ t, exec (.crcDone p) s = .next t ∧
      t.dev.tctlOf p sel = { s.dev.tctlOf p sel with crcBusy := false, crc := (s.dev.tctlOf p sel).crcNext, held := [] } ∧
      (∀ k < 32, k ≠ sel.val → t.dev.tctlOf p k = s.dev.tctlOf p k) ∧
      (∀ l a v, held = l ++ [(a, v)] → t.dev.tshadow p sel a = heldWord p sel a v % 2 ^ 32) ∧
      s.dev.TabFramed (held.map fun w => tkey p sel (1 - (s.dev.tctlOf p sel).bank) w.1) t.dev ∧ s.Framed [.tctl, .tabs] [] t) ∧
  (∀ (s : State) (p : Fin 128) (sel : Fin 32), s.dev.fore.off = false →
    (∀ k < 32, (s.dev.tctlOf p k).crcBusy = decide (k = sel.val)) → (s.dev.tctlOf p sel).held = [] →
    ∃ t, exec (.crcDone p) s = .next t ∧
      t.dev.tctlOf p sel = { s.dev.tctlOf p sel with crcBusy := false, crc := (s.dev.tctlOf p sel).crcNext, held := [] } ∧
      (∀ k < 32, k ≠ sel.val → t.dev.tctlOf p k = s.dev.tctlOf p k) ∧ s.Framed [.tctl] [] t) ∧
  (∀ (s : State) (who : Requester) (p : Fin 128) (td : TableDef), s.dev.fore.off = false → s.dev.flag Reg.hdr_FREEZE p = false →
    let sel := s.dev.tableSel who p
    let c := s.dev.tctlOf p sel
    s.dev.tableDef p sel = some td → td.kind = .banked →
    ((td.expert = true → s.dev.expertOpen p = true) → c.swapPending = false → c.loadBusy = false →
      ∃ t, exec (.copy who p) s = .next t ∧ (∀ a < td.len, t.dev.tshadow p sel a = s.dev.tactive p sel a % 2 ^ 32) ∧
        s.dev.TabFramed ((List.range td.len).map fun a => tkey p sel (1 - c.bank) a) t.dev ∧
        t.dev.fget Reg.hdr_CFG_EPOCH p = (s.dev.fget Reg.hdr_CFG_EPOCH p + 1) % 2 ^ 32 ∧ s.Framed [.tabs] [Reg.hdr_CFG_EPOCH.key p] t) ∧
    ((td.expert = true ∧ s.dev.expertOpen p = false) ∨ c.swapPending = true ∨ c.loadBusy = true →
      ∃ t, exec (.copy who p) s = .next t ∧ t.dev.ErrHeld p 0xF0 (0xC0C + 4096 * who.code) 4 ∧
        s.Framed [] (Reg.hdr_CFG_EPOCH.key p :: errKeys p) t)) ∧
  (∀ (s : State) (who : Requester) (p : Fin 128) (td : TableDef), s.dev.fore.off = false → s.dev.flag Reg.hdr_FREEZE p = false →
    let sel := s.dev.tableSel who p
    let c := s.dev.tctlOf p sel
    s.dev.tableDef p sel = some td → td.kind = .banked →
    ∃ t, exec (.swap who p) s = .next t ∧
      t.dev.tctlOf p sel = (if c.swapPending then c else if c.checkEn && !c.crcBusy then { c with
        swapPending := true, crcBusy := true, crcNext := crc32c (s.tableWords p sel) } else { c with swapPending := true }) ∧
      (∀ k < 32, k ≠ sel → t.dev.tctlOf p k = s.dev.tctlOf p k) ∧ s.Framed [.tctl] [Reg.hdr_CFG_EPOCH.key p] t) ∧
  (∀ (s : State) (who : Requester) (p : Fin 128) (td : TableDef), s.dev.fore.off = false → s.dev.flag Reg.hdr_FREEZE p = false →
    s.dev.tableDef p (s.dev.tableSel who p) = some td → td.kind ≠ .banked →
    (∃ t, exec (.swap who p) s = .next t ∧ s.Framed [] [Reg.hdr_CFG_EPOCH.key p] t) ∧
    (∃ t, exec (.copy who p) s = .next t ∧ s.Framed [] [Reg.hdr_CFG_EPOCH.key p] t)) ∧
  (∀ (s : State) (p : Fin 128) (sel : Fin 32), s.dev.fore.off = false → s.dev.qm.loads = [] →
    (∀ q ∈ swapPages p, ∀ k < 32, (s.dev.tctlOf q k).swapPending = (decide (q = p.val) && decide (k = sel.val))) →
    (s.dev.tctlOf p sel).crcBusy = false → (s.dev.tctlOf p sel).bank < 2 →
    ((s.dev.tctlOf p sel).checkEn = true → crc32c (s.tableWords p sel) = (s.dev.tctlOf p sel).expect) → s.swapBad p sel = false →
    ∃ t, exec (.swapTakeEffect p) s = .next t ∧ (t.dev.tctlOf p sel).bank = 1 - (s.dev.tctlOf p sel).bank ∧
      (t.dev.tctlOf p sel).swapPending = false ∧ (t.dev.tctlOf p sel).lastRefused = false ∧
      (∀ a < 4096, t.dev.tactive p sel a = s.dev.tshadow p sel a ∧ t.dev.tshadow p sel a = s.dev.tactive p sel a) ∧
      (∀ k < 32, k ≠ sel.val → t.dev.tctlOf p k = s.dev.tctlOf p k) ∧
      t.dev.fget Reg.hdr_CFG_EPOCH p = (s.dev.fget Reg.hdr_CFG_EPOCH p + 1) % 2 ^ 32 ∧
      s.Framed (if p.val = 24 then [.tctl, .chains] else [.tctl]) [Reg.hdr_CFG_EPOCH.key p] t) ∧
  ∀ (s : State) (p : Fin 128) (sel : Fin 32), s.dev.fore.off = false → s.dev.qm.loads = [] →
    (∀ q ∈ swapPages p, ∀ k < 32, (s.dev.tctlOf q k).swapPending = (decide (q = p.val) && decide (k = sel.val))) →
    (s.dev.tctlOf p sel).crcBusy = false →
    ((s.dev.tctlOf p sel).checkEn = true ∧ crc32c (s.tableWords p sel) ≠ (s.dev.tctlOf p sel).expect ∨
      (s.dev.tctlOf p sel).checkEn = false ∧ s.swapBad p sel = true) →
    ∃ t, exec (.swapTakeEffect p) s = .next t ∧ (t.dev.tctlOf p sel).bank = (s.dev.tctlOf p sel).bank ∧
      (t.dev.tctlOf p sel).swapPending = false ∧ (t.dev.tctlOf p sel).lastRefused = true ∧
      (∀ k < 32, k ≠ sel.val → t.dev.tctlOf p k = s.dev.tctlOf p k) ∧
      (∀ b, tableRefusedBit p = some b → t.dev.Raised p b) ∧ s.Framed (.tctl :: eventParts) (eventKeys p) t

/-- TABLE_LOAD (R364, R486, R487, R488). An image whose reads were abandoned completes with ABORTED, one that is refused with its status, and nothing is
written. Of an image that is not refused and whose CHECKs hold, every section is written into its table's shadow bank, over the active bank's words
where MERGE is set and over zeros where it is not; its table is held, and the command stays outstanding. A CHECK that fails ends the command.
TABLE_LOAD_SECTIONS_DONE of a load without swap frees its tables and completes it; of a load with swap it asks for the swaps, and SWAP_TAKE_EFFECT
completes it. -/
def Obligations.TableLoadCommand : Prop :=
  (∀ (s : State) (q : BitVec 16) (entry image : List Word), s.dev.fore.off = false → s.dev.TakesCmd q.toNat 0x30 (entryWords entry) →
    let len := (entryWords entry).getD 3 0
    let st := if 4 * image.length < len then 4 else s.dev.imgStatus (image.map BitVec.toNat) len
    st ≠ 0 →
    ∃ t, exec (.tableLoad q entry image) s = .next t ∧ s.dev.CompletedCmd t.dev q.toNat (entryWords entry) st 0 ∧ s.Framed eventParts cmdKeys t) ∧
  (∀ (s : State) (q : BitVec 16) (entry image : List Word) (xs : List ImgSection), s.dev.fore.off = false →
    s.dev.TakesCmd q.toNat 0x30 (entryWords entry) → (entryWords entry).getD 3 0 ≤ 4 * image.length →
    s.dev.imgStatus (image.map BitVec.toNat) ((entryWords entry).getD 3 0) = 0 →
    imgParse (image.map BitVec.toNat) ((entryWords entry).getD 3 0) = some xs →
    (∀ x ∈ xs, ∀ td, s.dev.tableDef x.page x.sel = some td → x.check = true → crc32c (s.dev.sectionImage x td.len) = x.expect) →
    ∃ t, exec (.tableLoad q entry image) s = .next t ∧
      (∀ x ∈ xs, ∀ td, s.dev.tableDef x.page x.sel = some td →
        (∀ a < td.len, t.dev.tshadow x.page x.sel a = (s.dev.sectionImage x td.len).getD a 0) ∧
        (t.dev.tctlOf x.page x.sel).crc = crc32c (s.dev.sectionImage x td.len) ∧ (t.dev.tctlOf x.page x.sel).loadBusy = true ∧
        (t.dev.tctlOf x.page x.sel).bank = (s.dev.tctlOf x.page x.sel).bank) ∧
      s.dev.TabFramed (xs.flatMap fun x => (List.range (((s.dev.tableDef x.page x.sel).map fun td => td.len).getD 0)).map fun a =>
        tkey x.page x.sel (1 - (s.dev.tctlOf x.page x.sel).bank) a) t.dev ∧
      t.dev.qm.cmds.length = 1 ∧ (t.dev.qctx q.toNat).head = ((s.dev.qctx q.toNat).head + 1) % 2 ^ 32 ∧
      s.Framed [.tabs, .tctl, .qm] ((xs.map fun x => Reg.hdr_CFG_EPOCH.key x.page) ++ cmdKeys) t) ∧
  (∀ (s : State) (q : BitVec 16) (entry image : List Word) (x : ImgSection) (td : TableDef), s.dev.fore.off = false →
    s.dev.TakesCmd q.toNat 0x30 (entryWords entry) → (entryWords entry).getD 3 0 ≤ 4 * image.length →
    s.dev.imgStatus (image.map BitVec.toNat) ((entryWords entry).getD 3 0) = 0 →
    imgParse (image.map BitVec.toNat) ((entryWords entry).getD 3 0) = some [x] → s.dev.tableDef x.page x.sel = some td →
    x.check = true → crc32c (s.dev.sectionImage x td.len) ≠ x.expect →
    ∃ t, exec (.tableLoad q entry image) s = .next t ∧
      s.dev.CompletedCmd t.dev q.toNat (entryWords entry) 6 (crc32c (s.dev.sectionImage x td.len)) ∧
      (∀ a < td.len, t.dev.tshadow x.page x.sel a = (s.dev.sectionImage x td.len).getD a 0) ∧ (t.dev.tctlOf x.page x.sel).loadBusy = false ∧
      s.dev.TabFramed ((List.range td.len).map fun a => tkey x.page x.sel (1 - (s.dev.tctlOf x.page x.sel).bank) a) t.dev ∧
      s.Framed (.tabs :: .tctl :: eventParts) (Reg.hdr_CFG_EPOCH.key x.page :: cmdKeys) t) ∧
  (∀ (s : State) (c : Cmd) (p sel : Nat) (l : TableLoad), s.dev.fore.off = false → s.dev.Outstanding c → s.dev.qm.loads = [l] → l.cmd = c.id →
    l.tables = [(p, sel)] → l.waiting = none →
    (l.swap = false →
      ∃ t, exec .tableLoadSectionsDone s = .next t ∧ s.dev.PostedCmd t.dev c 0 l.result ∧
        t.dev.tctlOf p sel = { s.dev.tctlOf p sel with loadBusy := false } ∧
        t.dev.qm.loads = [] ∧ s.Framed (.tctl :: eventParts) cmdKeys t) ∧
    (l.swap = true → (s.dev.tctlOf p sel).swapPending = false → (s.dev.tctlOf p sel).checkEn = false →
      ∃ t, exec .tableLoadSectionsDone s = .next t ∧ t.dev.tctlOf p sel = { s.dev.tctlOf p sel with swapPending := true } ∧
        t.dev.qm = { s.dev.qm with loads := [{ l with waiting := some [(p, sel)] }] } ∧ s.Framed [.tctl, .qm] [] t)) ∧
  ∀ (s : State) (c : Cmd) (p : Fin 128) (sel : Fin 32) (l : TableLoad), s.dev.fore.off = false → s.dev.Outstanding c → s.dev.qm.loads = [l] →
    l.cmd = c.id → l.tables = [(p.val, sel.val)] → l.waiting = some [(p.val, sel.val)] → l.refused = false →
    (∀ q ∈ swapPages p, ∀ k < 32, (s.dev.tctlOf q k).swapPending = (decide (q = p.val) && decide (k = sel.val))) →
    (s.dev.tctlOf p sel).crcBusy = false → (s.dev.tctlOf p sel).checkEn = false → p.val ≠ 24 →
    ∃ t, exec (.swapTakeEffect p) s = .next t ∧ s.dev.PostedCmd t.dev c (Bool.bit (s.swapBad p sel)) l.result ∧
      (t.dev.tctlOf p sel).bank = (if s.swapBad p sel then (s.dev.tctlOf p sel).bank else 1 - (s.dev.tctlOf p sel).bank) ∧
      (t.dev.tctlOf p sel).loadBusy = false ∧ (t.dev.tctlOf p sel).swapPending = false ∧
      (t.dev.tctlOf p sel).lastRefused = s.swapBad p sel ∧ t.dev.qm.loads = [] ∧
      s.Framed (.tctl :: eventParts) (Reg.hdr_CFG_EPOCH.key p :: cmdKeys ++ eventKeys p) t

/-- The search and lock of a DLL (R45, R49). A search starts with a measurement of CLK_S where there is a frequency reference, and over bands 7 down to 0
where there is none, with the dither as configured. A trial that finds fine lock keeps its band; one that does not passes to the next. DLL_LOCK while
the slice clock runs locks it at its code, held within 4,096 codes of the nominal one of the frequency that is known (R510); that is the last good
code; its part of DEGRADED ends; the first lock since reset begins a stream run. A lock timeout counts; the first and second restart the search; the
third raises DLL_FAIL and holds the DLL on its last good code, with CLK degraded, or leaves it to the 1 ms retry where it has none. A locked DLL (R47
to R50). Losing lock starts a search and raises DLL_UNLOCK; a handover, within 1.5 % of the edge of its band, moves it to the adjacent band at the
code that the code map gives, still locked, and counts in the Tally (at the counter that the model's log entry 7 leaves open); RELOCK searches on
every DLL in HOLD and on no other; RESEED loads every dither LFSR with its seed and disturbs no lock. -/
def Obligations.Dlls : Prop :=
  ((∀ (s : State) (g : Fin 4), s.dev.fore.off = false → s.dev.flag Reg.clk_CLKS_PRESENT = true → (s.dev.dll g).phase ≠ .locked →
     (s.dev.dll g).phase ≠ .hold →
     ∃ t, exec (.dllBandSearch g) s = .next t ∧ (t.dev.dll g).phase = .searching ∧ (t.dev.dll g).measuring = s.dev.freqRef ∧
       (t.dev.dll g).trials = (if s.dev.freqRef then [] else [7, 6, 5, 4, 3, 2, 1, 0]) ∧ (t.dev.dll g).dither = s.dev.flag Reg.clk_DITHER_EN ∧
       (s.dev.flag Reg.clk_DITHER_EN = true → (t.dev.dll g).lfsr = ditherSeed (s.dev.fget Reg.clk_DITHER_SEED) g) ∧
       (∀ k < 4, k ≠ g.val → t.dev.dll k = s.dev.dll k) ∧ s.Framed [.clk] (dllKeys g) t) ∧
   (∀ (s : State) (g : Fin 4) (found : Bool), s.dev.fore.off = false → (s.dev.dll g).phase = .searching → (s.dev.dll g).trials ≠ [] →
     ∃ t, exec (.dllBandTrialEnd g found) s = .next t ∧
       (found = true → (t.dev.dll g).band = (s.dev.dll g).trials.headD 0 ∧ (t.dev.dll g).trials = (s.dev.dll g).trials.take 1) ∧
       (found = false → (t.dev.dll g).band = (s.dev.dll g).band ∧ (t.dev.dll g).trials = (s.dev.dll g).trials.drop 1) ∧
       (t.dev.dll g).phase = .searching ∧ s.Framed [.clk] (dllKeys g) t) ∧
   (∀ (s : State) (g : Fin 4) (fine : BitVec 16), s.dev.fore.off = false → (s.dev.dll g).phase = .searching → s.dev.sliceClock = true →
     ∃ t, exec (.dllLock g fine) s = .next t ∧
       t.dev.dll g = { s.dev.dll g with
         phase := .locked, fine := (t.dev.dll g).fine, good := some ((s.dev.dll g).band, (t.dev.dll g).fine), trials := [], measuring := false, expiries := 0 } ∧
       (s.dev.lastKhz = none → (t.dev.dll g).fine = fine.toNat) ∧
       (∀ khz, s.dev.lastKhz = some khz →
         let nominal := nominalFine (s.dev.dll g).band khz
         nominal ≤ (t.dev.dll g).fine + 4096 ∧ (t.dev.dll g).fine ≤ nominal + 4096 ∧
         (nominal ≤ fine.toNat + 4096 → fine.toNat ≤ nominal + 4096 → (t.dev.dll g).fine = fine.toNat)) ∧
       (∀ k < 4, k ≠ g.val → t.dev.dll k = s.dev.dll k) ∧
       (s.dev.loom.everRun = false → t.dev.loom.everRun = true ∧ t.dev.loom.run = some 0 ∧ t.dev.loom.prev = none ∧ t.dev.loom.cur = none ∧
         t.dev.loom.swapped = 0 ∧ t.dev.flag Reg.loom_MODE_READY = false) ∧
       ((∀ k < 4, k ≠ g.val → (s.dev.dll k).phase = .locked) → t.dev.flag Reg.top_DLL_LOCK = true) ∧
       ((s.dev.flag Reg.top_DLL_LOCK = true ∨ ∃ k : Fin 4, k ≠ g ∧ (s.dev.dll k).phase ≠ .locked) →
         s.Framed (if s.dev.loom.everRun then [.clk, .degraded] else [.clk, .degraded, .loom])
           ((if s.dev.loom.everRun then [] else [Reg.loom_MODE_READY.key 0]) ++ dllKeys g) t) ∧
       t.pending = s.pending ∧ t.nv = s.nv ∧ t.hbm = s.hbm) ∧
   (∀ (s : State) (g : Fin 4), s.dev.fore.off = false → (s.dev.dll g).phase = .searching →
     ∃ t, exec (.dllLockTimeout g) s = .next t ∧ t.dev.fget Reg.hdr_TIMEOUT_COUNT 5 = satAdd 32 (s.dev.fget Reg.hdr_TIMEOUT_COUNT 5) 1 ∧
       ((s.dev.dll g).expiries < 2 → (t.dev.dll g).phase = .searching ∧ (t.dev.dll g).expiries = (s.dev.dll g).expiries + 1 ∧
         (t.dev.dll g).measuring = s.dev.freqRef ∧ (t.dev.dll g).trials = (if s.dev.freqRef then [] else [7, 6, 5, 4, 3, 2, 1, 0]) ∧
         t.dev.fget Reg.hdr_RECOVERY_COUNT 5 = satAdd 32 (s.dev.fget Reg.hdr_RECOVERY_COUNT 5) 1 ∧ t.dev.ErrHeld 5 0xF1 g 0 ∧
         s.Framed [.clk] (Reg.hdr_TIMEOUT_COUNT.key 5 :: Reg.hdr_RECOVERY_COUNT.key 5 :: dllKeys g ++ errKeys 5) t) ∧
       (2 ≤ (s.dev.dll g).expiries → t.dev.Raised 5 (Ev.clk_DLL_FAIL + g) ∧ t.dev.ErrHeld 5 (Ev.clk_DLL_FAIL + g) g 0 ∧
         ((s.dev.dll g).good.isSome = true → (t.dev.dll g).phase = .hold ∧
           some ((t.dev.dll g).band, (t.dev.dll g).fine) = (s.dev.dll g).good ∧ t.dev.isDegraded 5 = true) ∧
         ((s.dev.dll g).good.isSome = true → andNot (KMap.at s.dev.fore.degraded 0 5) 15 ≠ KMap.at s.dev.fore.degraded 0 5 → t.dev.isContained 5 = true) ∧
         ((s.dev.dll g).good = none → (t.dev.dll g).phase = .searching ∧ (t.dev.dll g).trials = [] ∧ 3 ≤ (t.dev.dll g).expiries) ∧
         (∀ k < 4, k ≠ g.val → t.dev.dll k = s.dev.dll k) ∧
         s.Framed (.clk :: .degraded :: .contained :: .fore :: eventParts)
           (Reg.hdr_TIMEOUT_COUNT.key 5 :: Reg.hdr_RECOVERY_COUNT.key 5 :: dllKeys g ++ errKeys 5 ++ eventKeys 5) t)) ∧
   ∀ (s : State) (g : Fin 4), s.dev.fore.off = false → (s.dev.dll g).phase = .searching → (s.dev.dll g).good = none → 3 ≤ (s.dev.dll g).expiries →
     ∃ t, exec (.dllRetryTimer g) s = .next t ∧ (t.dev.dll g).phase = .searching ∧ (t.dev.dll g).measuring = s.dev.freqRef ∧
       (t.dev.dll g).trials = (if s.dev.freqRef then [] else [7, 6, 5, 4, 3, 2, 1, 0]) ∧ (∀ k < 4, k ≠ g.val → t.dev.dll k = s.dev.dll k) ∧
       t.dev.fget Reg.hdr_RECOVERY_COUNT 5 = satAdd 32 (s.dev.fget Reg.hdr_RECOVERY_COUNT 5) 1 ∧
       s.Framed [.clk] (Reg.hdr_RECOVERY_COUNT.key 5 :: dllKeys g) t) ∧
  ((∀ (s : State) (g : Fin 4), s.dev.fore.off = false → (s.dev.dll g).phase = .locked →
     ∃ t, exec (.dllUnlock g) s = .next t ∧ (t.dev.dll g).phase = .searching ∧ (t.dev.dll g).measuring = s.dev.freqRef ∧
       (t.dev.dll g).trials = (if s.dev.freqRef then [] else [7, 6, 5, 4, 3, 2, 1, 0]) ∧ t.dev.Raised 5 (Ev.clk_DLL_UNLOCK + g) ∧
       (s.dev.freqRef = true → (∀ k < 4, k ≠ g.val → t.dev.dll k = s.dev.dll k) ∧ s.Framed (.clk :: eventParts) (dllKeys g ++ eventKeys 5) t) ∧
       (s.dev.freqRef = false → (∀ k < 4, ∀ r, KMap.find s.dev.assay.runs k = some r → r.phase = .live →
         t.dev.flag Reg.assay_WAIT_STEADY k = true ∧ t.dev.Raised 17 Ev.assay_TRAIN_RESTART) ∧
         s.Framed (.clk :: .assay :: eventParts)
           (dllKeys g ++ eventKeys 5 ++ eventKeys 17 ++ (List.range 4).map fun k => Reg.assay_WAIT_STEADY.key k) t)) ∧
   (∀ (s : State) (g : Fin 4) (up : Bool), s.dev.fore.off = false → (s.dev.dll g).phase = .locked →
     (if up then (s.dev.dll g).band < 7 ∧ (s.dev.dll g).fine * 1000 ≤ 15 * 65535 else 0 < (s.dev.dll g).band ∧ (65535 - (s.dev.dll g).fine) * 1000 ≤ 15 * 65535) →
     ∃ t, exec (.dllHandover g up) s = .next t ∧ (t.dev.dll g).phase = .locked ∧
       (t.dev.dll g).band = (if up then (s.dev.dll g).band + 1 else (s.dev.dll g).band - 1) ∧
       (t.dev.dll g).fine = bitField (s.dev.tget 17 2 0 (8 * g + (s.dev.dll g).band)) (if up then 0 else 16) 16 ∧
       (t.dev.dll g).good = some ((t.dev.dll g).band, (t.dev.dll g).fine) ∧ (∀ k < 4, k ≠ g.val → t.dev.dll k = s.dev.dll k) ∧
       t.dev.tally = (s.dev.tallyCount 19 (1 + Config.handoverCounter % 63) 1).tally ∧
       s.Framed (.clk :: .tally :: eventParts) (dllKeys g ++ countKeys 19 ++ countKeys 23) t) ∧
   (∀ (s : State) (who : Requester), s.dev.fore.off = false → s.dev.flag Reg.hdr_FREEZE 5 = false →
     ∃ t, exec (.relock who) s = .next t ∧
       (∀ g < 4, ((s.dev.dll g).phase = .hold → (t.dev.dll g).phase = .searching ∧ (t.dev.dll g).expiries = 0) ∧
         ((s.dev.dll g).phase ≠ .hold → t.dev.dll g = s.dev.dll g)) ∧
       s.Framed [.clk] (Reg.hdr_CFG_EPOCH.key 5 :: dllKeys 0 ++ dllKeys 1 ++ dllKeys 2 ++ dllKeys 3) t) ∧
   ∀ (s : State) (who : Requester), s.dev.fore.off = false → s.dev.flag Reg.hdr_FREEZE 5 = false →
     ∃ t, exec (.reseed who) s = .next t ∧
       (∀ g < 4, t.dev.dll g = { s.dev.dll g with
         dither := s.dev.flag Reg.clk_DITHER_EN
         lfsr := if s.dev.flag Reg.clk_DITHER_EN then ditherSeed (s.dev.fget Reg.clk_DITHER_SEED) g else (s.dev.dll g).lfsr }) ∧
       s.Framed [.clk] (Reg.hdr_CFG_EPOCH.key 5 :: dllKeys 0 ++ dllKeys 1 ++ dllKeys 2 ++ dllKeys 3) t)

/-- One step of a 32-bit LFSR (R507): bit i takes the old bit i − 1, bit 0 the exclusive or of the old bits 31, 21, 1 and 0, and the old bit 31 leaves the
register. -/
def Obligations.LfsrStep : Prop :=
  ∀ (w i : Nat), w < 2 ^ 32 →
    (lfsrStep w).testBit i = if i = 0 then ((w.testBit 31 ^^ w.testBit 21) ^^ w.testBit 1) ^^ w.testBit 0
      else if i < 32 then w.testBit (i - 1) else false

/-- CLK_S (R2, R25, R49, R63, R65, R66, R93, R511). Its loss stops the DLLs, the stream run and STEADY and raises CLKS_LOST. Where the monitor or a locked
DLL shows it out of range, locked DLLs search, the slice clock stops, and CLKS_RANGE is raised. Its return after it has been seen continues the tick
count, begins an epoch whose entry carries minus the gap, or 0 without an island reference, with the phase correction where a discipline source is
valid, begins a stream run, and a DLL in HOLD searches. Island clocks and their reference (R2, R26, R45, R46, R52 to R55). A PLL lock shows in
ISL_LOCK and ends the fallback; a loss of lock shows in ISL_FALLBACK, is raised and recorded; a slow relock degrades CLK. The loss of the source in
use moves the reference to the next valid one, through holdover; a source that becomes valid takes its place in the order; ISLREF_RESUME ends
holdover; a gate shows the mean of the last 100 gates, gives the searches that wait for a measurement their bands, is followed by the locked DLLs, and
shows a CLK_S outside the part's range. -/
def Obligations.SampleClockAndIslands : Prop :=
  ((∀ s : State, s.dev.fore.off = false → s.dev.flag Reg.clk_CLKS_PRESENT = true →
     ∃ t, exec .clksLost s = .next t ∧ t.dev.flag Reg.clk_CLKS_PRESENT = false ∧ t.dev.sliceClock = false ∧ t.dev.flag Reg.clk_STEADY = false ∧
       t.dev.fget Reg.clk_KHZ = 0 ∧ t.dev.clk.gates = [] ∧ t.dev.flag Reg.loom_MODE_READY = false ∧
       (∀ g < 4, t.dev.dll g = { s.dev.dll g with phase := .noClock, trials := [], measuring := false, expiries := 0 }) ∧ t.dev.loom.run = none ∧
       t.dev.Raised 5 Ev.clk_CLKS_LOST ∧
       (s.dev.loom.cur = none → s.dev.loom.quiet = [] → t.dev.loom = { s.dev.loom with run := none, prev := none, cur := none } ∧
         s.Framed (.clk :: .loom :: eventParts) ([Reg.clk_CLKS_PRESENT.key 0, Reg.clk_CLKS_RANGE_ERR.key 0, Reg.clk_STEADY.key 0, Reg.clk_KHZ.key 0,
           Reg.loom_MODE_READY.key 0, Reg.clk_ISLREF_CLKS.key 0, Reg.clk_ISLREF_HOLDOVER.key 0] ++ dllKeys 0 ++ dllKeys 1 ++ dllKeys 2 ++ dllKeys 3 ++
           eventKeys 5) t) ∧
       t.pending = s.pending ∧ t.nv = s.nv ∧ t.hbm = s.hbm) ∧
   (∀ s : State, s.dev.fore.off = false → s.dev.flag Reg.clk_CLKS_RANGE_ERR = false → s.dev.rangeDecides = true →
     ∃ t, exec .clksRange s = .next t ∧ t.dev.flag Reg.clk_CLKS_RANGE_ERR = true ∧ t.dev.flag Reg.clk_CLKS_PRESENT = true ∧
       t.dev.sliceClock = false ∧ t.dev.flag Reg.loom_MODE_READY = false ∧
       (∀ g < 4, (t.dev.dll g).phase = (if (s.dev.dll g).phase = .locked then .searching else (s.dev.dll g).phase)) ∧ t.dev.loom.run = none ∧
       t.dev.Raised 5 Ev.clk_CLKS_RANGE ∧
       (s.dev.loom.cur = none → s.dev.loom.quiet = [] → t.dev.loom = { s.dev.loom with run := none, prev := none, cur := none } ∧
         s.Framed (.clk :: .loom :: eventParts) ([Reg.clk_CLKS_PRESENT.key 0, Reg.clk_CLKS_RANGE_ERR.key 0, Reg.loom_MODE_READY.key 0,
           Reg.clk_ISLREF_CLKS.key 0, Reg.clk_ISLREF_HOLDOVER.key 0] ++ dllKeys 0 ++ dllKeys 1 ++ dllKeys 2 ++ dllKeys 3 ++ eventKeys 5) t) ∧
       t.pending = s.pending ∧ t.nv = s.nv ∧ t.hbm = s.hbm) ∧
   (∀ (s : State) (gap : Nat) (phase : Int), s.dev.fore.off = false → s.dev.clksOk = false → (∀ khz, s.dev.lastKhz = some khz → khzOut khz = false) →
     s.dev.clk.seen = true → s.dev.tb.openEntry = none → s.dev.tb.acc < 2 ^ 96 →
     let ph : Int := if s.dev.flag Reg.tbase_REF_VALID then phase else 0
     let off : Int := (if s.dev.fget Reg.clk_ISLREF_SRC = 3 then 0 else -(gap : Int) * 65536) + ph
     let e := (s.dev.fget Reg.tbase_EPOCH + 1) % 65536
     ∃ t, exec (.clksReturn gap phase) s = .next t ∧ t.dev.clksOk = true ∧ t.dev.fget Reg.tbase_EPOCH = e ∧
       (ph = 0 → t.dev.tb.acc = s.dev.tb.acc) ∧ t.dev.tb.acc = (((s.dev.tb.acc : Int) + ph * 65536) % (2 ^ 96 : Nat)).toNat ∧
       (∀ k < 8, t.dev.tget 6 0 0 (e % 4096 * 8 + k) = (epochEntry e (2 ^ causeGap) (t.dev.tb.acc / 2 ^ 32 % 2 ^ 64) off).getD k 0 % 2 ^ 32) ∧
       s.dev.TabFramed ((List.range 8).map fun k => tkey 6 0 0 (e % 4096 * 8 + k)) t.dev ∧ t.dev.Raised 6 Ev.tbase_EPOCH_INC ∧
       t.dev.loom = { s.dev.loom with run := some 0, prev := none, cur := none, lastGood := [], swapped := 0 } ∧
       t.dev.flag Reg.loom_MODE_READY = false ∧
       (∀ g < 4, (t.dev.dll g).phase = (if (s.dev.dll g).phase = .hold then .searching else (s.dev.dll g).phase)) ∧
       s.Framed (.clk :: .loom :: .tb :: .tabs :: eventParts) ([Reg.clk_CLKS_PRESENT.key 0, Reg.clk_CLKS_RANGE_ERR.key 0, Reg.loom_MODE_READY.key 0,
         Reg.clk_ISLREF_CLKS.key 0, Reg.clk_ISLREF_HOLDOVER.key 0, Reg.tbase_EPOCH.key 0] ++ dllKeys 0 ++ dllKeys 1 ++ dllKeys 2 ++ dllKeys 3 ++
         eventKeys 6) t) ∧
   ∀ (s : State) (gap : Nat) (phase : Int), s.dev.fore.off = false → s.dev.clksOk = false → (∀ khz, s.dev.lastKhz = some khz → khzOut khz = false) →
     s.dev.clk.seen = false →
     ∃ t, exec (.clksReturn gap phase) s = .next t ∧ t.dev.clksOk = true ∧ t.dev.clk.seen = true ∧
       s.Framed [.clk] ([Reg.clk_CLKS_PRESENT.key 0, Reg.clk_CLKS_RANGE_ERR.key 0, Reg.clk_ISLREF_CLKS.key 0, Reg.clk_ISLREF_HOLDOVER.key 0] ++
         dllKeys 0 ++ dllKeys 1 ++ dllKeys 2 ++ dllKeys 3) t) ∧
  ((∀ (s : State) (i : Fin 44), s.dev.fore.off = false → s.dev.flag Reg.top_ISL_PLL_LOCK = true → s.dev.flag Reg.top_CAL_LOADED = true →
     ∃ t, exec (.islPllLock i) s = .next t ∧ t.dev.islLocked i = true ∧
       bitAt (t.dev.fget64 Reg.clk_ISL_FALLBACK_W0 Reg.clk_ISL_FALLBACK_W1) i = false ∧
       s.Framed [.clk, .degraded] (if i.val < 32 then [Reg.clk_ISL_LOCK_W0.key 0, Reg.clk_ISL_FALLBACK_W0.key 0]
         else [Reg.clk_ISL_LOCK_W1.key 0, Reg.clk_ISL_FALLBACK_W1.key 0]) t) ∧
   (∀ (s : State) (i : Fin 44), s.dev.fore.off = false →
     ∃ t, exec (.islClkFallback i) s = .next t ∧ t.dev.islLocked i = false ∧
       bitAt (t.dev.fget64 Reg.clk_ISL_FALLBACK_W0 Reg.clk_ISL_FALLBACK_W1) i = true ∧ t.dev.Raised 5 Ev.clk_ISL_CLK_FALLBACK ∧
       t.dev.ErrHeld 5 Ev.clk_ISL_CLK_FALLBACK i 0 ∧
       s.Framed eventParts ([Reg.clk_ISL_LOCK_W0.key 0, Reg.clk_ISL_FALLBACK_W0.key 0, Reg.clk_ISL_LOCK_W1.key 0, Reg.clk_ISL_FALLBACK_W1.key 0,
         Reg.hdr_RECOVERY_COUNT.key 5] ++ errKeys 5 ++ eventKeys 5) t) ∧
   (∀ (s : State) (i : Fin 44), s.dev.fore.off = false → s.dev.islLocked i = false →
     ∃ t, exec (.islPllRetry i) s = .next t ∧ t.dev.clk = { s.dev.clk with slowRelock := s.dev.clk.slowRelock ||| 2 ^ i.val } ∧
       t.dev.fget Reg.hdr_TIMEOUT_COUNT 5 = satAdd 32 (s.dev.fget Reg.hdr_TIMEOUT_COUNT 5) 1 ∧
       (bitAt s.dev.clk.slowRelock i = false → t.dev.isDegraded 5 = true ∧
         (bitAt (KMap.at s.dev.fore.degraded 0 5) 4 = true → t.dev.isContained 5 = true) ∧
         s.Framed [.clk, .degraded, .contained, .fore] [Reg.hdr_TIMEOUT_COUNT.key 5] t) ∧
       (bitAt s.dev.clk.slowRelock i = true → s.Framed [.clk] [Reg.hdr_TIMEOUT_COUNT.key 5] t)) ∧
   (∀ (s : State) (src : IslSource), s.dev.fore.off = false → s.dev.fget Reg.clk_FORCE = 0 → s.dev.fget Reg.clk_ISLREF_SRC = src.code →
     let ok := fun (k : Nat) => k != src.code && KMap.at s.dev.clk.srcValid false k
     let new := if ok 0 then 0 else if ok 1 then 1 else if ok 2 then 2 else 3
     ∃ t, exec (.islrefLost src) s = .next t ∧ t.dev.fget Reg.clk_ISLREF_SRC = new ∧
       (new ≠ 3 → t.dev.flag Reg.clk_ISLREF_HOLDOVER = true) ∧ (new = 3 → t.dev.flag Reg.clk_STEADY = false ∧ t.dev.fget Reg.clk_KHZ = 0) ∧
       t.dev.Raised 5 Ev.clk_ISLREF_CHANGE ∧
       s.Framed (.clk :: eventParts) ([Reg.clk_ISLREF_SRC.key 0, Reg.clk_ISLREF_HOLDOVER.key 0, Reg.clk_ISLREF_CLKS.key 0, Reg.clk_STEADY.key 0,
         Reg.clk_KHZ.key 0] ++ eventKeys 5) t) ∧
   (∀ (s : State) (src : IslSource), s.dev.fore.off = false → s.dev.fget Reg.clk_FORCE = 0 → s.dev.fget Reg.clk_ISLREF_SRC = s.dev.islrefSelect →
     ∃ t, exec (.islrefSourceValid src) s = .next t ∧ t.dev.fget Reg.clk_ISLREF_SRC = min (s.dev.fget Reg.clk_ISLREF_SRC) src.code ∧
       (src.code < s.dev.fget Reg.clk_ISLREF_SRC → t.dev.Raised 5 Ev.clk_ISLREF_CHANGE) ∧
       s.Framed (.clk :: eventParts) ([Reg.clk_ISLREF_SRC.key 0, Reg.clk_ISLREF_HOLDOVER.key 0, Reg.clk_ISLREF_CLKS.key 0] ++ eventKeys 5) t) ∧
   (∀ s : State, s.dev.fore.off = false → s.dev.fget Reg.clk_ISLREF_SRC ≠ 3 →
     ∃ t, exec .islrefResume s = .next t ∧ t.dev.flag Reg.clk_ISLREF_HOLDOVER = false ∧ s.Framed [] [Reg.clk_ISLREF_HOLDOVER.key 0] t) ∧
   (∀ (s : State) (khz : Nat), s.dev.fore.off = false → s.dev.fget Reg.clk_ISLREF_SRC ≠ 3 → s.dev.assay.runs = [] → s.dev.assay.fg = [] →
     s.dev.assay.fgKhz = [] → khzOut khz = false →
     let gs := (khz :: s.dev.clk.gates).take 100
     ∃ t, exec (.freqGateEnd khz) s = .next t ∧ t.dev.fget Reg.clk_KHZ = (2 * gs.sum + gs.length) / (2 * gs.length) % 2 ^ 32 ∧
       t.dev.flag Reg.clk_STEADY = steadyGates gs ∧ t.dev.clk = { s.dev.clk with gates := gs, dlls := t.dev.clk.dlls } ∧
       (∀ g < 4, (t.dev.dll g).phase = (s.dev.dll g).phase ∧ (t.dev.dll g).band = (s.dev.dll g).band ∧
         ((s.dev.dll g).phase = .searching → (s.dev.dll g).measuring = true →
           (t.dev.dll g).measuring = false ∧ (t.dev.dll g).trials = trialBands (some khz)) ∧
         ((s.dev.dll g).phase ≠ .locked ∨ s.dev.clk.gates.headD khz = khz → (t.dev.dll g).fine = (s.dev.dll g).fine) ∧
         ((s.dev.dll g).phase = .locked → s.dev.clk.gates.headD khz ≠ khz →
           nominalFine (s.dev.dll g).band khz ≤ (t.dev.dll g).fine + 4096 ∧ (t.dev.dll g).fine ≤ nominalFine (s.dev.dll g).band khz + 4096)) ∧
       s.Framed [.clk] ([Reg.clk_KHZ.key 0, Reg.clk_STEADY.key 0] ++ dllKeys 0 ++ dllKeys 1 ++ dllKeys 2 ++ dllKeys 3) t) ∧
   ∀ (s : State) (khz : Nat), s.dev.fore.off = false → s.dev.fget Reg.clk_ISLREF_SRC ≠ 3 → khzOut khz = true → s.dev.clksOk = true →
     ∃ t, exec (.freqGateEnd khz) s = .next t ∧ t.dev.flag Reg.clk_CLKS_RANGE_ERR = true ∧ t.dev.Raised 5 Ev.clk_CLKS_RANGE ∧
       t.dev.sliceClock = false ∧ t.dev.loom.run = none ∧ t.pending = s.pending ∧ t.nv = s.nv ∧ t.hbm = s.hbm)

/-- The discipline of the timebase (R61, R62, R63, R66, R377, R378). A source outside ±200 ppm shows REF_MISMATCH and is not used: the timebase coasts.
One that becomes valid sets INC and RATIO, or after a coast announces the return; tracked, the loop of LOOP_BW, whose coefficients the model's log
entry 39 leaves open, sets INC and the phase correction. Without a source to discipline to nothing happens. Losing the source starts a coast with INC
frozen and stops a slew where it is. After a return, a phase error of at most 100 ps is slewed, a larger one steps the accumulator and begins an epoch
with that step; SLEW_DONE has applied the whole correction. Loading the timebase (R16, R64, R65, R66, R509). PPS_ARM arms; a PPS_IN edge is stamped
and, armed, loads PPS_LOAD and begins an epoch; no edge in time raises PPS_MISSING once per arm and leaves it armed. SET_COMMIT, an expert field,
loads SET, and without expert access is recorded and loads nothing; a new NOMINAL_FREQ begins an epoch with offset 0, and the value it already has
changes nothing. -/
def Obligations.Timebase : Prop :=
  ((∀ (s : State) (inc : Nat) (phase : Int), s.dev.fore.off = false → s.dev.noSource = false →
     ∃ t, exec (.disciplineSourceValid true (inc, phase)) s = .next t ∧ t.dev.flag Reg.tbase_REF_VALID = true ∧ t.dev.flag Reg.tbase_REF_MISMATCH = false ∧
       (s.dev.flag Reg.tbase_COASTING = true → s.dev.flag Reg.tbase_REF_VALID = false → t.dev.Raised 6 Ev.tbase_REF_RETURN ∧
         s.Framed eventParts (Reg.tbase_REF_VALID.key 0 :: Reg.tbase_REF_MISMATCH.key 0 :: eventKeys 6) t) ∧
       (s.dev.flag Reg.tbase_COASTING = true → s.dev.flag Reg.tbase_REF_VALID = true → s.Framed [] [Reg.tbase_REF_MISMATCH.key 0] t) ∧
       (s.dev.flag Reg.tbase_COASTING = false → s.dev.flag Reg.tbase_REF_VALID = false →
         t.dev.tb = { s.dev.tb with inc := inc } ∧ t.dev.fget Reg.tbase_RATIO = ofSigned 32 (ratioOf inc) ∧
         s.Framed [.tb] [Reg.tbase_REF_VALID.key 0, Reg.tbase_REF_MISMATCH.key 0, Reg.tbase_RATIO.key 0] t) ∧
       (s.dev.flag Reg.tbase_COASTING = false → s.dev.flag Reg.tbase_REF_VALID = true → s.dev.fget Reg.tbase_REF_SEL = 3 →
         s.Framed [] [Reg.tbase_REF_MISMATCH.key 0] t) ∧
       (s.dev.flag Reg.tbase_COASTING = false → s.dev.flag Reg.tbase_REF_VALID = true → s.dev.fget Reg.tbase_REF_SEL ≠ 3 →
         t.dev.tb = { s.dev.tb with
           inc := Config.loopInc (s.dev.fget Reg.tbase_LOOP_BW) phase inc s.dev.tb.inc
           slew := if s.dev.flag Reg.tbase_SLEWING then s.dev.tb.slew else phase * 65536 } ∧
         t.dev.fget Reg.tbase_RATIO = ofSigned 32 (ratioOf t.dev.tb.inc) ∧
         t.dev.fget Reg.tbase_PHASE_ERR = ofSigned 32 (clampInt (-2147483648) 2147483647 phase) ∧
         s.Framed [.tb] [Reg.tbase_REF_MISMATCH.key 0, Reg.tbase_RATIO.key 0, Reg.tbase_PHASE_ERR.key 0] t)) ∧
   (∀ (s : State) (inc : Nat) (phase : Int), s.dev.fore.off = false → s.dev.noSource = false →
     ∃ t, exec (.disciplineSourceValid false (inc, phase)) s = .next t ∧ t.dev.flag Reg.tbase_REF_VALID = false ∧ t.dev.flag Reg.tbase_REF_MISMATCH = true ∧
       (s.dev.flag Reg.tbase_REF_VALID = true → t.dev.flag Reg.tbase_COASTING = true ∧ t.dev.fget Reg.tbase_COAST_TIME = 0 ∧
         t.dev.tb = { s.dev.tb with coast := 0, coastBase := 0, slew := 0 } ∧ t.dev.Raised 6 Ev.tbase_REF_LOST ∧
         s.Framed (.tb :: eventParts) ([Reg.tbase_REF_VALID.key 0, Reg.tbase_COASTING.key 0, Reg.tbase_SLEWING.key 0, Reg.tbase_COAST_TIME.key 0,
           Reg.tbase_REF_MISMATCH.key 0] ++ eventKeys 6) t) ∧
       (s.dev.flag Reg.tbase_REF_VALID = false → s.Framed [] [Reg.tbase_REF_MISMATCH.key 0] t)) ∧
   (∀ (s : State) (ok : Bool) (inc : Nat) (phase : Int), s.dev.fore.off = false → s.dev.noSource = true →
     exec (.disciplineSourceValid ok (inc, phase)) s = .next s) ∧
   (∀ s : State, s.dev.fore.off = false → s.dev.flag Reg.tbase_REF_VALID = true →
     ∃ t, exec .refLost s = .next t ∧ t.dev.flag Reg.tbase_REF_VALID = false ∧ t.dev.flag Reg.tbase_COASTING = true ∧
       t.dev.flag Reg.tbase_SLEWING = false ∧ t.dev.fget Reg.tbase_COAST_TIME = 0 ∧
       t.dev.tb = { s.dev.tb with coast := 0, coastBase := 0, slew := 0 } ∧ t.dev.Raised 6 Ev.tbase_REF_LOST ∧
       s.Framed (.tb :: eventParts) ([Reg.tbase_REF_VALID.key 0, Reg.tbase_COASTING.key 0, Reg.tbase_SLEWING.key 0, Reg.tbase_COAST_TIME.key 0] ++
         eventKeys 6) t) ∧
   (∀ (s : State) (e : Int), s.dev.fore.off = false → s.dev.flag Reg.tbase_REF_VALID = true → s.dev.flag Reg.tbase_COASTING = true →
     s.dev.tb.openEntry = none →
     ∃ t, exec (.refReturn e) s = .next t ∧ t.dev.flag Reg.tbase_COASTING = false ∧ t.dev.fget Reg.tbase_COAST_TIME = s.dev.coastUs ∧
       t.dev.fget Reg.tbase_PHASE_ERR = ofSigned 32 (clampInt (-2147483648) 2147483647 e) ∧
       (within100ps e (s.dev.fget Reg.tbase_NOMINAL_FREQ) = true → t.dev.flag Reg.tbase_SLEWING = true ∧
         t.dev.tb = { s.dev.tb with slew := e * 65536, slews := s.dev.tb.slews + 1 } ∧
         s.Framed [.tb] [Reg.tbase_COASTING.key 0, Reg.tbase_COAST_TIME.key 0, Reg.tbase_PHASE_ERR.key 0, Reg.tbase_SLEWING.key 0] t) ∧
       (within100ps e (s.dev.fget Reg.tbase_NOMINAL_FREQ) = false →
         t.dev.tb.acc = (((s.dev.tb.acc : Int) + e * 65536) % (2 ^ 96 : Nat)).toNat ∧
         s.dev.EpochBegun t.dev (2 ^ (if s.dev.fget Reg.tbase_REF_SEL = 3 then causeUplink else causeRefStep)) e ∧
         s.Framed (.tb :: .tabs :: eventParts) ([Reg.tbase_COASTING.key 0, Reg.tbase_COAST_TIME.key 0, Reg.tbase_PHASE_ERR.key 0,
           Reg.tbase_EPOCH.key 0] ++ eventKeys 6) t)) ∧
   ∀ s : State, s.dev.fore.off = false → s.dev.flag Reg.tbase_SLEWING = true →
     ∃ t, exec .slewDone s = .next t ∧ t.dev.flag Reg.tbase_SLEWING = false ∧ t.dev.Raised 6 Ev.tbase_SLEW_DONE ∧
       t.dev.tb = { s.dev.tb with acc := (((s.dev.tb.acc : Int) + s.dev.tb.slew) % (2 ^ 96 : Nat)).toNat, slew := 0 } ∧
       s.Framed (.tb :: eventParts) (Reg.tbase_SLEWING.key 0 :: eventKeys 6) t) ∧
  ((∀ (s : State) (who : Requester), s.dev.fore.off = false → s.dev.flag Reg.hdr_FREEZE 6 = false → s.dev.flag Reg.tbase_PPS_ARM = false →
     ∃ t, exec (.ppsArm who) s = .next t ∧ t.dev.flag Reg.tbase_PPS_ARM = true ∧ t.dev.tb = { s.dev.tb with ppsMissing := false } ∧
       s.Framed [.tb] [Reg.tbase_PPS_ARM.key 0, Reg.hdr_CFG_EPOCH.key 6] t) ∧
   (∀ (s : State) (who : Requester), s.dev.fore.off = false → s.dev.flag Reg.hdr_FREEZE 6 = false → s.dev.flag Reg.tbase_PPS_ARM = true →
     ∃ t, exec (.ppsArm who) s = .next t ∧ s.Framed [] [Reg.hdr_CFG_EPOCH.key 6] t) ∧
   (∀ s : State, s.dev.fore.off = false →
     let st := s.dev.stampOf s.dev.nowTick 0
     let load := s.dev.fget64 Reg.tbase_PPS_LOAD_W0 Reg.tbase_PPS_LOAD_W1 * 2 ^ 32 % 2 ^ 96
     ∃ t, exec .ppsInEdge s = .next t ∧ t.dev.flag Reg.tbase_PPS_ARM = false ∧ t.dev.fget Reg.tbase_PPS_STAMP_W0 = st.getD 0 0 % 2 ^ 32 ∧
       t.dev.fget Reg.tbase_PPS_STAMP_W1 = st.getD 1 0 % 2 ^ 32 ∧ t.dev.fget Reg.tbase_PPS_STAMP_W2 = st.getD 2 0 % 2 ^ 32 ∧
       (s.dev.flag Reg.tbase_PPS_ARM = false →
         s.Framed [] [Reg.tbase_PPS_STAMP_W0.key 0, Reg.tbase_PPS_STAMP_W1.key 0, Reg.tbase_PPS_STAMP_W2.key 0] t) ∧
       (s.dev.flag Reg.tbase_PPS_ARM = true → s.dev.tb.openEntry = none → t.dev.tb.acc = load ∧
         s.dev.EpochBegun t.dev (2 ^ causePps) ((load / 2 ^ 16 : Nat) - (s.dev.tb.acc / 2 ^ 16 : Nat)) ∧
         s.Framed (.tb :: .tabs :: eventParts) ([Reg.tbase_PPS_STAMP_W0.key 0, Reg.tbase_PPS_STAMP_W1.key 0, Reg.tbase_PPS_STAMP_W2.key 0,
           Reg.tbase_PPS_ARM.key 0, Reg.tbase_EPOCH.key 0] ++ eventKeys 6) t)) ∧
   (∀ s : State, s.dev.fore.off = false → s.dev.flag Reg.tbase_PPS_ARM = true → s.dev.tb.ppsMissing = false →
     ∃ t, exec .ppsMissing s = .next t ∧ t.dev.Raised 6 Ev.tbase_PPS_MISSING ∧ t.dev.flag Reg.tbase_PPS_ARM = true ∧
       t.dev.tb = { s.dev.tb with ppsMissing := true } ∧ s.Framed (.tb :: eventParts) (eventKeys 6) t) ∧
   (∀ (s : State) (who : Requester), s.dev.fore.off = false → s.dev.flag Reg.hdr_FREEZE 6 = false → s.dev.expertOpen 6 = true →
     s.dev.tb.openEntry = none →
     let v := (s.dev.fget64 Reg.tbase_SET_W1 Reg.tbase_SET_W2 * 2 ^ 32 + s.dev.fget Reg.tbase_SET_W0 / 65536 * 65536) % 2 ^ 96
     ∃ t, exec (.setCommit who) s = .next t ∧ t.dev.tb.acc = v ∧
       s.dev.EpochBegun t.dev (2 ^ causeSet) ((v / 2 ^ 16 : Nat) - (s.dev.tb.acc / 2 ^ 16 : Nat)) ∧
       s.Framed (.tb :: .tabs :: eventParts) ([Reg.tbase_EPOCH.key 0, Reg.hdr_CFG_EPOCH.key 6] ++ eventKeys 6) t) ∧
   (∀ (s : State) (who : Requester), s.dev.fore.off = false → s.dev.flag Reg.hdr_FREEZE 6 = false → s.dev.expertOpen 6 = false →
     ∃ t, exec (.setCommit who) s = .next t ∧ t.dev.ErrHeld 6 0xF0 (0x40 + 4096 * who.code) 8 ∧ s.Framed [] (errKeys 6) t) ∧
   ∀ (s : State) (who : Requester) (val : Word), s.dev.fore.off = false → s.dev.flag Reg.hdr_FREEZE 6 = false →
     ∃ t, exec (.nominalFreqWrite who val) s = .next t ∧ t.dev.fget Reg.tbase_NOMINAL_FREQ = val.toNat ∧
       (val.toNat = s.dev.fget Reg.tbase_NOMINAL_FREQ → s.Framed [] [Reg.hdr_CFG_EPOCH.key 6] t) ∧
       (val.toNat ≠ s.dev.fget Reg.tbase_NOMINAL_FREQ → s.dev.tb.openEntry = none → s.dev.EpochBegun t.dev (2 ^ causeNominal) 0 ∧
         t.dev.tb.acc = s.dev.tb.acc ∧
         s.Framed (.tb :: .tabs :: eventParts) ([Reg.tbase_NOMINAL_FREQ.key 0, Reg.tbase_EPOCH.key 0, Reg.hdr_CFG_EPOCH.key 6] ++
           eventKeys 6) t))

/-- The correction chain (R73, R79, R83, R85). In a tick that the slices sample in place and with every loom's correction bypassed, the weft of an input
carries the raw codes themselves, in stream order: sample j is that of rank j mod L and position j div L. Otherwise the corrected value b is the
code's offset-free product with the gain, rounded to the nearest 1/16 LSB and held to 18 bits; offset 0 and a gain of 2^22, which is 1, leave the code
as it is. -/
def Obligations.WeftCarriesRawCodes : Prop :=
  (∀ (d : Dev) (raw : List (BitVec 12)) (x tick : Nat) (free : Int) (good : KMap (Nat × Int)) (prev : Option TickData) (next : TickData), d.mode < 3 →
    (∀ g < 4, d.flag Reg.loom_CORR_BYPASS g = true) → (∀ g < 4, ∀ p < 32, d.patched g p = false) → x ∈ sampledInputs d.mode →
    (∀ t, prev = some t → t.samples.length = 128) →
    (weftOf d.mode x tick free good prev (d.sampleTick raw) next).samples =
      (List.range (samplesPer d.mode)).map fun j => (raw.getD (sampleSlot d.mode x j) 0).toInt) ∧
  (∀ x : Int, -2048 ≤ x → x ≤ 2047 → offsetGain x 0 (2 ^ 22) = 16 * x) ∧
  ∀ (x offset : Int) (gain : Nat), -131072 ≤ offsetGain x offset gain ∧ offsetGain x offset gain ≤ 131071 ∧
    (-131072 ≤ (2 * ((x * 16 - offset) * gain) + 4194304).fdiv 8388608 → (2 * ((x * 16 - offset) * gain) + 4194304).fdiv 8388608 ≤ 131071 →
      (2 * ((x * 16 - offset) * gain) - 4194304 < 8388608 * offsetGain x offset gain ∧
        8388608 * offsetGain x offset gain ≤ 2 * ((x * 16 - offset) * gain) + 4194304))

/-- WEFT_EMIT (R58, R61, R86, R93, R103, R128, R511). Without the slice clock nothing happens; without a stream run the tick passes: it is counted and the
timebase advances. The first tick of a run only samples. In its first 64 ticks the tick count, the timebase and the trigger's hand-over go on without
a weft. After them a weft of each sampled input leaves for the trigger with the tick, from this tick's neighbours. Patched samples are counted in
every tick. -/
def Obligations.WeftEmitTicks : Prop :=
  (∀ (s : State) (raw : List (BitVec 12)), s.dev.fore.off = false → s.dev.sliceClock = false →
    ∃ t, exec (.weftEmit raw) s = .next t ∧ s.Framed [] [] t) ∧
  (∀ (s : State) (raw : List (BitVec 12)), s.dev.fore.off = false → s.dev.sliceClock = true → s.dev.loom.run = none →
    ∃ t, exec (.weftEmit raw) s = .next t ∧ t.dev.loom = { s.dev.loom with tick := s.dev.loom.tick + 1 } ∧
      t.dev.tb = s.dev.tb.tick (s.dev.flag Reg.tbase_COASTING) ∧
      ((∀ p ∈ s.dev.clk.dlls, p.2.trims = none) → s.dev.TabFramed [] t.dev ∧
        t.dev.clk = { s.dev.clk with dlls := s.dev.clk.dlls.map fun p => (p.1, p.2.tick) }) ∧ s.Framed [.loom, .tb, .clk, .tabs] [] t) ∧
  (∀ (s : State) (raw : List (BitVec 12)) (k : Nat), s.dev.fore.off = false → s.dev.sliceClock = true → s.dev.loom.run = some k →
    s.dev.loom.cur = none →
    ∃ t, exec (.weftEmit raw) s = .next t ∧
      t.dev.loom = { s.dev.loom with run := some (k + 1), cur := some (s.dev.sampleTick raw), swapped := 0 } ∧
      (∀ g < 4,
        let n := ((List.range 32).filter fun p => s.dev.patched g p).length
        t.dev.fget Reg.loom_PATCH_COUNT g = if n = 0 then s.dev.fget Reg.loom_PATCH_COUNT g else satAdd 32 (s.dev.fget Reg.loom_PATCH_COUNT g) n) ∧
      s.Framed [.loom] ((List.range 4).map fun g => Reg.loom_PATCH_COUNT.key g) t) ∧
  (∀ (s : State) (raw : List (BitVec 12)) (k : Nat) (c : TickData), s.dev.fore.off = false → s.dev.sliceClock = true → s.dev.loom.run = some k →
    s.dev.loom.cur = some c → k < 65 → s.dev.trig.todo = [] → (∀ n < 8, (s.dev.ticc n).waiting = false) →
    ∃ t, exec (.weftEmit raw) s = .next t ∧ t.dev.loom.tick = s.dev.loom.tick + 1 ∧ t.dev.loom.run = some (k + 1) ∧
      t.dev.loom.cur = some (s.dev.sampleTick raw) ∧ t.dev.loom.quiet = s.dev.loom.quiet ∧ t.dev.loom.brings = s.dev.loom.brings ∧
      t.dev.tb = s.dev.tb.tick (s.dev.flag Reg.tbase_COASTING) ∧ t.dev.trig.todo = [s.dev.trigItem] ∧
      t.dev.trig = { s.dev.trig with todo := t.dev.trig.todo } ∧ t.dev.tseq = { s.dev.tseq with start := false, restart := false } ∧
      ((∀ p ∈ s.dev.clk.dlls, p.2.trims = none) → s.dev.TabFramed [] t.dev) ∧
      s.Framed [.loom, .tb, .trig, .tseq, .freeCtr, .clk, .tabs]
        (((List.range 16).map fun n => Reg.trig_cond_LEVEL_NOW.key n) ++ (List.range 4).map fun g => Reg.loom_PATCH_COUNT.key g) t) ∧
  ∀ (s : State) (raw : List (BitVec 12)) (k : Nat) (c : TickData), s.dev.fore.off = false → s.dev.sliceClock = true → s.dev.loom.run = some k →
    s.dev.loom.cur = some c → 65 ≤ k → s.dev.trig.todo = [] → (∀ n < 8, (s.dev.ticc n).waiting = false) →
    let ws := (sampledInputs s.dev.mode).map fun x =>
      weftOf s.dev.mode x s.dev.loom.tick (toSigned 18 (Config.freeValue s.dev.freeCtr)) s.dev.loom.lastGood s.dev.loom.prev c (s.dev.sampleTick raw)
    ∃ t, exec (.weftEmit raw) s = .next t ∧ t.dev.loom.tick = s.dev.loom.tick + 1 ∧ t.dev.loom.run = some (k + 1) ∧
      t.dev.loom.cur = some (s.dev.sampleTick raw) ∧ t.dev.tb = s.dev.tb.tick (s.dev.flag Reg.tbase_COASTING) ∧
      t.dev.trig.todo = [{ s.dev.trigItem with wefts := ws.map fun w => (w.input, w.samples) }] ∧
      (∀ w ∈ ws, w.clip = true → t.dev.Raised (8 + w.input) Ev.fe_OVERRANGE) ∧ t.pending = s.pending ∧ t.nv = s.nv ∧
      ((∀ r < 4, (s.dev.ring r).writing = false) → (∀ n < 8, s.dev.chainOn n = false) →
        s.Framed ([.loom, .tb, .trig, .tseq, .freeCtr, .acq, .clk, .tabs] ++ eventParts) (((List.range 16).map fun n =>
          Reg.trig_cond_LEVEL_NOW.key n) ++ ((List.range 4).map fun g => Reg.loom_PATCH_COUNT.key g) ++
          eventKeys 8 ++ eventKeys 9 ++ eventKeys 10 ++ eventKeys 11) t)

/-- Input modes and path delay (R72, R74, R85, R91, R107, R511, R516). MODE 3, and another MODE while a stream is armed, are refused: the mode stays,
MODE_CHANGE_REFUSED is raised and the write recorded. A write of the MODE in force changes the bypass bits alone, with expert access. An accepted
change abandons quiet checks, foreground and background runs and calibration commands and begins a stream run; MODE_READY comes 64 ticks later.
PATH_DELAY is stored for the input and the mode in force where the life cycle allows it, and ignored elsewhere. Quiet checks (R90, R91). A check of an
input that is not sampled is refused and recorded; one that runs already goes on; otherwise BUSY shows it and VALID clears. Its end shows the verdict:
the input is quiet where mean and noise are within their limits and nothing clipped. A check that has gathered nothing ends without a result. -/
def Obligations.InputModesAndQuietChecks : Prop :=
  ((∀ (s : State) (who : Requester) (val : Word), s.dev.fore.off = false → s.dev.flag Reg.hdr_FREEZE 12 = false →
     val.toNat % 4 ≠ s.dev.mode → s.dev.armed = true ∨ val.toNat % 4 = 3 →
     ∃ t, exec (.modeWrite who val) s = .next t ∧ t.dev.mode = s.dev.mode ∧ t.dev.Raised 12 Ev.loom_MODE_CHANGE_REFUSED ∧
       t.dev.ErrHeld 12 0xF0 (0x40 + 4096 * who.code) val.toNat ∧
       s.Framed eventParts ([Reg.loom_CORR_BYPASS.key 0, Reg.loom_FIR_BYPASS.key 0, Reg.hdr_CFG_EPOCH.key 12] ++ errKeys 12 ++ eventKeys 12) t) ∧
   (∀ (s : State) (who : Requester) (val : Word), s.dev.fore.off = false → s.dev.flag Reg.hdr_FREEZE 12 = false →
     val.toNat % 4 = s.dev.mode → s.dev.expertOpen 12 = true →
     ∃ t, exec (.modeWrite who val) s = .next t ∧ t.dev.flag Reg.loom_FIR_BYPASS = bitAt val.toNat 8 ∧ t.dev.flag Reg.loom_CORR_BYPASS = bitAt val.toNat 9 ∧
       s.Framed [] [Reg.loom_CORR_BYPASS.key 0, Reg.loom_FIR_BYPASS.key 0, Reg.hdr_CFG_EPOCH.key 12] t) ∧
   (∀ (s : State) (who : Requester) (val : Word), s.dev.fore.off = false → s.dev.flag Reg.hdr_FREEZE 12 = false →
     val.toNat % 4 ≠ s.dev.mode → s.dev.armed = false → val.toNat % 4 ≠ 3 → s.dev.trig.todo = [] →
     ∃ t, exec (.modeWrite who val) s = .next t ∧ t.dev.mode = val.toNat % 4 ∧ t.dev.flag Reg.loom_MODE_READY = false ∧
       t.dev.fget Reg.assay_PENDING = 0 ∧ t.dev.fget Reg.assay_FG_BUSY = 0 ∧ t.dev.assay.fg = [] ∧ t.dev.assay.cmds = [] ∧
       (∀ x < 4, KMap.find t.dev.loom.quiet x = none) ∧ t.dev.trig.rt = [] ∧
       t.dev.loom.cur = none ∧ t.dev.loom.prev = none ∧ t.dev.loom.run = (if s.dev.clksOk then some 0 else none) ∧
       (∀ g r, KMap.find t.dev.assay.runs g = some r → r.phase = .returning ∧ r.results = false) ∧
       (∀ b ∈ [Part.tctl, .bus, .tally, .vern, .tic, .bench, .mem, .cas, .aux], b.same s.dev t.dev) ∧
       (s.dev.loom.cur = none → (∀ b ∈ [Part.clk, .tb, .tabs], b.same s.dev t.dev)) ∧ t.pending = s.pending ∧ t.nv = s.nv) ∧
   (∀ (s : State) (k : Nat), s.dev.fore.off = false → s.dev.loom.run = some k → 64 ≤ k → s.dev.assay.startupWait = false →
     ∃ t, exec .modeReady s = .next t ∧ t.dev.flag Reg.loom_MODE_READY = true ∧ s.Framed [] [Reg.loom_MODE_READY.key 0] t) ∧
   ∀ (s : State) (who : Requester) (x : Fin 4) (val : Word), s.dev.fore.off = false → s.dev.flag Reg.hdr_FREEZE (8 + x) = false →
     ∃ t, exec (.pathDelayWrite who x val) s = .next t ∧
       (rwlOpen (s.dev.fget Reg.life_STATE) = true → pathDelay t.nv s.dev.mode x = val.toNat ∧
         (∀ k, k ≠ 4 * x.val + s.dev.mode → KMap.find t.nv.pathDelay k = KMap.find s.nv.pathDelay k) ∧
         t.nv = { s.nv with pathDelay := t.nv.pathDelay }) ∧
       (rwlOpen (s.dev.fget Reg.life_STATE) = false → t.nv = s.nv) ∧ s.dev.Framed [] [] t.dev ∧ t.pending = s.pending ∧ t.hbm = s.hbm) ∧
  ((∀ (s : State) (who : Requester) (x : Fin 4), s.dev.fore.off = false → s.dev.flag Reg.hdr_FREEZE (8 + x) = false →
     ∃ t, exec (.quietCheckStart who x) s = .next t ∧
       (x.val ∉ sampledInputs s.dev.mode → t.dev.ErrHeld (8 + x) 0xF2 0 0 ∧ t.dev.flag Reg.fe_VALID x = false ∧
         s.Framed [] (Reg.fe_VALID.key x :: Reg.hdr_CFG_EPOCH.key (8 + x) :: errKeys (8 + x)) t) ∧
       (x.val ∈ sampledInputs s.dev.mode → (KMap.find s.dev.loom.quiet x).isSome = true → s.Framed [] [Reg.hdr_CFG_EPOCH.key (8 + x)] t) ∧
       (x.val ∈ sampledInputs s.dev.mode → KMap.find s.dev.loom.quiet x = none → s.dev.clksOk = true →
         KMap.find t.dev.loom.quiet x = some {} ∧ t.dev.flag Reg.fe_BUSY x = true ∧ t.dev.flag Reg.fe_VALID x = false ∧
         s.Framed [.loom] [Reg.fe_BUSY.key x, Reg.fe_VALID.key x, Reg.hdr_CFG_EPOCH.key (8 + x)] t) ∧
       (x.val ∈ sampledInputs s.dev.mode → KMap.find s.dev.loom.quiet x = none → s.dev.clksOk = false →
         t.dev.flag Reg.fe_VALID x = false ∧ t.dev.Raised (8 + x) Ev.fe_QUIET_DONE ∧
         s.Framed eventParts (Reg.fe_VALID.key x :: Reg.hdr_CFG_EPOCH.key (8 + x) :: eventKeys (8 + x)) t)) ∧
   ∀ (s : State) (x : Fin 4) (q : QuietCheck), s.dev.fore.off = false → KMap.find s.dev.loom.quiet x = some q → q.assayer = false →
     ∃ t, exec (.quietDone x) s = .next t ∧ KMap.find t.dev.loom.quiet x = none ∧ t.dev.flag Reg.fe_BUSY x = false ∧
       t.dev.Raised (8 + x) Ev.fe_QUIET_DONE ∧
       (q.n = 0 → t.dev.flag Reg.fe_VALID x = false) ∧
       (q.n ≠ 0 →
         let mOk := q.meanOk (s.dev.fget Reg.fe_MEAN_LIMIT x)
         let nOk := q.noiseOk (s.dev.fget Reg.fe_RMS_LIMIT x)
         t.dev.flag Reg.fe_VALID x = true ∧ t.dev.flag Reg.fe_MEAN_OK x = mOk ∧ t.dev.flag Reg.fe_NOISE_OK x = nOk ∧
         t.dev.flag Reg.fe_CLIPPED x = q.clip ∧ t.dev.flag Reg.fe_QUIET x = (mOk && nOk && !q.clip) ∧
         ((mOk && nOk && !q.clip) = false → t.dev.Raised (8 + x) Ev.fe_NOT_QUIET)) ∧
       s.Framed ([.loom, .freeCtr] ++ eventParts) ([Reg.fe_BUSY.key x, Reg.fe_VALID.key x, Reg.fe_QUIET.key x, Reg.fe_MEAN_OK.key x,
         Reg.fe_NOISE_OK.key x, Reg.fe_CLIPPED.key x, Reg.fe_QUIET_MEAN.key x, Reg.fe_QUIET_RMS.key x] ++ eventKeys (8 + x)) t)

/-- A planned retirement (R16, R77, R78, R113, R430; log entry 41 for a value above 135 and a second request). RETIRE, an expert field, brings the standby
to the slice's position for its boundary at least 16 ticks later, or waits where the slice's group has a slice borrowed; a slice number above 135, a
slice that is not active and a group without a free standby or with a retirement in progress are refused. At the boundary the standby serves the
position, the slice is retired, RETIRE_DONE is raised, the next weft shows SWAP, and a commit of the allocation and a margin plan are asked for. Slice
failures (R79, R80, R82, R430, R512, R514). A failing active slice is marked failed and recorded and its position patched; a free standby covers it
and, settled, serves it, with SUBSTITUTED; with no spare left at all the position stays patched and the fault is contained. A failing standby affects
no sample and leaves one spare fewer; a failing idle calibration spare is replaced by the standby, and without one borrowing stops. -/
def Obligations.SlicesRetiredAndFailed : Prop :=
  ((∀ (s : State) (who : Requester) (n : BitVec 8) (st : Nat), s.dev.fore.off = false → s.dev.flag Reg.hdr_FREEZE 16 = false →
     s.dev.expertOpen 16 = true → n.toNat ≤ 135 →
     let g := n.toNat / 34
     let i := n.toNat % 34
     s.dev.role g i = 0 → s.dev.freeSpare g 3 = some st → s.dev.retiring g = false →
     (KMap.find s.dev.assay.runs g = none →
       ∃ t, exec (.retire who n) s = .next t ∧ t.dev.flag Reg.slice_PENDING = true ∧ t.dev.flag Reg.slice_REFUSED = false ∧
         t.dev.fget Reg.slice_INDEX = n.toNat ∧ t.dev.loom = { s.dev.loom with brings := s.dev.loom.brings ++
           [{ group := g, phys := st, pos := s.dev.posOf g i, ready := s.dev.sampTick + 16, kind := .retire }] } ∧
         s.Framed [.loom] [Reg.slice_INDEX.key 0, Reg.slice_REFUSED.key 0, Reg.slice_PENDING.key 0, Reg.hdr_CFG_EPOCH.key 16] t) ∧
     (∀ r, KMap.find s.dev.assay.runs g = some r → r.pos.isSome = true →
       ∃ t, exec (.retire who n) s = .next t ∧ t.dev.flag Reg.slice_PENDING = true ∧ t.dev.flag Reg.slice_REFUSED = false ∧
         t.dev.fget Reg.slice_INDEX = n.toNat ∧ t.dev.loom = { s.dev.loom with retireWait := KMap.put s.dev.loom.retireWait g i } ∧
         s.Framed [.loom] [Reg.slice_INDEX.key 0, Reg.slice_REFUSED.key 0, Reg.slice_PENDING.key 0, Reg.hdr_CFG_EPOCH.key 16] t)) ∧
   (∀ (s : State) (who : Requester) (n : BitVec 8), s.dev.fore.off = false → s.dev.flag Reg.hdr_FREEZE 16 = false →
     (s.dev.expertOpen 16 = true → 135 < n.toNat →
       ∃ t, exec (.retire who n) s = .next t ∧ t.dev.flag Reg.slice_REFUSED = true ∧ t.dev.fget Reg.slice_INDEX = n.toNat ∧
         s.Framed [] [Reg.slice_INDEX.key 0, Reg.slice_REFUSED.key 0, Reg.hdr_CFG_EPOCH.key 16] t) ∧
     (s.dev.expertOpen 16 = true → n.toNat ≤ 135 →
       (s.dev.role (n.toNat / 34) (n.toNat % 34) ≠ 0 ∨ s.dev.freeSpare (n.toNat / 34) 3 = none ∨ s.dev.retiring (n.toNat / 34) = true) →
       ∃ t, exec (.retire who n) s = .next t ∧ t.dev.flag Reg.slice_REFUSED = true ∧ t.dev.fget Reg.slice_INDEX = n.toNat ∧
         t.dev.Raised (12 + n.toNat / 34) Ev.loom_RETIRE_REFUSED ∧
         s.Framed eventParts ([Reg.slice_INDEX.key 0, Reg.slice_REFUSED.key 0, Reg.slice_PENDING.key 0, Reg.hdr_CFG_EPOCH.key 16] ++
           eventKeys (12 + n.toNat / 34)) t) ∧
     (s.dev.expertOpen 16 = false →
       ∃ t, exec (.retire who n) s = .next t ∧ t.dev.ErrHeld 16 0xF0 (0x400 + 4096 * who.code) n.toNat ∧ s.Framed [] (errKeys 16) t)) ∧
   ∀ (s : State) (g : Fin 4) (b : Bring), s.dev.fore.off = false → s.dev.fore.injecting = false → s.dev.loom.brings = [b] → b.group = g →
     b.kind = .retire → b.ready ≤ s.dev.sampTick → b.pos < 32 → b.phys < 34 → s.dev.AssayIdle g →
     let old := s.dev.alloc g b.pos
     old < 34 → old ≠ b.phys →
     ∃ t, exec (.substitutionBoundary g) s = .next t ∧ t.dev.alloc g b.pos = b.phys ∧ t.dev.role g b.phys = 0 ∧ t.dev.posOf g b.phys = b.pos ∧
       t.dev.role g old = 5 ∧ t.dev.Raised (12 + g) Ev.loom_RETIRE_DONE ∧ t.dev.isDegraded (12 + g) = true ∧ t.dev.loom.brings = [] ∧
       bitAt t.dev.loom.swapped g = true ∧ t.dev.assay = { s.dev.assay with commitReq := true, commitAlloc := true } ∧
       t.dev.fget Reg.loom_SPARES_LEFT g = s.dev.fget Reg.loom_SPARES_LEFT g - 1 ∧ s.dev.PlanAsked t.dev ∧
       (∀ p < 32, p ≠ b.pos → t.dev.alloc g p = s.dev.alloc g p) ∧
       s.Framed ([.loom, .tabs, .assay, .degraded, .fore] ++ eventParts) ([Reg.slice_ROLE.key (34 * g + old), Reg.slice_ROLE.key (34 * g + b.phys),
         Reg.slice_LOGICAL_POS.key (34 * g + b.phys), Reg.loom_SPARES_LEFT.key g, Reg.slice_PENDING.key 0] ++ eventKeys (12 + g)) t) ∧
  ((∀ (s : State) (n : Fin 136) (st : Nat), s.dev.fore.off = false →
     let g := n.val / 34
     let i := n.val % 34
     s.dev.role g i = 0 → s.dev.freeSpare g 3 = some st → s.dev.retiring g = false → s.dev.AssayIdle g →
     ∃ t, exec (.sliceFail n) s = .next t ∧ t.dev.role g i = 6 ∧ t.dev.patched g (s.dev.posOf g i) = true ∧
       t.dev.Raised (12 + g) Ev.loom_SLICE_FAIL ∧
       t.dev.loom = { s.dev.loom with brings := s.dev.loom.brings ++
         [{ group := g, phys := st, pos := s.dev.posOf g i, ready := s.dev.sampTick + 17, kind := .cover, failed := i }] } ∧
       t.dev.ErrHeld (12 + g) Ev.loom_SLICE_FAIL ((n.val + 256 * s.dev.posOf g i) % 2 ^ 32) (s.dev.sampTick % 2 ^ 32) ∧
       t.dev.fget Reg.loom_SPARES_LEFT g = s.dev.fget Reg.loom_SPARES_LEFT g - 1 ∧ s.dev.PlanAsked t.dev ∧
       s.Framed ([.loom, .fore] ++ eventParts) ([Reg.slice_ROLE.key n, Reg.loom_SPARES_LEFT.key g, Reg.slice_PENDING.key 0] ++
         errKeys (12 + g) ++ eventKeys (12 + g)) t) ∧
   (∀ (s : State) (n : Fin 136), s.dev.fore.off = false →
     let g := n.val / 34
     let i := n.val % 34
     let p := s.dev.posOf g i
     s.dev.role g i = 0 → p < 32 → s.dev.freeSpare g 3 = none → s.dev.freeSpare g 1 = none → s.dev.withRole g 2 = [] → s.dev.retiring g = false →
     s.dev.AssayIdle g →
     ∃ t, exec (.sliceFail n) s = .next t ∧ t.dev.role g i = 6 ∧ bitAt (KMap.at t.dev.loom.perm 0 g) p = true ∧
       t.dev.flag Reg.loom_PATCH_ACTIVE g = true ∧ t.dev.Raised (12 + g) Ev.loom_SPARE_EXHAUSTED ∧ t.dev.Raised (12 + g) Ev.loom_SLICE_FAIL ∧
       t.dev.isContained (12 + g) = true ∧ t.dev.ErrHeld (12 + g) Ev.loom_SLICE_FAIL ((n.val + 256 * p) % 2 ^ 32) (s.dev.sampTick % 2 ^ 32) ∧
       s.Framed ([.loom, .contained] ++ eventParts) ([Reg.slice_ROLE.key n, Reg.loom_PATCH_ACTIVE.key g, Reg.loom_PATCH_POS.key g,
         Reg.slice_PENDING.key 0] ++ errKeys (12 + g) ++ eventKeys (12 + g)) t) ∧
   (∀ (s : State) (g : Fin 4) (pos : Fin 32) (b : Bring), s.dev.fore.off = false → s.dev.fore.injecting = false → s.dev.fore.marks = [] →
     s.dev.loom.brings = [b] → b.group = g → b.pos = pos → b.kind = .cover → b.ready ≤ s.dev.sampTick → b.phys < 34 → b.failed < 34 →
     ∃ t, exec (.spareSettled g pos) s = .next t ∧ t.dev.alloc g pos = b.phys ∧ t.dev.role g b.phys = 0 ∧ t.dev.posOf g b.phys = pos ∧
       t.dev.loom = { s.dev.loom with brings := [] } ∧ t.dev.assay = { s.dev.assay with commitReq := true, commitAlloc := true } ∧
       t.dev.ErrHeld (12 + g) 0xF1 (34 * g + b.failed + 256 * pos) ((s.dev.sampTick - 1) % 2 ^ 32) ∧
       t.dev.fget Reg.hdr_RECOVERY_COUNT (12 + g) = satAdd 32 (s.dev.fget Reg.hdr_RECOVERY_COUNT (12 + g)) 1 ∧
       (∀ p < 32, p ≠ pos.val → t.dev.alloc g p = s.dev.alloc g p) ∧
       (s.dev.role g b.phys = 3 → t.dev.Raised (12 + g) Ev.loom_SUBSTITUTED ∧ t.dev.isDegraded (12 + g) = true) ∧
       s.Framed (if s.dev.role g b.phys = 3 then [.loom, .tabs, .assay, .degraded] ++ eventParts else [.loom, .tabs, .assay])
         ([Reg.slice_ROLE.key (34 * g + b.phys), Reg.slice_LOGICAL_POS.key (34 * g + b.phys), Reg.hdr_RECOVERY_COUNT.key (12 + g)] ++
           errKeys (12 + g) ++ if s.dev.role g b.phys = 3 then eventKeys (12 + g) else []) t) ∧
   (∀ (s : State) (n : Fin 136), s.dev.fore.off = false →
     let g := n.val / 34
     s.dev.role g (n.val % 34) = 3 → s.dev.AssayIdle g → s.dev.loom.brings = [] →
     ∃ t, exec (.idleSpareFail n) s = .next t ∧ t.dev.role g (n.val % 34) = 6 ∧ t.dev.Raised (12 + g) Ev.loom_SLICE_FAIL ∧
       t.dev.isDegraded (12 + g) = true ∧ t.dev.ErrHeld (12 + g) Ev.loom_SLICE_FAIL (n.val + 2 ^ 13) 0 ∧
       t.dev.fget Reg.loom_SPARES_LEFT g = s.dev.fget Reg.loom_SPARES_LEFT g - 1 ∧ s.dev.PlanAsked t.dev ∧ t.dev.loom = s.dev.loom ∧
       s.Framed ([.loom, .degraded, .fore] ++ eventParts) ([Reg.slice_ROLE.key n, Reg.loom_SPARES_LEFT.key g] ++ errKeys (12 + g) ++
         eventKeys (12 + g)) t) ∧
   ∀ (s : State) (n : Fin 136), s.dev.fore.off = false →
     let g := n.val / 34
     let i := n.val % 34
     s.dev.role g i = 1 → s.dev.AssayIdle g → s.dev.loom.brings = [] →
     ∃ t, exec (.idleSpareFail n) s = .next t ∧ t.dev.role g i = 6 ∧ t.dev.Raised (12 + g) Ev.loom_SLICE_FAIL ∧
       t.dev.ErrHeld (12 + g) Ev.loom_SLICE_FAIL (n.val + 2 ^ 13) 0 ∧ s.dev.PlanAsked t.dev ∧
       (∀ st, s.dev.freeSpare g 3 = some st → t.dev.role g st = 1 ∧ t.dev.posOf g st = s.dev.posOf g i ∧ t.dev.isDegraded (12 + g) = true ∧
         s.Framed ([.loom, .degraded, .fore] ++ eventParts) ([Reg.slice_ROLE.key n, Reg.slice_ROLE.key (34 * g + st),
           Reg.slice_LOGICAL_POS.key (34 * g + st), Reg.loom_SPARES_LEFT.key g] ++ errKeys (12 + g) ++ eventKeys (12 + g)) t) ∧
       (s.dev.freeSpare g 3 = none → t.dev.flag Reg.loom_BORROW_STOPPED g = true ∧ t.dev.isContained (12 + g) = true ∧
         s.Framed ([.loom, .contained, .fore] ++ eventParts) ([Reg.slice_ROLE.key n, Reg.loom_BORROW_STOPPED.key g, Reg.loom_SPARES_LEFT.key g] ++
           errKeys (12 + g) ++ eventKeys (12 + g)) t))

/-- A background run (R97 to R101, R109, R116; log entries 40, 42). SLICE_TEMP_SAMPLE stores the slices' temperatures. ASSAY_RUN_START borrows an active
slice: the idle calibration spare is brought to its position; a spare is run in place. The DC phase gives offset and gain by the fit over the nine DAC
levels; the live phase skew and FIR where the input made them observable, and brings the slice back. ASSAY_RUN_RETURN writes the coefficients that the
Assayer owns, records the figures, returns the slice and ends the run. Runs that do not complete, and the DLL taps (R56, R77, R99, R102, R103). At its
boundary a borrow hands the position to the spare; a slice that comes back without results serves it again. A run not returned in time is abandoned:
it is raised, recorded, counted against the slice, and the borrowed slice is brought back without results. A run that waits for STEADY restarts its
live phase. DLL measurements move each tap trim toward its measured value by at most 2 ps, from the next weft boundary, and set the code map; a
measurement whose training data R56 discards changes no table. -/
def Obligations.BackgroundRuns : Prop :=
  ((∀ (s : State) (temps : List Int), s.dev.fore.off = false → temps.length = 136 →
     ∃ t, exec (.sliceTempSample temps) s = .next t ∧
       (∀ n < 136, t.dev.quality n 1 = s.dev.quality n 1 % 65536 + 65536 * ofSigned 16 (temps.getD n 0) ∧
         KMap.at t.dev.assay.ageMs 0 n = KMap.at s.dev.assay.ageMs 0 n + 1) ∧
       t.dev.assay = { s.dev.assay with ageMs := t.dev.assay.ageMs } ∧
       s.dev.TabFramed ((List.range 136).map fun n => tkey 17 0 0 (4 * n + 1)) t.dev ∧
       s.Framed [.tabs, .assay] ((List.range 4).flatMap fun g => [Reg.assay_DUE_COUNT.key g, Reg.assay_BLACKOUT_HELD.key g, Reg.assay_OVERRIDDEN.key g]) t) ∧
   (∀ (s : State) (g : Fin 4) (i : Nat), s.dev.fore.off = false → s.dev.groupFree g = true → s.dev.romRecovery = false →
     s.dev.nextRun g = some i → i < 34 →
     let temp := toSigned 16 (s.dev.quality (34 * g + i) 1 / 65536)
     ∃ t, exec (.assayRunStart g) s = .next t ∧ t.dev.flag Reg.assay_RUN_ACTIVE g = true ∧ t.dev.fget Reg.assay_RUN_INDEX g = i ∧
       (∀ cs, s.dev.role g i = 0 → s.dev.flag Reg.loom_BORROW_STOPPED g = false → s.dev.freeSpare g 1 = some cs →
         KMap.find t.dev.assay.runs g = some { phys := i, pos := some (s.dev.posOf g i), phase := .bringing, temp := temp } ∧
         t.dev.loom = { s.dev.loom with brings := s.dev.loom.brings ++
           [{ group := g, phys := cs, pos := s.dev.posOf g i, ready := s.dev.sampTick + 16, kind := .borrow }] }) ∧
       (s.dev.role g i ≠ 0 → KMap.find t.dev.assay.runs g = some { phys := i, pos := none, phase := .dc, temp := temp } ∧ t.dev.loom = s.dev.loom) ∧
       (s.dev.role g i = 0 → s.dev.flag Reg.loom_BORROW_STOPPED g = true → t.dev.loom = s.dev.loom ∧
         t.dev.flag Reg.assay_WAIT_STEADY g = !s.dev.gatherOk ∧ KMap.find t.dev.assay.runs g =
           some { phys := i, pos := none, phase := if s.dev.gatherOk then .live else .waitSteady, temp := temp, khz := s.dev.lastKhz.getD 0 }) ∧
       (s.dev.blackout g = true → t.dev.flag Reg.assay_OVERRIDDEN g = true ∧ t.dev.Raised 17 Ev.assay_POLICY_CONFLICT) ∧
       s.Framed (if s.dev.blackout g then [.loom, .assay] ++ eventParts else [.loom, .assay])
         ([Reg.assay_RUN_ACTIVE.key g, Reg.assay_RUN_INDEX.key g, Reg.assay_WAIT_STEADY.key g] ++
           if s.dev.blackout g then Reg.assay_OVERRIDDEN.key g :: eventKeys 17 else []) t) ∧
   (∀ (s : State) (g : Fin 4) (r : AssayRun) (below above : List Int), s.dev.fore.off = false → KMap.find s.dev.assay.runs g = some r → r.phase = .dc →
     ∃ t, exec (.dcPhaseEnd g below above) s = .next t ∧ t.dev.flag Reg.assay_WAIT_STEADY g = !s.dev.gatherOk ∧
       t.dev.assay = { s.dev.assay with runs := KMap.put s.dev.assay.runs g { r with
         phase := if s.dev.gatherOk then .live else .waitSteady
         dc := some (dacFit (below ++ above) (Config.freeValue s.dev.freeCtr))
         khz := s.dev.lastKhz.getD 0 } } ∧ s.Framed [.assay, .freeCtr] [Reg.assay_WAIT_STEADY.key g] t) ∧
   (∀ (a : Int) (free : Nat), -2047 ≤ a → a ≤ 2047 → dacFit ([-1792, -1536, -1024, -512, 0, 512, 1024, 1536, 1792].map fun l => 256 * (l + a)) free = (16 * a, 2 ^ 22)) ∧
   (∀ (s : State) (g : Fin 4) (r : AssayRun) (stdErr : Nat) (trim : Int) (fir : List Int) (nb : Option (Int × Int)), s.dev.fore.off = false →
     KMap.find s.dev.assay.runs g = some r → r.phase = .live →
     let alone := r.pos = none ∧ s.dev.role g r.phys = 0
     ∃ t, exec (.livePhaseEnd g (stdErr, trim) fir nb) s = .next t ∧
       t.dev.assay = { s.dev.assay with runs := KMap.put s.dev.assay.runs g { r with
         phase := .returning
         dc := if alone then nb else r.dc
         fine := if stdErr < 1000 then some (trim, if alone then [] else fir) else none
         results := true } } ∧
       (r.pos = none → s.Framed [.assay] [] t) ∧
       (∀ p, r.pos = some p → t.dev.loom = { s.dev.loom with brings := s.dev.loom.brings ++
         [{ group := g, phys := r.phys, pos := p, ready := s.dev.sampTick + 16, kind := .giveBack }] } ∧ s.Framed [.assay, .loom] [] t)) ∧
   (∀ (s : State) (g : Fin 4) (r : AssayRun) (f : QualityFigures), s.dev.fore.off = false →
     KMap.find s.dev.assay.runs g = some r → r.phase = .returning → r.results = true → r.pos = none →
     s.dev.owns g = true → KMap.find s.dev.assay.bgOnly g = none → bitAt s.dev.assay.fgDue g = false → KMap.find s.dev.loom.retireWait g = none →
     r.phys < 34 → (s.dev.tctlOf (12 + g) 0).bank < 2 →
     let n := 34 * g.val + r.phys
     let looms := groupsOf s.dev.mode (inputOf s.dev.mode g)
     ∃ t, exec (.assayRunReturn g f) s = .next t ∧
       (∀ offset gain, r.dc = some (offset, gain) → -32768 ≤ offset → offset ≤ 32767 → 0 ≤ gain → gain < 2 ^ 24 →
         t.dev.corr g r.phys = (offset, gain.toNat)) ∧
       (r.dc = none → t.dev.corr g r.phys = s.dev.corr g r.phys) ∧
       (∀ trim fir, r.fine = some (trim, fir) → s.dev.posOf g r.phys < 32 →
         let tap := tapOf s.dev.mode g (s.dev.posOf g r.phys)
         toSigned 8 (byteOf (t.dev.tactive 16 0 (4 * n + tap / 4)) (tap % 4)) = clampInt (-100) 100 trim) ∧
       KMap.find t.dev.assay.runs g = none ∧ t.dev.flag Reg.assay_RUN_ACTIVE g = false ∧ t.dev.flag Reg.assay_WAIT_STEADY g = false ∧
       t.dev.quality n 0 = ofSigned 16 f.offsetResid + 65536 * ofSigned 16 f.gainResid ∧
       t.dev.quality n 1 = s.dev.quality n 1 / 65536 * 65536 + ofSigned 16 r.temp ∧
       t.dev.quality n 3 = (if r.fine.isSome then 2 else 3) + 4 * Bool.bit (s.dev.residOut f) ∧ KMap.at t.dev.assay.ageMs 0 n = 0 ∧
       t.dev.fget Reg.assay_SKEW_RMS g = min 65535 (rootOf (t.dev.skewSq g) 320000 (Config.freeValue s.dev.freeCtr)) ∧
       (∀ v, spurOf (samplesPer s.dev.mode) ((looms.map t.dev.gainSq).sum) ((looms.map t.dev.skewSq).sum) (s.dev.fget Reg.assay_SPUR_REF_FREQ) = some v →
         ∀ k ∈ looms, t.dev.fgetS Reg.assay_SPUR k = clampInt (-32768) 32767 v) ∧
       (s.dev.residOut f = true → bitAt (s.dev.quality n 3) 2 = false → t.dev.Raised 17 Ev.assay_QUALITY_LIMIT) ∧
       t.dev.loom = s.dev.loom ∧
       s.Framed ([.tabs, .assay, .freeCtr, .fore] ++ eventParts) ([Reg.assay_RUN_ACTIVE.key g, Reg.assay_WAIT_STEADY.key g,
         Reg.assay_SKEW_RMS.key g, Reg.assay_METHOD.key g, Reg.assay_DUE_COUNT.key g, Reg.assay_BLACKOUT_HELD.key g,
         Reg.assay_OVERRIDDEN.key g] ++ ((List.range 4).flatMap fun k => [Reg.assay_SPUR.key k, Reg.assay_OUT_OF_LIMIT.key k]) ++ eventKeys 17) t) ∧
   ∀ (s : State) (g : Fin 4) (r : AssayRun) (f : QualityFigures) (b : Bring) (p cs : Nat), s.dev.fore.off = false →
     KMap.find s.dev.assay.runs g = some r → r.phase = .returning → r.results = true → r.pos = some p → s.dev.loom.brings = [b] → b.group = g →
     b.kind = .giveBack → b.ready ≤ s.dev.sampTick → s.dev.withRole g 2 = [cs] → r.phys < 34 → r.phys ≠ cs → KMap.find s.dev.loom.coverWait g = none →
     KMap.find s.dev.assay.bgOnly g = none → bitAt s.dev.assay.fgDue g = false → KMap.find s.dev.loom.retireWait g = none →
     ∃ t, exec (.assayRunReturn g f) s = .next t ∧ t.dev.role g r.phys = 0 ∧ t.dev.role g cs = 1 ∧ t.dev.flag Reg.loom_CAL_SPARE_BUSY g = false ∧
       KMap.find t.dev.assay.runs g = none ∧ t.dev.loom = { s.dev.loom with brings := [], swapped := s.dev.loom.swapped ||| 2 ^ g.val } ∧
       t.dev.flag Reg.assay_RUN_ACTIVE g = false ∧ KMap.at t.dev.assay.ageMs 0 (34 * g + r.phys) = 0 ∧
       (s.dev.owns g = false → ∀ a < 544, t.dev.tactive (12 + g) 0 a = s.dev.tactive (12 + g) 0 a ∧ t.dev.tactive 16 0 a = s.dev.tactive 16 0 a) ∧
       s.Framed ([.tabs, .assay, .freeCtr, .fore, .loom] ++ eventParts) ([Reg.slice_ROLE.key (34 * g + r.phys), Reg.slice_ROLE.key (34 * g + cs),
         Reg.loom_CAL_SPARE_BUSY.key g, Reg.assay_RUN_ACTIVE.key g, Reg.assay_WAIT_STEADY.key g, Reg.assay_SKEW_RMS.key g, Reg.assay_METHOD.key g,
         Reg.assay_DUE_COUNT.key g, Reg.assay_BLACKOUT_HELD.key g, Reg.assay_OVERRIDDEN.key g] ++
         ((List.range 4).flatMap fun k => [Reg.assay_SPUR.key k, Reg.assay_OUT_OF_LIMIT.key k]) ++ eventKeys 17) t) ∧
  ((∀ (s : State) (g : Fin 4) (b : Bring) (r : AssayRun), s.dev.fore.off = false → s.dev.loom.brings = [b] → b.group = g → b.kind = .borrow →
     b.ready ≤ s.dev.sampTick → KMap.find s.dev.assay.runs g = some r → b.phys < 34 → r.phys < 34 → b.phys ≠ r.phys → b.pos < 32 →
     ∃ t, exec (.substitutionBoundary g) s = .next t ∧ t.dev.role g b.phys = 2 ∧ t.dev.role g r.phys = 4 ∧ t.dev.posOf g b.phys = b.pos ∧
       t.dev.flag Reg.loom_CAL_SPARE_BUSY g = true ∧ t.dev.fget Reg.loom_CAL_SPARE_POS g = b.pos ∧
       t.dev.loom = { s.dev.loom with brings := [], swapped := s.dev.loom.swapped ||| 2 ^ g.val } ∧
       t.dev.assay = { s.dev.assay with runs := KMap.put s.dev.assay.runs g { r with
         phase := .dc, temp := toSigned 16 (s.dev.quality (34 * g + r.phys) 1 / 65536) } } ∧
       s.Framed [.loom, .assay] [Reg.slice_ROLE.key (34 * g + b.phys), Reg.slice_ROLE.key (34 * g + r.phys),
         Reg.slice_LOGICAL_POS.key (34 * g + b.phys), Reg.loom_CAL_SPARE_BUSY.key g, Reg.loom_CAL_SPARE_POS.key g] t) ∧
   (∀ (s : State) (g : Fin 4) (b : Bring) (r : AssayRun) (cs : Nat), s.dev.fore.off = false → s.dev.loom.brings = [b] → b.group = g →
     b.kind = .giveBack → b.ready ≤ s.dev.sampTick → KMap.find s.dev.assay.runs g = some r → r.results = false → b.phys < 34 →
     s.dev.withRole g 2 = [cs] → b.phys ≠ cs → KMap.find s.dev.loom.coverWait g = none → bitAt s.dev.assay.fgDue g = false →
     KMap.find s.dev.loom.retireWait g = none →
     ∃ t, exec (.substitutionBoundary g) s = .next t ∧ t.dev.role g b.phys = 0 ∧ t.dev.role g cs = 1 ∧ t.dev.flag Reg.loom_CAL_SPARE_BUSY g = false ∧
       t.dev.assay = { s.dev.assay with runs := KMap.del s.dev.assay.runs g } ∧ t.dev.flag Reg.assay_RUN_ACTIVE g = false ∧
       t.dev.loom = { s.dev.loom with brings := [], swapped := s.dev.loom.swapped ||| 2 ^ g.val } ∧
       s.Framed [.loom, .assay] [Reg.slice_ROLE.key (34 * g + b.phys), Reg.slice_ROLE.key (34 * g + cs), Reg.loom_CAL_SPARE_BUSY.key g,
         Reg.assay_RUN_ACTIVE.key g, Reg.assay_WAIT_STEADY.key g] t) ∧
   (∀ (s : State) (g : Fin 4) (r : AssayRun) (p : Nat), s.dev.fore.off = false → KMap.find s.dev.assay.runs g = some r → r.phys < 34 →
     r.pos = some p → r.phase ≠ .bringing →
     let n := 34 * g.val + r.phys
     let w := s.dev.quality n 3
     ∃ t, exec (.runAbandoned g) s = .next t ∧ t.dev.Raised 17 Ev.assay_RUN_ABANDONED ∧ t.dev.ErrHeld 17 Ev.assay_RUN_ABANDONED n 0 ∧
       t.dev.quality n 3 = w % 8 + 8 + 16 * min 15 (bitField w 4 4 + 1) ∧ t.dev.flag Reg.assay_WAIT_STEADY g = false ∧
       t.dev.assay.runs = KMap.put s.dev.assay.runs g { r with phase := .returning, dc := none, fine := none, results := false } ∧
       t.dev.assay = { s.dev.assay with runs := t.dev.assay.runs, tail := t.dev.assay.tail, bgOnly := t.dev.assay.bgOnly } ∧
       (r.phase = .returning → t.dev.loom = s.dev.loom) ∧
       (r.phase ≠ .returning → t.dev.loom = { s.dev.loom with brings := s.dev.loom.brings ++
         [{ group := g, phys := r.phys, pos := p, ready := s.dev.sampTick + 16, kind := .giveBack }] }) ∧
       t.dev.fget Reg.hdr_TIMEOUT_COUNT 17 = satAdd 32 (s.dev.fget Reg.hdr_TIMEOUT_COUNT 17) 1 ∧
       t.dev.fget Reg.hdr_RECOVERY_COUNT 17 = satAdd 32 (s.dev.fget Reg.hdr_RECOVERY_COUNT 17) 1 ∧
       s.dev.TabFramed [tkey 17 0 0 (4 * n + 3)] t.dev ∧
       s.Framed ([.tabs, .assay, .loom] ++ eventParts) ([Reg.assay_WAIT_STEADY.key g, Reg.hdr_TIMEOUT_COUNT.key 17, Reg.hdr_RECOVERY_COUNT.key 17] ++
         errKeys 17 ++ eventKeys 17) t) ∧
   (∀ (s : State) (g : Fin 4) (r : AssayRun), s.dev.fore.off = false → KMap.find s.dev.assay.runs g = some r → r.phase = .waitSteady →
     s.dev.steadyAgain = true →
     ∃ t, exec (.livePhaseRestart g) s = .next t ∧ t.dev.flag Reg.assay_WAIT_STEADY g = false ∧
       t.dev.assay = { s.dev.assay with runs := KMap.put s.dev.assay.runs g { r with phase := .live, khz := s.dev.lastKhz.getD 0 } } ∧
       s.Framed [.assay] [Reg.assay_WAIT_STEADY.key g] t) ∧
   (∀ (s : State) (g : Fin 4) (i : Nat), s.dev.fore.off = false → KMap.find s.dev.assay.runs g = none → KMap.find s.dev.assay.fg g = some i → i < 34 →
     s.dev.flag Reg.assay_WAIT_STEADY g = true → s.dev.steadyAgain = true →
     ∃ t, exec (.livePhaseRestart g) s = .next t ∧ t.dev.flag Reg.assay_WAIT_STEADY g = false ∧ KMap.find t.dev.assay.fg g = some i ∧
       KMap.at t.dev.assay.fgKhz 0 g = s.dev.lastKhz.getD 0 ∧ s.Framed [.assay] [Reg.assay_WAIT_STEADY.key g, Reg.assay_RUN_INDEX.key g] t) ∧
   ∀ (s : State) (g : Fin 4) (trims : List Int) (map : List Nat), s.dev.fore.off = false → trims.length = 16 → map.length = 8 →
     (∀ k < 16, -128 ≤ trims.getD k 0 ∧ trims.getD k 0 ≤ 127) →
     ∃ t, exec (.dllTapMeasure g trims map) s = .next t ∧
       ((s.dev.dll g).tapBad = false → s.dev.gatherOk = true →
         (t.dev.dll g).trims.isSome = true ∧ ((t.dev.dll g).trims.getD []).length = 4 ∧
         (∀ k < 16,
           let o := toSigned 8 (byteOf (s.dev.tget 17 1 0 (4 * g + k / 4)) (k % 4))
           toSigned 8 (byteOf (((t.dev.dll g).trims.getD []).getD (k / 4) 0) (k % 4)) = o + clampInt (-40) 40 (trims.getD k 0 - o)) ∧
         (∀ k < 8, bitField (t.dev.tget 17 2 0 (8 * g + k)) 0 16 = (if k = 7 then 0 else map.getD k 0 % 65536) ∧
           bitField (t.dev.tget 17 2 0 (8 * g + k)) 16 16 = (if k = 0 then 0 else map.getD k 0 / 65536 % 65536)) ∧
         s.dev.TabFramed ((List.range 8).map fun k => tkey 17 2 0 (8 * g + k)) t.dev) ∧
       ((s.dev.dll g).tapBad = true ∨ s.dev.gatherOk = false → (t.dev.dll g).trims = (s.dev.dll g).trims ∧ s.dev.TabFramed [] t.dev) ∧
       (t.dev.dll g).tapKhz = s.dev.lastKhz.getD 0 ∧ (t.dev.dll g).tapBad = ((s.dev.dll g).tapBad && !s.dev.steadyAgain) ∧
       (t.dev.dll g) = { s.dev.dll g with
         trims := (t.dev.dll g).trims, tapKhz := (t.dev.dll g).tapKhz, tapBad := (t.dev.dll g).tapBad } ∧
       (∀ k < 4, k ≠ g.val → t.dev.dll k = s.dev.dll k) ∧ s.Framed [.tabs, .clk] [] t)

/-- Foreground runs (R56, R105 to R109, R514). An accepted FG_START shows its groups busy and asks for the quiet checks of their inputs; one that names no
group, a busy one, or comes while armed is refused and recorded. Each FG_SLICE_DONE stores the slice's coefficients and figures and goes on with the
next slice; the last one ends the group's run with FG_DONE. The retry timer repeats the checks of pending groups. CANCEL clears PENDING and ends
calibration commands with ABORTED. -/
def Obligations.ForegroundRuns : Prop :=
  (∀ (s : State) (who : Requester) (gs : BitVec 4), s.dev.fore.off = false → s.dev.flag Reg.hdr_FREEZE 17 = false → s.dev.clksOk = true →
    ∃ t, exec (.fgStart who gs) s = .next t ∧ t.dev.fget Reg.assay_GROUPS = gs.toNat ∧
      (gs = 0 ∨ s.dev.armed = true ∨ s.dev.fget Reg.assay_FG_BUSY &&& gs.toNat ≠ 0 → t.dev.ErrHeld 17 0xF2 0 0 ∧
        s.Framed [] (Reg.assay_GROUPS.key 0 :: Reg.hdr_CFG_EPOCH.key 17 :: errKeys 17) t) ∧
      (gs ≠ 0 → s.dev.armed = false → s.dev.fget Reg.assay_FG_BUSY &&& gs.toNat = 0 →
        t.dev.fget Reg.assay_FG_BUSY = (s.dev.fget Reg.assay_FG_BUSY ||| gs.toNat) % 16 ∧
        t.dev.assay = { s.dev.assay with fgWait := s.dev.assay.fgWait ||| gs.toNat } ∧
        (∀ g < 4, gs.toNat.testBit g = true → t.dev.flag Reg.fe_BUSY (inputOf s.dev.mode g) = true ∧
          (KMap.find t.dev.loom.quiet (inputOf s.dev.mode g)).any (fun q => q.assayer) = true) ∧
        t.dev.loom = { s.dev.loom with quiet := t.dev.loom.quiet } ∧
        s.Framed [.loom, .assay] ([Reg.assay_GROUPS.key 0, Reg.assay_FG_BUSY.key 0, Reg.hdr_CFG_EPOCH.key 17] ++
          (List.range 4).flatMap fun x => [Reg.fe_BUSY.key x, Reg.fe_VALID.key x]) t)) ∧
  (∀ (s : State) (g : Fin 4) (c : SliceCoeffs) (f : QualityFigures) (i k : Nat), s.dev.fore.off = false → KMap.find s.dev.assay.fg g = some i →
    i < 34 → s.dev.role g i ≠ 5 → s.dev.role g i ≠ 6 → s.dev.flag Reg.assay_WAIT_STEADY g = false → s.dev.owns g = true →
    s.dev.fgNext g i = some k → k < 34 →
    -32768 ≤ c.offset → c.offset ≤ 32767 → 0 ≤ c.gain → c.gain < 2 ^ 24 → s.dev.posOf g i < 32 → (s.dev.tctlOf (12 + g) 0).bank < 2 →
    let n := 34 * g.val + i
    let tap := tapOf s.dev.mode g (s.dev.posOf g i)
    ∃ t, exec (.fgSliceDone g c f) s = .next t ∧ KMap.find t.dev.assay.fg g = some k ∧ t.dev.fget Reg.assay_RUN_INDEX g = k ∧
      t.dev.corr g i = (c.offset, c.gain.toNat) ∧
      toSigned 8 (byteOf (t.dev.tactive 16 0 (4 * n + tap / 4)) (tap % 4)) = clampInt (-100) 100 c.trim ∧
      t.dev.quality n 0 = ofSigned 16 f.offsetResid + 65536 * ofSigned 16 f.gainResid ∧
      t.dev.quality n 3 = 1 + 4 * Bool.bit (s.dev.residOut f) ∧ KMap.at t.dev.assay.ageMs 0 n = 0 ∧
      t.dev.flag Reg.assay_WAIT_STEADY g = !s.dev.gatherOk ∧
      s.Framed ([.tabs, .assay, .freeCtr, .fore] ++ eventParts) ([Reg.assay_RUN_INDEX.key g, Reg.assay_WAIT_STEADY.key g, Reg.assay_SKEW_RMS.key g] ++
        ((List.range 4).flatMap fun k => [Reg.assay_SPUR.key k, Reg.assay_OUT_OF_LIMIT.key k]) ++ eventKeys 17) t) ∧
  (∀ (s : State) (g : Fin 4) (c : SliceCoeffs) (f : QualityFigures) (i : Nat), s.dev.fore.off = false → KMap.find s.dev.assay.fg g = some i →
    s.dev.flag Reg.assay_WAIT_STEADY g = false → s.dev.fgNext g i = none → s.dev.assay.cmds = [] → s.dev.assay.startup = none →
    ∃ t, exec (.fgSliceDone g c f) s = .next t ∧ KMap.find t.dev.assay.fg g = none ∧ t.dev.flag Reg.assay_RUN_ACTIVE g = false ∧
      bitAt (t.dev.fget Reg.assay_FG_BUSY) g = false ∧
      t.dev.fget Reg.assay_METHOD g = (if bitAt (s.dev.fget Reg.assay_MANUAL) g then 3 else 1) ∧ t.dev.Raised 17 Ev.assay_FG_DONE ∧
      s.Framed ([.tabs, .assay, .freeCtr, .fore] ++ eventParts) ([Reg.assay_RUN_ACTIVE.key g, Reg.assay_FG_BUSY.key 0, Reg.assay_METHOD.key g,
        Reg.assay_SKEW_RMS.key g, Reg.assay_DUE_COUNT.key g, Reg.assay_BLACKOUT_HELD.key g, Reg.assay_OVERRIDDEN.key g] ++
        ((List.range 4).flatMap fun k => [Reg.assay_SPUR.key k, Reg.assay_OUT_OF_LIMIT.key k]) ++ eventKeys 17) t) ∧
  (∀ s : State, s.dev.fore.off = false → s.dev.clksOk = true →
    ∃ t, exec .quietRetryTimer s = .next t ∧
      (∀ g < 4, bitAt (s.dev.fget Reg.assay_PENDING) g = true → t.dev.flag Reg.fe_BUSY (inputOf s.dev.mode g) = true ∧
        (KMap.find t.dev.loom.quiet (inputOf s.dev.mode g)).any (fun q => q.assayer) = true) ∧
      t.dev.loom = { s.dev.loom with quiet := t.dev.loom.quiet } ∧
      s.Framed [.loom] ((List.range 4).flatMap fun x => [Reg.fe_BUSY.key x, Reg.fe_VALID.key x]) t) ∧
  (∀ (s : State) (who : Requester), s.dev.fore.off = false → s.dev.flag Reg.hdr_FREEZE 17 = false → s.dev.assay.cmds = [] →
    ∃ t, exec (.cancel who) s = .next t ∧ t.dev.fget Reg.assay_PENDING = 0 ∧
      t.dev.assay = { s.dev.assay with fgDue := andNot s.dev.assay.fgDue (s.dev.fget Reg.assay_PENDING) } ∧
      s.Framed [.assay] [Reg.assay_PENDING.key 0, Reg.hdr_CFG_EPOCH.key 17] t) ∧
  ∀ (s : State) (who : Requester) (k : CalCmd) (c : Cmd), s.dev.fore.off = false → s.dev.flag Reg.hdr_FREEZE 17 = false → s.dev.assay.cmds = [k] →
    k.cmd = c.id → s.dev.Outstanding c →
    ∃ t, exec (.cancel who) s = .next t ∧ t.dev.fget Reg.assay_PENDING = 0 ∧ t.dev.assay.cmds = [] ∧ s.dev.PostedCmd t.dev c 4 0 ∧
      s.Framed (.assay :: eventParts) (Reg.assay_PENDING.key 0 :: Reg.hdr_CFG_EPOCH.key 17 :: cmdKeys) t

/-- Commits to the calibration banks (R110, R112, R113, R115, R430). COMMIT_NOW asks for one; it starts once the gap is over, with the working
coefficients and the next SEQ, on the bank that is not active. Its first block invalidates that bank, the others leave the banks alone, its last makes
the bank valid and active. A block not written in time is retried once; then the bank has failed and the other one takes the commit, or, where that
one has failed too, the commit ends and the fault is contained. -/
def Obligations.BankCommits : Prop :=
  (∀ (s : State) (who : Requester), s.dev.fore.off = false → s.dev.flag Reg.hdr_FREEZE 17 = false →
    ∃ t, exec (.commitNow who) s = .next t ∧ t.dev.assay = { s.dev.assay with commitReq := true, commitManual := true } ∧
      s.Framed [.assay] [Reg.hdr_CFG_EPOCH.key 17] t) ∧
  (∀ (s : State) (b : Nat), s.dev.fore.off = false → s.dev.assay.commit = none → s.dev.assay.commitReq = true → s.dev.commitGapOver = true →
    s.dev.assay.loaded.isSome = true → s.dev.commitTarget = some b →
    let seq := (s.dev.activeSeq s.nv + 1) % 2 ^ 32
    ∃ t, exec .bankCommitStart s = .next t ∧ t.dev.flag Reg.assay_COMMIT_BUSY = true ∧
      t.dev.assay = { s.dev.assay with
        commit := some { target := b, step := 0, retried := false, serves := s.dev.assay.commitCmds, image := s.dev.bankImage s.nv seq }
        commitReq := false
        commitAlloc := false
        commitManual := false
        commitCmds := [] } ∧
      (b = if s.dev.fget Reg.assay_ACTIVE = 0 then (if s.dev.bankFailed 1 then 0 else 1) else if s.dev.bankFailed 0 then 1 else 0) ∧
      (∀ g < 4, ∀ i < 34, ∀ v, KMap.find s.dev.tabs (tkey (12 + g) 0 (s.dev.tctlOf (12 + g) 0).bank (2 * i)) = some v →
        (bitAt (s.dev.fget Reg.assay_MANUAL) g = false ∨ s.dev.assay.commitManual = true → (s.dev.bankImage s.nv seq).word (68 * g + 2 * i) = v % 2 ^ 32)) ∧
      s.Framed [.assay] [Reg.assay_COMMIT_BUSY.key 0] t) ∧
  (∀ (s : State) (c : Commit), s.dev.fore.off = false → s.dev.assay.commit = some c → c.target < 2 → c.serves = [] →
    ∃ t, exec .mramBlockWriteDone s = .next t ∧ t.pending = s.pending ∧ t.hbm = s.hbm ∧
      (c.step = 0 → (t.nv.calb c.target).valid = false ∧ t.nv.calb (1 - c.target) = s.nv.calb (1 - c.target)) ∧
      (0 < c.step → c.step < 512 → t.nv = { s.nv with mramWrites := s.nv.mramWrites + 1 }) ∧
      (c.step < 512 → t.dev.assay = { s.dev.assay with commit := some { c with step := c.step + 1, retried := false } }) ∧
      (512 ≤ c.step → t.nv.calb c.target = c.image ∧ t.nv.calb (1 - c.target) = s.nv.calb (1 - c.target) ∧
        t.dev.fget Reg.assay_ACTIVE = c.target ∧ t.dev.flag Reg.assay_COMMIT_BUSY = false ∧ t.dev.Raised 17 Ev.assay_COMMIT_DONE ∧
        t.dev.assay = { s.dev.assay with commit := none, lastCommit := some s.dev.nowTick }) ∧
      t.nv = { s.nv with calb0 := t.nv.calb0, calb1 := t.nv.calb1, mramWrites := s.nv.mramWrites + 1 } ∧
      s.dev.Framed (.assay :: eventParts) ([Reg.assay_CALB0_VALID.key 0, Reg.assay_CALB1_VALID.key 0, Reg.assay_FCAL_VALID.key 0,
        Reg.assay_CALB0_SEQ.key 0, Reg.assay_CALB1_SEQ.key 0, Reg.assay_ACTIVE.key 0, Reg.assay_COMMIT_BUSY.key 0, Reg.pcie_EGRESS_LEVEL.key 0] ++
          eventKeys 17) t.dev) ∧
  ∀ (s : State) (c : Commit), s.dev.fore.off = false → s.dev.assay.commit = some c → c.target < 2 →
    ∃ t, exec .mramRetry s = .next t ∧ t.dev.fget Reg.hdr_TIMEOUT_COUNT 17 = satAdd 32 (s.dev.fget Reg.hdr_TIMEOUT_COUNT 17) 1 ∧
      t.dev.fore.mramFails = s.dev.fore.mramFails + 1 ∧
      (c.retried = false → t.dev.assay = { s.dev.assay with commit := some { c with retried := true } } ∧
        t.dev.fget Reg.hdr_RECOVERY_COUNT 17 = satAdd 32 (s.dev.fget Reg.hdr_RECOVERY_COUNT 17) 1 ∧
        s.Framed [.assay, .fore] [Reg.hdr_TIMEOUT_COUNT.key 17, Reg.hdr_RECOVERY_COUNT.key 17] t) ∧
      (c.retried = true → t.dev.bankFailed c.target = true ∧ t.dev.Raised 17 Ev.assay_MRAM_RETRY ∧ t.dev.isDegraded 17 = true ∧
        t.dev.ErrHeld 17 Ev.assay_MRAM_RETRY c.target 0) ∧
      (c.retried = true → s.dev.bankFailed (1 - c.target) = false →
        t.dev.assay = { s.dev.assay with commit := some { c with target := 1 - c.target, step := 0, retried := false } } ∧
        s.Framed ([.assay, .degraded, .contained, .fore] ++ eventParts) ([Reg.hdr_TIMEOUT_COUNT.key 17, Reg.hdr_RECOVERY_COUNT.key 17,
          Reg.assay_CALB0_FAILED.key 0, Reg.assay_CALB1_FAILED.key 0] ++ errKeys 17 ++ eventKeys 17) t) ∧
      (c.retried = true → s.dev.bankFailed (1 - c.target) = true → c.serves = [] →
        t.dev.assay = { s.dev.assay with commit := none } ∧ t.dev.flag Reg.assay_COMMIT_BUSY = false ∧ t.dev.isContained 17 = true ∧
        s.Framed ([.assay, .degraded, .contained, .fore] ++ eventParts) ([Reg.hdr_TIMEOUT_COUNT.key 17, Reg.assay_COMMIT_BUSY.key 0,
          Reg.assay_CALB0_FAILED.key 0, Reg.assay_CALB1_FAILED.key 0] ++ errKeys 17 ++ eventKeys 17) t)

/-- State sources (R120, R123 to R125, R160). A disabled source, one whose level is already so, or no stream run: nothing happens. Otherwise the level
toggles and the edge is noted with its tick and time; an edge that SLOPE takes, with its gate open and a unit free, starts a conversion for the
trigger; TRIG_IN is offered to ISL_AUX too. LEVEL_CHANGE_APPLY puts a source's written settings in force. -/
def Obligations.StateSources : Prop :=
  (∀ (s : State) (x : Fin 4) (rising : Bool) (tu : Fin 128), s.dev.fore.off = false →
    s.dev.srcOn x = false ∨ bitAt s.dev.trig.levels x = rising ∨ s.dev.loom.run = none →
    ∃ t, exec (.comparatorEdge x rising tu) s = .next t ∧ s.Framed [] [] t) ∧
  (∀ (s : State) (k : Fin 8) (rising : Bool) (tu : Fin 128), s.dev.fore.off = false → s.dev.srcOn k = true →
    bitAt s.dev.trig.levels k = !rising → s.dev.loom.run.isSome = true → (∀ n < 8, (s.dev.ticc n).running = false) →
    let c := if k.val < 4 then Instr.comparatorEdge (Fin.ofNat 4 k) rising tu else Instr.trigInEdge (Fin.ofNat 4 (k - 4)) rising tu
    let e := (s.dev.addEdge k rising tu).1
    let taken := slopeTakes (s.dev.srcInForce k).slope rising
    ∃ t, exec c s = .next t ∧ t.dev.trig = { s.dev.trig with levels := s.dev.trig.levels ^^^ 2 ^ k.val } ∧ t.dev.vern.nextEdge = e.id + 1 ∧
      (taken = false → t.dev.vern.edges = s.dev.vern.edges ++ [e] ∧ t.dev.vern.jobs = s.dev.vern.jobs ∧ s.Framed [.trig, .vern, .tic] [] t) ∧
      (taken = true → KMap.find s.dev.vern.lastConv k = none → s.dev.vernMay false = true →
        KMap.find t.dev.vern.jobs (s.dev.vernFree.headD 0) = some { edge := e.id, tic := false } ∧
        KMap.find t.dev.vern.lastConv k = some e.tapTu ∧
        (s.dev.vern.edges = [] → t.dev.vern.edges = [{ e with unitT := some (s.dev.vernFree.headD 0) }]) ∧
        t.dev.aux = (if k.val < 4 then s.dev.aux else
          { s.dev.aux with urgTin := KMap.put s.dev.aux.urgTin (k - 4) (KMap.at s.dev.aux.urgTin 0 (k - 4) + 1) }) ∧
        s.Framed [.trig, .vern, .tic, .aux] [Reg.vern_FREE.key 0, Reg.vern_TRIG_HELD.key 0, Reg.vern_TIC_HELD.key 0, Reg.vern_IN_POOL.key 0] t)) ∧
  ∀ (s : State) (k : Fin 8) (input : Option Bool), s.dev.fore.off = false →
    ∃ t, exec (.levelChangeApply k input) s = .next t ∧ t.dev.srcInForce k = s.dev.srcWritten k ∧
      bitAt t.dev.trig.levels k = input.getD (bitAt s.dev.trig.levels k) ∧
      t.dev.trig = { s.dev.trig with
        srcs := KMap.put s.dev.trig.srcs k (s.dev.srcWritten k)
        levels := t.dev.trig.levels } ∧
      (∀ j < 8, j ≠ k.val → bitAt t.dev.trig.levels j = bitAt s.dev.trig.levels j) ∧
      s.Framed [.trig] (if k.val < 4 then [Reg.trig_cmp_LEVEL_NOW.key k] else []) t

/-- The vernier pool (R104, R158, R162). A completed conversion places its edge and frees the unit; one that times out leaves the edge without an instant
and is recorded, and the second in a row retires the unit. A calibration window of an idle unit writes its periods and ends STALE; a unit without one
for 100 ms is marked STALE with its periods kept. -/
def Obligations.VernierPool : Prop :=
  (∀ (s : State) (u : Fin 64) (code : Nat) (j : VernJob) (e : Edge), s.dev.fore.off = false → s.dev.trig.todo = [] →
    KMap.find s.dev.vern.jobs u = some j → j.tic = false → s.dev.vern.edges = [e] → e.id = j.edge → s.dev.loom.tick ≤ e.tick →
    ∃ t, exec (.vernierConversionDone u code) s = .next t ∧
      t.dev.vern = { s.dev.vern with
        jobs := KMap.del s.dev.vern.jobs u
        timeouts := KMap.put s.dev.vern.timeouts u 0
        edges := [{ e with
          unitT := none
          instT := some (s.dev.placed e u code 16 j.offset) }] } ∧
      s.Framed [.vern] [Reg.vern_FREE.key 0, Reg.vern_TRIG_HELD.key 0, Reg.vern_TIC_HELD.key 0, Reg.vern_IN_POOL.key 0] t) ∧
  (∀ (s : State) (u : Fin 64) (j : VernJob) (e : Edge), s.dev.fore.off = false → s.dev.trig.todo = [] →
    KMap.find s.dev.vern.jobs u = some j → j.tic = false → s.dev.vern.edges = [e] → e.id = j.edge → s.dev.loom.tick ≤ e.tick →
    let n := KMap.at s.dev.vern.timeouts 0 u
    ∃ t, exec (.convTimeout u) s = .next t ∧ KMap.find t.dev.vern.jobs u = none ∧ t.dev.vern.edges = [{ e with unitT := none }] ∧
      t.dev.Raised 20 Ev.vern_CONV_TIMEOUT ∧ t.dev.ErrHeld 20 Ev.vern_CONV_TIMEOUT u 0 ∧ KMap.at t.dev.vern.timeouts 0 u = n + 1 ∧
      t.dev.fget Reg.hdr_TIMEOUT_COUNT 20 = satAdd 32 (s.dev.fget Reg.hdr_TIMEOUT_COUNT 20) 1 ∧
      (n = 0 → t.dev.vern.retired = s.dev.vern.retired ∧ t.dev.fore = { s.dev.fore with alertAnswered := t.dev.fore.alertAnswered }) ∧
      (0 < n → t.dev.vern.retired = s.dev.vern.retired ||| 2 ^ u.val ∧ t.dev.Raised 20 Ev.vern_UNIT_RETIRED ∧ t.dev.isDegraded 20 = true ∧
        (s.dev.isDegraded 20 = true → t.dev.isContained 20 = true) ∧ s.dev.PlanAsked t.dev) ∧
      s.Framed ([.vern, .degraded, .contained, .fore] ++ eventParts) ([Reg.vern_FREE.key 0, Reg.vern_TRIG_HELD.key 0, Reg.vern_TIC_HELD.key 0, Reg.vern_IN_POOL.key 0,
        Reg.vern_RETIRED_W0.key 0, Reg.vern_RETIRED_W1.key 0, Reg.hdr_TIMEOUT_COUNT.key 20, Reg.hdr_RECOVERY_COUNT.key 20] ++ errKeys 20 ++
        eventKeys 20) t) ∧
  (∀ (s : State) (u : Fin 64) (pa pb : Nat) (err : Int), s.dev.fore.off = false → KMap.find s.dev.vern.jobs u = none → bitAt s.dev.vern.retired u = false →
    pa < 2 ^ 31 → pb < 2 ^ 31 → (s.dev.tctlOf 17 3).bank < 2 →
    let sq := ((List.range 64).map fun k => (if k = u.val then err else KMap.at s.dev.assay.vernErr 0 k).natAbs ^ 2).sum
    let f := Nat.sqrt (sq / 64)
    sq < 2 ^ 134 →
    ∃ t, exec (.vernCalWindowEnd u pa pb err) s = .next t ∧ t.dev.vernPeriod u 0 = pa ∧ t.dev.vernPeriod u 1 = pb ∧
      bitAt (t.dev.tactive 17 3 (2 * u)) 31 = false ∧
      (t.dev.fget Reg.assay_VERN_RESID = min 65535 f ∨ f * f * 64 ≠ sq ∧ t.dev.fget Reg.assay_VERN_RESID = min 65535 (f + 1)) ∧
      t.dev.assay = { s.dev.assay with vernErr := KMap.put s.dev.assay.vernErr u err } ∧
      (t.dev.flag Reg.assay_STALE_ANY = (List.range 64).any fun k => bitAt (t.dev.tactive 17 3 (2 * k)) 31) ∧
      (s.dev.fget Reg.assay_VERN_RESID ≤ s.dev.fget Reg.assay_VERN_LIMIT → s.dev.fget Reg.assay_VERN_LIMIT < t.dev.fget Reg.assay_VERN_RESID →
        t.dev.Raised 17 Ev.assay_QUALITY_LIMIT ∧ s.dev.PlanAsked t.dev) ∧
      (¬ (s.dev.fget Reg.assay_VERN_RESID ≤ s.dev.fget Reg.assay_VERN_LIMIT ∧ s.dev.fget Reg.assay_VERN_LIMIT < t.dev.fget Reg.assay_VERN_RESID) →
        s.Framed [.tabs, .assay, .freeCtr] [Reg.assay_STALE_ANY.key 0, Reg.assay_VERN_RESID.key 0] t) ∧
      s.dev.TabFramed [tkey 17 3 (s.dev.tctlOf 17 3).bank (2 * u), tkey 17 3 (s.dev.tctlOf 17 3).bank (2 * u + 1)] t.dev ∧
      s.Framed ([.tabs, .assay, .freeCtr, .fore] ++ eventParts) ([Reg.assay_STALE_ANY.key 0, Reg.assay_VERN_RESID.key 0] ++ eventKeys 17) t) ∧
  ∀ (s : State) (u : Fin 64), s.dev.fore.off = false →
    ∃ t, exec (.vernStale u) s = .next t ∧ bitAt (t.dev.tactive 17 3 (2 * u)) 31 = true ∧ t.dev.vernPeriod u 0 = s.dev.vernPeriod u 0 ∧
      t.dev.flag Reg.assay_STALE_ANY = true ∧ t.dev.Raised 17 Ev.assay_VERN_STALE ∧
      s.dev.TabFramed [tkey 17 3 (s.dev.tctlOf 17 3).bank (2 * u)] t.dev ∧
      s.Framed (.tabs :: eventParts) (Reg.assay_STALE_ANY.key 0 :: eventKeys 17) t

/-- Condition units and automatic levels (R134 to R136, R139 to R141, R514). A COND_CFG write that may not be is refused by its field; an accepted one
sets every field. AUTO_EN on a unit outside the list is refused; otherwise it starts or ends the loop. At a window's end too little swing is raised
and the level stays; else the level that R139 and R140 give is taken where it lies beyond the dead band. -/
def Obligations.ConditionsAndAutoLevels : Prop :=
  (∀ (s : State) (who : Requester) (n : Fin 16) (val : Word), s.dev.fore.off = false → s.dev.flag Reg.hdr_FREEZE 18 = false →
    ∃ t, exec (.condCfgWrite who n val) s = .next t ∧
      (∀ f, condVerdict n val.toNat s.dev = some f → t.dev.Raised 18 Ev.trig_CFG_REFUSED ∧
        t.dev.ErrHeld 18 Ev.trig_CFG_REFUSED n ((f.base % 4096 + f.stride * n + 65536 * f.lsb) % 2 ^ 32) ∧
        s.Framed eventParts (errKeys 18 ++ eventKeys 18) t) ∧
      (condVerdict n val.toNat s.dev = none →
        t.dev.flag Reg.trig_cond_EN n = bitAt val.toNat 0 ∧ t.dev.fget Reg.trig_cond_TYPE n = bitField val.toNat 1 4 ∧
        t.dev.fget Reg.trig_cond_SRC n = bitField val.toNat 5 4 ∧ t.dev.fget Reg.trig_cond_SLOPE n = bitField val.toNat 9 2 ∧
        t.dev.fget Reg.trig_cond_QUAL n = bitField val.toNat 11 3 ∧ t.dev.flag Reg.trig_cond_REF n = bitAt val.toNat 14 ∧
        t.dev.fget Reg.trig_cond_FUNC n = bitField val.toNat 16 2 ∧
        t.dev.fget Reg.hdr_CFG_EPOCH 18 = (s.dev.fget Reg.hdr_CFG_EPOCH 18 + 1) % 2 ^ 32 ∧
        s.Framed (.trig :: eventParts) ([Reg.trig_cond_EN.key n, Reg.trig_cond_TYPE.key n, Reg.trig_cond_SRC.key n, Reg.trig_cond_SLOPE.key n,
          Reg.trig_cond_QUAL.key n, Reg.trig_cond_REF.key n, Reg.trig_cond_FUNC.key n, Reg.trig_SRC_IDLE.key 0, Reg.hdr_CFG_EPOCH.key 18] ++
          eventKeys 18) t)) ∧
  (∀ (s : State) (who : Requester) (n : Fin 20) (val : Word), s.dev.fore.off = false → s.dev.flag Reg.hdr_FREEZE 18 = false →
    let f := fun (u c : Field) => autoField u c n
    let get := fun (d : Dev) (u c : Field) => d.fget (f u c).1 (f u c).2
    let key := fun (u c : Field) => (f u c).1.key (f u c).2
    let en := bitAt val.toNat 0
    ∃ t, exec (.autoEnWrite who n val) s = .next t ∧
      (en = true → s.dev.autoListed n = false → t.dev.Raised 18 Ev.trig_CFG_REFUSED ∧ s.Framed eventParts (errKeys 18 ++ eventKeys 18) t) ∧
      (en = false ∨ s.dev.autoListed n = true →
        t.dev.autoOn n = en ∧ get t.dev Reg.trig_cond_AUTO_ACTIVE Reg.trig_cmp_AUTO_ACTIVE = Bool.bit en ∧
        get t.dev Reg.trig_cond_PCT Reg.trig_cmp_PCT = bitField val.toNat 1 7 ∧
        get t.dev Reg.trig_cond_POL_LO Reg.trig_cmp_POL_LO = bitField val.toNat 8 12 ∧
        get t.dev Reg.trig_cond_POL_HI Reg.trig_cmp_POL_HI = bitField val.toNat 20 12 ∧
        (en = false → KMap.find t.dev.trig.auto n = none) ∧
        s.Framed [.trig] [key Reg.trig_cond_AUTO_EN Reg.trig_cmp_AUTO_EN, key Reg.trig_cond_AUTO_ACTIVE Reg.trig_cmp_AUTO_ACTIVE,
          key Reg.trig_cond_PCT Reg.trig_cmp_PCT, key Reg.trig_cond_POL_LO Reg.trig_cmp_POL_LO, key Reg.trig_cond_POL_HI Reg.trig_cmp_POL_HI,
          key Reg.trig_cond_AUTO_NO_SWING Reg.trig_cmp_AUTO_NO_SWING, key Reg.trig_cond_AUTO_NO_SOURCE Reg.trig_cmp_AUTO_NO_SOURCE,
          key Reg.trig_cond_AUTO_OVERRIDDEN Reg.trig_cmp_AUTO_OVERRIDDEN, Reg.hdr_CFG_EPOCH.key 18] t)) ∧
  ∀ (s : State) (n : Fin 20) (mn mx : Int), s.dev.fore.off = false → s.dev.autoOn n = true → s.dev.autoListed n = true →
    s.dev.autoInput n ∈ sampledInputs s.dev.mode → (KMap.at s.dev.trig.auto {} n).ext = some (mn, mx) →
    let get := fun (d : Dev) (u c : Field) => d.fget (autoField u c n).1 (autoField u c n).2
    let key := fun (u c : Field) => (autoField u c n).1.key (autoField u c n).2
    let h := s.dev.autoH n
    let new := (autoStep mn mx h (get s.dev Reg.trig_cond_PCT Reg.trig_cmp_PCT) (toSigned 12 (get s.dev Reg.trig_cond_POL_LO Reg.trig_cmp_POL_LO))
      (toSigned 12 (get s.dev Reg.trig_cond_POL_HI Reg.trig_cmp_POL_HI))).1
    ∃ t, exec (.autoLevelWindowEnd n) s = .next t ∧ (KMap.at t.dev.trig.auto {} n).ext = none ∧
      (mx - mn < 2 * h + 8 → get t.dev Reg.trig_cond_AUTO_NO_SWING Reg.trig_cmp_AUTO_NO_SWING = 1 ∧ t.dev.Raised 18 Ev.trig_NO_SWING ∧
        t.dev.autoLevel n = s.dev.autoLevel n) ∧
      (2 * h + 8 ≤ mx - mn → get t.dev Reg.trig_cond_AUTO_NO_SWING Reg.trig_cmp_AUTO_NO_SWING = 0 ∧
        t.dev.autoLevel n = if s.dev.fget Reg.trig_AUTO_DEADBAND < (new - s.dev.autoLevel n).natAbs then new else s.dev.autoLevel n) ∧
      s.Framed (.trig :: eventParts) ([key Reg.trig_cond_AUTO_NO_SWING Reg.trig_cmp_AUTO_NO_SWING,
        key Reg.trig_cond_AUTO_NO_SOURCE Reg.trig_cmp_AUTO_NO_SOURCE, key Reg.trig_cond_AUTO_OVERRIDDEN Reg.trig_cmp_AUTO_OVERRIDDEN] ++ eventKeys 18) t

/-- The sequencer's timers and the trigger outputs (R146, R150, R167, R171, R174). An expired state timer goes to TO_NEXT with STATE_TIMEOUT; the bucket
gains a token up to 64; RESTART waits for its boundary; an unresolved provisional trigger whose time has run out is cancelled. A scheduled pulse
drives its output active and its end drives it back to rest. -/
def Obligations.SequencerTimersAndOutputs : Prop :=
  (∀ s : State, s.dev.fore.off = false → s.dev.acq.evaluating = true → s.dev.stateDue s.dev.tseq.now = true →
    let w := s.dev.seqWord 1 (2 * s.dev.tseq.state + 1)
    bitField w 4 3 = 0 →
    ∃ t, exec .stateTimeout s = .next t ∧ t.dev.tseq = { s.dev.tseq with state := w % 16, entered := (s.dev.tseq.now * 65536 : Nat) } ∧
      t.dev.fget Reg.tseq_STATE = w % 16 ∧ t.dev.Raised 19 Ev.tseq_STATE_TIMEOUT ∧
      s.Framed (.tseq :: eventParts) ([Reg.tseq_STATE.key 0, Reg.tseq_HOLDOFF_ACTIVE.key 0, Reg.tseq_HOLDOFF_LEFT.key 0, Reg.tseq_PROV_OUT.key 0,
        Reg.tseq_PREFILL.key 0] ++ eventKeys 19) t) ∧
  (∀ s : State, s.dev.fore.off = false →
    ∃ t, exec .bucketRefill s = .next t ∧ t.dev.tseq = { s.dev.tseq with tokens := min 64 (s.dev.tseq.tokens + 1) } ∧ s.Framed [.tseq] [] t) ∧
  (∀ (s : State) (who : Requester), s.dev.fore.off = false → s.dev.flag Reg.hdr_FREEZE 19 = false →
    ∃ t, exec (.tseqRestart who) s = .next t ∧ t.dev.tseq = { s.dev.tseq with restart := true } ∧ s.Framed [.tseq] [Reg.hdr_CFG_EPOCH.key 19] t) ∧
  (∀ (s : State) (p : Prov) (n : Nat), s.dev.fore.off = false → s.dev.tseq.provs = [p] → p.seg = some n → p.kind = .prov →
    p.deadline ≤ s.dev.tseq.now * 65536 → s.dev.seg n = none → s.dev.flag Reg.cas_TRIG_TX = false →
    (∀ o < 2, s.dev.outSel o ≠ 5) → s.dev.till.parts = [] → s.dev.bench.tickets = [] →
    ∃ t, exec (.qualExpired n) s = .next t ∧ t.dev.tseq = { s.dev.tseq with provs := [] } ∧ t.dev.fget Reg.tseq_PROV_OUT = 0 ∧
      t.dev.Raised 18 Ev.trig_QUAL_EXPIRED ∧ t.dev.Raised 18 Ev.trig_PROV_RETRACTED ∧
      s.Framed ([.tseq, .tally] ++ eventParts) (Reg.tseq_PROV_OUT.key 0 :: countKeys 1 ++ eventKeys 18) t) ∧
  (∀ (s : State) (n : Fin 2) (p : Pulse) (ps : List Pulse), s.dev.fore.off = false → KMap.find s.dev.trig.pulses n = some (p :: ps) →
    KMap.at s.dev.trig.pulsing false n = false → p.start < 8 * (s.dev.loom.tick + 1) →
    let pol := if n.val = 0 then s.dev.flag Reg.trig_POL0 else s.dev.flag Reg.trig_POL1
    ∃ t, exec (.trigOutPulse n) s = .next t ∧ KMap.at t.dev.trig.pulsing false n = true ∧ t.dev.out = .trigOut n (!pol) :: s.dev.out ∧
      t.dev.trigOutPin n = (!pol) ∧ t.dev.trig.pulses = s.dev.trig.pulses ∧ s.Framed [.trig, .out] [] t) ∧
  ∀ (s : State) (n : Fin 2) (p : Pulse) (ps : List Pulse), s.dev.fore.off = false → KMap.find s.dev.trig.pulses n = some (p :: ps) →
    KMap.at s.dev.trig.pulsing false n = true → p.stop < 8 * (s.dev.loom.tick + 1) → s.dev.outSel n ≠ 2 →
    let pol := if n.val = 0 then s.dev.flag Reg.trig_POL0 else s.dev.flag Reg.trig_POL1
    ∃ t, exec (.trigOutPulseEnd n) s = .next t ∧ KMap.at t.dev.trig.pulsing false n = false ∧ t.dev.out = .trigOut n pol :: s.dev.out ∧
      KMap.at t.dev.trig.pulses [] n = ps ∧ s.Framed [.trig, .out] [] t

/-- The time-interval counter (R179, R182, R185 to R191). An arm makes a channel wait and one that may not be is refused by its field; a stop keeps the
results; 2,048 ticks after its instant an edge comes to its channel: in TIMESTAMP its time since the start, in INTERVAL_U that of a stop since its
start, is stored. A TOTALISE gate's end and a window's expiry come to the channel likewise: the count is stored; the measurement is abandoned with
NO_PAIR. A lapsed gate stores 0 with NO_SIGNAL; a read takes the oldest result. -/
def Obligations.TimeIntervalCounter : Prop :=
  (∀ (s : State) (who : Requester) (n : Fin 8), s.dev.fore.off = false → s.dev.flag Reg.hdr_FREEZE 21 = false →
    ∃ t, exec (.ticArm who (1 <<< n.val)) s = .next t ∧
      (∀ f, s.dev.ticRefused n = some f → t.dev.Raised 21 Ev.tic_CFG_REFUSED ∧
        t.dev.ErrHeld 21 Ev.tic_CFG_REFUSED n (fieldLocator f n % 2 ^ 32) ∧ s.Framed eventParts (Reg.hdr_CFG_EPOCH.key 21 :: errKeys 21 ++ eventKeys 21) t) ∧
      (s.dev.ticRefused n = none → (t.dev.ticc n).waiting = true ∧ (t.dev.ticc n).running = false ∧ (t.dev.ticc n).fifo = (s.dev.ticc n).fifo ∧
        bitAt (t.dev.fget Reg.tic_ARM) n = true ∧ bitAt (t.dev.fget Reg.tic_RUNNING) n = false ∧
        (∀ k < 8, k ≠ n.val → t.dev.ticc k = s.dev.ticc k) ∧ s.Framed [.tic] [Reg.tic_ARM.key 0, Reg.tic_RUNNING.key 0, Reg.hdr_CFG_EPOCH.key 21] t)) ∧
  (∀ (s : State) (who : Requester) (mask : BitVec 8), s.dev.fore.off = false → s.dev.flag Reg.hdr_FREEZE 21 = false →
    ∃ t, exec (.ticStop who mask) s = .next t ∧
      (∀ k < 8, (t.dev.ticc k).fifo = (s.dev.ticc k).fifo ∧
        (bitAt mask.toNat k = true → (t.dev.ticc k).running = false ∧ (t.dev.ticc k).waiting = false ∧ bitAt (t.dev.fget Reg.tic_RUNNING) k = false) ∧
        (bitAt mask.toNat k = false → t.dev.ticc k = s.dev.ticc k)) ∧
      s.Framed [.tic] [Reg.tic_ARM.key 0, Reg.tic_RUNNING.key 0, Reg.hdr_CFG_EPOCH.key 21] t) ∧
  (∀ (s : State) (n : Fin 8) (e a : TicEv), s.dev.fore.off = false → (s.dev.ticc n).running = true → (s.dev.ticc n).evs = [e] → e.kind = .edge →
    e.edge = none → e.coarse = false → a.coarse = false → e.epochs = a.epochs → e.at32 + 2048 * 2 ^ 32 ≤ s.dev.now32 →
    s.dev.flag Reg.tic_ch_TO_QUEUE n = false → (s.dev.ticc n).fifo.length < 64 → s.dev.ticDepth n = (s.dev.ticc n).fifo.length →
    s.dev.ticMode n = 6 ∧ a.time = (s.dev.ticc n).ref ∧ a.epochs = (s.dev.ticc n).refEpochs ∨
      s.dev.ticMode n = 0 ∧ e.isB = true ∧ (s.dev.ticc n).pend = some a →
    let v := s.dev.ticValue (e.time - a.time)
    32 ≤ v → v < 2 ^ 63 →
    ∃ t, exec (.ticEventReceived n) s = .next t ∧
      t.dev.ticc n = { s.dev.ticc n with
        evs := []
        pend := if s.dev.ticMode n = 0 then none else (s.dev.ticc n).pend
        seq := ((s.dev.ticc n).seq + 1) % 65536
        merged := false
        order := false
        lost := false
        noPair := false
        fifo := (t.dev.ticc n).fifo } ∧
      (t.dev.ticc n).fifo.dropLast = (s.dev.ticc n).fifo ∧ (((t.dev.ticc n).fifo.getLastD (0, 0)).1 : Int) = v ∧
      (∀ k < 8, k ≠ n.val → t.dev.ticc k = s.dev.ticc k) ∧ s.Framed (.tic :: eventParts) (eventKeys 21) t) ∧
  (∀ (s : State) (n : Fin 8), s.dev.fore.off = false → (s.dev.ticc n).running = true → s.dev.ticMode n = 5 →
    ∃ t, exec (.ticGateEnd n) s = .next t ∧ t.dev.ticc n = { s.dev.ticc n with
        evs := (s.dev.ticc n).evs ++ [ownEv .gate s.dev.now32 (s.dev.ticc n).total] } ∧
      (∀ k < 8, k ≠ n.val → t.dev.ticc k = s.dev.ticc k) ∧ s.Framed [.tic] [] t) ∧
  (∀ (s : State) (n : Fin 8) (at32 : Int) (total : Nat), s.dev.fore.off = false → (s.dev.ticc n).running = true →
    (s.dev.ticc n).evs = [ownEv .gate at32 total] → at32 + 2048 * 2 ^ 32 ≤ s.dev.now32 → s.dev.flag Reg.tic_ch_TO_QUEUE n = false →
    s.dev.ticDepth n < 64 →
    ∃ t, exec (.ticEventReceived n) s = .next t ∧ (t.dev.ticc n).evs = [] ∧ (t.dev.ticc n).fifo.dropLast = (s.dev.ticc n).fifo ∧
      ((t.dev.ticc n).fifo.getLastD (0, 0)).1 = total ∧ (t.dev.ticc n).seq = ((s.dev.ticc n).seq + 1) % 65536 ∧
      (∀ k < 8, k ≠ n.val → t.dev.ticc k = s.dev.ticc k) ∧ s.Framed (.tic :: eventParts) (eventKeys 21) t) ∧
  (∀ (s : State) (n : Fin 8), s.dev.fore.off = false → (s.dev.ticc n).running = true → (s.dev.ticc n).lapsed = true →
    s.dev.flag Reg.tic_ch_TO_QUEUE n = false → (s.dev.ticc n).fifo.length < 64 →
    ∃ t, exec (.ticNoSignal n) s = .next t ∧ ((t.dev.ticc n).fifo.getLastD (1, 0)).1 = 0 ∧ bitAt ((t.dev.ticc n).fifo.getLastD (1, 0)).2 8 = true ∧
      (t.dev.ticc n).lapsed = false ∧ s.Framed (.tic :: eventParts) (Reg.tic_ch_LEVEL.key n :: eventKeys 21) t) ∧
  (∀ (s : State) (n : Fin 8) (a : TicEv), s.dev.fore.off = false → (s.dev.ticc n).running = true → (s.dev.ticc n).pend = some a → (s.dev.ticc n).evs = [] →
    let w := s.dev.fget Reg.tic_ch_WINDOW n
    0 < w → a.at32 + (w * 2 ^ 32 : Nat) ≤ s.dev.now32 →
    ∃ t, exec (.ticWindowExpiry n) s = .next t ∧ t.dev.ticc n = { s.dev.ticc n with
        count := .idle
        evs := [ownEv .lapse (a.at32 + (w * 2 ^ 32 : Nat)) 0] } ∧
      (∀ k < 8, k ≠ n.val → t.dev.ticc k = s.dev.ticc k) ∧ s.Framed [.tic] [] t) ∧
  (∀ (s : State) (n : Fin 8) (at32 : Int) (a : TicEv), s.dev.fore.off = false → (s.dev.ticc n).running = true → (s.dev.ticc n).pend = some a →
    (s.dev.ticc n).evs = [ownEv .lapse at32 0] → at32 + 2048 * 2 ^ 32 ≤ s.dev.now32 →
    ∃ t, exec (.ticEventReceived n) s = .next t ∧ t.dev.ticc n = { s.dev.ticc n with
        evs := []
        pend := none
        noPair := true } ∧ t.dev.Raised 21 Ev.tic_NO_PAIR ∧
      t.dev.fget Reg.tic_ch_NOPAIR_COUNT n = satAdd 32 (s.dev.fget Reg.tic_ch_NOPAIR_COUNT n) 1 ∧
      (∀ k < 8, k ≠ n.val → t.dev.ticc k = s.dev.ticc k) ∧
      s.Framed (.tic :: eventParts) (Reg.tic_ch_NOPAIR_COUNT.key n :: eventKeys 21) t) ∧
  ∀ (s : State) (who : Requester) (n : Fin 8), s.dev.fore.off = false →
    let r := (s.dev.ticc n).fifo.headD (0, 0)
    r.1 < 2 ^ 64 → r.2 < 2 ^ 32 →
    ∃ t, exec (.ticResultRead who n) s = .next t ∧ (t.dev.ticc n).fifo = (s.dev.ticc n).fifo.drop 1 ∧
      KMap.at t.dev.bus.data 0 who.code = r.1 % 2 ^ 32 ∧ t.dev.fget Reg.tic_ch_RES_W1 n = r.1 / 2 ^ 32 ∧ t.dev.fget Reg.tic_ch_RES_W2 n = r.2 ∧
      (∀ k < 8, k ≠ n.val → t.dev.ticc k = s.dev.ticc k) ∧
      s.Framed ([.tic, .bus] ++ eventParts) ([Reg.tic_ch_LEVEL.key n, Reg.tic_ch_RES_W0.key n, Reg.tic_ch_RES_W1.key n, Reg.tic_ch_RES_W2.key n] ++
        eventKeys 21) t

/-- Arming (R35, R36, R107, R199, R200, R514). A CTRL_ARM while armed does nothing; one while the device is not ready is discarded and recorded; one with
a bad configuration raises ARM_REFUSED and names the field; otherwise the device is armed at once. At the arm boundary ARM_INDEX is the first stream
index of the next weft, trigger evaluation begins, and every enabled stream ring writes from there on, with its ANCHOR such that this index falls on
its write position. Stopping (R202, R515). CTRL_STOP shows STOPPING while armed and is ignored otherwise; at the stop boundary trigger evaluation ends
and the instant is kept; when every ring has stopped and every window is complete the device is no longer armed and STOP_DONE is raised. -/
def Obligations.ArmingAndStopping : Prop :=
  ((∀ (s : State) (who : Requester), s.dev.fore.off = false → s.dev.flag Reg.hdr_FREEZE 22 = false →
     let d := s.dev.takeHorizon
     ∃ t, exec (.ctrlArm who) s = .next t ∧
       (s.dev.armed = true → s.Framed [] [Reg.hdr_CFG_EPOCH.key 22] t) ∧
       (s.dev.armed = false → s.dev.armReady = false → t.dev.armed = false ∧ t.dev.ErrHeld 22 0xF0 (0x40 + 4096 * who.code) 1 ∧
         s.Framed [] (Reg.cas_H_TICKS.key 0 :: errKeys 22) t) ∧
       (s.dev.armed = false → s.dev.armReady = true → d.armFault.isSome = true → t.dev.armed = false ∧ t.dev.Raised 22 Ev.acq_ARM_REFUSED ∧
         t.dev.fget Reg.hdr_ERR_CODE 22 = Ev.acq_ARM_REFUSED ∧
         t.dev.fget Reg.hdr_ERR_DETAIL1 22 = (d.armFault.map fun f => fieldLocator f.field f.elem).getD 0 % 2 ^ 32 ∧
         s.Framed eventParts (Reg.cas_H_TICKS.key 0 :: errKeys 22 ++ errKeys 24 ++ eventKeys 22) t) ∧
       (s.dev.armed = false → s.dev.armReady = true → d.armFault.isSome = false → s.dev.assay.fgDue = 0 →
         t.dev.armed = true ∧ t.dev.acq = { s.dev.acq with armPending := true, stopTaken := false, stopAt := none } ∧
         s.Framed [.acq] [Reg.acq_ARMED.key 0, Reg.cas_H_TICKS.key 0, Reg.hdr_CFG_EPOCH.key 22] t)) ∧
   ∀ s : State, s.dev.fore.off = false → s.dev.acq.armPending = true → s.dev.loom.run.isSome = true → s.dev.flag Reg.acq_STOPPING = false →
     s.dev.acq.armCmds = [] → (∀ n < 8, (s.dev.ticc n).waiting = false) →
     let i := samplesPer s.dev.mode * s.dev.loom.tick
     i < 2 ^ 64 →
     ∃ t, exec .armBoundary s = .next t ∧ t.dev.armIndex = i ∧ t.dev.acq.evaluating = true ∧ t.dev.acq.armPending = false ∧
       t.dev.tseq = { s.dev.tseq with start := true } ∧
       (∀ r < 12, (t.dev.ring r).writing = s.dev.ringOn r) ∧
       (∀ r < 4, s.dev.ringOn r = true → (t.dev.ring r).issued = i ∧ (t.dev.ring r).write = i ∧ (t.dev.ring r).pos = (s.dev.ring r).pos ∧
         (t.dev.ring r).anchor = (i : Int) - ((s.dev.ring r).pos / (s.dev.blockOf r).2 * (s.dev.blockOf r).1 : Nat) ∧
         (t.dev.ring r).armFirst = if (s.dev.ring r).fresh then i else (s.dev.ring r).armFirst) ∧
       s.Framed [.acq, .tseq] ([Reg.acq_ARM_INDEX_W0.key 0, Reg.acq_ARM_INDEX_W1.key 0] ++ (List.range 8).flatMap fun c =>
         [Reg.deci_dch_FIRST_OUT_W0.key c, Reg.deci_dch_FIRST_OUT_W1.key c]) t) ∧
  ((∀ (s : State) (who : Requester), s.dev.fore.off = false → s.dev.flag Reg.hdr_FREEZE 22 = false →
     ∃ t, exec (.ctrlStop who) s = .next t ∧ (s.dev.armed = true → t.dev.flag Reg.acq_STOPPING = true) ∧
       s.Framed [] (if s.dev.armed then [Reg.acq_STOPPING.key 0, Reg.hdr_CFG_EPOCH.key 22] else [Reg.hdr_CFG_EPOCH.key 22]) t) ∧
   (∀ s : State, s.dev.fore.off = false → s.dev.flag Reg.acq_STOPPING = true → s.dev.acq.armPending = false → s.dev.acq.stopTaken = false →
     ∃ t, exec .stopBoundary s = .next t ∧
       t.dev.acq = { s.dev.acq with evaluating := false, stopTaken := true, stopAt := some (s.dev.tb.acc / 2 ^ 16) } ∧ s.Framed [.acq] [] t) ∧
   ∀ s : State, s.dev.fore.off = false → s.dev.acq.stopTaken = true → s.dev.ringsStopped = true → s.dev.windowsDone = true →
     s.dev.acq.stopCmds = [] →
     ∃ t, exec .stopDone s = .next t ∧ t.dev.armed = false ∧ t.dev.flag Reg.acq_STOPPING = false ∧ t.dev.Raised 22 Ev.acq_STOP_DONE ∧
       t.dev.acq = { s.dev.acq with stopTaken := false, stopAt := none, evaluating := false } ∧
       s.Framed (.acq :: eventParts) ([Reg.acq_ARMED.key 0, Reg.acq_STOPPING.key 0] ++ eventKeys 22) t)

/-- Capture and the Ledger (R198, R205, R208, R209, R211, R212, R220). The oldest block of a ring is stored at its place and WRITE_INDEX passes it; a
window that is then stored whole in every ring is complete. A final entry is written whole to its slot with its CRC, and copied to the spill Ledger
where that is enabled. RELEASE lets one held segment go, and names in the error log one that is not held; RELEASE_UPTO lets go every held segment
below its value; automatic release lets go a complete segment without readers. Ring and chain configuration (R194, R201, R227, R245, R509). While
armed, a new ring SIZE changes nothing, and a change of a chain's ratio is refused with CFG_REFUSED. Not armed, a new SIZE lays the ring out afresh,
and a new ratio restarts its chain and lays its ring out afresh. -/
def Obligations.CaptureAndLedger : Prop :=
  ((∀ (s : State) (r : Fin 12) (b : RingBlock) (rest : List RingBlock), s.dev.fore.off = false → (s.dev.ring r).buf = b :: rest → b.drops = [] →
     (∀ c < 8, (s.dev.chain c).waiting = []) → s.dev.till.parts = [] →
     ∃ t, exec (.captureBlockStored r) s = .next t ∧
       t.dev.ring r = { s.dev.ring r with
         write := b.first + b.count
         buf := rest } ∧
       (∀ q < 12, q ≠ r.val → t.dev.ring q = s.dev.ring q) ∧
       (∀ g, s.dev.acq.segs = [(g.num, g)] → g.written = false →
         t.dev.acq.segs = [(g.num, if g.state = 0 ∧ t.dev.windowStored g = true then { g with
           state := 1
           flags := g.flags ||| s.dev.windowFlags g
           held := g.held && s.dev.flag Reg.acq_PIN_EN } else g)]) ∧
       (∀ bs, b.bytes = some bs → s.StoreFramed [.acq] [] t (s.dev.fget Reg.acq_ring_BASE r * 65536 + b.off) bs) ∧
       (b.bytes = none → s.Framed [.acq] [] t)) ∧
   (∀ (s : State) (g : Segment), s.dev.fore.off = false → s.dev.acq.segs = [(g.num, g)] → g.final = true → g.written = false →
     s.dev.holding = false → g.held = true →
     let copy := s.dev.flag Reg.ledg_SPILL_LEDGER_EN
     let stale := if copy then s.dev.acq.stale.filter (· != g.num) else s.dev.acq.stale
     ∃ t, exec (.ledgerEntryWrite g.num) s = .next t ∧
       t.dev.acq = { s.dev.acq with
         stale := stale
         segs := [(g.num, { g with
           staged := false
           written := true
           copied := copy || g.copied
           copyDue := !copy && g.copyDue })] } ∧
       t.dev.out = (if copy then (spillParts s.dev.spillExtents (s.dev.spillSlotOf g.num) (bytesOf g.words)).reverse else []) ++ s.dev.out ∧
       (copy = true → t.dev.flag Reg.ledg_SPILL_LEDGER_STALE = !stale.isEmpty) ∧
       s.StoreFramed [.acq, .out] ((if copy then [Reg.ledg_SPILL_LEDGER_STALE.key 0] else []) ++ [Reg.ledg_STAGED.key 0, Reg.ledg_WRITTEN_SEG_W0.key 0,
         Reg.ledg_WRITTEN_SEG_W1.key 0, Reg.ledg_NEXT_SEG_W0.key 0, Reg.ledg_NEXT_SEG_W1.key 0]) t (s.dev.slotOf g.num) (g.words.flatMap wordBytes)) ∧
   (∀ (s : State) (who : Requester) (val : Word) (g : Segment), s.dev.fore.off = false → s.dev.flag Reg.hdr_FREEZE 23 = false →
     KMap.find s.dev.bus.staged (stageKey who 0x17064) = some 0 → s.dev.acq.segs = [(g.num, g)] → g.written = false →
     ∃ t, exec (.ledgRelease who val) s = .next t ∧
       (val.toNat = g.num → g.held = true → t.dev.acq = { s.dev.acq with segs := [(g.num, { g with held := false })] } ∧
         s.Framed [.acq, .bus] [Reg.ledg_RELEASE_W1.key 0, Reg.hdr_CFG_EPOCH.key 23] t) ∧
       (val.toNat ≠ g.num ∨ g.held = false → t.dev.ErrHeld 23 0xF2 val.toNat 0 ∧
         s.Framed [.bus] (Reg.ledg_RELEASE_W1.key 0 :: Reg.hdr_CFG_EPOCH.key 23 :: errKeys 23) t)) ∧
   (∀ (s : State) (who : Requester) (val : Word) (g : Segment), s.dev.fore.off = false → s.dev.flag Reg.hdr_FREEZE 23 = false →
     KMap.find s.dev.bus.staged (stageKey who 0x1706C) = some 0 → s.dev.acq.segs = [(g.num, g)] → g.written = false →
     ∃ t, exec (.releaseUpto who val) s = .next t ∧
       t.dev.acq = { s.dev.acq with segs := [(g.num, { g with held := g.held && decide (val.toNat ≤ g.num) })] } ∧
       s.Framed [.acq, .bus] [Reg.ledg_RELEASE_UPTO_W1.key 0, Reg.hdr_CFG_EPOCH.key 23] t) ∧
   ∀ (s : State) (g : Segment), s.dev.fore.off = false → s.dev.acq.segs = [(g.num, g)] → g.written = false → g.held = true →
     ∃ t, exec (.autoRelease g.num) s = .next t ∧
       (s.dev.flag Reg.acq_AUTO_RELEASE = true → g.state = 1 → g.readers = 0 →
         t.dev.acq = { s.dev.acq with segs := [(g.num, { g with held := false })] } ∧ s.Framed [.acq] [] t) ∧
       (s.dev.flag Reg.acq_AUTO_RELEASE = false ∨ g.state ≠ 1 ∨ 0 < g.readers → s.Framed [] [] t)) ∧
  ((∀ (s : State) (who : Requester) (r : Fin 12) (val : Word), s.dev.fore.off = false → s.dev.flag Reg.hdr_FREEZE 22 = false →
     s.dev.acq.segs = [] → val.toNat < 2 ^ 20 →
     let size := if val.toNat = 0 then 0 else max 1024 val.toNat
     ∃ t, exec (.ringConfigWrite who (0x104 + 0x40 * r) val) s = .next t ∧
       (s.dev.armed = true → t.dev.fget Reg.acq_ring_SIZE r = s.dev.fget Reg.acq_ring_SIZE r ∧ t.dev.ring r = s.dev.ring r ∧
         s.Framed [] (Reg.hdr_CFG_EPOCH.key 22 :: errKeys 22) t) ∧
       (s.dev.armed = false → t.dev.fget Reg.acq_ring_SIZE r = size ∧
         (size ≠ s.dev.fget Reg.acq_ring_SIZE r → t.dev.ring r = { s.dev.ring r with pos := 0, fresh := true }) ∧
         (∀ q < 12, q ≠ r.val → t.dev.ring q = s.dev.ring q) ∧
         s.Framed [.acq] [Reg.acq_ring_SIZE.key r, Reg.hdr_CFG_EPOCH.key 22] t)) ∧
   ∀ (s : State) (who : Requester) (c : Fin 8) (val : Word), s.dev.fore.off = false → s.dev.flag Reg.hdr_FREEZE 24 = false → s.dev.acq.segs = [] →
     ∃ t, exec (.chainConfigWrite who (0x104 + 0x40 * c) val) s = .next t ∧
       (s.dev.armed = true → val.toNat ≠ s.dev.fget Reg.deci_dch_RATIO_M1 c → t.dev.Raised 24 Ev.deci_CFG_REFUSED ∧
         t.dev.ErrHeld 24 0xF0 (0x104 + 0x40 * c + 4096 * who.code) val.toNat ∧ s.Framed eventParts (errKeys 24 ++ eventKeys 24) t) ∧
       (s.dev.armed = false → t.dev.fget Reg.deci_dch_RATIO_M1 c = val.toNat ∧
         t.dev.chain c = { banks := (s.dev.chain c).banks, satRaised := (s.dev.chain c).satRaised } ∧
         t.dev.ring (4 + c) = { s.dev.ring (4 + c) with pos := 0, fresh := true } ∧
         s.Framed [.acq, .chains] [Reg.deci_dch_RATIO_M1.key c, Reg.hdr_CFG_EPOCH.key 24] t))

/-- The spill tier (R215, R217, R218, R220 to R222; log entry 23). Bytes for a spill offset go to the bus addresses of the extents in index order. The
engine copies the oldest held complete segment of a ring beyond its mark where the area has room; at the copy's end its lines have been written, the
entry names them and the segment is released in the rings. A spill stream writes its ring's next blocks at their places in the spill ring. A spill
write that has failed again is lost: of a stream its samples are logged as a gap; a segment copy is abandoned; a Ledger copy is owed. -/
def Obligations.SpillTier : Prop :=
  (∀ (a len off : Nat) (ns : Bool) (rest : List (Nat × Nat × Bool)) (bs : List Nat), bs ≠ [] →
    (off + bs.length ≤ len → spillParts ((a, len, ns) :: rest) off bs = [.spill (a + off) ns bs]) ∧
    (off < len → len < off + bs.length → spillParts ((a, len, ns) :: rest) off bs =
      .spill (a + off) ns (bs.take (len - off)) :: spillParts rest 0 (bs.drop (len - off))) ∧
    (len ≤ off → spillParts ((a, len, ns) :: rest) off bs = spillParts rest (off - len) bs)) ∧
  (∀ (s : State) (r : Nat) (g : Segment), s.dev.fore.off = false → s.dev.flag Reg.acq_AUTO_SPILL = true → s.dev.acq.spilling = none →
    s.dev.holding = false → s.dev.fget Reg.ledg_SEGSPILL_SIZE ≠ 0 → s.dev.spillBusy 12 = false → ((List.range 12).filter s.dev.pinNear).head? = some r →
    s.dev.oldestSeg r = some g → g.state = 1 →
    let n := ((ringsOf g.rings).map (s.dev.copyLines g)).sum * 64
    ∃ t, exec .segmentSpillStart s = .next t ∧
      (n < s.dev.segSpillFree → t.dev.acq = { s.dev.acq with
          spilling := some (g.num, s.dev.fget Reg.ledg_SEGSPILL_BASE * 2097152 + s.dev.segSpill.2.1, n) } ∧ s.Framed [.acq] [] t) ∧
      (s.dev.segSpillFree ≤ n → t.dev.Raised 23 Ev.ledg_SPILL_FULL ∧ s.Framed eventParts (eventKeys 23) t)) ∧
  (∀ (s : State) (n off len : Nat) (g : Segment), s.dev.fore.off = false → s.dev.acq.spilling = some (n, off, len) → s.dev.holding = false →
    s.dev.spillBusy 12 = false → s.dev.acq.segs = [(n, g)] → g.num = n → g.final = true → g.written = true →
    s.dev.flag Reg.ledg_SPILL_LEDGER_EN = false → 0 < g.readers →
    let g1 := { g with
      start := off + g.start % 64
      spilled := true
      flags := g.flags ||| 8
      held := false }
    g1.final = true →
    let base := s.dev.fget Reg.ledg_SEGSPILL_BASE * 2097152
    let (size, head, _) := s.dev.segSpill
    let image := s.copyImage g
    ∃ t, exec .segmentSpillDone s = .next t ∧ t.dev.acq = { s.dev.acq with
        spilling := none
        segs := [(n, { g1 with staged := false })] } ∧
      t.dev.out = (spillParts s.dev.spillExtents (base + head) (image.take (size - head)) ++
        spillParts s.dev.spillExtents base (image.drop (size - head))).reverse ++ s.dev.out ∧
      t.dev.segSpill.2.1 = (head + len) % max 1 size % 2 ^ 64 ∧
      s.StoreFramed [.acq, .out] [Reg.ledg_SEGSPILL_HEAD_W0.key 0, Reg.ledg_SEGSPILL_HEAD_W1.key 0, Reg.ledg_STAGED.key 0,
        Reg.ledg_WRITTEN_SEG_W0.key 0, Reg.ledg_WRITTEN_SEG_W1.key 0, Reg.ledg_NEXT_SEG_W0.key 0, Reg.ledg_NEXT_SEG_W1.key 0] t
        (s.dev.slotOf n) (g1.words.flatMap wordBytes)) ∧
  (∀ (s : State) (r : Fin 12) (count : Nat), s.dev.fore.off = false → s.dev.flag Reg.acq_ring_STREAM_EN r = true → s.dev.holding = false →
    s.dev.spillBusy r = false → (s.dev.ring r).past = [] → (s.dev.ring r).fresh = false → s.dev.spillBlocks r ≠ 0 →
    let x := s.dev.ring r
    let (b, bytes) := s.dev.blockOf r
    let n := min (count / b) ((x.write - x.spill) / b)
    0 < n →
    let i := fun k => x.spill + k * b
    ∃ t, exec (.spillStreamWrite r count) s = .next t ∧
      t.dev.acq = { s.dev.acq with rings := KMap.put s.dev.acq.rings r { x with spill := i n } } ∧
      t.dev.out = ((List.range n).flatMap fun k =>
        spillParts s.dev.spillExtents (s.dev.fget Reg.acq_ring_SPILL_BASE r * 2097152 + (i k - x.armFirst) / b % s.dev.spillBlocks r * bytes)
          ((List.range bytes).map fun j => s.hbmByte (s.dev.ringAddr r (s.dev.byteAt x.anchor r (i k) + j)))).reverse ++ s.dev.out ∧
      s.Framed [.acq, .out] [] t) ∧
  (∀ (s : State) (r : Fin 12) (count : Nat), s.dev.fore.off = false → (s.dev.ring r).past = [] →
    let n := s.dev.spillCount r count * (s.dev.blockOf r).1
    0 < n →
    ∃ t, exec (.spillErr (.stream r count)) s = .next t ∧ t.dev.ring r = { s.dev.ring r with spill := (s.dev.ring r).spill + n } ∧
      (∀ q < 12, q ≠ r.val → t.dev.ring q = s.dev.ring q) ∧ t.dev.acq.segs = s.dev.acq.segs ∧ t.dev.acq.gapSeq = s.dev.acq.gapSeq + 1 ∧
      t.dev.Raised 23 Ev.ledg_SPILL_ERR ∧ t.dev.Raised 22 Ev.acq_SPILL_GAP ∧
      t.dev.fget Reg.ledg_SPILL_GAP_COUNT = satAdd 32 (s.dev.fget Reg.ledg_SPILL_GAP_COUNT) 1 ∧
      (let e := 4 * (s.dev.acq.gapSeq % 64);
        t.dev.tget 23 1 0 e = (r + 16 * (s.dev.acq.gapSeq % 2 ^ 28)) ∧ t.dev.tget 23 1 0 (e + 1) = (s.dev.ring r).spill % 2 ^ 32 ∧
        t.dev.tget 23 1 0 (e + 2) = (s.dev.ring r).spill / 2 ^ 32 % 2 ^ 32 ∧ t.dev.tget 23 1 0 (e + 3) = min n (2 ^ 32 - 1) ∧
        s.dev.TabFramed [tkey 23 1 0 e, tkey 23 1 0 (e + 1), tkey 23 1 0 (e + 2), tkey 23 1 0 (e + 3)] t.dev) ∧
      s.Framed ([.acq, .tabs] ++ eventParts) (Reg.ledg_SPILL_GAP_COUNT.key 0 :: eventKeys 22 ++ eventKeys 23) t) ∧
  (∀ (s : State) (x : Nat × Nat × Nat), s.dev.fore.off = false → s.dev.acq.spilling = some x → s.dev.acq.segs = [] →
    ∃ t, exec (.spillErr .segment) s = .next t ∧ t.dev.acq = { s.dev.acq with spilling := none } ∧ t.dev.Raised 23 Ev.ledg_SPILL_ERR ∧
      s.Framed (.acq :: eventParts) ([Reg.ledg_STAGED.key 0, Reg.ledg_WRITTEN_SEG_W0.key 0, Reg.ledg_WRITTEN_SEG_W1.key 0,
        Reg.ledg_NEXT_SEG_W0.key 0, Reg.ledg_NEXT_SEG_W1.key 0] ++ eventKeys 23) t) ∧
  ∀ (s : State) (n : Nat), s.dev.fore.off = false → s.dev.flag Reg.ledg_SPILL_LEDGER_EN = true → n < s.dev.acq.nextSeg → n ∉ s.dev.acq.stale →
    s.dev.seg n = none →
    ∃ t, exec (.spillErr (.ledger n)) s = .next t ∧ t.dev.flag Reg.ledg_SPILL_LEDGER_STALE = true ∧ t.dev.Raised 23 Ev.ledg_SPILL_ERR ∧
      t.dev.acq = { s.dev.acq with stale := n :: s.dev.acq.stale } ∧ t.dev.slotReusable (n + 2 ^ s.dev.resLog2) = false ∧
      s.Framed (.acq :: eventParts) (Reg.ledg_SPILL_LEDGER_STALE.key 0 :: eventKeys 23) t

/-- Running a partition (R252, R265, R267, R270, R271, R514). RUN starts an idle partition whose configuration passes, with RES_COUNT at 0; a faulty one,
and any other CFG write while it runs, is refused with its field named; clearing RUN drains it, and with nothing bound it is idle. CLEAR is taken only
while idle: every point takes its clear value and RECORDS is 0, until CLEAR_DONE. SNAP falls due at the next record boundary; ABORT makes the
partition idle. Reading a record of an AVERAGE partition, on die (R253, R256, R271). Each position read adds its sample to the point's sum. The last
position ends the record: RECORDS counts it and the segment is unbound. An excluded segment is skipped and counted. A draining partition with nothing
left is idle. -/
def Obligations.TillPartitions : Prop :=
  ((∀ (s : State) (who : Requester) (k : Fin 16) (val : Word), s.dev.fore.off = false → s.dev.flag Reg.hdr_FREEZE 25 = false →
     let v := val.toNat ||| 1
     ∃ t, exec (.partRunSet who k val) s = .next t ∧
       (s.dev.partIs k = 0 → s.dev.runFault k v = none → t.dev.partIs k = 1 ∧ bitAt (t.dev.fget Reg.accu_RUNNING) k = true ∧
         t.dev.flag Reg.accu_part_RUN k = true ∧ t.dev.fget Reg.accu_part_MODE k = bitField v 1 3 ∧ t.dev.fget Reg.accu_part_SRC k = bitField v 6 4 ∧
         t.dev.fget Reg.accu_part_RES_COUNT_W0 k = 0 ∧ t.dev.fget Reg.accu_part_RES_COUNT_W1 k = 0 ∧
         s.Framed [] [Reg.accu_part_RUN.key k, Reg.accu_part_MODE.key k, Reg.accu_part_AUTO_DUMP.key k, Reg.accu_part_HBM_EXT.key k,
           Reg.accu_part_SRC.key k, Reg.accu_part_SRC2.key k, Reg.accu_part_RES_FAIL_ONLY.key k, Reg.accu_part_RES_TO_QUEUE.key k,
           Reg.accu_part_EXCL_DEGRADED.key k, Reg.accu_part_EXCL_CLIPPED.key k, Reg.accu_part_RES_COUNT_W0.key k, Reg.accu_part_RES_COUNT_W1.key k,
           Reg.accu_part_STATE.key k, Reg.accu_RUNNING.key 0, Reg.hdr_CFG_EPOCH.key 25, Reg.accu_part_STOP_ON_FAIL.key k,
           Reg.accu_part_RES_QUEUE.key k] t) ∧
       (∀ f, s.dev.partIs k = 0 → s.dev.runFault k v = some f → t.dev.Raised 25 Ev.accu_CFG_REFUSED ∧
         t.dev.ErrHeld 25 Ev.accu_CFG_REFUSED k (f % 2 ^ 32) ∧ s.Framed eventParts (errKeys 25 ++ eventKeys 25) t) ∧
       (s.dev.partIs k ≠ 0 → t.dev.Raised 25 Ev.accu_CFG_REFUSED ∧ t.dev.fget Reg.hdr_ERR_CODE 25 = Ev.accu_CFG_REFUSED ∧
         t.dev.fget Reg.hdr_ERR_DETAIL0 25 = k ∧ s.Framed eventParts (errKeys 25 ++ eventKeys 25) t)) ∧
   (∀ (s : State) (who : Requester) (k : Fin 16) (val : Word), s.dev.fore.off = false → s.dev.flag Reg.hdr_FREEZE 25 = false →
     s.dev.partIs k = 1 → s.dev.flag Reg.accu_part_RUN k = true →
     ∃ t, exec (.partRunClear who k val) s = .next t ∧
       (andNot val.toNat 1 % 2 ^ 18 + 1 = s.dev.partCfg k →
         t.dev.partIs k = (if (s.dev.part k).bound = [] ∧ (s.dev.part k).sweep = none ∧ (s.dev.part k).due = none then 0 else 2) ∧ t.dev.flag Reg.accu_part_RUN k = false ∧
         s.Framed [] [Reg.accu_part_RUN.key k, Reg.accu_part_STATE.key k, Reg.accu_RUNNING.key 0, Reg.hdr_CFG_EPOCH.key 25] t) ∧
       (andNot val.toNat 1 % 2 ^ 18 + 1 ≠ s.dev.partCfg k → t.dev.partIs k = 1 ∧ t.dev.Raised 25 Ev.accu_CFG_REFUSED ∧
         s.Framed eventParts (errKeys 25 ++ eventKeys 25) t)) ∧
   (∀ (s : State) (who : Requester) (k : Fin 16), s.dev.fore.off = false → s.dev.flag Reg.hdr_FREEZE 25 = false →
     let sh := s.dev.shape k
     ∃ t, exec (.clear who k) s = .next t ∧
       (s.dev.partIs k ≠ 0 → t.dev.ErrHeld 25 0xF2 k 0 ∧ s.Framed [] (Reg.hdr_CFG_EPOCH.key 25 :: errKeys 25) t) ∧
       (s.dev.partIs k = 0 → sh.mode = 4 ∨ sh.points ≤ sh.capacity →
         t.dev.partIs k = 3 ∧ t.dev.fget Reg.accu_part_RECORDS k = 0 ∧ t.dev.fget Reg.accu_part_SKIPPED k = 0 ∧
         t.dev.fget64 Reg.accu_part_RES_COUNT_W0 Reg.accu_part_RES_COUNT_W1 k = 0 ∧ t.dev.fget Reg.accu_part_TORN_COUNT k = 0 ∧
         t.dev.flag Reg.accu_part_FULL_STATE k = false ∧ t.dev.part k = { s.dev.part k with
           outside := 0
           pass := 0
           fail := 0
           range := none
           satSeen := false
           skipSince := 0
           lostPoints := [] } ∧
         (∀ w < sh.words, t.tillGet k sh w = (sh.cleared w).getD (s.tillGet k sh w)) ∧
         (∀ j < 16, j ≠ k.val → t.dev.part j = s.dev.part j) ∧
         s.Framed [.till] [Reg.accu_part_RES_COUNT_W0.key k, Reg.accu_part_RES_COUNT_W1.key k, Reg.accu_part_RECORDS.key k, Reg.accu_part_SKIPPED.key k, Reg.accu_part_TORN_COUNT.key k, Reg.accu_part_FULL_STATE.key k,
           Reg.accu_part_STATE.key k, Reg.accu_RUNNING.key 0, Reg.accu_part_BACKLOG.key k, Reg.hdr_CFG_EPOCH.key 25] t)) ∧
   (∀ (s : State) (k : Fin 16), s.dev.fore.off = false →
     ∃ t, exec (.clearDone k) s = .next t ∧ (s.dev.partIs k = 3 → t.dev.partIs k = 0 ∧ bitAt (t.dev.fget Reg.accu_RUNNING) k = false) ∧
       (s.dev.partIs k ≠ 3 → t.dev.partIs k = s.dev.partIs k) ∧ s.Framed [] [Reg.accu_part_STATE.key k, Reg.accu_RUNNING.key 0] t) ∧
   (∀ (s : State) (who : Requester) (k : Fin 16) (clear : Bool), s.dev.fore.off = false → s.dev.flag Reg.hdr_FREEZE 25 = false →
     s.dev.partIs k ≠ 3 → (s.dev.part k).due = none → (s.dev.part k).sweep = none →
     let c := clear || (s.dev.part k).snap.getD false
     ∃ t, exec (.snap who k clear) s = .next t ∧
       t.dev.part k = (if (s.dev.part k).cur = none ∧ (s.dev.part k).snapLate = false then { s.dev.part k with
           snap := none
           due := some (false, c) } else { s.dev.part k with snap := some c }) ∧
       (∀ j < 16, j ≠ k.val → t.dev.part j = s.dev.part j) ∧
       s.Framed [.till] [Reg.accu_part_BACKLOG.key k, Reg.hdr_CFG_EPOCH.key 25] t) ∧
   ∀ (s : State) (who : Requester) (k : Fin 16), s.dev.fore.off = false → s.dev.flag Reg.hdr_FREEZE 25 = false →
     (s.dev.part k).bound = [] → (s.dev.part k).snap = none →
     ∃ t, exec (.abort who k) s = .next t ∧ t.dev.partIs k = 0 ∧ t.dev.flag Reg.accu_part_RUN k = false ∧ (t.dev.part k).cur = none ∧
       s.Framed [.till] [Reg.accu_part_RUN.key k, Reg.accu_part_STATE.key k, Reg.accu_RUNNING.key 0, Reg.accu_part_BACKLOG.key k,
         Reg.hdr_CFG_EPOCH.key 25] t) ∧
  ((∀ (s : State) (k : Fin 16) (n : Nat) (g : Segment) (c : TillRec), s.dev.fore.off = false → (s.dev.part k).due = none →
     s.dev.fget Reg.pwr_STAGE ≠ 3 → (s.dev.part k).bound = [n] → s.dev.seg n = some g → g.num = n → (s.dev.part k).cur = some c →
     let sh := s.dev.shape k
     sh.mode = 0 → sh.points ≤ sh.capacity → c.next < s.dev.needed k sh g → s.dev.readable k g c.next = true → (s.dev.part k).sweep = none →
     (s.dev.part k).snap = none → s.dev.flag Reg.accu_part_AUTO_DUMP k = false → 1 < g.readers → s.dev.partIs k = 1 →
     let v := (s.srcValue g (s.dev.fget Reg.accu_part_SRC k) c.next).1
     ∃ t, exec (.tillRecordRead k 1) s = .next t ∧
       t.tillGet k sh c.next = ofSigned 32 (toSigned 32 (s.tillGet k sh c.next) + v) ∧
       (c.next + 1 < s.dev.needed k sh g → (t.dev.part k).cur = some { c with next := c.next + 1 } ∧ (t.dev.part k).bound = [n] ∧
         s.Framed [.till] [Reg.accu_part_BACKLOG.key k] t) ∧
       (s.dev.needed k sh g ≤ c.next + 1 → (t.dev.part k).cur = none ∧ (t.dev.part k).bound = [] ∧
         t.dev.fget Reg.accu_part_RECORDS k = satAdd 32 (s.dev.fget Reg.accu_part_RECORDS k) 1 ∧ t.dev.fget Reg.accu_part_BACKLOG k = 0 ∧
         s.Framed [.till, .acq] [Reg.accu_part_BACKLOG.key k, Reg.accu_part_RECORDS.key k] t)) ∧
   (∀ (s : State) (k : Fin 16) (n : Nat) (g : Segment) (count : Nat), s.dev.fore.off = false → (s.dev.part k).due = none →
     s.dev.fget Reg.pwr_STAGE ≠ 3 → (s.dev.part k).bound = [n] → s.dev.seg n = some g → (s.dev.part k).cur = none → g.final = true →
     s.dev.excluded k g = true → s.dev.partIs k = 1 →
     ∃ t, exec (.tillRecordRead k count) s = .next t ∧ (t.dev.part k).bound = [] ∧
       t.dev.fget Reg.accu_part_SKIPPED k = satAdd 32 (s.dev.fget Reg.accu_part_SKIPPED k) 1 ∧ t.dev.till.banks = s.dev.till.banks ∧
       s.Framed [.till, .acq] [Reg.accu_part_BACKLOG.key k, Reg.accu_part_SKIPPED.key k] t) ∧
   ∀ (s : State) (k : Fin 16) (count : Nat), s.dev.fore.off = false → (s.dev.part k).due = none → s.dev.fget Reg.pwr_STAGE ≠ 3 →
     (s.dev.part k).bound = [] → (s.dev.part k).sweep = none → s.dev.partIs k = 2 →
     ∃ t, exec (.tillRecordRead k count) s = .next t ∧ t.dev.partIs k = 0 ∧ s.Framed [] [Reg.accu_part_STATE.key k, Reg.accu_RUNNING.key 0] t)

/-- Dumps, loads and bank protection (R266 to R269, R272). A sweep that has fallen due takes the image as it stands, with its header and slot; one that
clears leaves RECORDS at 0. At DUMP_DONE header and image stand in the slot, DUMP_HEAD moves on and DUMP_DONE is raised. LOAD stores a dump whose CRCs
and shape fit, and is refused otherwise. A corrected error is counted; a lost point takes its clear value and is raised. -/
def Obligations.TillDumpsAndLoads : Prop :=
  (∀ (s : State) (k : Fin 16) (auto clear : Bool), s.dev.fore.off = false → (s.dev.part k).due = some (auto, clear) → (s.dev.part k).sweep = none →
    let sh := s.dev.shape k
    let slots := s.dev.fget Reg.accu_part_DUMP_SLOTS k
    let head := if slots = 0 then 0 else s.dev.fget Reg.accu_part_DUMP_HEAD k % slots
    sh.mode = 4 ∨ sh.points ≤ sh.capacity →
    ∃ t, exec (.dumpSweepStart k) s = .next t ∧ t.dev.flag Reg.accu_part_SWEEP k = true ∧
      (let p := s.dev.part k;
        t.dev.part k = { p with
          due := none
          sweep := some {
            header := s.dev.dumpHeader k sh auto clear (s.tillShown k sh)
            image := s.tillShown k sh
            slot := s.dev.fget Reg.accu_part_DUMP_BASE k * 65536 + head * sh.slotBytes
            auto := auto }
          lostPoints := []
          torn := false
          sat := false
          eccLost := false
          skipSince := 0
          dumpSeq := p.dumpSeq + 1
          outside := if clear then 0 else p.outside
          pass := if clear then 0 else p.pass
          fail := if clear then 0 else p.fail
          range := if clear then none else p.range
          satSeen := !clear && p.satSeen }) ∧
      (∀ j < 16, j ≠ k.val → t.dev.part j = s.dev.part j) ∧
      (clear = false → t.dev.till.banks = s.dev.till.banks ∧ s.Framed [.till] [Reg.accu_part_SWEEP.key k, Reg.accu_part_BACKLOG.key k] t) ∧
      (clear = true → t.dev.fget Reg.accu_part_RECORDS k = 0 ∧
        (∀ w < sh.words, t.tillGet k sh w = (sh.cleared w).getD (s.tillGet k sh w)) ∧
        s.Framed [.till] [Reg.accu_part_SWEEP.key k, Reg.accu_part_BACKLOG.key k, Reg.accu_part_RECORDS.key k] t)) ∧
  (∀ (s : State) (k : Fin 16) (w : TillDump), s.dev.fore.off = false → (s.dev.part k).sweep = some w → w.header.length = 16 →
    (s.dev.part k).snap = none → s.dev.partIs k ≠ 2 → bitAt (s.dev.xaccWord k) 0 = false →
    let slots := s.dev.fget Reg.accu_part_DUMP_SLOTS k
    ∃ t, exec (.dumpDone k) s = .next t ∧ t.dev.part k = { s.dev.part k with sweep := none } ∧ t.dev.flag Reg.accu_part_SWEEP k = false ∧
      t.dev.Raised 25 (Ev.accu_DUMP_DONE + k) ∧
      (0 < slots → slots < 2 ^ 8 → t.dev.fget Reg.accu_part_DUMP_HEAD k = (s.dev.fget Reg.accu_part_DUMP_HEAD k % slots + 1) % slots) ∧
      s.StoreFramed (.till :: eventParts) ([Reg.accu_part_SWEEP.key k, Reg.accu_part_DUMP_HEAD.key k, Reg.accu_part_BACKLOG.key k] ++ eventKeys 25) t
        w.slot ((w.header ++ w.image).flatMap wordBytes)) ∧
  (∀ (s : State) (who : Requester) (k : Fin 16) (slot : BitVec 8), s.dev.fore.off = false → s.dev.flag Reg.hdr_FREEZE 25 = false →
    s.dev.partIs k = 0 →
    let sh := s.dev.shape k
    let a := s.dev.fget Reg.accu_part_DUMP_BASE k * 65536 + slot.toNat * sh.slotBytes
    let ok := loadOk sh (s.dev.headerPoints k sh) (s.hbmWords a 16) (s.hbmWords (a + 64) sh.words)
    ∃ t, exec (.load who k slot) s = .next t ∧
      (ok = false → t.dev.Raised 25 Ev.accu_CFG_REFUSED ∧ t.dev.ErrHeld 25 Ev.accu_CFG_REFUSED k 0 ∧
        s.Framed eventParts (Reg.hdr_CFG_EPOCH.key 25 :: errKeys 25 ++ eventKeys 25) t) ∧
      (ok = true → sh.mode = 4 ∨ sh.points ≤ sh.capacity → t.dev.fget Reg.accu_part_RECORDS k = s.hbmWord (a + 24) ∧
        (∀ w < sh.words, t.tillGet k sh w = s.hbmWord (a + 64 + 4 * w)) ∧ t.dev.till.parts = s.dev.till.parts ∧
        s.Framed [.till] [Reg.accu_part_RECORDS.key k, Reg.hdr_CFG_EPOCH.key 25] t)) ∧
  (∀ (s : State) (island : Fin 4) (bank : Nat), s.dev.fore.off = false →
    let now := s.dev.ticksToUs s.dev.nowTick
    let n := ((KMap.at s.dev.till.corrected [] (island * 256 + bank % 256)).filter fun u => decide (now < u + 1000000)).length
    let spare := bitField (s.dev.fget Reg.accu_SPARE_BANKS) (4 * island) 4
    ∃ t, exec (.eccFix island bank) s = .next t ∧ t.dev.fget Reg.accu_ECC_CORR = satAdd 32 (s.dev.fget Reg.accu_ECC_CORR) 1 ∧
      (n < 16 → s.Framed [.till] [Reg.accu_ECC_CORR.key 0] t) ∧
      (16 ≤ n → spare = 0 → (bitAt (KMap.at s.dev.fore.degraded 0 25) island = true → t.dev.isContained 25 = true) ∧
        s.Framed ([.till, .contained] ++ eventParts) (Reg.accu_ECC_CORR.key 0 :: eventKeys 25) t) ∧
      (16 ≤ n → 0 < spare → bitField (t.dev.fget Reg.accu_SPARE_BANKS) (4 * island) 4 = spare - 1 ∧ t.dev.Raised 25 Ev.accu_ECC_FIX ∧
        (spare = 1 → t.dev.isDegraded 25 = true) ∧ s.dev.PlanAsked t.dev ∧
        s.Framed ([.till, .degraded, .fore] ++ eventParts) ([Reg.accu_ECC_CORR.key 0, Reg.accu_SPARE_BANKS.key 0] ++ eventKeys 25) t)) ∧
  ∀ (s : State) (k : Fin 16) (point : Nat), s.dev.fore.off = false →
    let sh := s.dev.shape k
    sh.mode = 0 ∨ sh.mode = 1 → point < sh.points → sh.points ≤ sh.capacity →
    ∃ t, exec (.eccLost k point) s = .next t ∧ t.tillGet k sh point = (if sh.mode = 0 then 0 else 0x80007FFF) ∧
      t.dev.Raised 25 Ev.accu_ECC_LOST ∧
      t.dev.part k = { s.dev.part k with
        eccLost := true
        lostPoints := point :: (s.dev.part k).lostPoints } ∧
      s.Framed (.till :: eventParts) (Reg.accu_part_BACKLOG.key k :: eventKeys 25) t

/-- A ticket on its way to a journeyman (R279 to R281, R284, R299, R302, R311). A TICKET entry at the head of a running SUBMIT queue is presented.
Admission consumes it: HEAD advances, the ticket gets the next number of its order stream, and one that fails a check of Table 11.2 is done at once
with that check's status. Dispatch puts an eligible ticket at the near end of the shortest deque of a bench that it may use. -/
def Obligations.TicketsAdmittedAndDispatched : Prop :=
  (∀ (s : State) (q : Nat) (entry : List Word), s.dev.fore.off = false →
    let c := s.dev.qctx q
    let ok := (isWork q = true ∨ c.typ = 1 ∧ c.state = 1 ∧ c.used ≠ 0 ∧ s.dev.fetches q = true) ∧ (entry.map BitVec.toNat).headD 0 % 256 = 0x80 ∧ ∀ p ∈ s.dev.bench.offered, p.1 ≠ q
    ∃ t, exec (.ticket q entry) s = .next t ∧ (¬ ok → s.Framed [] [] t) ∧
      (ok → t.dev.bench = { s.dev.bench with
          offered := s.dev.bench.offered ++ [(q, (List.range 16).map fun k => (entry.map BitVec.toNat).getD k 0)] } ∧
        s.Framed [.bench] [] t)) ∧
  (∀ (s : State) (q : Nat) (ws : List Nat), s.dev.fore.off = false → s.dev.bench.offered = [(q, ws)] →
    let w : TicketWords := { ws := ws }
    s.dev.admitWaits w.destQ = false →
    let c := s.dev.qctx q
    let work := isWork q
    let head := if work then 0 else (c.head + 1) % 2 ^ 32
    let st := if work then s.admitStatus w 0 0 true else s.admitStatus w c.cls c.grant true
    let x : Ticket := {
      id := s.dev.bench.nextId
      words := ws
      sq := q
      sqHead := head
      seq := KMap.at s.dev.bench.nextSeq 0 w.destQ
      holds := if st = 0 then w.segs.filter fun n => (s.dev.seg n).any fun g => g.held else []
      out := if st = 0 then none else some { status := st, result := 0 } }
    ∃ t, exec .ticketAdmit s = .next t ∧ t.dev.bench.tickets = s.dev.bench.tickets ++ [x] ∧ t.dev.bench.offered = [] ∧
      t.dev.bench.nextId = s.dev.bench.nextId + 1 ∧ KMap.at t.dev.bench.nextSeq 0 w.destQ = x.seq + 1 ∧
      t.dev.qm = (if work then s.dev.qm else { s.dev.qm with ctx := KMap.put s.dev.qm.ctx q { c with head := head } }) ∧
      t.dev.fget Reg.benchg_TICKETS_OUT = (s.dev.bench.tickets.length + 1) % 2 ^ Reg.benchg_TICKETS_OUT.width ∧
      (x.holds = [] → t.dev.acq = s.dev.acq) ∧
      s.Framed [.bench, .qm, .acq] ticketKeys t) ∧
  ∀ (s : State), s.dev.fore.off = false →
    ∃ t, exec .ticketDispatch s = .next t ∧
      (s.dev.flag Reg.benchg_DISPATCH_EN = false ∨ s.dev.nextTicket = none → s.Framed [] [] t) ∧
      (∀ x b j, s.dev.flag Reg.benchg_DISPATCH_EN = true → s.dev.nextTicket = some x → s.dev.chooseBench x.t = some b →
        s.dev.shortest ((s.dev.benchJms b).filter fun j => decide ((s.dev.deque j).length < 64)) = some j →
        x.place = .store ∧ x.out = none ∧ s.dev.benchTakes b = true ∧ s.dev.mayRun x.t b = true ∧ j / 16 = b ∧ s.dev.jmRetired j = false ∧
          (s.dev.deque j).length < 64 ∧
        t.dev.deque j = s.dev.deque j ++ [x.id] ∧ (∀ k, k ≠ j → t.dev.deque k = s.dev.deque k) ∧
        t.dev.bench.tickets = (s.dev.bench.tickets.map fun y => if y.id = x.id then { x with place := .deque j } else y) ∧
        (s.dev.pinBroken x.t = true → t.dev.Raised 29 Ev.benchg_PIN_BROKEN) ∧
        s.Framed (.bench :: if s.dev.pinBroken x.t then eventParts else []) (Reg.bench_jm_DEQUE_LEN.key (j / 16 * 256 + j % 16) :: ticketKeys ++
          if s.dev.pinBroken x.t then eventKeys 29 else []) t)

/-- Attempts (R285, R292 to R294, R300). A journeyman takes the far end of its deque once a scratch slot is free; a slot with a bad CRC ends the ticket
with TABLE_CRC. An idle journeyman steals from the far end of another deque. The commit request of a current attempt makes the ticket done with what
its runs came to, its output in its scratch slot; any other is discarded and counted. Commits and recipe checks (R285, R286, R295, R319). A done
ticket that is the oldest of its stream, with every segment confirmed, posts its completion and is forgotten; a publication that fails its check makes
it ABORTED, cause 4; BUFFER_OUT to the HBM tier stores the runs' outputs at DEST. A checked slot gets its header words, and the command that loaded it
completes with its new generation, or with what failed. The bound of a recipe that appends buffers is a free value (log entry 24). -/
def Obligations.TicketAttemptsAndCommits : Prop :=
  ((∀ (s : State) (jm : Fin 512), s.dev.fore.off = false → s.dev.fget Reg.pwr_STAGE ≠ 3 → s.dev.benchTakes (jm / 16) = true →
     s.dev.jmRetired jm = false → s.dev.executing jm = none → ∀ (id : Nat) (ids : List Nat), s.dev.deque jm = id :: ids →
     ∀ x : Ticket, s.dev.ticket id = some x →
     let ws := s.recipeWords x.t.recipe
     let good := imgCrcOk ws && hdrCrcOk ws && (recipeOf ws).valid
     let i := jm.val / 16 * 256 + jm.val % 16
     let ks := Reg.bench_jm_DEQUE_LEN.key i :: ticketKeys
     ∃ t, exec (.attemptStart jm) s = .next t ∧
       (good = false → t.dev.deque jm = ids ∧
         t.dev.bench.tickets = (s.dev.bench.tickets.map fun y =>
           if y.id = x.id then { x with place := .store, out := some { status := 6, result := 0 } } else y) ∧
         s.StoreFramed [.bench] ks t (s.dev.recipeAt x.t.recipe + 32) (wordBytes (andNot (ws.getD 8 0) 1))) ∧
       (good = true → s.dev.freeSlot = none →
         t.dev.deque jm = s.dev.deque jm ∧
         t.dev.bench.tickets = (s.dev.bench.tickets.map fun y => if y.id = x.id then { x with slotWait := true } else y) ∧
         t.dev.fget Reg.benchg_SCRATCH_WAITS = satAdd 32 (s.dev.fget Reg.benchg_SCRATCH_WAITS) (if x.slotWait then 0 else 1) ∧
         s.Framed [.bench] (Reg.benchg_SCRATCH_WAITS.key 0 :: ticketKeys) t) ∧
       (∀ n, good = true → s.dev.freeSlot = some n → t.dev.deque jm = ids ∧
         t.dev.bench.tickets = (s.dev.bench.tickets.map fun y =>
           if y.id = x.id then { x with
             place := .running jm
             slot := some n
             slotWait := false
             started := s.dev.tb.acc } else y) ∧
         t.dev.fget Reg.bench_jm_RECIPE i = x.t.recipe ∧ t.dev.fget Reg.bench_jm_ATTEMPT i = x.attempt % 2 ^ Reg.bench_jm_ATTEMPT.width ∧
         bitAt (t.dev.fget Reg.bench_BUSY (jm / 16)) (jm % 16) = true ∧
         s.Framed [.bench] ([Reg.bench_BUSY.key (jm / 16), Reg.bench_jm_RECIPE.key i, Reg.bench_jm_ATTEMPT.key i] ++ ks) t)) ∧
   (∀ (s : State) (jm : Fin 512), s.dev.fore.off = false → s.dev.benchTakes (jm / 16) = true → s.dev.jmRetired jm = false →
     s.dev.executing jm = none → s.dev.deque jm = [] → ∀ v : Nat, s.dev.victim jm = some v → v ≠ jm → v < 512 →
     ∀ (id : Nat) (ids : List Nat), s.dev.deque v = id :: ids → ∀ x : Ticket, s.dev.ticket id = some x →
     ∃ t, exec (.ticketSteal jm) s = .next t ∧ t.dev.deque v = ids ∧ t.dev.deque jm = [id] ∧
       (∀ k, k ≠ v → k ≠ jm.val → t.dev.deque k = s.dev.deque k) ∧
       t.dev.bench.tickets = (s.dev.bench.tickets.map fun y => if y.id = x.id then { x with place := .deque jm } else y) ∧
       (v / 16 ≠ jm / 16 → t.dev.fget Reg.bench_STEALS_IN (jm / 16) = satAdd 32 (s.dev.fget Reg.bench_STEALS_IN (jm / 16)) 1 ∧
         t.dev.fget Reg.bench_STEALS_OUT (v / 16) = satAdd 32 (s.dev.fget Reg.bench_STEALS_OUT (v / 16)) 1) ∧
       s.Framed [.bench] (Reg.bench_jm_DEQUE_LEN.key (jm / 16 * 256 + jm % 16) :: Reg.bench_jm_DEQUE_LEN.key (v / 16 * 256 + v % 16) :: ticketKeys ++
         if v / 16 = jm / 16 then [] else [Reg.bench_STEALS_IN.key (jm / 16), Reg.bench_STEALS_OUT.key (v / 16)]) t) ∧
   ∀ (s : State) (jm : Fin 512) (id attempt : Nat), s.dev.fore.off = false →
     ∃ t, exec (.commitRequest jm id attempt) s = .next t ∧
       (s.dev.ticket id = none → t.dev.fget Reg.benchg_DUP_COMMITS = satAdd 32 (s.dev.fget Reg.benchg_DUP_COMMITS) 1 ∧
         s.Framed [] [Reg.benchg_DUP_COMMITS.key 0] t) ∧
       (∀ x, s.dev.ticket id = some x → x.place ≠ .running jm ∨ x.attempt ≠ attempt ∨ s.dev.benchIn (jm / 16) = false →
         t.dev.fget Reg.benchg_DUP_COMMITS = satAdd 32 (s.dev.fget Reg.benchg_DUP_COMMITS) 1 ∧ s.Framed [] [Reg.benchg_DUP_COMMITS.key 0] t) ∧
       (∀ x n, s.dev.ticket id = some x → x.place = .running jm → x.attempt = attempt → s.dev.benchIn (jm / 16) = true → x.slot = some n →
         s.dev.fore.injecting = false →
         let r := s.runTicket x.t
         let o : TicketOut := if r.cause.isSome then { status := 4, result := r.cause.getD 0 } else { status := 0, result := r.s0, outputs := r.outputs }
         let i := jm.val / 16 * 256 + jm.val % 16
         t.dev.bench.tickets = (s.dev.bench.tickets.map fun y => if y.id = x.id then { x with place := .store, out := some o } else y) ∧
         t.dev.fget Reg.bench_TICKETS_DONE (jm / 16) = satAdd 32 (s.dev.fget Reg.bench_TICKETS_DONE (jm / 16)) 1 ∧
         (s.dev.bench.tickets = [x] → bitAt (t.dev.fget Reg.bench_BUSY (jm / 16)) (jm % 16) = false) ∧
         s.StoreFramed ([.bench, .tally] ++ eventParts) (Reg.bench_BUSY.key (jm / 16) :: Reg.bench_jm_RECIPE.key i :: Reg.bench_jm_ATTEMPT.key i ::
             Reg.bench_TICKETS_DONE.key (jm / 16) :: ticketKeys ++ countKeys 10 ++ countKeys 23)
           t (s.dev.scratchAt n) (o.outputs.flatten.map (BitVec.ofNat 8)))) ∧
  ((∀ (s : State) (id : Nat) (x : Ticket) (o : TicketOut), s.dev.fore.off = false → s.dev.ticket id = some x → x.out = some o →
     s.dev.committable x = true → x.place = .store → x.holds = [] → x.made = 0 → x.t.noCompletion = false →
     (s.dev.qctx x.t.destQ).typ = 2 → s.dev.qroom x.t.destQ 1 = true → s.dev.holding = false →
     let r := recipeOf (s.recipeWords x.t.recipe)
     let pubs := r.ops.filter RecipeOp.isPublish
     let good := x.checked || s.publishable x o r
     let o1 : TicketOut := if o.status = 0 ∧ good = false then { status := 4, result := 4 } else o
     let cq := s.dev.qctx x.t.destQ
     let post := fun (t : State) => t.dev.bench.tickets = (s.dev.bench.tickets.filter fun y => y.id != x.id) ∧
       (t.dev.qctx x.t.destQ).tail = (cq.tail + 1) % 2 ^ 32 ∧
       Output.hostWrite (cq.base + cq.tail % 2 ^ cq.log2 * 32)
         [(x.t.tag + 65536 * (o1.status % 256)) ||| (cq.phase cq.tail * 2 ^ 24), x.sq, x.sqHead, o1.result % 2 ^ 32, o1.result / 2 ^ 32 % 2 ^ 32,
           s.dev.nowStamp.getD 0 0, s.dev.nowStamp.getD 1 0, 0] ∈ t.dev.out
     ∃ t, exec (.ticketCommit id) s = .next t ∧
       (o.status ≠ 0 ∨ good = false ∨ pubs = [] → post t ∧ s.Framed [.bench, .qm, .pcie, .out] ticketKeys t) ∧
       (∀ p, o.status = 0 → good = true → pubs = [p] → p.op = 0x39 → (x.t.loc 6).2 = 0 →
         post t ∧ s.StoreFramed [.bench, .qm, .pcie, .out] ticketKeys t (x.t.loc 6).1 (o.outputs.flatten.map (BitVec.ofNat 8)))) ∧
   (∀ (s : State) (id : Nat) (x : Ticket), s.dev.fore.off = false → s.dev.ticket id = some x → s.dev.committable x = false →
     ∃ t, exec (.ticketCommit id) s = .next t ∧ s.Framed [] [] t) ∧
   ∀ (s : State) (slot : Fin 1024), s.dev.fore.off = false →
     let ws := s.recipeWords slot
     let r := recipeOf ws
     let bad := r.refused (imgCrcOk ws)
     let gen := (KMap.at s.dev.bench.gen 0 slot + 1) % 2 ^ 32
     let free := Config.freeValue s.dev.freeCtr
     ∃ t, exec (.recipeValidationDone slot) s = .next t ∧
       (KMap.find s.dev.bench.loading slot = none → s.Framed [] [] t) ∧
       (∀ c : Cmd, KMap.find s.dev.bench.loading slot = some c.id → s.dev.Outstanding c →
         KMap.find t.dev.bench.loading slot = none ∧
         (bad = none → KMap.at t.dev.bench.gen 0 slot = gen ∧ s.dev.PostedCmd t.dev c 0 gen) ∧
         (bad ≠ none → KMap.at t.dev.bench.gen 0 slot = KMap.at s.dev.bench.gen 0 slot ∧
           s.dev.PostedCmd t.dev c (if imgCrcOk ws then 1 else 6) 0) ∧
         s.StoreFramed [.bench, .qm, .pcie, .out, .freeCtr] cmdKeys t (s.dev.recipeAt slot)
           ((foremanHeader ws r (if bad = none then gen else KMap.at s.dev.bench.gen 0 slot) (r.fixedBytes + if r.emitsBuffers then free % 65536 else 0)
             (if r.emitsBuffers then free / 65536 % 65536 else 0) bad).flatMap wordBytes)))

/-- Benches and journeymen that fail (R290 to R292). A timed-out attempt is counted and raised, its ticket is reissued with a new attempt or, the third
time, ended with ABORTED, and the island is reset; a journeyman's second timeout within 1 s retires it. A bench whose heartbeat stops is taken out of
service, its tickets reissued elsewhere, its deques empty. Its self-test brings it back, or the third failure leaves it out. -/
def Obligations.BenchFailures : Prop :=
  (∀ (s : State) (jm : Fin 512) (atMs : Nat) (x : Ticket), s.dev.fore.off = false → s.dev.executing jm = some x →
    let b := jm.val / 16
    let times := (atMs :: (KMap.at s.dev.bench.jmTimes [] jm).filter fun u => decide (atMs < u + 1000)).take 2
    let retire := times.length = 2 ∧ s.dev.jmRetired jm = false
    let ks := [Reg.hdr_TIMEOUT_COUNT.key (32 + b), Reg.hdr_RECOVERY_COUNT.key (32 + b), Reg.benchg_TIMEOUTS.key 0,
      Reg.bench_jm_TIMEOUTS.key (b * 256 + jm % 16), Reg.bench_RESETTING.key b, Reg.benchg_REISSUES.key 0] ++ ticketKeys ++ dequeKeys ++ jmKeys b ++
      faultKeys (32 + b) ++ eventKeys 29
    ∃ t, exec (.ticketTimeout jm atMs) s = .next t ∧ (s.dev.fget Reg.pwr_STAGE = 3 → s.Framed [] [] t) ∧
      (s.dev.fget Reg.pwr_STAGE ≠ 3 →
        t.dev.fget Reg.benchg_TIMEOUTS = satAdd 32 (s.dev.fget Reg.benchg_TIMEOUTS) 1 ∧
        t.dev.fget Reg.bench_jm_TIMEOUTS (b * 256 + jm % 16) = satAdd 16 (s.dev.fget Reg.bench_jm_TIMEOUTS (b * 256 + jm % 16)) 1 ∧
        t.dev.Raised (32 + b) Ev.bench_TICKET_TIMEOUT ∧ t.dev.Raised 29 Ev.benchg_TICKET_TIMEOUT ∧ t.dev.Raised (32 + b) Ev.bench_ISL_RESET ∧
        t.dev.flag Reg.bench_RESETTING b = true ∧
        (2 ≤ x.timeouts → (t.dev.ticket x.id).map Ticket.out = some (some { status := 4, result := 3 })) ∧
        (x.timeouts < 2 → (t.dev.ticket x.id).map (fun y => (y.attempt, y.timeouts, y.slot, y.out)) =
          some (x.attempt + 1, x.timeouts + 1, none, x.out)) ∧
        (¬ retire → t.dev.ErrHeld (32 + b) Ev.bench_TICKET_TIMEOUT (jm % 16) 0 ∧ s.Framed (.bench :: eventParts) ks t) ∧
        (retire → t.dev.jmRetired jm = true ∧ t.dev.Raised (32 + b) Ev.bench_JM_RETIRED ∧ t.dev.Raised 29 Ev.benchg_JM_RETIRED ∧
          t.dev.ErrHeld (32 + b) Ev.bench_JM_RETIRED (jm % 16) 0 ∧ t.dev.deque jm = [] ∧ t.dev.isDegraded (32 + b) = true ∧
          (s.dev.isDegraded (32 + b) = true → t.dev.isContained (32 + b) = true) ∧ s.dev.PlanAsked t.dev ∧
          s.Framed ([.bench, .degraded, .contained, .fore] ++ eventParts) ([Reg.bench_RETIRED.key b, Reg.benchg_IN_SERVICE.key 0, Reg.bench_IN_SERVICE.key b,
            Reg.benchg_ISOLATED.key 0] ++ faultKeys 29 ++ ks) t))) ∧
  (∀ (s : State) (b : Fin 32), s.dev.fore.off = false →
    (∃ t, exec (.islResetDone b) s = .next t ∧ t.dev.flag Reg.bench_RESETTING b = false ∧ s.Framed [] [Reg.bench_RESETTING.key b] t) ∧
    (∃ t, exec (.benchHeartbeat b) s = .next t ∧
      t.dev.bench = { s.dev.bench with heard := KMap.put s.dev.bench.heard b s.dev.tb.acc } ∧ s.Framed [.bench] [] t) ∧
    ∃ t, exec (.benchIsolated b) s = .next t ∧ (s.dev.benchIn b = false → s.Framed [] [] t) ∧
      (s.dev.benchIn b = true → t.dev.benchIn b = false ∧ t.dev.flag Reg.bench_IN_SERVICE b = false ∧
        bitAt (t.dev.fget Reg.benchg_ISOLATED) b = true ∧ t.dev.flag Reg.bench_RESETTING b = true ∧ t.dev.Raised 29 Ev.benchg_BENCH_ISOLATED ∧
        t.dev.ErrHeld 29 Ev.benchg_BENCH_ISOLATED b 0 ∧ t.dev.Raised (32 + b) Ev.bench_ISL_RESET ∧ t.dev.isDegraded 29 = true ∧
        (∀ j, j / 16 = b.val → t.dev.deque j = []) ∧
        (∀ x ∈ t.dev.bench.tickets, ∀ j, x.place = .deque j ∨ x.place = .running j → j / 16 ≠ b.val) ∧
        (s.dev.isDegraded 29 = true → t.dev.isContained 29 = true) ∧ s.dev.PlanAsked t.dev ∧
        s.Framed ([.bench, .degraded, .contained, .fore] ++ eventParts) ([Reg.benchg_IN_SERVICE.key 0, Reg.bench_IN_SERVICE.key b, Reg.benchg_ISOLATED.key 0,
          Reg.bench_RESETTING.key b, Reg.benchg_REISSUES.key 0] ++ ticketKeys ++ dequeKeys ++ jmKeys b ++ faultKeys 29 ++ eventKeys (32 + b)) t)) ∧
  ∀ (s : State) (b : Fin 32) (pass : Bool), s.dev.fore.off = false →
    let n := s.dev.fget Reg.bench_REJOIN_FAILS b + 1
    let skip := s.dev.benchIn b || bitAt s.dev.bench.shut b || s.dev.romRecovery
    ∃ t, exec (.benchSelfTestDone b pass) s = .next t ∧ (skip = true → s.Framed [] [] t) ∧
      (skip = false → pass = true → t.dev.benchIn b = true ∧ t.dev.flag Reg.bench_IN_SERVICE b = true ∧
        bitAt (t.dev.fget Reg.benchg_ISOLATED) b = false ∧ t.dev.fget Reg.bench_REJOIN_FAILS b = 0 ∧ t.dev.Raised 29 Ev.benchg_BENCH_REJOINED ∧
        t.dev.ErrHeld 29 Ev.benchg_BENCH_REJOINED b 0 ∧
        s.Framed ([.bench, .degraded] ++ (if (29, b.val) ∈ s.dev.fore.marks then [Part.fore] else []) ++ eventParts) ([Reg.benchg_IN_SERVICE.key 0,
          Reg.bench_IN_SERVICE.key b, Reg.benchg_ISOLATED.key 0, Reg.bench_REJOIN_FAILS.key b, Reg.hdr_RECOVERY_COUNT.key 29] ++ faultKeys 29) t) ∧
      (skip = false → pass = false → t.dev.fget Reg.bench_REJOIN_FAILS b = n % 4 ∧ (3 ≤ n → bitAt t.dev.bench.shut b = true) ∧
        s.Framed (if 3 ≤ n then [.bench] else []) [Reg.bench_REJOIN_FAILS.key b] t)

/-- Making and removing queues (R306, R307, R314, R315, R324, Table 12.3). CREATE_QUEUE makes the queue that its context words describe, active and armed,
or completes with INVALID. DELETE_QUEUE removes a queue that exists and that nothing delivers to. RESET_QUEUE clears what a queue has counted and
makes it active. ADMIN_CTRL.EN makes the admin queues of the admin fields, and removes them while no command is outstanding. -/
def Obligations.QueueAdministration : Prop :=
  (∀ (s : State) (q : BitVec 16) (entry : List Word), s.dev.fore.off = false →
    let ws := entryWords entry
    let n := ws.getD 8 0
    let c := contextOf ws
    s.dev.TakesCmd q.toNat 0x01 ws →
    ∃ t, exec (.createQueue q entry) s = .next t ∧ s.dev.CompletedCmd t.dev q.toNat ws (if s.dev.createOk n c then 0 else 1) 0 ∧
      (s.dev.createOk n c = true → t.dev.qctx n = c ∧ c.state = 1 ∧ c.head = 0 ∧ c.tail = 0 ∧ c.irqArmed = true ∧
        s.Framed eventParts (Reg.qmgr_QUEUES_ACTIVE.key 0 :: cmdKeys) t) ∧
      (s.dev.createOk n c = false → t.dev.qctx n = (if n = q.toNat ∨ n = (s.dev.qctx q.toNat).cq then t.dev.qctx n else s.dev.qctx n) ∧
        s.Framed eventParts cmdKeys t)) ∧
  (∀ (s : State) (q : BitVec 16) (entry : List Word), s.dev.fore.off = false →
    let ws := entryWords entry
    let n := ws.getD 1 0
    let gone := (s.dev.qctx n).typ = 0 ∨ n ≤ 1 ∨ ((s.dev.qctx n).typ = 2 ∧ ∃ p ∈ s.dev.qm.ctx, p.2.typ = 1 ∧ p.2.cq = n)
    s.dev.TakesCmd q.toNat 0x02 ws → n ≠ q.toNat → n ≠ (s.dev.qctx q.toNat).cq →
    ∃ t, exec (.deleteQueue q entry) s = .next t ∧
      (gone → s.dev.CompletedCmd t.dev q.toNat ws 1 0 ∧ s.Framed eventParts cmdKeys t) ∧
      (¬ gone → s.dev.queueInUse n = true → s.dev.CompletedCmd t.dev q.toNat ws 7 0 ∧ s.Framed eventParts cmdKeys t) ∧
      (¬ gone → s.dev.queueInUse n = false → s.dev.CompletedCmd t.dev q.toNat ws 0 0 ∧ (t.dev.qctx n).typ = 0 ∧
        KMap.find t.dev.qm.streams n = none ∧ t.dev.bench.tickets = s.dev.bench.tickets ∧
        s.Framed (.bench :: eventParts) (Reg.qmgr_QUEUES_ACTIVE.key 0 :: cmdKeys) t)) ∧
  (∀ (s : State) (q : BitVec 16) (entry : List Word), s.dev.fore.off = false →
    let ws := entryWords entry
    let n := ws.getD 1 0
    s.dev.TakesCmd q.toNat 0x03 ws → n ≠ q.toNat → n ≠ (s.dev.qctx q.toNat).cq →
    ∃ t, exec (.resetQueue q entry) s = .next t ∧
      s.dev.CompletedCmd t.dev q.toNat ws (if (s.dev.qctx n).typ = 0 then 1 else 0) 0 ∧
      t.dev.qctx n = (if (s.dev.qctx n).typ = 0 then s.dev.qctx n else { s.dev.qctx n with
        head := 0
        tail := 0
        state := 1
        dropped := 0
        irqArmed := true
        overflow := false
        seq := 0
        lost := 0
        unsignalled := 0
        late := false }) ∧
      (∀ m, m ≠ n → m ≠ q.toNat → m ≠ (s.dev.qctx q.toNat).cq → t.dev.qctx m = s.dev.qctx m) ∧ s.Framed (.bench :: eventParts) cmdKeys t) ∧
  (∀ (s : State) (who : Requester) (val : Word), s.dev.fore.off = false → s.dev.flag Reg.hdr_FREEZE 28 = false →
    s.dev.flag Reg.qmgr_EN = false →
    let v := val.toNat
    let ks := [Reg.qmgr_SQ_LOG2.key 0, Reg.qmgr_CQ_LOG2.key 0, Reg.qmgr_IRQ_EN.key 0, Reg.qmgr_VECTOR.key 0, Reg.hdr_CFG_EPOCH.key 28]
    let ok := 4 ≤ bitField v 4 5 ∧ bitField v 4 5 ≤ 16 ∧ 4 ≤ bitField v 9 5 ∧ bitField v 9 5 ≤ 16 ∧
      s.dev.fget Reg.qmgr_ASQ_BASE_W0 % 4096 = 0 ∧ s.dev.fget Reg.qmgr_ACQ_BASE_W0 % 4096 = 0
    ∃ t, exec (.adminEnable who val) s = .next t ∧ t.dev.fget Reg.qmgr_SQ_LOG2 = bitField v 4 5 ∧ t.dev.fget Reg.qmgr_CQ_LOG2 = bitField v 9 5 ∧
      t.dev.fget Reg.qmgr_IRQ_EN = bitField v 14 1 ∧ t.dev.fget Reg.qmgr_VECTOR = bitField v 16 11 ∧
      (bitAt v 0 = false → s.Framed [] ks t) ∧
      (bitAt v 0 = true → ok → t.dev.flag Reg.qmgr_EN = true ∧
        t.dev.qctx 0 = {
          typ := 1
          cls := 1
          log2 := bitField v 4 5
          state := 1
          base := s.dev.fget64 Reg.qmgr_ASQ_BASE_W0 Reg.qmgr_ASQ_BASE_W1
          cq := 1
          irqArmed := true } ∧
        t.dev.qctx 1 = {
          typ := 2
          cls := 1
          log2 := bitField v 9 5
          state := 1
          base := s.dev.fget64 Reg.qmgr_ACQ_BASE_W0 Reg.qmgr_ACQ_BASE_W1
          vector := bitField v 16 11
          irqEn := bitAt v 14
          irqArmed := true } ∧
        s.Framed [.qm] (Reg.qmgr_EN.key 0 :: Reg.qmgr_QUEUES_ACTIVE.key 0 :: ks) t) ∧
      (bitAt v 0 = true → ¬ ok → t.dev.ErrHeld 28 0xF0 (0x40 + 4096 * who.code) v ∧ s.Framed [] (ks ++ errKeys 28) t)) ∧
  ∀ (s : State) (who : Requester) (val : Word), s.dev.fore.off = false → s.dev.flag Reg.hdr_FREEZE 28 = false →
    s.dev.flag Reg.qmgr_EN = true → bitAt val.toNat 0 = false →
    ∃ t, exec (.adminEnable who val) s = .next t ∧ t.dev.fget Reg.qmgr_SQ_LOG2 = s.dev.fget Reg.qmgr_SQ_LOG2 ∧
      (s.dev.qm.cmds = [] → t.dev.flag Reg.qmgr_EN = false ∧ (t.dev.qctx 0).typ = 0 ∧ (t.dev.qctx 1).typ = 0 ∧
        s.Framed [.qm, .bench] ([Reg.qmgr_EN.key 0, Reg.qmgr_QUEUES_ACTIVE.key 0, Reg.hdr_CFG_EPOCH.key 28] ++ errKeys 28) t) ∧
      (s.dev.qm.cmds ≠ [] → t.dev.flag Reg.qmgr_EN = true ∧ t.dev.ErrHeld 28 0xF0 (0x40 + 4096 * who.code) val.toNat ∧
        s.Framed [] (Reg.hdr_CFG_EPOCH.key 28 :: errKeys 28) t)

/-- Commands of a SUBMIT queue that act on the acquisition and the assayer (R35, R105, R108, R113, R199, R202, R211, Table 04.2, Table 12.3). Each is
refused with its status and completes at once, or is accepted: the device is armed or stops, the runs are asked for, and its completion follows later.
RELEASE lets the held segments of its range go. -/
def Obligations.AcquisitionCommands : Prop :=
  (∀ (s : State) (q : BitVec 16) (entry : List Word), s.dev.fore.off = false →
    let ws := entryWords entry
    s.dev.TakesCmd q.toNat 0x10 ws →
    let d := s.dev.takeHorizon
    ∃ t, exec (.arm q entry) s = .next t ∧
      (s.dev.armed = true → s.dev.flag Reg.acq_STOPPING = true → s.dev.CompletedCmd t.dev q.toNat ws 7 0 ∧ s.Framed eventParts cmdKeys t) ∧
      (s.dev.armed = true → s.dev.flag Reg.acq_STOPPING = false → s.dev.acq.armPending = true →
        t.dev.acq = { s.dev.acq with armCmds := s.dev.acq.armCmds ++ [s.dev.qm.nextId] } ∧ s.Framed [.qm, .acq] cmdKeys t) ∧
      (s.dev.armed = true → s.dev.flag Reg.acq_STOPPING = false → s.dev.acq.armPending = false →
        s.dev.CompletedCmd t.dev q.toNat ws 0 s.dev.armIndex ∧ s.Framed eventParts cmdKeys t) ∧
      (s.dev.armed = false → s.dev.flag Reg.top_FAILED = true →
        s.dev.CompletedCmd t.dev q.toNat ws 2 0 ∧ s.Framed eventParts (Reg.cas_H_TICKS.key 0 :: cmdKeys) t) ∧
      (s.dev.armed = false → s.dev.flag Reg.top_FAILED = false → s.dev.armReady = false →
        s.dev.CompletedCmd t.dev q.toNat ws 7 0 ∧ s.Framed eventParts (Reg.cas_H_TICKS.key 0 :: cmdKeys) t) ∧
      (s.dev.armed = false → s.dev.flag Reg.top_FAILED = false → s.dev.armReady = true → d.armFault.isSome = true → t.dev.armed = false ∧ t.dev.Raised 22 Ev.acq_ARM_REFUSED ∧
        t.dev.fget Reg.hdr_ERR_CODE 22 = Ev.acq_ARM_REFUSED ∧ t.dev.qm.cmds = [] ∧
        s.Framed eventParts (Reg.cas_H_TICKS.key 0 :: cmdKeys ++ errKeys 22 ++ errKeys 24 ++ eventKeys 22) t) ∧
      (s.dev.armed = false → s.dev.flag Reg.top_FAILED = false → s.dev.armReady = true → d.armFault.isSome = false → s.dev.assay.fgDue = 0 → t.dev.armed = true ∧
        t.dev.acq = { s.dev.acq with
          armPending := true
          stopTaken := false
          stopAt := none
          armCmds := s.dev.acq.armCmds ++ [s.dev.qm.nextId] } ∧
        t.dev.qm.cmds.map Cmd.id = [s.dev.qm.nextId] ∧
        s.Framed [.acq, .qm] (Reg.acq_ARMED.key 0 :: Reg.cas_H_TICKS.key 0 :: cmdKeys) t)) ∧
  (∀ (s : State) (q : BitVec 16) (entry : List Word), s.dev.fore.off = false →
    let ws := entryWords entry
    s.dev.TakesCmd q.toNat 0x11 ws →
    ∃ t, exec (.stop q entry) s = .next t ∧
      (s.dev.armed = false → s.dev.CompletedCmd t.dev q.toNat ws 0 1 ∧ s.Framed eventParts cmdKeys t) ∧
      (s.dev.armed = true → t.dev.flag Reg.acq_STOPPING = true ∧
        t.dev.acq = { s.dev.acq with stopCmds := s.dev.acq.stopCmds ++ [s.dev.qm.nextId] } ∧ t.dev.qm.cmds.map Cmd.id = [s.dev.qm.nextId] ∧
        s.Framed [.acq, .qm] (Reg.acq_STOPPING.key 0 :: cmdKeys) t)) ∧
  (∀ (s : State) (q : BitVec 16) (entry : List Word) (g : Segment), s.dev.fore.off = false →
    let ws := entryWords entry
    let first := ws.getD 1 0 + 2 ^ 32 * ws.getD 2 0
    s.dev.TakesCmd q.toNat 0x12 ws → s.dev.acq.segs = [(g.num, g)] → g.written = false →
    ∃ t, exec (.release q entry) s = .next t ∧
      (ws.getD 3 0 = 0 → s.dev.CompletedCmd t.dev q.toNat ws 1 0 ∧ s.Framed eventParts cmdKeys t) ∧
      (ws.getD 3 0 = 1 → first = g.num → g.held = true → s.dev.CompletedCmd t.dev q.toNat ws 0 1 ∧
        t.dev.acq = { s.dev.acq with segs := [(g.num, { g with held := false })] } ∧ s.Framed (.acq :: eventParts) cmdKeys t) ∧
      (ws.getD 3 0 = 1 → first ≠ g.num ∨ g.held = false → s.dev.CompletedCmd t.dev q.toNat ws 0 0 ∧
        t.dev.ErrHeld 23 0xF2 (first % 2 ^ 32) (first / 2 ^ 32) ∧ s.Framed eventParts (cmdKeys ++ errKeys 23) t)) ∧
  (∀ (s : State) (q : BitVec 16) (entry : List Word), s.dev.fore.off = false →
    let ws := entryWords entry
    let gs := ws.getD 1 0
    s.dev.TakesCmd q.toNat 0x20 ws →
    ∃ t, exec (.calibrate q entry) s = .next t ∧
      (gs = 0 → s.dev.CompletedCmd t.dev q.toNat ws 1 0 ∧ s.Framed eventParts cmdKeys t) ∧
      (gs ≠ 0 → s.dev.armed = true → s.dev.CompletedCmd t.dev q.toNat ws 2 0 ∧ s.Framed eventParts cmdKeys t) ∧
      (gs ≠ 0 → s.dev.armed = false → s.dev.fget Reg.assay_FG_BUSY &&& gs ≠ 0 →
        s.dev.CompletedCmd t.dev q.toNat ws 7 0 ∧ s.Framed eventParts cmdKeys t) ∧
      (gs ≠ 0 → s.dev.armed = false → s.dev.fget Reg.assay_FG_BUSY = 0 → s.dev.sliceClock = true →
        t.dev.fget Reg.assay_FG_BUSY = gs ∧ t.dev.assay.cmds = s.dev.assay.cmds ++ [({ cmd := s.dev.qm.nextId, groups := gs } : CalCmd)] ∧
        t.dev.qm.cmds.map Cmd.id = [s.dev.qm.nextId] ∧ (∀ g < 4, bitAt gs g = true → bitAt t.dev.assay.fgWait g = true) ∧
        s.Framed [.loom, .assay, .qm] (Reg.assay_FG_BUSY.key 0 :: cmdKeys ++
          (List.range 4).flatMap fun x => [Reg.fe_BUSY.key x, Reg.fe_VALID.key x]) t)) ∧
  ∀ (s : State) (q : BitVec 16) (entry : List Word), s.dev.fore.off = false → s.dev.TakesCmd q.toNat 0x21 (entryWords entry) →
    ∃ t, exec (.calCommit q entry) s = .next t ∧ t.dev.assay = { s.dev.assay with
        commitReq := true
        commitManual := true
        commitCmds := s.dev.assay.commitCmds ++ [s.dev.qm.nextId] } ∧
      t.dev.qm.cmds.map Cmd.id = [s.dev.qm.nextId] ∧ s.Framed [.assay, .qm] cmdKeys t

/-- A doorbell write (R309, R310, R325). An index that R310 refuses stops its queue: the queue enters STATE 2, DOORBELL_ERR is raised and the page's error
log names the queue. Any other moves the host's index, and IRQ_ARM arms the interrupt, which signals at once what is due. A doorbell without a whole
word, of a queue that does not exist or of a stopped queue moves nothing. A doorbell wakes the link from L1. -/
def Obligations.DoorbellWrites : Prop :=
  ∀ (s : State) (q : BitVec 16) (low high : Option Word), s.dev.fore.off = false →
    let n := q.toNat
    let c := s.dev.qctx n
    let bad := fun (v : Nat) => if c.typ = 1 then 2 ^ c.log2 < (v + 2 ^ 32 - c.head) % 2 ^ 32 else
      (c.tail + 2 ^ 32 - c.head) % 2 ^ 32 < (v + 2 ^ 32 - c.head) % 2 ^ 32
    let c1 := { c with
      tail := if c.typ = 1 then (low.map BitVec.toNat).getD c.tail else c.tail
      head := if c.typ = 1 then c.head else (low.map BitVec.toNat).getD c.head
      irqArmed := c.irqArmed || (high.map fun (w : Word) => bitAt w.toNat 0).getD false }
    let due := c.irqEn && c1.irqArmed && c.unsignalled != 0 && (decide (max 1 c.coalCnt ≤ c.unsignalled) || c.coalUs == 0 || c.late)
    let l1 := [Reg.pcie_IN_L1.key 0]
    ∃ t, exec (.doorbellWrite q low high) s = .next t ∧ t.dev.flag Reg.pcie_IN_L1 = false ∧
      (low = none → high = none → t.dev.fget Reg.pcie_BAD_ACCESS = satAdd 32 (s.dev.fget Reg.pcie_BAD_ACCESS) 1 ∧
        s.Framed [] (Reg.pcie_BAD_ACCESS.key 0 :: l1) t) ∧
      (low ≠ none ∨ high ≠ none → c.typ = 0 ∨ c.cls = 0 →
        t.dev.fget Reg.qmgr_DB_IGNORED = satAdd 32 (s.dev.fget Reg.qmgr_DB_IGNORED) 1 ∧ s.Framed [] (Reg.qmgr_DB_IGNORED.key 0 :: l1) t) ∧
      (low ≠ none ∨ high ≠ none → c.typ ≠ 0 → c.cls ≠ 0 → c.state = 2 → s.Framed [] l1 t) ∧
      (∀ v, low = some v → c.typ ≠ 0 → c.cls ≠ 0 → c.state ≠ 2 → bad v.toNat → (t.dev.qctx n).state = 2 ∧
        t.dev.Raised 28 Ev.qmgr_DOORBELL_ERR ∧ t.dev.ErrHeld 28 Ev.qmgr_DOORBELL_ERR n 0 ∧
        s.Framed eventParts (l1 ++ errKeys 28 ++ eventKeys 28) t) ∧
      (low ≠ none ∨ high ≠ none → c.typ ≠ 0 → c.cls ≠ 0 → c.state ≠ 2 → (∀ v, low = some v → ¬ bad v.toNat) →
        t.dev.qctx n = (if due then { c1 with
          irqArmed := false
          unsignalled := 0
          late := false } else c1) ∧
        (∀ m, m ≠ n → t.dev.qctx m = s.dev.qctx m) ∧ (due = false → s.Framed [.qm] l1 t) ∧ (due = true → s.dev.Signalled t.dev c.vector) ∧
        s.Framed eventParts (Reg.pcie_EGRESS_LEVEL.key 0 :: l1) t)

/-- Delivery and queue errors (R313, R317 to R319, R321). A finished command's completion waits for room. A record goes out with its header once it fits.
A due queue is signalled once. A DMA error puts its queue into STATE 2, counts what it carried as lost and records the queue. -/
def Obligations.Delivery : Prop :=
  (∀ (s : State) (q : BitVec 16), s.dev.fore.off = false →
    let c := s.dev.qctx q.toNat
    let due := c.irqEn && c.irqArmed && c.unsignalled != 0
    ∃ t, exec (.coalesceTimer q) s = .next t ∧ (∀ m, m ≠ q.toNat → t.dev.qctx m = s.dev.qctx m) ∧
      (due = false → t.dev.qctx q.toNat = (if c.unsignalled = 0 then c else { c with late := true }) ∧ s.Framed [.qm] [] t) ∧
      (due = true → t.dev.qctx q.toNat = { c with
          irqArmed := false
          unsignalled := 0
          late := false } ∧ s.dev.Signalled t.dev c.vector ∧
        s.Framed eventParts [Reg.pcie_EGRESS_LEVEL.key 0, Reg.pcie_IN_L1.key 0] t)) ∧
  (∀ (s : State) (c : Cmd) (st r : Nat), s.dev.fore.off = false → s.dev.qm.cmds = [c] → c.result = some (st, r) → s.dev.bench.tickets = [] →
    s.dev.holding = false → (s.dev.qctx c.cq).typ = 2 →
    ∃ t, exec .completionPost s = .next t ∧
      (s.dev.qroom c.cq 1 = true → s.dev.PostedCmd t.dev c st r ∧ s.Framed eventParts cmdKeys t) ∧
      (s.dev.qroom c.cq 1 = false → t.dev.qm.cmds = [c] ∧ s.Framed [] cmdKeys t)) ∧
  (∀ (s : State) (q : BitVec 16) (r : StreamRec), s.dev.fore.off = false → s.dev.holding = false →
    let n := q.toNat
    let c := s.dev.qctx n
    KMap.find s.dev.qm.streams n = some [r] →
    let k := c.recordEntries r.bytes
    ∃ t, exec (.streamRecordWrite q) s = .next t ∧
      (s.dev.recordFits n r.bytes = false → t.dev.qctx n = c ∧ KMap.find t.dev.qm.streams n = some [r] ∧ s.Framed [.qm] [] t) ∧
      (s.dev.recordFits n r.bytes = true → c.lost = 0 → KMap.find t.dev.qm.streams n = some [] ∧ (t.dev.qctx n).seq = (c.seq + 1) % 2 ^ 32 ∧
        (t.dev.qctx n).tail = (c.tail + k) % 2 ^ 32 ∧
        Output.hostWrite (c.base + c.tail % 2 ^ c.log2 * 2 ^ c.esize) (streamHeader r.kind r.bytes c.seq r.source r.source2 ++ r.payload ++
          List.replicate ((k * 2 ^ c.esize - 16 - 4 * r.payload.length) / 4) 0) ∈ t.dev.out ∧ s.Framed eventParts [] t) ∧
      (s.dev.recordFits n r.bytes = true → c.lost ≠ 0 → (t.dev.qctx n).lost = 0 ∧ (t.dev.qctx n).seq = (c.seq + 2) % 2 ^ 32 ∧
        Output.hostWrite (c.base + c.tail % 2 ^ c.log2 * 2 ^ c.esize) (streamHeader 6 0 c.seq c.lost 0 ++
          List.replicate ((c.recordEntries 0 * 2 ^ c.esize - 16) / 4) 0) ∈ t.dev.out ∧ s.Framed eventParts [] t)) ∧
  ∀ (s : State) (q : BitVec 16), s.dev.fore.off = false →
    let n := q.toNat
    let c := s.dev.qctx n
    let ks := [Reg.qmgr_STREAM_DROPS.key 0] ++ errKeys 28 ++ eventKeys 28
    (∃ t, exec (.queueErr q) s = .next t ∧ (c.typ = 0 → s.Framed [] [] t) ∧
      (c.typ ≠ 0 → (t.dev.qctx n).state = 2 ∧ t.dev.Raised 28 Ev.qmgr_QUEUE_ERR ∧ t.dev.ErrHeld 28 Ev.qmgr_QUEUE_ERR n 0 ∧
        (c.typ = 4 → t.dev.Raised 28 Ev.qmgr_STREAM_DROP ∧ (t.dev.qctx n).dropped = satAdd 32 c.dropped 1 ∧
          t.dev.fget Reg.qmgr_STREAM_DROPS = satAdd 32 (s.dev.fget Reg.qmgr_STREAM_DROPS) 1) ∧
        (c.typ = 3 → t.dev.Raised 28 Ev.qmgr_EVENT_OVERFLOW ∧ (t.dev.qctx n).overflow = true) ∧ s.Framed eventParts ks t)) ∧
    ∃ t, exec (.cplTimeout q) s = .next t ∧ (c.typ = 0 → s.Framed [] [] t) ∧
      (c.typ ≠ 0 → (t.dev.qctx n).state = 2 ∧ t.dev.Raised 28 Ev.qmgr_QUEUE_ERR ∧ t.dev.ErrHeld 28 Ev.qmgr_QUEUE_ERR n 0 ∧
        t.dev.Raised 68 Ev.pcie_CPL_TIMEOUT ∧ t.dev.ErrHeld 68 Ev.pcie_CPL_TIMEOUT n 0 ∧
        t.dev.fget Reg.hdr_TIMEOUT_COUNT 68 = satAdd 32 (s.dev.fget Reg.hdr_TIMEOUT_COUNT 68) 1 ∧
        s.Framed eventParts (Reg.hdr_TIMEOUT_COUNT.key 68 :: errKeys 68 ++ eventKeys 68 ++ ks) t)

/-- Entries, images and logs (R285, R311, R312, R314, R367, R416). SUBMIT_CONSUME consumes an entry only of a queue that may be consumed, refuses a class
or an opcode with its status, and otherwise does what the command's own row does. RECIPE_LOAD stores an image in a slot that nothing uses. GET_LOG
writes records to the buffer. RESYNC ends a hold: the egress buffer goes out in order, paused streams go on, then the completion follows. -/
def Obligations.EntriesAndTransfers : Prop :=
  (∀ (s : State) (q : BitVec 16) (entry : List Word) (data : HostData), s.dev.fore.off = false →
    let ws := entryWords entry
    let op := ws.headD 0 % 256
    let c := s.dev.qctx q.toNat
    let refused := classAllows q.toNat c.cls op = false ∨ s.dev.servesCmd q.toNat op = false
    let bad := opDefined op = false ∨ operandsOk op ws = false
    ∃ t, exec (.submitConsume q entry data) s = .next t ∧
      (op ≠ 0x80 → s.dev.mayConsume q.toNat = false → s.Framed [] [] t) ∧
      (op ≠ 0x80 → s.dev.mayConsume q.toNat = true → s.dev.qm.cmds = [] → s.dev.holding = false → (s.dev.qctx c.cq).typ = 2 →
        s.dev.qroom c.cq 1 = true → refused ∨ bad →
        s.dev.CompletedCmd t.dev q.toNat ws (if classAllows q.toNat c.cls op && s.dev.servesCmd q.toNat op then 1 else 2) 0 ∧
        s.Framed eventParts cmdKeys t) ∧
      (s.dev.TakesCmd q.toNat 0x21 ws → t.dev.assay.commitReq = true ∧ (t.dev.qctx q.toNat).head = (c.head + 1) % 2 ^ 32 ∧
        t.dev.qm.cmds.map Cmd.id = [s.dev.qm.nextId] ∧ s.Framed [.assay, .qm] cmdKeys t) ∧
      (op = 0x80 → s.dev.holding = false → exec (.submitConsume q entry data) s = exec (.ticket q.toNat ((List.range 16).map fun k => entry.getD k 0)) s)) ∧
  (∀ (s : State) (q : BitVec 16) (entry : List Word) (data : HostData),
    let op := (entryWords entry).headD 0 % 256
    let own := exec (.submitConsume q entry data) s
    (op = 0x01 → own = exec (.createQueue q entry) s) ∧ (op = 0x02 → own = exec (.deleteQueue q entry) s) ∧
    (op = 0x03 → own = exec (.resetQueue q entry) s) ∧ (op = 0x10 → own = exec (.arm q entry) s) ∧
    (op = 0x11 → own = exec (.stop q entry) s) ∧ (op = 0x12 → own = exec (.release q entry) s) ∧
    (op = 0x20 → own = exec (.calibrate q entry) s) ∧ (op = 0x21 → own = exec (.calCommit q entry) s) ∧
    (op = 0x30 → own = exec (.tableLoad q entry data.words) s) ∧ (op = 0x31 → own = exec (.recipeLoad q entry data.words) s) ∧
    (op = 0x40 → own = exec (.getLog q entry) s) ∧ (op = 0x41 → own = exec (.resync q entry) s)) ∧
  (∀ (s : State) (q : BitVec 16) (entry image : List Word), s.dev.fore.off = false →
    let ws := entryWords entry
    let slot := ws.getD 3 0
    s.dev.TakesCmd q.toNat 0x31 ws →
    ∃ t, exec (.recipeLoad q entry image) s = .next t ∧
      (image.length < 1024 → s.dev.CompletedCmd t.dev q.toNat ws 4 0 ∧ s.Framed eventParts cmdKeys t) ∧
      (1024 ≤ image.length → s.dev.slotNamed slot = true ∨ (KMap.find s.dev.bench.loading slot).isSome = true →
        s.dev.CompletedCmd t.dev q.toNat ws 7 0 ∧ s.Framed eventParts cmdKeys t) ∧
      (1024 ≤ image.length → s.dev.slotNamed slot = false → KMap.find s.dev.bench.loading slot = none →
        KMap.find t.dev.bench.loading slot = some s.dev.qm.nextId ∧ t.dev.qm.cmds.map Cmd.id = [s.dev.qm.nextId] ∧
        s.StoreFramed [.bench, .qm] cmdKeys t (s.dev.recipeAt slot)
          (((List.range 1024).map fun k => (image.getD k 0).toNat).flatMap wordBytes))) ∧
  (∀ (s : State) (q : BitVec 16) (entry : List Word), s.dev.fore.off = false →
    let ws := entryWords entry
    let cls := (s.dev.qctx q.toNat).cls
    let r := getLogWords s.dev s.nv cls (ws.getD 3 0)
    s.dev.TakesCmd q.toNat 0x40 ws →
    ∃ t, exec (.getLog q entry) s = .next t ∧
      (ws.getD 3 0 < 32 → s.dev.CompletedCmd t.dev q.toNat ws 1 0 ∧ s.Framed eventParts cmdKeys t) ∧
      (32 ≤ ws.getD 3 0 → s.dev.CompletedCmd t.dev q.toNat ws 0 (4 * r.1.length) ∧ 4 * r.1.length ≤ ws.getD 3 0 ∧
        (r.1 ≠ [] → Output.hostWrite (entryAddr ws) r.1 ∈ t.dev.out) ∧ t.dev.fore.logRead = r.2.fore.logRead ∧
        t.dev.fore = { s.dev.fore with logRead := r.2.fore.logRead, alertAnswered := t.dev.fore.alertAnswered } ∧
        s.Framed (.fore :: eventParts) cmdKeys t)) ∧
  (∀ (s : State) (q : BitVec 16) (entry : List Word), s.dev.fore.off = false →
    s.dev.TakesCmd q.toNat 0x41 (entryWords entry) →
    ∃ t, exec (.resync q entry) s = .next t ∧ s.dev.CompletedCmd t.dev q.toNat (entryWords entry) 1 0 ∧ s.Framed eventParts cmdKeys t) ∧
  ∀ (s : State) (entry : List Word), s.dev.fore.off = false →
    let ws := entryWords entry
    let c := s.dev.qctx (s.dev.qctx 0).cq
    ws.headD 0 % 256 = 0x41 → s.dev.mayConsume 0 = true → s.dev.holding = true → s.dev.servesCmd 0 0x41 = true → operandsOk 0x41 ws = true →
    s.dev.qm.cmds = [] → c.typ = 2 → c.state = 1 → c.fits 1 = true → s.dev.qm.streams = [] →
    ∃ t, exec (.resync 0 entry) s = .next t ∧ s.dev.CompletedCmd t.dev 0 ws 0 (s.dev.holdTime + 2 ^ 32 * s.dev.pcie.lost) ∧
      s.dev.pcie.egress.reverse ++ s.dev.out <:+ t.dev.out ∧ t.dev.pcie.egress = [] ∧ t.dev.fget Reg.pcie_EGRESS_LEVEL = 0 ∧
      t.dev.holding = false ∧ (∀ p ∈ t.dev.qm.ctx, p.2.typ = 4 → p.2.state ≠ 3) ∧
      s.Framed eventParts (Reg.pcie_EGRESS_LEVEL.key 0 :: Reg.pcie_HOLD.key 0 :: Reg.pcie_HOLD_TIME.key 0 :: cmdKeys) t

/-- Training, data rate and live retrains (R333 to R336, R345, Table 13.1). Full training stores each pseudo-channel's eyes or spends a spare region, ends
TRAINING and puts a requested rate in force. A rate write while the tier is in use is refused. A retrain takes a spare region as its shadow; its sweep
puts the new centres in force, or fails and freezes the pseudo-channel; its end frees the shadow. -/
def Obligations.HbmTrainingAndRetrains : Prop :=
  (∀ s : State, s.dev.fore.off = false → s.dev.flag Reg.mems_TRAINING = true → s.dev.flag Reg.top_FAILED = false →
    ∃ t, exec (.hbmTrainingDone []) s = .next t ∧ t.dev.flag Reg.top_HBM_TRAINED = true ∧ t.dev.flag Reg.mems_TRAINING = s.dev.mem.rateHeld ∧
      (∀ e < 256, t.dev.fget Reg.memt_WORST_EYE ≤ s.dev.tget 67 0 0 (2 * e) % 256 ∧
        t.dev.fget Reg.memt_WORST_EYE ≤ s.dev.tget 67 0 0 (2 * e) / 256 % 256) ∧
      (s.dev.mem.rateHeld = false → s.dev.flag Reg.mems_RATE_PENDING = true → t.dev.flag Reg.mems_RATE_PENDING = false ∧
        t.dev.fget Reg.mems_RATE_NOW = s.dev.fget Reg.mems_RATE % 4 ∧ t.dev.Raised 66 Ev.mems_RATE_DONE) ∧
      s.Framed (.mem :: eventParts) ([Reg.mems_TRAINING.key 0, Reg.memt_WORST_EYE.key 0, Reg.memt_WORST_LANE.key 0, Reg.top_HBM_TRAINED.key 0,
        Reg.top_READY.key 0, Reg.mems_RATE_PENDING.key 0, Reg.mems_RATE_NOW.key 0] ++ eventKeys 0 ++ eventKeys 66) t) ∧
  (∀ (s : State) (r : TrainResult), s.dev.fore.off = false → s.dev.flag Reg.mems_TRAINING = true → s.dev.flag Reg.top_FAILED = false →
    s.dev.mem.rateHeld = false → s.dev.flag Reg.mems_RATE_PENDING = false → r.pc < 64 → r.lanes.length = 4 →
    let m := r.pc / 32
    ∃ t, exec (.hbmTrainingDone [r]) s = .next t ∧ t.dev.flag Reg.mems_TRAINING = false ∧
      (r.cmdOk = true → (∀ e ∈ r.lanes, s.dev.fget Reg.memt_EYE_MIN ≤ e.rd ∧ s.dev.fget Reg.memt_EYE_MIN ≤ e.wr) →
        (∀ n < 4, some (t.dev.tget 67 0 0 (8 * r.pc + 2 * n)) = (r.lanes.map eyeWord)[n]?) ∧
        s.dev.TabFramed ((List.range 8).map fun k => tkey 67 0 0 (8 * r.pc + k)) t.dev ∧ t.dev.spares m = s.dev.spares m) ∧
      (r.cmdOk = false → 0 < s.dev.spares m → s.dev.spares m < 4 → t.dev.spares m = s.dev.spares m - 1 ∧ t.dev.flag Reg.top_HBM_TRAINED = true ∧ s.dev.PlanAsked t.dev) ∧
      (r.cmdOk = false → s.dev.spares m = 0 → t.dev.flag Reg.top_FAILED = true ∧ t.dev.fget Reg.top_FAIL_CAUSE = 2 ∧
        t.dev.Raised 0 Ev.top_START_FAILED) ∧
      s.Framed ([.tabs, .degraded, .fore] ++ eventParts) ([Reg.mems_TRAINING.key 0, Reg.memt_WORST_EYE.key 0, Reg.memt_WORST_LANE.key 0,
        Reg.top_HBM_TRAINED.key 0, Reg.top_READY.key 0, Reg.top_FAILED.key 0, Reg.top_FAIL_CAUSE.key 0, Reg.mems_SPARES_0.key 0,
        Reg.mems_SPARES_1.key 0] ++ eventKeys 0) t) ∧
  (∀ (s : State) (who : Requester) (val : Word), s.dev.fore.off = false → s.dev.flag Reg.hdr_FREEZE 66 = false →
    let v := val.toNat % 4
    ∃ t, exec (.rateWrite who val) s = .next t ∧ (v = s.dev.fget Reg.mems_RATE → s.Framed [] [Reg.hdr_CFG_EPOCH.key 66] t) ∧
      (v ≠ s.dev.fget Reg.mems_RATE → s.dev.rateOk = false ∨ v = 3 → t.dev.Raised 66 Ev.mems_RATE_REFUSED ∧
        t.dev.ErrHeld 66 0xF0 (0x40 + 4096 * who.code) val.toNat ∧ s.Framed eventParts (faultKeys 66) t) ∧
      (v ≠ s.dev.fget Reg.mems_RATE → s.dev.rateOk = true → v ≠ 3 → t.dev.fget Reg.mems_RATE = v ∧ t.dev.flag Reg.mems_RATE_PENDING = true ∧
        (s.dev.flag Reg.mems_TRAINING = false → s.dev.flag Reg.mems_RETRAIN = false → t.dev.flag Reg.mems_TRAINING = true) ∧
        (s.dev.flag Reg.mems_TRAINING = true ∨ s.dev.flag Reg.mems_RETRAIN = true → t.dev.mem.rateHeld = true) ∧
        s.Framed [.mem] [Reg.mems_RATE.key 0, Reg.mems_RATE_PENDING.key 0, Reg.mems_TRAINING.key 0, Reg.hdr_CFG_EPOCH.key 66] t)) ∧
  (∀ (s : State) (pc : Fin 64), s.dev.fore.off = false →
    let m := pc.val / 32
    let busy := s.dev.frozen pc = true ∨ s.dev.flag Reg.mems_TRAINING = true ∨ (KMap.find s.dev.mem.retrain m).isSome = true ∨
      (groupMembers (pc % 4)).any s.dev.pcOut = true ∨
      ([0, 1].any fun n => (KMap.find s.dev.mem.retrain n).any fun r => decide (r.pc % 4 = pc.val % 4)) = true
    ∃ t, exec (.retrainStart pc) s = .next t ∧ (busy → s.Framed [] [] t) ∧
      (¬ busy → s.dev.spares m = 0 → t.dev.flag Reg.mems_RETRAIN_DEFERRED = true ∧ t.dev.Raised 66 Ev.mems_RETRAIN_DEFERRED ∧
        s.Framed eventParts (Reg.mems_RETRAIN_DEFERRED.key 0 :: eventKeys 66) t) ∧
      (¬ busy → 0 < s.dev.spares m → s.dev.spares m < 4 → t.dev.spares m = s.dev.spares m - 1 ∧
        KMap.find t.dev.mem.retrain m = some { pc := pc } ∧ t.dev.flag Reg.mems_RETRAIN = true ∧
        s.Framed [.mem] [Reg.mems_SPARES_0.key 0, Reg.mems_SPARES_1.key 0, Reg.mems_RETRAIN.key 0, Reg.mems_RETRAIN_PC.key 0] t)) ∧
  (∀ (s : State) (pc : Fin 64) (eyes : List LaneEye) (r : Retrain), s.dev.fore.off = false → KMap.find s.dev.mem.retrain (pc / 32) = some r →
    r.pc = pc → r.swept = false → eyes.length = 4 → s.dev.frozen pc = false →
    ∃ t, exec (.retrainSweepDone pc eyes) s = .next t ∧
      ((∃ e ∈ eyes, e.rd < s.dev.fget Reg.memt_EYE_MIN ∨ e.wr < s.dev.fget Reg.memt_EYE_MIN) → t.dev.FrozenNow pc 3 ∧ s.dev.PlanAsked t.dev ∧
        s.Framed freezeParts freezeKeys t) ∧
      ((∀ e ∈ eyes, s.dev.fget Reg.memt_EYE_MIN ≤ e.rd ∧ s.dev.fget Reg.memt_EYE_MIN ≤ e.wr) →
        (∀ n < 4, some (t.dev.tget 67 0 0 (8 * pc + 2 * n)) = (eyes.map eyeWord)[n]?) ∧
        (KMap.find t.dev.mem.retrain (pc / 32)).map Retrain.swept = some true ∧ (∀ k ∈ t.dev.mem.rowsDue, k / 2 ^ 24 / 48 ≠ pc) ∧
        s.Framed [.tabs, .mem] [Reg.memt_WORST_EYE.key 0, Reg.memt_WORST_LANE.key 0] t)) ∧
  ∀ (s : State) (pc : Fin 64) (r : Retrain), s.dev.fore.off = false → KMap.find s.dev.mem.retrain (pc / 32) = some r →
    ∃ t, exec (.retrainDone pc) s = .next t ∧ (r.pc ≠ pc ∨ r.swept = false → s.Framed [] [] t) ∧
      (r.pc = pc → r.swept = true → s.dev.spares (pc / 32) < 3 → KMap.find t.dev.mem.retrain (pc / 32) = none ∧
        t.dev.spares (pc / 32) = s.dev.spares (pc / 32) + 1 ∧ t.dev.Raised 66 Ev.mems_RETRAIN_DONE ∧
        t.dev.fget Reg.memt_RETRAINS = satAdd 32 (s.dev.fget Reg.memt_RETRAINS) 1 ∧
        s.Framed (.mem :: eventParts) ([Reg.mems_SPARES_0.key 0, Reg.mems_SPARES_1.key 0, Reg.mems_RETRAIN.key 0, Reg.mems_RETRAIN_PC.key 0,
          Reg.mems_RETRAIN_DEFERRED.key 0, Reg.memt_RETRAINS.key 0, Reg.mems_TRAINING.key 0] ++ eventKeys 66) t)

/-- Refresh, row disturb and power-down (R338 to R344, Table 13.4). A tier is entered at its bound and left 2 °C below it; the refresh multiplier follows
the tier, the floor and the policy, and owed refreshes go over to the new interval, rounded up. A due refresh is made, or owed, up to eight, while
classes 0 to 3 hold requests to the bank. A window's end frees the activates of its stack and resumes requests. A pseudo-channel powers down only while disarmed; the
power-down time follows the hits within its bounds. The scheduler of a pseudo-channel (R330, R331, R342 to R344; log entry 29: that an open row goes
first, and which requests come and how many are served, are the model's choice). Requests that come wait behind the others and end power-down. The
next one served is of the lowest class that has one ready, and no request passes an earlier one to its line. Serving it activates its row unless that
is open: the row's count and its requester's go up, a count at HAMMER_THRESH brings a targeted refresh, one at ACT_LIMIT is raised. Its page hint says
whether the row stays open. -/
def Obligations.HbmRefreshAndRows : Prop :=
  ((∀ (s : State) (m : Fin 2) (temp tj : Int) (parts : List (Nat × Nat)), s.dev.fore.off = false →
     let cur := s.dev.fget Reg.memc_TIER m
     let up := if 13500 < tj then 3 else if 10500 ≤ temp then 2 else if 8500 ≤ temp then 1 else 0
     let down := if 13300 < tj then 3 else if 10300 < temp then 2 else if 8300 < temp then 1 else 0
     let new := max up (min cur down)
     let floor := max new (s.dev.fget (if m = 0 then Reg.age_REF_FLOOR_0 else Reg.age_REF_FLOOR_1))
     let lo := max floor (s.dev.fget Reg.memc_POL_MIN m)
     let ks := [Reg.memc_STACK_TEMP.key m, Reg.memc_DRAM_TJ.key m]
     ∃ t, exec (.tierChange m temp tj parts) s = .next t ∧ (new = cur → s.Framed [] ks t) ∧
       (new ≠ cur → t.dev.fget Reg.memc_TIER m = new ∧ t.dev.flag Reg.memc_STACK_HOT m = decide (new = 3) ∧
         t.dev.Raised (64 + m) Ev.memc_TIER_CHANGE ∧ (new = 3 → t.dev.Raised (64 + m) Ev.memc_STACK_HOT) ∧
         t.dev.fget Reg.memc_MULT m = (if min 3 (s.dev.fget Reg.memc_POL_MAX m) < lo then floor else lo) % 4 ∧
         (∀ b < 1536, let k := 1536 * m + b
           KMap.at s.dev.mem.owed 0 k ≠ 0 → KMap.at t.dev.mem.owed 0 k =
             ((1000 * KMap.at s.dev.mem.owed 0 k + KMap.at parts 0 k % 1000) * 2 ^ t.dev.fget Reg.memc_MULT m +
               1000 * 2 ^ s.dev.fget Reg.memc_MULT m - 1) / (1000 * 2 ^ s.dev.fget Reg.memc_MULT m)) ∧
         s.Framed (.mem :: eventParts) ([Reg.memc_TIER.key m, Reg.memc_STACK_HOT.key m, Reg.memc_MULT.key m, Reg.memc_OVERRIDDEN_REF.key m,
           Reg.memc_OWED_MAX.key m, Reg.memc_CATCHUPS.key m, Reg.memc_PD_NOW.key m, Reg.memc_OVERRIDDEN_PD.key m] ++ ks ++ eventKeys (64 + m)) t)) ∧
   (∀ (s : State) (pc : Fin 64) (bank : Fin 48) (reqs : List HbmReq) (served : Nat), s.dev.fore.off = false →
     let d := s.dev.hbmTraffic pc reqs served
     let k := 48 * pc.val + bank.val
     let m := pc.val / 32
     let o := KMap.at d.mem.owed 0 k + 1
     let w := (KMap.at d.mem.window 0 k + 1) % 8192
     let late := ((d.waiting pc).any fun r => decide (r.bank = bank ∧ reqClass r.source ≤ 3)) = true ∧ o < 8
     ∃ t, exec (.refreshDue pc bank (reqs, served)) s = .next t ∧ t.dev.mem = { d.mem with
         owed := KMap.put d.mem.owed k (if late then o else 0)
         openRows := t.dev.mem.openRows
         window := KMap.put d.mem.window k w
         rows := if w = 0 then KMap.put d.mem.rows k [] else d.mem.rows } ∧
       (late → t.dev.mem.openRows = d.mem.openRows) ∧ (¬ late → KMap.find t.dev.mem.openRows k = none) ∧
       min 31 (KMap.at t.dev.mem.owed 0 k) ≤ t.dev.fget Reg.memc_OWED_MAX m ∧
       s.Framed (.mem :: eventParts) ([Reg.memc_OWED_MAX.key m, Reg.memc_THROTTLES.key m, Reg.memc_HAMMER_REFRESH.key m] ++ eventKeys (64 + m)) t) ∧
   (∀ (s : State) (m : Fin 2) (q bank : Nat) (pc : Fin 64) (r : HbmReq), s.dev.fore.off = false → r.bank = bank % 48 →
     ∃ t, exec (.actWindowEnd m []) s = .next t ∧ t.dev.mem = { s.dev.mem with acts := t.dev.mem.acts } ∧
       KMap.at t.dev.mem.acts 0 (actKey q pc r) = (if pc.val / 32 = m then 0 else KMap.at s.dev.mem.acts 0 (actKey q pc r)) ∧ s.Framed [.mem] [] t) ∧
   (∀ (s : State) (m : Fin 2) (l : List (Fin 64 × Nat)) (pc : Fin 64) (n : Nat), s.dev.fore.off = false →
     ∃ a t, exec (.actWindowEnd m l) s = .next a ∧ exec (.actWindowEnd m (l ++ [(pc, n)])) s = .next t ∧ (pc.val / 32 ≠ m → t = a) ∧
       (pc.val / 32 = m → exec (.hammer pc [] n) a = .next t)) ∧
   (∀ (s : State) (pc : Fin 64), s.dev.fore.off = false →
     ∃ t, exec (.pdEntry pc) s = .next t ∧ (s.dev.armed = true ∨ s.dev.flag Reg.mems_TRAINING = true ∨ s.dev.waiting pc ≠ [] → s.Framed [] [] t) ∧
       (s.dev.armed = false → s.dev.flag Reg.mems_TRAINING = false → s.dev.waiting pc = [] →
         t.dev.mem = { s.dev.mem with powerDown := s.dev.mem.powerDown ||| 2 ^ pc.val } ∧ s.Framed [.mem] [] t)) ∧
   ∀ (s : State) (m : Fin 2) (hits total : Nat), s.dev.fore.off = false → s.dev.flag Reg.memc_PD_ADAPT m = true →
     let now := s.dev.fget Reg.memc_PD_NOW m
     let hi := min (if 2 ≤ s.dev.fget Reg.memc_TIER m then 2000 else 65535) (s.dev.fget Reg.memc_PD_POL_MAX m)
     let lo := max 25 (s.dev.fget Reg.memc_PD_POL_MIN m)
     ∃ t, exec (.pdAdaptTick m hits total) s = .next t ∧
       (lo ≤ hi →
         (total < 100 * hits → t.dev.fget Reg.memc_PD_NOW m = clampNat lo hi (5 * now / 4) ∨
           (5 * now % 4 ≠ 0 ∧ t.dev.fget Reg.memc_PD_NOW m = clampNat lo hi (5 * now / 4 + 1))) ∧
         (100 * hits ≤ total → 1000 * hits < total → t.dev.fget Reg.memc_PD_NOW m = clampNat lo hi (3 * now / 4) ∨
           (3 * now % 4 ≠ 0 ∧ t.dev.fget Reg.memc_PD_NOW m = clampNat lo hi (3 * now / 4 + 1))) ∧
         (100 * hits ≤ total → total ≤ 1000 * hits → t.dev.fget Reg.memc_PD_NOW m = clampNat lo hi now)) ∧
       (hi < lo → t.dev.flag Reg.memc_OVERRIDDEN_PD m = true ∧
         (s.dev.flag Reg.memc_OVERRIDDEN_PD m = false → t.dev.Raised (64 + m) Ev.memc_POLICY_CONFLICT)) ∧
       s.Framed (.freeCtr :: eventParts) ([Reg.memc_PD_NOW.key m, Reg.memc_OVERRIDDEN_PD.key m] ++ eventKeys (64 + m)) t) ∧
  ((∀ (s : State) (pc : Fin 64) (reqs : List HbmReq), s.dev.fore.off = false → s.dev.flag Reg.mems_TRAINING = false → s.dev.frozen pc = false →
     reqs ≠ [] →
     ∃ t, exec (.hammer pc reqs 0) s = .next t ∧ t.dev.waiting pc = s.dev.waiting pc ++ reqs ∧ bitAt t.dev.mem.powerDown pc = false ∧
       (∀ p < 64, p ≠ pc.val → t.dev.waiting p = s.dev.waiting p ∧ bitAt t.dev.mem.powerDown p = bitAt s.dev.mem.powerDown p) ∧ s.Framed [.mem] [] t) ∧
   (∀ (d : Dev) (pc : Nat) (r x : HbmReq), d.nextReq pc = some r → x ∈ d.readyAfter pc [] (d.waiting pc) →
     r ∈ d.waiting pc ∧ d.throttled pc r = false ∧ reqClass r.source ≤ reqClass x.source ∧
       (d.rowOpen pc x = true → d.rowOpen pc r = false → reqClass r.source < reqClass x.source)) ∧
   (∀ (d : Dev) (pc : Nat) (a b : HbmReq) (l m : List HbmReq), d.waiting pc = l ++ a :: m → b ∉ l → b ≠ a → sameLine a b = true →
     d.nextReq pc ≠ some b) ∧
   ∀ (s : State) (pc : Fin 64) (r : HbmReq), s.dev.fore.off = false → s.dev.flag Reg.mems_TRAINING = false → s.dev.frozen pc = false →
     s.dev.waiting pc = [] → s.dev.throttled pc r = false → r.source ≠ .refresh → r.bank < 48 → KMap.find s.dev.mem.openRows (48 * pc.val + r.bank) = none →
     let k := 48 * pc.val + r.bank
     let m := pc.val / 32
     let tbl := activateRow (KMap.at s.dev.mem.rows [] k) r.row
     let full := ∃ e ∈ tbl, e.1 = r.row ∧ clampNat 256 2048 (s.dev.fget Reg.memc_HAMMER_THRESH m) ≤ e.2
     ∃ t, exec (.hammer pc [r] 1) s = .next t ∧
       KMap.at t.dev.mem.rows [] k = (if full then tbl.map fun e => if e.1 = r.row then (r.row, 0) else e else tbl) ∧
       t.dev.waiting pc = (if full then [{ source := .refresh, bank := r.bank, row := r.row, line := 0 }] else []) ∧
       (full → t.dev.fget Reg.memc_HAMMER_REFRESH m = satAdd 32 (s.dev.fget Reg.memc_HAMMER_REFRESH m) 1 ∧ t.dev.Raised (64 + m) Ev.memc_HAMMER) ∧
       (∀ q, reqFrom r.source = some q → KMap.at t.dev.mem.acts 0 (actKey q pc r) = KMap.at s.dev.mem.acts 0 (actKey q pc r) + 1 ∧
         (KMap.at s.dev.mem.acts 0 (actKey q pc r) + 1 = s.dev.actLimit m →
           t.dev.fget Reg.memc_THROTTLES m = satAdd 32 (s.dev.fget Reg.memc_THROTTLES m) 1 ∧ t.dev.Raised (64 + m) Ev.memc_THROTTLE)) ∧
       KMap.find t.dev.mem.openRows k = (if reqHint r.source = .opened then some { row := r.row, since := s.dev.nowTick, auto := false } else none) ∧
       s.Framed (.mem :: eventParts) ([Reg.memc_THROTTLES.key m, Reg.memc_HAMMER_REFRESH.key m] ++ eventKeys (64 + m)) t)

/-- Errors of the HBM tier (R345 to R350). A corrected error is counted; the fourth of a row within 24 h makes the row due for replacement. Alerts and
timeouts are counted and replayed; the third in a row, or within 1 ms, freezes the pseudo-channel. An uncorrectable error freezes it, and loses the
line where another member of its group is out of service. A rebuild puts the spare region in its place. -/
def Obligations.HbmErrors : Prop :=
  (∀ (s : State) (pc : Fin 64) (bank : Fin 48) (row : Nat), s.dev.fore.off = false →
    let k := rowKey pc bank row
    let ts := ((s.dev.nowUs :: KMap.at s.dev.mem.corrected [] k).filter fun u => decide (s.dev.nowUs < u + 86400000000)).take 4
    ∃ t, exec (.hbmEccCorrected pc bank row) s = .next t ∧
      t.dev.fget Reg.memc_ECC_CORR (pc / 32) = satAdd 32 (s.dev.fget Reg.memc_ECC_CORR (pc / 32)) 1 ∧
      KMap.at t.dev.mem.corrected [] k = ts ∧ (ts.length < 4 → t.dev.mem.rowsDue = s.dev.mem.rowsDue) ∧
      (ts.length = 4 → k ∉ s.dev.mem.rowsKept → KMap.at s.dev.mem.rowsUsed 0 (48 * pc.val + bank) < 8 → k ∈ t.dev.mem.rowsDue) ∧
      (ts.length = 4 → k ∉ s.dev.mem.rowsDue → 8 ≤ KMap.at s.dev.mem.rowsUsed 0 (48 * pc.val + bank) → k ∈ t.dev.mem.rowsKept) ∧
      s.Framed [.mem] [Reg.memc_ECC_CORR.key (pc / 32)] t) ∧
  (∀ (s : State) (pc : Fin 64), s.dev.fore.off = false → s.dev.frozen pc = false →
    let m := pc.val / 32
    let ts := ((s.dev.nowUs :: KMap.at s.dev.mem.alerts [] pc).filter fun u => decide (s.dev.nowUs < u + 1000)).take 3
    let ks := Reg.memc_PARITY_REPLAYS.key m :: eventKeys (64 + m)
    ∃ t, exec (.parityAlert pc) s = .next t ∧ t.dev.fget Reg.memc_PARITY_REPLAYS m = satAdd 32 (s.dev.fget Reg.memc_PARITY_REPLAYS m) 1 ∧
      t.dev.Raised (64 + m) Ev.memc_PARITY_ALERT ∧
      (ts.length < 3 → t.dev.mem = { s.dev.mem with alerts := KMap.put s.dev.mem.alerts pc ts } ∧ s.Framed (.mem :: eventParts) ks t) ∧
      (ts.length = 3 → t.dev.FrozenNow pc 1 ∧ s.dev.PlanAsked t.dev ∧ s.Framed freezeParts (ks ++ freezeKeys) t)) ∧
  (∀ (s : State) (pc : Fin 64) (again : Bool), s.dev.fore.off = false → s.dev.frozen pc = false →
    let n := if again then KMap.at s.dev.mem.timeouts 0 pc + 1 else 1
    let ks := [Reg.hdr_TIMEOUT_COUNT.key 66, Reg.hdr_RECOVERY_COUNT.key 66]
    ∃ t, exec (.hbmTransactionTimeout pc again) s = .next t ∧
      t.dev.fget Reg.hdr_TIMEOUT_COUNT 66 = satAdd 32 (s.dev.fget Reg.hdr_TIMEOUT_COUNT 66) 1 ∧
      t.dev.fget Reg.hdr_RECOVERY_COUNT 66 = satAdd 32 (s.dev.fget Reg.hdr_RECOVERY_COUNT 66) 1 ∧
      (n < 3 → KMap.at t.dev.mem.timeouts 0 pc = n ∧ t.dev.ErrHeld 66 0xF1 pc 0 ∧ s.Framed [.mem] (ks ++ errKeys 66) t) ∧
      (3 ≤ n → KMap.at t.dev.mem.timeouts 0 pc = 0 ∧ t.dev.FrozenNow pc 2 ∧ s.dev.PlanAsked t.dev ∧ s.Framed freezeParts (ks ++ freezeKeys) t)) ∧
  (∀ (s : State) (pc : Fin 64) (line : Nat), s.dev.fore.off = false →
    let lost := ((groupMembers (pc % 4)).any fun p => decide (p ≠ pc.val) && s.dev.pcOut p) = true
    ∃ t, exec (.uncorrectableDataError pc line) s = .next t ∧
      (lost → t.dev.Raised 66 Ev.mems_LINE_LOST ∧ t.dev.isContained 66 = true ∧
        t.dev.fget Reg.mems_LOST_LINES = satAdd 32 (s.dev.fget Reg.mems_LOST_LINES) 1 ∧
        s.StoreFramed ([.tabs, .acq, .contained] ++ eventParts) (Reg.mems_LOST_LINES.key 0 :: eventKeys 66) t (64 * line) (List.replicate 64 0)) ∧
      (¬ lost → s.dev.frozen pc = true → s.Framed [] [] t) ∧
      (¬ lost → s.dev.frozen pc = false → t.dev.FrozenNow pc 0 ∧ s.dev.PlanAsked t.dev ∧ s.Framed freezeParts freezeKeys t ∧
        (0 < s.dev.spares (pc / 32) → s.dev.spares (pc / 32) < 4 → KMap.find s.dev.mem.rebuild (pc / 32) = none → s.dev.mem.retrain = [] →
          KMap.find t.dev.mem.rebuild (pc / 32) = some pc.val ∧ t.dev.spares (pc / 32) = s.dev.spares (pc / 32) - 1 ∧
          t.dev.flag Reg.mems_REBUILD = true))) ∧
  ∀ (s : State) (m : Fin 2), s.dev.fore.off = false →
    ∃ t, exec (.rebuildDone m) s = .next t ∧ (KMap.find s.dev.mem.rebuild m = none → s.Framed [] [] t) ∧
      (∀ pc, KMap.find s.dev.mem.rebuild m = some pc → s.dev.mem.waiting = [] →
        KMap.find t.dev.mem.rebuild m = none ∧ bitAt t.dev.mem.replaced pc = true ∧ t.dev.Raised 66 Ev.mems_REBUILD_DONE ∧
        t.dev.pcOut pc = false ∧
        s.Framed ([.mem, .degraded] ++ (if (66, pc) ∈ s.dev.fore.marks then [Part.fore] else []) ++ eventParts)
          ([Reg.mems_REBUILD.key 0, Reg.mems_REBUILD_PC.key 0, Reg.mems_REBUILD_BLOCKS.key 0, Reg.mems_GROUP_DEGRADED.key 0] ++ eventKeys 66) t)

/-- Losing and regaining the host link (R325, R359, R364 to R366, R368, R371). DL_Down shows the link down and, while PERST_N stays deasserted, begins a
hold or lets one go on: every active STREAM queue pauses and LINK_DOWN is raised. DL_Up shows the speed, no faster than the cap, and the width. Bus
Master Enable opens the admin queue alone during a hold. DISCARD ends the hold: what the egress buffer holds is lost and every queue is gone. Time
transfer, L1, margins and BAR6 (R334, R358, R360, R361, R369, R370, R501). A dialogue runs only while PTM is enabled and stores its pair. L1 is
entered on request of an idle link, or for D3hot. A margin scan covers every lane and stores the margins; a lane that the host margins waits until the
end. BAR6 reads and writes the HBM tier byte by byte; above 45 GiB reads give zero and writes are discarded; during full training a read returns
nothing and a write stores nothing. -/
def Obligations.HostLink : Prop :=
  ((∀ s : State, s.dev.fore.off = false →
     let down := [Reg.pcie_DL_UP.key 0, Reg.pcie_SPEED.key 0, Reg.pcie_WIDTH.key 0, Reg.pcie_BME.key 0, Reg.pcie_PTM_EN.key 0, Reg.pcie_IN_L1.key 0,
       Reg.pcie_LINK_DOWNS.key 0]
     ∃ t, exec .linkDown s = .next t ∧ (s.dev.flag Reg.pcie_DL_UP = false → s.Framed [] [] t) ∧
       (s.dev.flag Reg.pcie_DL_UP = true → t.dev.flag Reg.pcie_DL_UP = false ∧ t.dev.fget Reg.pcie_SPEED = 0 ∧ t.dev.fget Reg.pcie_WIDTH = 0 ∧
         t.dev.flag Reg.pcie_BME = false ∧ t.dev.flag Reg.pcie_PTM_EN = false ∧ t.dev.flag Reg.pcie_IN_L1 = false ∧
         t.dev.fget Reg.pcie_LINK_DOWNS = satAdd 32 (s.dev.fget Reg.pcie_LINK_DOWNS) 1 ∧ (s.dev.pcie.perstN = true → s.Framed [] down t) ∧
         (s.dev.pcie.perstN = false → t.dev.holding = true ∧ t.dev.Raised 68 Ev.pcie_LINK_DOWN ∧ t.dev.pcie.adminOnly = false ∧
           (∀ p ∈ t.dev.qm.ctx, p.2.typ = 4 → p.2.state ≠ 1) ∧
           (s.dev.holding = false → t.dev.pcie.holdFrom = s.dev.nowTick) ∧ (s.dev.holding = true → t.dev.pcie.holdFrom = s.dev.pcie.holdFrom) ∧
           s.Framed eventParts (Reg.pcie_HOLD.key 0 :: down ++ eventKeys 68) t))) ∧
   (∀ (s : State) (speed : Fin 6) (width : Fin 32) (refclk : Fin 3), s.dev.fore.off = false →
     let cap := clampNat 1 5 (s.dev.fget Reg.pcie_SPEED_CAP)
     (∃ t, exec (.linkUp speed width refclk) s = .next t ∧
       (s.dev.pcie.perstN = true ∨ s.dev.flag Reg.pcie_DL_UP = true → s.Framed [] [] t) ∧
       (s.dev.pcie.perstN = false → s.dev.flag Reg.pcie_DL_UP = false → t.dev.flag Reg.pcie_DL_UP = true ∧
         t.dev.fget Reg.pcie_SPEED = clampNat 1 cap speed ∧ t.dev.fget Reg.pcie_WIDTH = width ∧ t.dev.fget Reg.pcie_REFCLK_MODE = refclk ∧
         t.dev.Raised 68 Ev.pcie_LINK_UP ∧ t.dev.holding = s.dev.holding ∧
         s.Framed eventParts ([Reg.pcie_DL_UP.key 0, Reg.pcie_SPEED.key 0, Reg.pcie_WIDTH.key 0, Reg.pcie_REFCLK_MODE.key 0] ++ eventKeys 68) t)) ∧
     ∃ t, exec (.linkSpeedChange speed width) s = .next t ∧
       (s.dev.flag Reg.pcie_DL_UP = false → s.Framed [] [] t) ∧
       (s.dev.flag Reg.pcie_DL_UP = true → s.dev.fget Reg.pcie_SPEED = clampNat 1 cap speed → s.dev.fget Reg.pcie_WIDTH = width → s.Framed [] [] t) ∧
       (s.dev.flag Reg.pcie_DL_UP = true → s.dev.fget Reg.pcie_SPEED ≠ clampNat 1 cap speed ∨ s.dev.fget Reg.pcie_WIDTH ≠ width →
         t.dev.fget Reg.pcie_SPEED = clampNat 1 cap speed ∧ t.dev.fget Reg.pcie_WIDTH = width ∧ t.dev.Raised 68 Ev.pcie_SPEED_CHANGE ∧
         s.Framed eventParts ([Reg.pcie_SPEED.key 0, Reg.pcie_WIDTH.key 0] ++ eventKeys 68) t)) ∧
   (∀ (s : State) (ptm : Bool), s.dev.fore.off = false →
     ∃ t, exec (.busMasterEnable ptm) s = .next t ∧ (s.dev.flag Reg.pcie_DL_UP = false → s.Framed [] [] t) ∧
       (s.dev.flag Reg.pcie_DL_UP = true → t.dev.flag Reg.pcie_BME = true ∧ t.dev.flag Reg.pcie_PTM_EN = ptm ∧
         t.dev.pcie = { s.dev.pcie with
           adminOnly := s.dev.holding
           d3hot := false
           pmeStatus := false } ∧
         s.Framed [.pcie] [Reg.pcie_BME.key 0, Reg.pcie_PTM_EN.key 0] t)) ∧
   ∀ (s : State) (who : Requester), s.dev.fore.off = false → s.dev.flag Reg.hdr_FREEZE 68 = false →
     ∃ t, exec (.discard who) s = .next t ∧ (s.dev.holding = false → s.Framed [] [Reg.hdr_CFG_EPOCH.key 68] t) ∧
       (s.dev.holding = true → t.dev.holding = false ∧ t.dev.pcie.egress = [] ∧ t.dev.fget Reg.pcie_EGRESS_LEVEL = 0 ∧
         t.dev.Raised 68 Ev.pcie_HOLD_DISCARDED ∧ t.dev.flag Reg.qmgr_EN = false ∧ (∀ q < 65536, (t.dev.qctx q).typ = 0) ∧
         t.dev.fget Reg.pcie_HOLD_TIME = s.dev.holdTime ∧ t.dev.out = s.dev.out ∧
         s.Framed ([.tabs, .bench, .aux] ++ eventParts) ([Reg.pcie_HOLD.key 0, Reg.pcie_HOLD_TIME.key 0, Reg.pcie_EGRESS_LEVEL.key 0,
           Reg.qmgr_EN.key 0, Reg.qmgr_QUEUES_ACTIVE.key 0, Reg.qmgr_CMDS_OUT.key 0, Reg.hdr_CFG_EPOCH.key 68] ++ eventKeys 68) t)) ∧
  ((∀ (s : State) (who : Requester), s.dev.fore.off = false → s.dev.flag Reg.hdr_FREEZE 68 = false →
     ∃ t, exec (.ptmTrigger who) s = .next t ∧ (s.dev.pcie.ptmBusy = true → s.Framed [] [Reg.hdr_CFG_EPOCH.key 68] t) ∧
       (s.dev.pcie.ptmBusy = false → s.dev.flag Reg.pcie_PTM_EN = false → t.dev.Raised 68 Ev.pcie_PTM_REFUSED ∧
         s.Framed eventParts (Reg.hdr_CFG_EPOCH.key 68 :: eventKeys 68) t) ∧
       (s.dev.pcie.ptmBusy = false → s.dev.flag Reg.pcie_PTM_EN = true → t.dev.pcie = { s.dev.pcie with ptmBusy := true } ∧
         s.Framed [.pcie] [Reg.hdr_CFG_EPOCH.key 68] t)) ∧
   (∀ (s : State) (ok : Bool) (hostNs devTs : Nat), s.dev.fore.off = false → hostNs < 2 ^ 64 → devTs < 2 ^ 96 →
     let ks := [Reg.pcie_PTM_HOST_W0.key 0, Reg.pcie_PTM_HOST_W1.key 0, Reg.pcie_PTM_DEV_W0.key 0, Reg.pcie_PTM_DEV_W1.key 0, Reg.pcie_PTM_DEV_W2.key 0]
     ∃ t, exec (.ptmDone ok hostNs devTs) s = .next t ∧ (s.dev.pcie.ptmBusy = false → s.Framed [] [] t) ∧
       (s.dev.pcie.ptmBusy = true → ok = false ∨ s.dev.flag Reg.pcie_PTM_EN = false → t.dev.pcie.ptmBusy = false ∧
         t.dev.Raised 68 Ev.pcie_PTM_REFUSED ∧ s.Framed eventParts (eventKeys 68) t) ∧
       (s.dev.pcie.ptmBusy = true → ok = true → s.dev.flag Reg.pcie_PTM_EN = true → t.dev.pcie.ptmBusy = false ∧
         t.dev.fget64 Reg.pcie_PTM_HOST_W0 Reg.pcie_PTM_HOST_W1 = hostNs ∧
         t.dev.fget Reg.pcie_PTM_DEV_W0 + 2 ^ 32 * t.dev.fget Reg.pcie_PTM_DEV_W1 + 2 ^ 64 * t.dev.fget Reg.pcie_PTM_DEV_W2 = devTs ∧
         t.dev.Raised 68 Ev.pcie_PTM_DONE ∧ s.Framed eventParts (ks ++ eventKeys 68) t)) ∧
   (∀ (s : State) (d3hot : Bool), s.dev.fore.off = false →
     let idle := s.dev.flag Reg.pcie_DL_UP = true ∧ s.dev.pcie.egress = [] ∧ (s.dev.armed = false ∨ ∀ r < 12, s.dev.flag Reg.acq_ring_STREAM_EN r = false)
     ∃ t, exec (.l1Entry d3hot) s = .next t ∧
       (d3hot = true → s.dev.flag Reg.pcie_DL_UP = true → t.dev.flag Reg.pcie_IN_L1 = true ∧ t.dev.pcie = { s.dev.pcie with d3hot := true } ∧
         s.Framed [.pcie] [Reg.pcie_IN_L1.key 0] t) ∧
       (d3hot = false → idle → t.dev.flag Reg.pcie_IN_L1 = true ∧ s.Framed [] [Reg.pcie_IN_L1.key 0] t) ∧
       (s.dev.flag Reg.pcie_DL_UP = false ∨ (d3hot = false ∧ ¬ idle) → s.Framed [] [] t)) ∧
   (∀ (s : State) (results : List (Fin 16 × Word)) (lane : Fin 16), s.dev.fore.off = false →
     (∃ t, exec .marginScanStart s = .next t ∧
       (s.dev.flag Reg.pcie_DL_UP = true → 4 ≤ s.dev.fget Reg.pcie_SPEED → s.dev.pcie.marginTodo = [] → s.dev.romRecovery = false →
         t.dev.pcie = { s.dev.pcie with marginTodo := List.range 16 }) ∧ s.Framed [.pcie] [] t) ∧
     (∃ t, exec (.hostMarginCommand lane) s = .next t ∧
       (∀ l ls, s.dev.pcie.marginTodo = l :: ls → t.dev.pcie = { s.dev.pcie with
         marginTodo := if l = lane.val then ls ++ [l] else l :: ls }) ∧
       (s.dev.pcie.marginTodo = [] → t.dev.pcie = s.dev.pcie) ∧ s.Framed [.pcie] [] t) ∧
     ∃ t, exec (.marginDone results) s = .next t ∧ (s.dev.pcie.marginTodo = [] → s.Framed [] [] t) ∧
       (s.dev.pcie.marginTodo ≠ [] → t.dev.pcie.marginTodo = [] ∧ t.dev.Raised 68 Ev.pcie_MARGIN_DONE ∧
         (∀ w, results = [(lane, w)] → t.dev.tget 68 0 0 (2 * lane) = w.toNat ∧
           t.dev.tget 68 0 0 (2 * lane + 1) = s.dev.fget Reg.pcie_SPEED % 2 ^ 32) ∧
         s.Framed (.tabs :: eventParts) (eventKeys 68) t)) ∧
   (∀ (s : State) (off len : Nat), s.dev.fore.off = false → 0 < len → off + len ≤ 2 ^ 36 →
     let out := hbmSize < off + len
     let ks := Reg.pcie_IN_L1.key 0 :: if out then [Reg.pcie_BAR6_OUTSIDE.key 0] else []
     ∃ t, exec (.bar6Read off len) s = .next t ∧ t.dev.flag Reg.pcie_IN_L1 = false ∧
       (out → t.dev.fget Reg.pcie_BAR6_OUTSIDE = satAdd 32 (s.dev.fget Reg.pcie_BAR6_OUTSIDE) 1) ∧
       (s.dev.flag Reg.mems_TRAINING = true → off < hbmSize → t.dev.bus = { s.dev.bus with bar6 := [] } ∧
         t.dev.fget Reg.mems_BAR6_ABORTS = satAdd 32 (s.dev.fget Reg.mems_BAR6_ABORTS) 1 ∧ s.Framed [.bus] (Reg.mems_BAR6_ABORTS.key 0 :: ks) t) ∧
       (s.dev.flag Reg.mems_TRAINING = false ∨ hbmSize ≤ off → t.dev.bus.bar6.length = len ∧
         (∀ k < len, t.dev.bus.bar6[k]? = some (if off + k < hbmSize then s.hbmByte (off + k) else 0)) ∧
         t.dev.bus = { s.dev.bus with bar6 := t.dev.bus.bar6 } ∧ s.Framed [.bus, .mem] ks t)) ∧
   ∀ (s : State) (off : Nat) (bytes : List Byte), s.dev.fore.off = false → bytes ≠ [] → off + bytes.length ≤ 2 ^ 36 →
     let out := hbmSize < off + bytes.length
     let ks := Reg.pcie_IN_L1.key 0 :: if out then [Reg.pcie_BAR6_OUTSIDE.key 0] else []
     ∃ t, exec (.bar6Write off bytes) s = .next t ∧ t.dev.flag Reg.pcie_IN_L1 = false ∧
       (out → t.dev.fget Reg.pcie_BAR6_OUTSIDE = satAdd 32 (s.dev.fget Reg.pcie_BAR6_OUTSIDE) 1) ∧
       (s.dev.flag Reg.mems_TRAINING = true → off < hbmSize →
         t.dev.fget Reg.mems_BAR6_ABORTS = satAdd 32 (s.dev.fget Reg.mems_BAR6_ABORTS) 1 ∧ s.Framed [] (Reg.mems_BAR6_ABORTS.key 0 :: ks) t) ∧
       (s.dev.flag Reg.mems_TRAINING = false ∨ hbmSize ≤ off →
         s.StoreFramed [.mem] ks t off (bytes.take (hbmSize - off)) ∧ (s.dev.mem.powerDown = 0 → t.dev.mem = s.dev.mem)))

/-- Frames and ports (R372 to R374, R376, R377, R381, R390). A frame with a bad CRC is counted; one already accepted is only acknowledged again. A port
trains once enabled, in a role and with a cable; it measures, comes up and goes down, each as the far end and the cable say. A MGMT frame gives the
far end's identity and the way to the root; equal identities block the port. A frame not acknowledged is sent again and counted until it is. Time over
the cascade (R378, R379). SYNC frames leave every port that measures or is up, with the departure and the last arrival; a root that yields sends none.
A child forms its offset from each exchange, its delay from 64, is synced after 100, and feeds the loop where the timebase follows the cascade. The
loss of the primary uplink switches to an alternate that is up, and back after its return; each change loses the time source first. -/
def Obligations.CascadePortsAndTime : Prop :=
  ((∀ (s : State) (n : Fin 4) (c : FrameCheck), s.dev.fore.off = false →
     let st := s.dev.fget Reg.cas_port_STATE n
     let turnedAway := fun (i : Instr) (cls lo : Nat) => ∃ t, exec i s = .next t ∧ (st < lo ∨ 3 < st → s.Framed [] [] t) ∧
       (lo ≤ st → st ≤ 3 → c.crcOk = false → t.dev.fget Reg.cas_port_CRC_ERRS n = satAdd 32 (s.dev.fget Reg.cas_port_CRC_ERRS n) 1 ∧
         s.Framed [] [Reg.cas_port_CRC_ERRS.key n] t) ∧
       (lo ≤ st → st ≤ 3 → c.crcOk = true → c.seq % 2 ^ 32 ∈ KMap.at s.dev.cas.rx [] (n * 16 + cls) →
         t.dev.out = (if ackedClass cls then [Output.ack n cls (c.seq % 2 ^ 32)] else []) ++ s.dev.out ∧ s.Framed [.out] [] t)
     (∀ m, turnedAway (.mgmtFrame n c m) 3 2) ∧ (∀ y, turnedAway (.syncFrame n c y) 1 2) ∧ (∀ g, turnedAway (.trigFrame n c g) 2 3) ∧
       ∀ f, turnedAway (.dataFrame n c f) 4 3) ∧
   (∀ (s : State) (n : Fin 4), s.dev.fore.off = false →
     let may := s.dev.fget Reg.cas_port_STATE n = 0 ∧ s.dev.flag Reg.cas_EN = true ∧ s.dev.fget Reg.cas_port_ROLE n ≠ 0
     (∃ t, exec (.portPresent n) s = .next t ∧ t.dev.flag Reg.cas_port_PRSNT n = true ∧
       (may → t.dev.fget Reg.cas_port_STATE n = 1 ∧ t.dev.casPort n = {} ∧ s.Framed [.cas] [Reg.cas_port_PRSNT.key n, Reg.cas_port_STATE.key n] t) ∧
       (¬ may → s.Framed [] [Reg.cas_port_PRSNT.key n] t)) ∧
     (∃ t, exec (.portTrained n) s = .next t ∧ (s.dev.fget Reg.cas_port_STATE n ≠ 1 → s.Framed [] [] t) ∧
       (s.dev.fget Reg.cas_port_STATE n = 1 → t.dev.fget Reg.cas_port_STATE n = 2 ∧ (t.dev.casPort n).exchanges = 0 ∧
         (t.dev.casPort n).told.isSome = true ∧
         (s.dev.flag Reg.cas_ROOT = true → t.dev.fget Reg.cas_ROLE_NOW = 1 ∧ t.dev.fget Reg.cas_DEPTH = 0 ∧
           t.dev.fget Reg.cas_ROOT_ID = s.dev.fget Reg.cas_DEV_ID % 2 ^ 10) ∧
         s.Framed (.cas :: yieldParts s.dev t.dev ++ eventParts) (Reg.cas_port_STATE.key n :: topoKeys ++ yieldKeys s.dev t.dev) t)) ∧
     ∃ t, exec (.portUp n) s = .next t ∧ (s.dev.fget Reg.cas_port_STATE n ≠ 2 → s.Framed [] [] t) ∧
       (s.dev.fget Reg.cas_port_STATE n = 2 → t.dev.fget Reg.cas_port_STATE n = 3 ∧ t.dev.Raised 69 (Ev.cas_PORT_UP + n) ∧
         s.Framed (.cas :: yieldParts s.dev t.dev ++ eventParts) (Reg.cas_port_STATE.key n :: topoKeys ++ yieldKeys s.dev t.dev) t)) ∧
   (∀ (s : State) (n : Fin 4) (present : Bool), s.dev.fore.off = false →
     let src := s.dev.portUp n && s.dev.activeUplink == some n.val
     let ks := if present then [] else [Reg.cas_port_PRSNT.key n]
     ∃ t, exec (.portDown n present) s = .next t ∧ (present = false → t.dev.flag Reg.cas_port_PRSNT n = false) ∧
       (s.dev.fget Reg.cas_port_STATE n = 0 → s.Framed [] ks t) ∧
       (s.dev.fget Reg.cas_port_STATE n ≠ 0 → t.dev.fget Reg.cas_port_STATE n = 0 ∧ t.dev.fget Reg.cas_port_PEER_ID n = 0 ∧ t.dev.casPort n = {} ∧
         (s.dev.portUp n = true → t.dev.Raised 69 (Ev.cas_PORT_DOWN + n)) ∧ (src = true → t.dev.flag Reg.cas_SYNCED = false) ∧
         (src = false → s.dev.cas.held = [] →
           s.Framed (.cas :: yieldParts s.dev t.dev ++ eventParts)
             (Reg.cas_port_STATE.key n :: Reg.cas_port_PEER_ID.key n :: ks ++ topoKeys ++ yieldKeys s.dev t.dev) t) ∧
         s.Framed ([.cas, .tb, .degraded, .contained, .fore] ++ eventParts) ([Reg.cas_port_STATE.key n, Reg.cas_port_PEER_ID.key n, Reg.cas_RESENDS.key 0,
           Reg.hdr_TIMEOUT_COUNT.key 69, Reg.hdr_RECOVERY_COUNT.key 69] ++ ks ++ errKeys 69 ++ failoverKeys) t)) ∧
   (∀ (s : State) (n : Fin 4) (c : FrameCheck) (m : MgmtFrame), s.dev.fore.off = false → s.dev.TakesFrame n 3 2 c → s.dev.cas.held = [] →
     m.devId < 1024 →
     ∃ t, exec (.mgmtFrame n c m) s = .next t ∧ Output.ack n 3 (c.seq % 2 ^ 32) ∈ t.dev.out ∧ t.dev.fget Reg.cas_port_PEER_ID n = m.devId ∧
       (m.devId = s.dev.fget Reg.cas_DEV_ID → t.dev.fget Reg.cas_port_STATE n = 4 ∧ t.dev.Raised 69 Ev.cas_ID_CONFLICT) ∧
       (m.devId ≠ s.dev.fget Reg.cas_DEV_ID → t.dev.fget Reg.cas_port_STATE n = s.dev.fget Reg.cas_port_STATE n ∧
         (t.dev.casPort n).peer = some m ∧
         (∀ k, s.dev.flag Reg.cas_ROOT = false → s.dev.activeUplink = some n.val → m.depth = some k → t.dev.fget Reg.cas_ROLE_NOW = 2 ∧
           t.dev.fget Reg.cas_DEPTH = (k + 1) % 16 ∧ t.dev.fget Reg.cas_ROOT_ID = m.rootId % 1024 ∧
           t.dev.fget Reg.cas_HORIZON_NS = clampNat 500 16000 m.horizon) ∧
         s.Framed (.cas :: yieldParts s.dev t.dev ++ eventParts) (Reg.cas_port_PEER_ID.key n :: topoKeys ++ yieldKeys s.dev t.dev) t)) ∧
   ∀ (s : State) (n : Fin 4) (cls seq : Nat), s.dev.fore.off = false →
     (∃ t, exec (.frameAcknowledged n cls seq) s = .next t ∧
       t.dev.cas = { s.dev.cas with held := s.dev.cas.held.filter fun h => !(h.port == n.val && h.cls == cls && h.seq == seq) } ∧
       s.Framed [.cas] [] t) ∧
     ∃ t, exec (.frameAckTimeout n cls seq) s = .next t ∧
       ((∀ h ∈ s.dev.cas.held, h.port = n.val → h.cls = cls → h.seq ≠ seq) → s.Framed [] [] t) ∧
       (∀ h, s.dev.cas.held = [h] → h.port = n.val → h.cls = cls → h.seq = seq → seq < 2 ^ 32 →
         (s.dev.resendPort n = none → s.Framed [] [] t) ∧
         (s.dev.resendPort n = some n.val → t.dev.out = frameOut n cls seq h.what :: s.dev.out ∧ t.dev.ErrHeld 69 0xF1 n seq ∧
           t.dev.fget Reg.cas_RESENDS = satAdd 32 (s.dev.fget Reg.cas_RESENDS) 1 ∧
           s.Framed [.out] ([Reg.hdr_TIMEOUT_COUNT.key 69, Reg.hdr_RECOVERY_COUNT.key 69, Reg.cas_RESENDS.key 0] ++ errKeys 69) t) ∧
         (∀ k, s.dev.resendPort n = some k → k ≠ n.val → t.dev.Raised 69 Ev.cas_FAILOVER ∧ t.dev.cas.held.map HeldFrame.port = [k] ∧
           t.dev.cas.held.map HeldFrame.what = [h.what] ∧
           s.Framed (.cas :: eventParts) ([Reg.hdr_TIMEOUT_COUNT.key 69, Reg.hdr_RECOVERY_COUNT.key 69, Reg.cas_RESENDS.key 0] ++ faultKeys 69) t))) ∧
  ((∀ (s : State) (departs : List Nat), s.dev.fore.off = false →
     let yields := s.dev.cas.yields
     ∃ t, exec (.syncSend departs) s = .next t ∧ (yields = true → s.Framed [] [] t) ∧
       (yields = false →
         (∀ n < 4, s.dev.fget Reg.cas_port_STATE n = 2 ∨ s.dev.fget Reg.cas_port_STATE n = 3 →
           Output.frame n 1 (KMap.at s.dev.cas.tx 0 (n * 16 + 1)) (frameWords 1 (s.dev.fget Reg.cas_DEV_ID) 0x3FF
             (KMap.at s.dev.cas.tx 0 (n * 16 + 1)) (syncPayload (departs.getD n 0 % 2 ^ 80) (s.dev.casPort n).got)) ∈ t.dev.out ∧
           KMap.at t.dev.cas.tx 0 (n * 16 + 1) = (KMap.at s.dev.cas.tx 0 (n * 16 + 1) + 1) % 2 ^ 32) ∧
         t.dev.cas.held = s.dev.cas.held ∧ s.Framed [.cas, .out] [] t)) ∧
   (∀ (s : State) (n : Fin 4) (c : FrameCheck) (y : SyncTimes), s.dev.fore.off = false → s.dev.TakesFrame n 1 2 c →
     let p := s.dev.casPort n
     let child := s.dev.fget Reg.cas_port_ROLE n = 1 ∨ s.dev.fget Reg.cas_port_ROLE n = 2
     let two := ((y.t2 : Int) - y.t1) + ((y.t4 : Int) - y.t3)
     let asym := s.dev.fgetS Reg.cas_port_ASYM n
     let offset := s.dev.fsOf (2 * ((y.t2 : Int) - y.t1)) - (s.dev.fsOf two - asym)
     let err := -(roundDivAway (offset * (2 ^ 16 * s.dev.fget Reg.tbase_NOMINAL_FREQ : Nat)) 8000000000000)
     let fed := s.dev.flag Reg.cas_ROOT = false ∧ child ∧ s.dev.activeUplink = some n.val ∧ s.dev.fget Reg.tbase_REF_SEL = 3
     let tracked := fed ∧ s.dev.flag Reg.tbase_REF_VALID = true ∧ s.dev.flag Reg.tbase_COASTING = false
     ∃ t, exec (.syncFrame n c y) s = .next t ∧ (t.dev.casPort n).exchanges = p.exchanges + 1 ∧
       (t.dev.casPort n).got = (if child then y.t2 else y.t4) ∧
       (p.exchanges < 64 → (t.dev.casPort n).delaySum = p.delaySum + two) ∧
       (p.exchanges = 63 → t.dev.fget Reg.cas_port_DELAY n =
         (clampInt 0 0xFFFFFFFF (s.dev.fsOf (p.delaySum + two) 64 - asym)).toNat) ∧
       (s.dev.flag Reg.cas_ROOT = false → child → t.dev.fgetS Reg.cas_port_OFFSET n = clampInt (-2147483648) 2147483647 offset) ∧
       (s.dev.flag Reg.cas_ROOT = false → child → s.dev.activeUplink = some n.val → 99 ≤ p.frames → 63 ≤ p.exchanges → t.dev.flag Reg.cas_SYNCED = true) ∧
       (fed → t.dev.fgetS Reg.tbase_PHASE_ERR = clampInt (-2147483648) 2147483647 err) ∧
       (tracked → t.dev.tb = { s.dev.tb with
           slew := if s.dev.flag Reg.tbase_SLEWING then s.dev.tb.slew else err * 65536
           inc := Config.loopInc (s.dev.fget Reg.tbase_LOOP_BW) err s.dev.tb.inc s.dev.tb.inc } ∧
         t.dev.fgetS Reg.tbase_RATIO = ratioOf t.dev.tb.inc) ∧
       (¬ tracked → t.dev.tb = s.dev.tb) ∧
       (s.dev.flag Reg.cas_ROOT = true ∨ ¬ child → s.Framed [.cas] [Reg.cas_port_DELAY.key n] t) ∧
       s.Framed [.cas, .tb] [Reg.tbase_RATIO.key 0, Reg.cas_port_DELAY.key n, Reg.cas_port_OFFSET.key n, Reg.tbase_PHASE_ERR.key 0, Reg.cas_SYNCED.key 0] t) ∧
   (∀ s : State, s.dev.fore.off = false →
     let off := s.dev.flag Reg.cas_ROOT = true ∨ s.dev.flag Reg.cas_ALT_ACTIVE = true
     let alt := (s.dev.uplink 2).filter s.dev.portUp
     ∃ t, exec .failover s = .next t ∧ (off → s.Framed [] [] t) ∧
       (¬ off → t.dev.flag Reg.cas_SYNCED = false ∧ t.dev.flag Reg.cas_ALT_ACTIVE = alt.isSome ∧
         (s.dev.fget Reg.tbase_REF_SEL = 3 → s.dev.flag Reg.tbase_REF_VALID = true → t.dev.flag Reg.tbase_COASTING = true ∧
           t.dev.Raised 6 Ev.tbase_REF_LOST) ∧
         (∀ n, alt = some n → t.dev.fget Reg.cas_FAILOVERS = satAdd 32 (s.dev.fget Reg.cas_FAILOVERS) 1 ∧ t.dev.Raised 69 Ev.cas_FAILOVER ∧
           t.dev.isDegraded 69 = true ∧ s.dev.PlanAsked t.dev ∧ (t.dev.casPort n).exchanges = 0) ∧
         s.Framed ([.cas, .tb, .degraded, .fore] ++ eventParts) failoverKeys t)) ∧
   ∀ s : State, s.dev.fore.off = false →
     let back := s.dev.flag Reg.cas_ALT_ACTIVE && ((s.dev.uplink 1).filter s.dev.portUp).isSome
     ∃ t, exec .primaryReturn s = .next t ∧ (back = false → s.Framed [] [] t) ∧
       (back = true → t.dev.flag Reg.cas_ALT_ACTIVE = false ∧ t.dev.flag Reg.cas_SYNCED = false ∧
         (∀ n, (s.dev.uplink 1).filter s.dev.portUp = some n → (t.dev.casPort n).exchanges = 0) ∧
         s.Framed ([.cas, .tb, .degraded] ++ eventParts) (Reg.cas_ALT_ACTIVE.key 0 :: topoKeys ++ syncLostKeys) t))

/-- Trigger messages (R375, R384 to R386). A TRIG frame is forwarded on every other port that is up. A new message in time joins the triggers that wait
for their merge point; a late one and a duplicate are counted. At its merge point a trigger commits its window as a segment, or is rejected and
counted. A provisional remote trigger that no message resolves within 2H is cancelled. Data between devices (R387 to R389, R296). A DATA frame for
another device goes on toward it; one for this device lands: bytes of a copy are stored where the copy may land, and the last are answered. An image
is merged into its partition or refused. A copy on the grid of 64 is sent, or made at its end where the destination is this device; XFER_DONE shows
how it ended. -/
def Obligations.CascadeTriggersAndData : Prop :=
  ((∀ (s : State) (n : Fin 4) (c : FrameCheck) (m : TrigMessage), s.dev.fore.off = false → s.dev.TakesFrame n 2 3 c →
     let known := (m.origin.toNat, m.seqT.toNat, m.typ.toNat) ∈ s.dev.cas.passed
     let ports := if known then [] else s.dev.upPorts.filter (· != n.val)
     let stamp := rebuildTick (s.dev.nowStamp16 / 65536) m.tickLo.toNat * 65536 + m.frac.toNat
     let handled := s.dev.flag Reg.cas_TRIG_RX = true ∧ s.dev.armed = true ∧ s.dev.acq.stopAt = none
     let late := stamp + s.dev.fget Reg.cas_H_TICKS * 65536 < s.dev.nowStamp16
     ∃ t, exec (.trigFrame n c m) s = .next t ∧ Output.ack n 2 (c.seq % 2 ^ 32) ∈ t.dev.out ∧
       t.dev.cas.forward = s.dev.cas.forward ++ (if ports = [] then [] else
         [{ ports := ports, what := .words m.origin.toNat 0x3FF [trigPayload m.typ.toNat m.origin.toNat m.seqT.toNat
           (m.tickLo.toNat * 65536 + m.frac.toNat)] }]) ∧
       (¬ handled → s.dev.acq.stopAt = none → t.dev.tseq = s.dev.tseq ∧ s.Framed [.cas, .out] [] t) ∧
       (handled → m.typ = 0 → late → t.dev.fget Reg.cas_LATE_REJECT = satAdd 32 (s.dev.fget Reg.cas_LATE_REJECT) 1 ∧
         t.dev.Raised 69 Ev.cas_LATE ∧ s.Framed (.cas :: eventParts) (Reg.cas_LATE_REJECT.key 0 :: eventKeys 69) t) ∧
       (handled → m.typ = 0 ∨ m.typ = 1 → ¬ late → s.dev.cas.msgs = [] → s.dev.tseq.provs = [] →
         t.dev.tseq.merge = s.dev.tseq.merge ++ [{
           id := s.dev.tseq.nextId
           stamp := stamp
           epoch := s.dev.fget Reg.tbase_EPOCH
           origin := m.origin.toNat
           seqT := m.seqT.toNat
           loc := false
           t := s.dev.indexAt stamp
           cause := s.dev.fget Reg.cas_RX_CAUSE
           fb := false
           prov := decide (m.typ = 0) }] ∧
         t.dev.tseq.provs.map Prov.deadline = (if m.typ = 0 then [stamp + 2 * s.dev.fget Reg.cas_H_TICKS * 65536] else []) ∧
         s.Framed [.cas, .out, .tseq] [Reg.tseq_PROV_OUT.key 0] t) ∧
       (∀ x, handled → m.typ = 0 → ¬ late → s.dev.cas.msgs = [x] → x.origin = m.origin.toNat → x.seqT = m.seqT.toNat → x.typ = 0 →
         s.dev.nowStamp16 ≤ x.at16 → t.dev.fget Reg.cas_DUP_DROP = satAdd 32 (s.dev.fget Reg.cas_DUP_DROP) 1 ∧
           s.Framed [.cas, .out] [Reg.cas_DUP_DROP.key 0] t)) ∧
   (∀ (s : State), s.dev.fore.off = false →
     ∃ t, exec .trigForward s = .next t ∧ (s.dev.cas.forward = [] → s.Framed [] [] t) ∧
       (∀ f rest, s.dev.cas.forward = f :: rest → f.ports.Nodup → t.dev.cas.forward = rest ∧
         (∀ n ∈ f.ports, s.dev.portUp n = true → frameOut n 2 (KMap.at s.dev.cas.tx 0 (n * 16 + 2)) f.what ∈ t.dev.out) ∧
         s.Framed (.cas :: eventParts) [Reg.pcie_EGRESS_LEVEL.key 0] t)) ∧
   (∀ (s : State) (m : Merge) (w : Nat × Nat), s.dev.fore.off = false → s.dev.tseq.merge = [m] → s.dev.tseq.provs = [] →
     ∃ t, exec .mergePoint s = .next t ∧
       (s.dev.nowStamp16 < m.stamp + s.dev.fget Reg.cas_H_TICKS * 65536 → t.dev.tseq = s.dev.tseq ∧ s.Framed [] [Reg.tseq_PROV_OUT.key 0] t) ∧
       (m.stamp + s.dev.fget Reg.cas_H_TICKS * 65536 ≤ s.dev.nowStamp16 → t.dev.tseq.merge = [] ∧
         (m.confirmed = some false → t.dev.acq = s.dev.acq) ∧
         (m.confirmed ≠ some false → m.loc = false → s.dev.preFilled (s.dev.windowAt m.t) = false → t.dev.acq = s.dev.acq ∧
           t.dev.fget Reg.acq_PRE_FILL_REJECT = satAdd 32 (s.dev.fget Reg.acq_PRE_FILL_REJECT) 1 ∧
           s.Framed [.tseq] [Reg.tseq_PROV_OUT.key 0, Reg.acq_PRE_FILL_REJECT.key 0] t) ∧
         (m.confirmed ≠ some false → m.loc = true ∨ s.dev.preFilled (s.dev.windowAt m.t) = true → s.dev.windowAt m.t = some w →
           s.dev.flag Reg.acq_SEG_MODE = true → s.dev.overlaps w = true → t.dev.acq = s.dev.acq ∧
           t.dev.fget Reg.trig_OVERLAP_REJECT = satAdd 32 (s.dev.fget Reg.trig_OVERLAP_REJECT) 1 ∧
           s.Framed [.tseq] [Reg.tseq_PROV_OUT.key 0, Reg.trig_OVERLAP_REJECT.key 0] t) ∧
         (m.confirmed ≠ some false → m.loc = true ∨ s.dev.preFilled (s.dev.windowAt m.t) = true → s.dev.windowAt m.t = some w →
           s.dev.overlaps w = false → s.dev.slotReusable s.dev.acq.nextSeg = true → t.dev.acq.nextSeg = s.dev.acq.nextSeg + 1 ∧
           (t.dev.seg s.dev.acq.nextSeg).map (fun g => (g.trigIndex, g.first, g.last, g.stamp, g.cause)) =
             some (((m.t.toNat : Int) - w.1), w.1, w.2, stampWords m.epoch m.stamp, m.cause)))) ∧
   ∀ (s : State) (p : Prov), s.dev.fore.off = false → s.dev.tseq.provs = [p] → p.kind = .remote → p.seg = none →
     ∃ t, exec (.remoteQualExpired p.origin p.seqT) s = .next t ∧ (s.dev.nowStamp16 < p.deadline → s.Framed [] [] t) ∧
       (p.deadline ≤ s.dev.nowStamp16 → t.dev.tseq.provs = [] ∧ t.dev.fget Reg.tseq_PROV_OUT = 0 ∧ t.dev.Raised 18 Ev.trig_QUAL_EXPIRED ∧
         t.dev.Raised 18 Ev.trig_PROV_RETRACTED ∧ (∀ m ∈ t.dev.tseq.merge, m.id = p.id → m.confirmed = some false) ∧
         s.Framed ([.tseq, .tally] ++ eventParts) (Reg.tseq_PROV_OUT.key 0 :: eventKeys 18 ++ countKeys 1 ++ countKeys 23) t)) ∧
  ((∀ (s : State) (n : Fin 4) (c : FrameCheck) (f : DataFrame), s.dev.fore.off = false → s.dev.TakesFrame n 4 3 c →
     let me := s.dev.fget Reg.cas_DEV_ID
     ∃ t, exec (.dataFrame n c f) s = .next t ∧ Output.ack n 4 (c.seq % 2 ^ 32) ∈ t.dev.out ∧
       (f.dst ≠ me → (∀ k, s.dev.pathTo f.dst = some k →
           Output.data k (KMap.at s.dev.cas.tx 0 (k * 16 + 4)) f.src f.dst f.part ∈ t.dev.out) ∧ s.Framed [.cas, .out] [] t) ∧
       (∀ k first ws, f.dst = me → f.part = .image k first ws →
         (first = 0 → KMap.find t.dev.cas.images (f.src * 16 + k % 16) = some ws) ∧
         (∀ got, 0 < first → KMap.find s.dev.cas.images (f.src * 16 + k % 16) = some got → got.length = first →
           KMap.find t.dev.cas.images (f.src * 16 + k % 16) = some (got ++ ws)) ∧ s.Framed [.cas, .out] [] t) ∧
       (∀ dst len ws, f.dst = me → f.part = .copy dst len 0 ws → s.dev.copyOk dst len = true →
         (len ≤ 4 * ws.length → KMap.find t.dev.cas.copies f.src = none) ∧
         (4 * ws.length < len → KMap.find t.dev.cas.copies f.src = some (len - 4 * ws.length)) ∧
         s.StoreFramed [.cas, .out] [] t dst (ws.flatMap wordBytes)) ∧
       (∀ dst len ws, f.dst = me → f.part = .copy dst len 0 ws → s.dev.copyOk dst len = false →
         (∀ k, s.dev.pathTo f.src = some k → Output.data k (KMap.at s.dev.cas.tx 0 (k * 16 + 4)) me f.src (.copyDone false) ∈ t.dev.out) ∧
         KMap.find t.dev.cas.copies f.src = none ∧ s.Framed [.cas, .out] [] t)) ∧
   (∀ (s : State) (k : Fin 16) (src : Nat) (ws : List Nat), s.dev.fore.off = false → KMap.find s.dev.cas.images (src * 16 + k) = some ws →
     16 ≤ ws.length → (ws.getD 13 0) ≤ 4 * (ws.length - 16) → (s.dev.part k).sweep = none →
     let h := ws.take 16
     let image := ws.drop 16
     let sh := s.dev.shape k
     ∃ t, exec (.xaccImage k src) s = .next t ∧ KMap.find t.dev.cas.images (src * 16 + k) = none ∧
       (s.dev.xaccOk k h image = false → t.dev.Raised 69 Ev.cas_XACC_REFUSED ∧ s.Framed (.cas :: eventParts) (eventKeys 69) t) ∧
       (s.dev.xaccOk k h image = true → sh.mode = 0 → sh.points ≤ sh.capacity → (s.dev.part k).snap = none →
         (∀ w < sh.words, t.tillGet k sh w = ofSigned 32 (toSigned 32 (s.tillGet k sh w) + toSigned 32 (image.getD w 0 % 2 ^ 32))) ∧
         t.dev.fget Reg.accu_part_RECORDS k = satAdd 32 (s.dev.fget Reg.accu_part_RECORDS k) (ws.getD 6 0))) ∧
   (∀ (s : State) (who : Requester) (val : Word), s.dev.fore.off = false → s.dev.flag Reg.hdr_FREEZE 69 = false →
     let src := s.dev.fget64 Reg.cas_XFER_SRC_W0 Reg.cas_XFER_SRC_W1
     let dst := s.dev.fget64 Reg.cas_XFER_DST_W0 Reg.cas_XFER_DST_W1
     let len := s.dev.xferLen
     let id := val.toNat % 1024
     let off : Option Field := if src % 64 ≠ 0 then some Reg.cas_XFER_SRC_W0 else if dst % 64 ≠ 0 then some Reg.cas_XFER_DST_W0
       else if len % 64 ≠ 0 then some Reg.cas_XFER_LEN else none
     let ks := [Reg.cas_XFER_ID.key 0, Reg.hdr_CFG_EPOCH.key 69]
     ∃ t, exec (.xferGo who val) s = .next t ∧ t.dev.fget Reg.cas_XFER_ID = id ∧
       (s.dev.flag Reg.cas_BUSY = true → s.Framed [] ks t) ∧
       (∀ f, s.dev.flag Reg.cas_BUSY = false → off = some f → t.dev.ErrHeld 69 0xF2 0 (fieldLocator f % 2 ^ 32) ∧
         s.Framed [] (ks ++ errKeys 69) t) ∧
       (s.dev.flag Reg.cas_BUSY = false → off = none → t.dev.cas.xfer = some (src, dst, len, id) ∧ t.dev.flag Reg.cas_BUSY = true ∧
         t.dev.flag Reg.cas_ERR = false ∧
         (∀ k, id ≠ s.dev.fget Reg.cas_DEV_ID → s.dev.pathTo id = some k → Output.data k (KMap.at s.dev.cas.tx 0 (k * 16 + 4))
           (s.dev.fget Reg.cas_DEV_ID) id (.copy dst len 0 (s.hbmWords src (min 128 (len / 4)))) ∈ t.dev.out) ∧
         s.Framed [.cas, .out] ([Reg.cas_BUSY.key 0, Reg.cas_ERR.key 0] ++ ks) t)) ∧
   ∀ (s : State) (ok : Bool), s.dev.fore.off = false →
     ∃ t, exec (.xferDone ok) s = .next t ∧ (s.dev.cas.xfer = none → s.Framed [] [] t) ∧
       (∀ src dst len id, s.dev.cas.xfer = some (src, dst, len, id) →
         let here := id == s.dev.fget Reg.cas_DEV_ID
         let good := if here then s.dev.copyOk dst len else ok
         let ks := [Reg.cas_BUSY.key 0, Reg.cas_ERR.key 0] ++ eventKeys 69
         t.dev.cas = { s.dev.cas with xfer := none } ∧ t.dev.flag Reg.cas_BUSY = false ∧ t.dev.flag Reg.cas_ERR = !good ∧
         t.dev.Raised 69 Ev.cas_XFER_DONE ∧ (here = false ∨ good = false → s.Framed (.cas :: eventParts) ks t) ∧
         (here = true → good = true → s.StoreFramed (.cas :: eventParts) ks t dst ((s.hbmWords src (len / 4)).flatMap wordBytes))))

/-- Sequences of the auxiliary converters (R394 to R398, Table 16.2). A converter is enabled with its first entry converting, unless more than 8 injected
entries are asked for; while enabled its CFG takes only a write that clears EN. A conversion adds to the sum of its entry; the last one of the entry
gives a result, after which the next entry follows, the first again, or the wait for the next pass. A pass that falls due starts an idle converter, or
is counted as late. An urgent trigger starts the injected sequence of an idle converter, waits for the conversion in progress, or is missed. A
conversion that does not end gives a result with TIMEOUT. Results and the compatibility filter (R399 to R405, Table 16.3). The earliest waiting result
takes the next number, goes to its place in the HBM buffer where that is enabled, and joins the records that wait for the queue, where a full wait
buffer loses it. FLUSH_US after the oldest waiting record what waits goes out as one STREAM record. The filter is refused with a reserved notch;
enabled, it takes the converter. Every 64th conversion gives the rounded boxcar output as a result with FILT, which has settled with the output of its
ORDER's number. -/
def Obligations.AuxConverters : Prop :=
  ((∀ (s : State) (who : Requester) (c : Fin 4), s.dev.fore.off = false → s.dev.flag Reg.hdr_FREEZE 26 = false → ∀ val : Word,
     let v := val.toNat
     let cfg := [Reg.aux_auxc_EN.key c, Reg.aux_auxc_SYNC.key c, Reg.aux_auxc_AUTO_PD.key c, Reg.aux_auxc_REG_LEN_M1.key c, Reg.aux_auxc_INJ_LEN.key c,
       Reg.aux_auxc_SRC_MAIN.key c, Reg.aux_auxc_SRC_TIN.key c, Reg.aux_auxc_SRC_ALARM.key c, Reg.aux_auxc_STATE.key c, Reg.aux_auxc_STEP.key c]
     let old := s.dev.regWord (0x1A100 + 0x20 * c)
     let refused := fun (t : State) => t.dev.Raised 26 Ev.aux_CFG_REFUSED ∧ t.dev.ErrHeld 26 0xF0 (0x100 + 0x20 * c + 4096 * who.code) v ∧
       s.Framed eventParts (faultKeys 26) t
     ∃ t, exec (.auxEnable who c val) s = .next t ∧
       (s.dev.auxOn c = false → 8 < bitField v 8 4 → refused t) ∧
       (s.dev.auxOn c = true → v % 2 ^ 18 ≠ old → v % 2 ^ 18 + 1 ≠ old → refused t) ∧
       (s.dev.auxOn c = true → v % 2 ^ 18 + 1 = old → t.dev.auxOn c = false ∧ t.dev.fget Reg.aux_auxc_STATE c = 0 ∧
         t.dev.fget Reg.aux_auxc_STEP c = 0 ∧ t.dev.auxc c = {} ∧
         s.Framed [.aux] (Reg.aux_auxc_INJ_PENDING.key c :: Reg.hdr_CFG_EPOCH.key 26 :: cfg) t) ∧
       (s.dev.auxOn c = false → v % 4 = 1 → bitField v 8 4 ≤ 8 → t.dev.auxOn c = true ∧ t.dev.fget Reg.aux_auxc_STATE c = 1 ∧
         t.dev.fget Reg.aux_auxc_STEP c = 0 ∧ t.dev.fget Reg.aux_auxc_REG_LEN_M1 c = bitField v 3 5 ∧ t.dev.fget Reg.aux_auxc_INJ_LEN c = bitField v 8 4 ∧
         t.dev.auxc c = { busy := true, regBank := (s.dev.tctlOf 26 c).bank } ∧ s.Framed [.aux] (Reg.hdr_CFG_EPOCH.key 26 :: cfg) t)) ∧
   (∀ (s : State) (c : Fin 4), s.dev.fore.off = false → (s.dev.auxc c).busy = true → (s.dev.auxc c).inj = none → (s.dev.auxc c).idle = false →
     (s.dev.auxc c).finished = false → s.dev.flag Reg.aux_auxc_SYNC c = false → s.dev.flag Reg.aux_auxc_INJ_PENDING c = false →
     let x := s.dev.auxc c
     let step := s.dev.fget Reg.aux_auxc_STEP c
     let w := s.dev.auxReg c step
     bitAt (s.dev.tactive 26 4 (entryChannel w)) 31 = false → ∀ code : Nat, code < 4096 →
     let slow := x.reg.slow || s.dev.auxSlow
     let v := entryValue w (x.reg.sum + code)
     let next : Nat := if step < s.dev.fget Reg.aux_auxc_REG_LEN_M1 c then (step + 1) % 32 else 0
     ∃ t, exec (.auxConversionDone c code) s = .next t ∧ s.Framed [.aux] [Reg.aux_auxc_STATE.key c, Reg.aux_auxc_STEP.key c] t ∧
       (x.reg.n + 1 < entryConvs w → t.dev.auxc c = { x with reg := { x.reg with n := x.reg.n + 1, sum := x.reg.sum + code, slow := slow } } ∧
         t.dev.aux.waiting = s.dev.aux.waiting ∧ t.dev.fget Reg.aux_auxc_STATE c = 1) ∧
       (entryConvs w ≤ x.reg.n + 1 →
         t.dev.aux.waiting = s.dev.aux.waiting ++ [AuxResult.mk s.dev.auxInstant.1 c
           (auxWord0 v.1 (entryChannel w) c false x.reg.split false v.2 x.reg.alarm false false slow :: s.dev.auxInstant.2)] ∧
         (step < s.dev.fget Reg.aux_auxc_REG_LEN_M1 c ∨ s.dev.fget Reg.aux_auxc_REG_PERIOD c = 0 ∨ x.due = true →
           t.dev.fget Reg.aux_auxc_STEP c = next ∧ t.dev.fget Reg.aux_auxc_STATE c = 1 ∧ (t.dev.auxc c).busy = true ∧ (t.dev.auxc c).reg = {}) ∧
         (s.dev.fget Reg.aux_auxc_REG_LEN_M1 c ≤ step → s.dev.fget Reg.aux_auxc_REG_PERIOD c ≠ 0 → x.due = false →
           t.dev.fget Reg.aux_auxc_STATE c = 3 ∧ (t.dev.auxc c).idle = true ∧ (t.dev.auxc c).busy = false))) ∧
   (∀ (s : State) (c : Fin 4), s.dev.fore.off = false →
     let x := s.dev.auxc c
     let runs := s.dev.auxOn c = true ∧ s.dev.fltOn c = false ∧ s.dev.fget Reg.aux_auxc_REG_PERIOD c ≠ 0
     ∃ t, exec (.regPeriodTimer c) s = .next t ∧ (¬ runs → s.Framed [] [] t) ∧
       (runs → x.idle = true → x.busy = false → s.dev.flag Reg.aux_auxc_SYNC c = false → t.dev.fget Reg.aux_auxc_STATE c = 1 ∧
         t.dev.fget Reg.aux_auxc_STEP c = 0 ∧ (t.dev.auxc c).busy = true ∧ (t.dev.auxc c).idle = false ∧
         s.Framed [.aux] [Reg.aux_auxc_STATE.key c, Reg.aux_auxc_STEP.key c] t) ∧
       (runs → x.idle = false ∨ x.busy = true → t.dev.fget Reg.aux_auxc_LATE_PASS c = satAdd 32 (s.dev.fget Reg.aux_auxc_LATE_PASS c) 1 ∧
         t.dev.auxc c = { x with due := true } ∧ s.Framed [.aux] [Reg.aux_auxc_LATE_PASS.key c] t)) ∧
   (∀ s : State, s.dev.fore.off = false → 0 < s.dev.aux.urgMain →
     ∃ t, exec (.urgentTrigger .main) s = .next t ∧ t.dev.aux.urgMain = s.dev.aux.urgMain - 1 ∧
       s.Framed (.aux :: eventParts) ((List.range 4).flatMap (fun c => [Reg.aux_auxc_STATE.key c, Reg.aux_auxc_STEP.key c,
         Reg.aux_auxc_INJ_PENDING.key c, Reg.aux_auxc_INJ_MISSED.key c, Reg.aux_auxc_INJ_DEFERRED.key c]) ++ eventKeys 26) t ∧
       (∀ c : Fin 4, s.dev.auxOn c = true → s.dev.fltOn c = false → s.dev.flag Reg.aux_auxc_SRC_MAIN c = true →
         s.dev.flag Reg.aux_auxc_SYNC c = false → s.dev.fget Reg.aux_auxc_INJ_LEN c ≠ 0 →
         let taken := s.dev.flag Reg.aux_auxc_INJ_PENDING c = true ∨ (s.dev.auxc c).inj ≠ none
         (taken → t.dev.Raised 26 (Ev.aux_INJ_MISSED + c) ∧
           t.dev.fget Reg.aux_auxc_INJ_MISSED c = satAdd 32 (s.dev.fget Reg.aux_auxc_INJ_MISSED c) 1) ∧
         (¬ taken → (s.dev.auxc c).busy = true → t.dev.flag Reg.aux_auxc_INJ_PENDING c = true ∧ t.dev.auxc c = s.dev.auxc c) ∧
         (¬ taken → (s.dev.auxc c).busy = false → t.dev.flag Reg.aux_auxc_INJ_PENDING c = false ∧ t.dev.fget Reg.aux_auxc_STATE c = 2 ∧
           (t.dev.auxc c).inj = some (0, {}) ∧ (t.dev.auxc c).busy = true))) ∧
   ∀ (s : State) (c : Fin 4), s.dev.fore.off = false →
     let x := s.dev.auxc c
     let w := s.dev.auxReg c (s.dev.fget Reg.aux_auxc_STEP c)
     ∃ t, exec (.auxConvTimeout c) s = .next t ∧ (x.busy = false → s.Framed [] [] t) ∧
       (x.busy = true → x.inj = none → x.idle = false → s.dev.flag Reg.aux_auxc_SYNC c = false → s.dev.flag Reg.aux_auxc_INJ_PENDING c = false →
         t.dev.fget Reg.hdr_TIMEOUT_COUNT 26 = satAdd 32 (s.dev.fget Reg.hdr_TIMEOUT_COUNT 26) 1 ∧
         t.dev.fget Reg.hdr_RECOVERY_COUNT 26 = satAdd 32 (s.dev.fget Reg.hdr_RECOVERY_COUNT 26) 1 ∧
         t.dev.Raised 26 (Ev.aux_CONV_TIMEOUT + c) ∧ t.dev.ErrHeld 26 (Ev.aux_CONV_TIMEOUT + c) c 0 ∧
         t.dev.aux.waiting = s.dev.aux.waiting ++ [AuxResult.mk s.dev.auxInstant.1 c
           (auxWord0 0 (entryChannel w) c false x.reg.split true false x.reg.alarm false false x.reg.slow :: s.dev.auxInstant.2)] ∧
         s.Framed (.aux :: eventParts) ([Reg.aux_auxc_STATE.key c, Reg.aux_auxc_STEP.key c, Reg.hdr_TIMEOUT_COUNT.key 26,
           Reg.hdr_RECOVERY_COUNT.key 26] ++ faultKeys 26) t)) ∧
  ((∀ s : State, s.dev.fore.off = false →
     let q := s.dev.aux.next
     let cap := max 1 (s.dev.fget Reg.aux_BUF_SIZE) * 4096
     let ks := [Reg.aux_NEXT_SEQ.key 0, Reg.aux_OLDEST_SEQ.key 0]
     let hbm := s.dev.flag Reg.aux_HBM_EN
     let room := s.dev.flag Reg.aux_QUEUE_EN = false ∨ s.dev.aux.batch.length + 1 < min 4096 (max 1 (s.dev.fget Reg.aux_BATCH))
     ∃ t, exec .resultNumbered s = .next t ∧ (s.dev.aux.waiting = [] → s.Framed [] [] t) ∧
       (∀ r, earliestResult s.dev.aux.waiting = some r →
         (∀ x ∈ s.dev.aux.waiting, r.at16 < x.at16 ∨ (r.at16 = x.at16 ∧ r.conv ≤ x.conv)) ∧
         t.dev.aux.waiting = s.dev.aux.waiting.erase r ∧ t.dev.aux.next = q + 1 ∧ t.dev.fget Reg.aux_NEXT_SEQ = (q + 1) % 2 ^ 32 ∧
         t.dev.fget Reg.aux_OLDEST_SEQ = (if hbm then max s.dev.aux.oldest (q + 1 - cap) else q + 1) % 2 ^ 32 ∧
         (room → t.dev.aux.batch = s.dev.aux.batch ++ (if s.dev.flag Reg.aux_QUEUE_EN then [r.words] else [])) ∧
         (hbm = true → room → s.StoreFramed [.aux] ks t (s.dev.fget Reg.aux_BUF_BASE * 65536 + 16 * (q % 2 ^ 32 % cap)) (r.words.flatMap wordBytes)) ∧
         (hbm = false → room → s.Framed [.aux] ks t) ∧
         (s.dev.flag Reg.aux_QUEUE_EN = true → 4096 ≤ s.dev.aux.batch.length → t.dev.aux.batch = s.dev.aux.batch ∧
           t.dev.fget Reg.aux_QUEUE_LOST = satAdd 32 (s.dev.fget Reg.aux_QUEUE_LOST) 1 ∧ t.dev.Raised 26 Ev.aux_QUEUE_LOST ∧
           (hbm = false → s.Framed (.aux :: eventParts) (Reg.aux_QUEUE_LOST.key 0 :: (ks ++ eventKeys 26)) t)))) ∧
   (∀ s : State, s.dev.fore.off = false →
     let n := s.dev.fget Reg.aux_QUEUE
     let c := s.dev.qctx n
     let rs := s.dev.aux.batch.take (max 1 (s.dev.fget Reg.aux_BATCH))
     let p := rs.flatten
     let k := c.recordEntries (16 * rs.length)
     let idle := s.dev.flag Reg.aux_QUEUE_EN = false ∨ rs = [] ∨ s.dev.recordFits n (16 * rs.length) = false
     ∃ t, exec .auxFlushTimer s = .next t ∧ (idle → s.Framed [] [] t) ∧
       (¬ idle → c.lost = 0 → s.dev.holding = false → p.length = 4 * rs.length → t.dev.aux.batch = s.dev.aux.batch.drop rs.length ∧
         t.dev.aux.batchFirst = s.dev.aux.batchFirst + rs.length ∧ (t.dev.qctx n).seq = (c.seq + 1) % 2 ^ 32 ∧
         (t.dev.qctx n).tail = (c.tail + k) % 2 ^ 32 ∧
         Output.hostWrite (c.base + c.tail % 2 ^ c.log2 * 2 ^ c.esize) (streamHeader 4 (4 * p.length) c.seq (s.dev.aux.batchFirst % 2 ^ 32) 0 ++ p ++
           List.replicate ((k * 2 ^ c.esize - 16 - 4 * p.length) / 4) 0) ∈ t.dev.out ∧ s.Framed (.aux :: eventParts) [] t)) ∧
   (∀ (s : State) (who : Requester) (c : Fin 4), s.dev.fore.off = false → s.dev.flag Reg.hdr_FREEZE 27 = false → ∀ val : Word,
     let v := val.toNat
     let old := s.dev.regWord (0x1B100 + 0x10 * c)
     let cfg := [Reg.auxf_flt_EN.key c, Reg.auxf_flt_ORDER.key c, Reg.auxf_flt_NOTCH.key c, Reg.auxf_flt_CHANNEL.key c, Reg.auxf_flt_PDIFF.key c,
       Reg.aux_auxc_STATE.key c, Reg.aux_auxc_STEP.key c, Reg.aux_auxc_INJ_PENDING.key c, Reg.hdr_CFG_EPOCH.key 27]
     let refused := fun (t : State) => t.dev.Raised 27 Ev.auxf_CFG_REFUSED ∧ t.dev.ErrHeld 27 0xF0 (0x100 + 0x10 * c + 4096 * who.code) v ∧
       s.Framed eventParts (faultKeys 27) t
     ∃ t, exec (.filterEnable who c val) s = .next t ∧
       (s.dev.fltOn c = false → bitField v 2 2 = 3 → refused t) ∧
       (s.dev.fltOn c = true → v % 2 ^ 11 ≠ old → v % 2 ^ 11 + 1 ≠ old → refused t) ∧
       (s.dev.fltOn c = true → s.dev.auxOn c = false → v % 2 ^ 11 + 1 = old → t.dev.fltOn c = false ∧ t.dev.fget Reg.aux_auxc_STATE c = 0 ∧
         t.dev.auxc c = {} ∧ s.Framed [.aux] cfg t) ∧
       (s.dev.fltOn c = false → v % 2 = 1 → bitField v 2 2 ≠ 3 → s.dev.fget Reg.aux_auxc_INJ_LEN c = 0 → t.dev.fltOn c = true ∧
         t.dev.fget Reg.aux_auxc_STATE c = 3 ∧ t.dev.auxc c = {} ∧ t.dev.fget Reg.auxf_flt_OUTPUTS c = 0 ∧ t.dev.flag Reg.auxf_flt_SETTLED c = false ∧
         t.dev.fget Reg.auxf_flt_CHANNEL c = bitField v 4 6 ∧ s.Framed [.aux] ([Reg.auxf_flt_OUTPUTS.key c, Reg.auxf_flt_SETTLED.key c] ++ cfg) t)) ∧
   ∀ (s : State) (c : Fin 4), s.dev.fore.off = false → s.dev.flag Reg.aux_auxc_INJ_PENDING c = false → ∀ code : Nat, code < 4096 →
     let k := s.dev.filterOrder c
     let x := s.dev.auxc c
     let ch := s.dev.fget Reg.auxf_flt_CHANNEL c
     let integ := integrate code (if x.integ.isEmpty then List.replicate k 0 else x.integ)
     let comb := combStep (integ.getLastD 0) (if x.comb.isEmpty then List.replicate k 0 else x.comb)
     let y := (16 * comb.2 + 64 ^ k / 2) / 64 ^ k
     let out := (x.count + 1) / 64
     ∃ t, exec (.filterConversion c code) s = .next t ∧ (s.dev.fltOn c = false → s.Framed [] [] t) ∧
       (s.dev.fltOn c = true → bitAt (s.dev.tactive 26 4 ch) 31 = false → (x.count + 1) % 64 ≠ 0 →
         t.dev.auxc c = { x with integ := integ, count := x.count + 1, lastAt := s.dev.tb.acc } ∧ t.dev.aux.waiting = s.dev.aux.waiting ∧
         s.Framed [.aux] [] t) ∧
       (s.dev.fltOn c = true → bitAt (s.dev.tactive 26 4 ch) 31 = false → (x.count + 1) % 64 = 0 →
         let ks := [Reg.auxf_flt_OUTPUTS.key c, Reg.auxf_flt_LAST.key c]
         t.dev.auxc c = { x with integ := integ, comb := comb.1, count := x.count + 1, lastAt := s.dev.tb.acc } ∧
         t.dev.fget Reg.auxf_flt_LAST c = y % 65536 ∧ t.dev.fget Reg.auxf_flt_OUTPUTS c = satAdd 31 (s.dev.fget Reg.auxf_flt_OUTPUTS c) 1 ∧
         t.dev.aux.waiting = s.dev.aux.waiting ++ [AuxResult.mk s.dev.auxInstant.1 c
           (auxWord0 (y % 65536) ch c false false false false false true (decide (out < k)) s.dev.auxSlow :: s.dev.auxInstant.2)] ∧
         (out ≠ k → s.Framed [.aux] ks t) ∧
         (out = k → t.dev.flag Reg.auxf_flt_SETTLED c = true ∧ t.dev.Raised 27 (Ev.auxf_SETTLED + c) ∧
           s.Framed (.aux :: eventParts) (Reg.auxf_flt_SETTLED.key c :: (ks ++ eventKeys 27)) t)))

/-- Injection (R421 to R427). An injection that is not armed, that INJ_MAP does not allow, or that would take the last redundancy of a degraded page's
group without FORCE is refused and counted. An injected overrange of an input is raised in its FE page, marked INJECTED, and counted, unless TARGET
names an element that the page does not have. ARM arms where the life-cycle permits it; DISARM and the end of the window disarm. -/
def Obligations.Injection : Prop :=
  (∀ (s : State) (who : Requester) (p : Fin 128) (e : Fin 32), s.dev.fore.off = false → hasHeader p = true → s.dev.flag Reg.hdr_FREEZE p = false →
    s.dev.flag Reg.inj_ARMED = false ∨ bitAt (injMapWord p) e = false →
    ∃ t, exec (.eventInject who p (BitVec.ofNat 32 (2 ^ e.val)) 0) s = .next t ∧
      t.dev.fget Reg.inj_REFUSED = satAdd 32 (s.dev.fget Reg.inj_REFUSED) 1 ∧ t.dev.Raised 7 Ev.inj_INJ_REFUSED ∧
      t.dev.ErrHeld 7 Ev.inj_INJ_REFUSED 0 0 ∧ s.Framed eventParts (Reg.inj_REFUSED.key 0 :: faultKeys 7) t) ∧
  (∀ (s : State) (who : Requester) (p : Fin 128), s.dev.fore.off = false → 12 ≤ p.val → p.val < 16 → s.dev.flag Reg.hdr_FREEZE p = false →
    s.dev.flag Reg.inj_ARMED = true → s.dev.isDegraded p = true → s.dev.fget Reg.loom_SPARES_LEFT (p - 12) ≤ 1 → s.dev.flag Reg.inj_FORCE = false →
    ∃ t, exec (.eventInject who p 1 0) s = .next t ∧ (s.injElement p 0 0 = none → s.Framed [] [] t) ∧
      (s.injElement p 0 0 ≠ none → t.dev.fget Reg.inj_REFUSED = satAdd 32 (s.dev.fget Reg.inj_REFUSED) 1 ∧ t.dev.Raised 7 Ev.inj_INJ_REFUSED ∧
        s.Framed eventParts (Reg.inj_REFUSED.key 0 :: faultKeys 7) t)) ∧
  (∀ (s : State) (who : Requester) (p : Fin 128), s.dev.fore.off = false → 8 ≤ p.val → p.val < 12 → s.dev.flag Reg.hdr_FREEZE p = false →
    s.dev.flag Reg.inj_ARMED = true → s.dev.fore.injecting = false →
    let elsewhere := s.dev.fget Reg.inj_PAGE = p ∧ s.dev.fget Reg.inj_ELEMENT ≠ 0
    ∃ t, exec (.eventInject who p 1 0) s = .next t ∧ (elsewhere → s.Framed [] [] t) ∧
      (¬ elsewhere → t.dev.Raised p Ev.fe_OVERRANGE ∧ t.dev.fget Reg.inj_INJECTIONS = satAdd 32 (s.dev.fget Reg.inj_INJECTIONS) 1 ∧
        t.dev.fget Reg.inj_LAST_PAGE = p ∧ t.dev.fget Reg.inj_LAST_BIT = 0 ∧
        (s.dev.fget Reg.hdr_EVENT p = 0 → t.dev.flag Reg.hdr_FIRST_INJECTED p = true ∧ t.dev.fget Reg.hdr_FIRST_BIT p = 0) ∧
        s.Framed eventParts ([Reg.inj_INJECTIONS.key 0, Reg.inj_LAST_PAGE.key 0, Reg.inj_LAST_BIT.key 0] ++ eventKeys p) t)) ∧
  (∀ (s : State) (who : Requester), s.dev.fore.off = false → s.dev.flag Reg.hdr_FREEZE 7 = false →
    ∃ t, exec (.injArm who) s = .next t ∧
      (s.dev.flag Reg.life_INJECT_PERMIT = true → t.dev.flag Reg.inj_ARMED = true ∧
        s.Framed [] [Reg.inj_ARMED.key 0, Reg.hdr_CFG_EPOCH.key 7] t) ∧
      (s.dev.flag Reg.life_INJECT_PERMIT = false → t.dev.flag Reg.inj_ARMED = s.dev.flag Reg.inj_ARMED ∧
        t.dev.fget Reg.inj_REFUSED = satAdd 32 (s.dev.fget Reg.inj_REFUSED) 1 ∧ t.dev.Raised 7 Ev.inj_INJ_REFUSED ∧
        t.dev.ErrHeld 7 Ev.inj_INJ_REFUSED 0 0 ∧ s.Framed eventParts (Reg.inj_REFUSED.key 0 :: faultKeys 7) t)) ∧
  (∀ (s : State) (who : Requester), s.dev.fore.off = false → s.dev.flag Reg.hdr_FREEZE 7 = false →
    ∃ t, exec (.injDisarm who) s = .next t ∧ (s.dev.flag Reg.inj_ARMED = false → s.Framed [] [Reg.hdr_CFG_EPOCH.key 7] t) ∧
      (s.dev.flag Reg.inj_ARMED = true → t.dev.flag Reg.inj_ARMED = false ∧ t.dev.Raised 7 Ev.inj_DISARMED ∧
        s.Framed eventParts ([Reg.inj_ARMED.key 0, Reg.hdr_CFG_EPOCH.key 7] ++ eventKeys 7) t)) ∧
  ∀ s : State, s.dev.fore.off = false →
    ∃ t, exec .armWindowExpiry s = .next t ∧ (s.dev.flag Reg.inj_ARMED = false → s.Framed [] [] t) ∧
      (s.dev.flag Reg.inj_ARMED = true → t.dev.flag Reg.inj_ARMED = false ∧ t.dev.Raised 7 Ev.inj_DISARMED ∧
        s.Framed eventParts (Reg.inj_ARMED.key 0 :: eventKeys 7) t)

/-- The SMBus target (R500). A Block Write to an aligned offset of a BAR0 page is a register write; a Process Call returns the bytes at the offset, here
those of a page's EVENT. An access that reaches no page or is not aligned returns a byte count of 0 and is recorded in TOP. The Alert Response Address
is answered while SMB_ALERT_N is low, which releases it. -/
def Obligations.SmbusTarget : Prop :=
  (∀ (s : State) (off : Nat) (val : Word), s.dev.fore.off = false →
    let reaches := off % 4 = 0 ∧ (off / 4096 ≤ 70 ∨ (72 ≤ off / 4096 ∧ off / 4096 < 78))
    ∃ t, exec (.smbusWrite off val) s = .next t ∧ (reaches → exec (.registerWrite .smbus off 15 val) s = .next t) ∧
      (¬ reaches → t.dev.out = .smbus [] :: s.dev.out ∧ t.dev.ErrHeld 0 0xF2 (off % 2 ^ 32) (4096 * Requester.smbus.code) ∧
        s.Framed [.out] (errKeys 0) t)) ∧
  (∀ (s : State) (off : Nat), s.dev.fore.off = false → off % 4 ≠ 0 ∨ off / 4096 = 71 ∨ 78 ≤ off / 4096 →
    ∃ t, exec (.smbusRead off) s = .next t ∧ t.dev.out = .smbus [] :: s.dev.out ∧
      t.dev.ErrHeld 0 0xF2 (off % 2 ^ 32) (4096 * Requester.smbus.code) ∧ s.Framed [.out] (errKeys 0) t) ∧
  (∀ (s : State) (p : Nat), s.dev.fore.off = false → p ≤ 70 →
    let w := s.dev.fget Reg.hdr_EVENT p
    ∃ t, exec (.smbusRead (4096 * p + 0x10)) s = .next t ∧
      t.dev.out = .smbus [w % 256, w / 2 ^ 8 % 256, w / 2 ^ 16 % 256, w / 2 ^ 24 % 256] :: s.dev.out ∧ s.Framed [.bus, .out] [] t) ∧
  ∀ s : State, s.dev.fore.off = false →
    ∃ t, exec .smbusAlertResponse s = .next t ∧ (s.dev.alertLow = false → s.Framed [] [] t) ∧
      (s.dev.alertLow = true → t.dev.out = .smbus [0xB4] :: s.dev.out ∧ t.dev.alertLow = false ∧ s.Framed [.out] [] t)

/-- The group tick (R464 to R468). Occurrences that pass the filter in force are added to their counter, which wraps at 2^48 with OVF; a crossing of
THRESH is recorded in SAMPLED and SAMPLE_INFO and raised; TICKS counts 1,024 slice-clock ticks. Then every group whose staged filter differs takes it
and increments FILTER_EPOCH, and the thresholds written come into force. -/
def Obligations.CounterGroups : Prop :=
  (∀ s : State, s.dev.fore.off = false → s.dev.tally.resetDue = false → s.dev.fore.injecting = false →
    ∃ t, exec (.groupTick []) s = .next t ∧
      (∀ g < 24, t.dev.groupFilter g = s.dev.stagedFilter g ∧
        KMap.at t.dev.tally.epoch 0 g = if s.dev.stagedFilter g = s.dev.groupFilter g then KMap.at s.dev.tally.epoch 0 g
          else (KMap.at s.dev.tally.epoch 0 g + 1) % 256) ∧
      (∀ c < 1536, KMap.at t.dev.tally.thresh 0 c = s.dev.tget 70 0 0 (2 * c) + 2 ^ 32 * (s.dev.tget 70 0 0 (2 * c + 1) % 65536)) ∧
      (∀ c < 1536, c % 64 ≠ 0 ∨ s.dev.sliceClock = false → KMap.at t.dev.tally.count 0 c = KMap.at s.dev.tally.count 0 c) ∧
      (s.dev.sliceClock = true → ∀ g < 24, (s.dev.groupFilter g = {} →
          KMap.at t.dev.tally.count 0 (64 * g) = (KMap.at s.dev.tally.count 0 (64 * g) + 1024) % 2 ^ 48) ∧
        ((s.dev.groupFilter g).priv ≠ 7 → KMap.at t.dev.tally.count 0 (64 * g) = KMap.at s.dev.tally.count 0 (64 * g))) ∧
      (s.dev.sliceClock = false → s.Framed [.tally] [] t) ∧ s.Framed (.tally :: eventParts) ((List.range 24).flatMap countKeys) t) ∧
  (∀ s : State, s.dev.fore.off = false → s.dev.tally.resetDue = true → s.dev.sliceClock = false →
    ∃ t, exec (.groupTick []) s = .next t ∧ t.dev.tally.resetDue = false ∧ t.dev.tally.count = s.dev.tally.count ∧
      (∀ g < 24, t.dev.groupFilter g = {}) ∧ (∀ c < 1536, KMap.at t.dev.tally.thresh 0 c = 0) ∧
      s.Framed [.tabs, .tally] ((List.range 24).flatMap fun g => [Reg.grp_PRIV.key g, Reg.grp_MASTER_KIND.key g, Reg.grp_MASTER_LO.key g,
        Reg.grp_MASTER_HI.key g, Reg.grp_ADDR_LO_W0.key g, Reg.grp_ADDR_LO_W1.key g, Reg.grp_ADDR_HI_W0.key g, Reg.grp_ADDR_HI_W1.key g,
        Reg.grp_SUBCLASS.key g]) t) ∧
  ∀ s : State, s.dev.fore.off = false → s.dev.tally.resetDue = false → s.dev.sliceClock = false → s.dev.fore.injecting = false → ∀ e : TallyEvent,
    let c := e.counter.val
    let g := c / 64
    let sum := KMap.at s.dev.tally.count 0 c + e.count
    let thr := KMap.at s.dev.tally.thresh 0 c
    let f := s.dev.groupFilter g
    let privOk := f.priv = 7 ∨ e.attr.priv.any (bitAt f.priv) = true
    f.masterKind = 0 → f.addrLo = 0 → f.addrHi = 0xFFFFFFFFF → f.subclass = 0xFFFF →
    ∃ t, exec (.groupTick [e]) s = .next t ∧
      (∀ k < 1536, k ≠ c → KMap.at t.dev.tally.count 0 k = KMap.at s.dev.tally.count 0 k) ∧
      (¬ privOk → KMap.at t.dev.tally.count 0 c = KMap.at s.dev.tally.count 0 c ∧ s.Framed [.tally] [] t) ∧
      (privOk → KMap.at t.dev.tally.count 0 c = sum % 2 ^ 48 ∧ (sum < 2 ^ 48 → thr = 0 ∨ sum < thr → s.Framed [.tally] [] t) ∧
        (2 ^ 48 ≤ sum → KMap.at t.dev.tally.ovf false c = true ∧ t.dev.Raised 70 Ev.tally_OVERFLOW) ∧
        (0 < thr → KMap.at s.dev.tally.count 0 c < thr → thr ≤ sum →
          bitAt (t.dev.fget (if c % 64 < 32 then Reg.grp_SAMPLED_W0 else Reg.grp_SAMPLED_W1) g) (c % 32) = true ∧
          t.dev.fget Reg.grp_SAMPLE_CNT g = c ∧ t.dev.Raised 70 g) ∧
        s.Framed (.tally :: eventParts) (countKeys g) t)

/-- Ageing and the margin plan (R428 to R432, Tables 18.2 and 18.3). A measurement stores DEG of a monitor from the counts of its two oscillators, counts
an hour, and asks for a plan where a monitor has moved by more than 1,000 ppm. Daily summaries are kept for 4,096 days, beyond that one in 30.
RECOMPUTE asks for a plan; a running Foreman starts one. A complete plan shows the fields that Table 18.3 derives, and is stored in the copy not in
force: a failed store leaves the stored plan as it was. Supply voltages and temperature (R433 to R440, Table 18.5). A voltage write moves its rail by
at most 5 mV towards the least voltage in both the safety envelope and the policy range, or the envelope's bound nearest the policy, which raises
POLICY_CONFLICT; an envelope that cannot be met is held at V_MAX and raises MARGIN_EXHAUSTED. Three failures hold the voltage; a retry that works
releases it. The highest valid reading decides the throttle stage; a reading out of range excludes its sensor. The bench islands step by 200 MHz. A
trip stores its sensor, pulls THERM_N low and stops the device. -/
def Obligations.AgeingAndPower : Prop :=
  ((∀ (s : State) (f r : Nat), s.dev.fore.off = false → 0 < r →
     let num : Int := 1000000 * ((r : Int) - f)
     let q := num / (r : Int)
     let h := min (2 ^ 32 - 1) (s.nv.hours + 1)
     ∃ t, exec (.ageingMeasure [(f, r)]) s = .next t ∧ t.nv = { s.nv with hours := h } ∧ t.dev.fget Reg.age_HOURS = h ∧
       (num % (r : Int) = 0 → t.dev.deg 0 = clampInt (-32768) 32767 q) ∧
       (num % (r : Int) ≠ 0 → t.dev.deg 0 = clampInt (-32768) 32767 q ∨ t.dev.deg 0 = clampInt (-32768) 32767 (q + 1)) ∧
       (∀ k < 95, t.dev.deg (k + 1) = s.dev.deg (k + 1)) ∧
       ((∃ k : Fin 96, 1000 < (t.dev.deg k - KMap.at s.dev.fore.planDeg 0 k).natAbs) → t.dev.fore.planDue = true) ∧
       s.pending = t.pending ∧ s.hbm = t.hbm ∧
       s.dev.Framed [.tabs, .freeCtr, .fore] [Reg.age_DEG_MAX_CORE.key 0, Reg.age_DEG_MAX_SRAM.key 0, Reg.age_HOURS.key 0] t.dev) ∧
   (∀ (s : State) (values : List (Nat × Nat × Int)), s.dev.fore.off = false →
     ∃ t, exec (.trendSummary values) s = .next t ∧ s.dev.Framed [] [] t.dev ∧ s.pending = t.pending ∧ s.hbm = t.hbm ∧
       (s.dev.fore.running = false → t.nv = s.nv) ∧
       (s.dev.fore.running = true → t.nv = { s.nv with trends := t.nv.trends } ∧
         (∀ v ∈ values, { hours := s.nv.hours, code := v.1, element := v.2.1, value := v.2.2 } ∈ t.nv.trends) ∧
         ∀ x ∈ s.nv.trends, s.nv.hours / 24 ≤ x.hours / 24 + 4096 ∨ x.hours / 24 % 30 = 0 → x ∈ t.nv.trends)) ∧
   (∀ (s : State) (who : Requester), s.dev.fore.off = false → s.dev.flag Reg.hdr_FREEZE 4 = false →
     ∃ t, exec (.recompute who) s = .next t ∧ t.dev.fore = { s.dev.fore with
       planDue := true
       alertAnswered := t.dev.fore.alertAnswered } ∧ s.Framed [.fore] [Reg.hdr_CFG_EPOCH.key 4] t) ∧
   (∀ s : State, s.dev.fore.off = false →
     ∃ t, exec .planStart s = .next t ∧ (s.dev.fore.running = false → s.Framed [] [] t) ∧
       (s.dev.fore.running = true → t.dev.flag Reg.age_COMPUTING = true ∧ t.dev.fore.planDue = false ∧
         s.Framed [.fore] [Reg.age_COMPUTING.key 0] t)) ∧
   ∀ (s : State) (p : PlanData), s.dev.fore.off = false →
     let core := s.dev.degMax 0 88
     let sram := s.dev.degMax 88 8
     let on := s.dev.flag Reg.age_COMPUTING = true ∧ s.dev.fore.running = true
     let all := trendCodes.flatMap fun c => s.nv.projections c
     let ask := s.dev.planRetires (s.dev.retireList s.nv)
     let floor := fun (r : Nat) => if 1277952 ≤ 10 * r then 0 else if 1277952 ≤ 20 * r then 1 else if 1277952 ≤ 40 * r then 2 else 3
     ∃ t, exec (.planDone p) s = .next t ∧ (¬ on → t.nv = s.nv ∧ s.Framed [] [] t) ∧
       (on → t.dev.flag Reg.age_COMPUTING = false ∧ t.dev.flag Reg.age_VALID = true ∧ t.dev.Raised 4 Ev.age_PLAN_DONE ∧
         t.dev.fget Reg.age_GUARD_CORE = 20 + (core + 999) / 1000 ∧ t.dev.fget Reg.age_GUARD_SRAM = 15 + (sram + 999) / 1000 ∧
         t.dev.fget Reg.age_REF_FLOOR_0 = floor p.tRet0 ∧ t.dev.fget Reg.age_REF_FLOOR_1 = floor p.tRet1 ∧
         t.dev.fget Reg.age_RETRAIN_DAYS = (if s.dev.eyeNear then 7 else 30) ∧
         (∀ x ∈ all, t.dev.fget Reg.age_PROJECTED_YEARS ≤ 10 * x.num / (8766 * x.den) + 1) ∧
         (all = [] → t.dev.fget Reg.age_PROJECTED_YEARS = 9999) ∧
         (t.dev.fget Reg.age_PROJECTED_YEARS < 9999 → (all.any fun x => t.dev.fget Reg.age_LIMITER == x.code &&
           (t.dev.fget Reg.age_PROJECTED_YEARS == 10 * x.num / (8766 * x.den) || t.dev.fget Reg.age_PROJECTED_YEARS == 10 * x.num / (8766 * x.den) + 1)) = true) ∧
         (∀ lo : Fin 400, s.nv.hours = 10000 → s.nv.trends = [⟨10000, 1, 0, 450 + lo.val⟩, ⟨0, 1, 0, 350 + lo.val⟩] →
           t.dev.fget Reg.age_LIMITER = 1 ∧ 8766 * t.dev.fget Reg.age_PROJECTED_YEARS ≤ 10 * ((500 - lo.val) ^ 2 - 10000) + 8766 ∧
           10 * ((500 - lo.val) ^ 2 - 10000) ≤ 8766 * t.dev.fget Reg.age_PROJECTED_YEARS + 8766) ∧
         (∀ c ∈ trendCodes, t.dev.tget 4 1 0 (4 * (c - 1)) % 65536 = c) ∧
         (p.stored = true → (t.nv.plan.map Plan.seq) = some ((s.nv.plan.map Plan.seq).getD 0 + 1)) ∧
         (p.stored = false → t.nv.plan = s.nv.plan ∧ t.dev.Raised 4 Ev.age_PLAN_STORE_FAIL) ∧
         t.nv = { s.nv with
           planA := t.nv.planA
           planB := t.nv.planB } ∧ s.pending = t.pending ∧ s.hbm = t.hbm ∧
         (∀ x ∈ ask, t.dev.Raised 4 Ev.age_RETIRE_REQUESTED ∧ (t.dev.retiring (x / 34) = true ∨ t.dev.Raised (12 + x / 34) Ev.loom_RETIRE_REFUSED)) ∧
         (ask = [] → s.dev.Framed ([.tabs, .mem, .fore, .freeCtr] ++ eventParts) ([Reg.age_COMPUTING.key 0, Reg.age_VALID.key 0, Reg.age_DEFAULT.key 0, Reg.age_PLAN_SEQ.key 0,
           Reg.age_PROJECTED_YEARS.key 0, Reg.age_LIMITER.key 0, Reg.age_GUARD_CORE.key 0, Reg.age_GUARD_SRAM.key 0, Reg.age_REF_FLOOR_0.key 0,
           Reg.age_REF_FLOOR_1.key 0, Reg.age_RETRAIN_DAYS.key 0] ++ ([0, 1].flatMap fun m => [Reg.memc_MULT.key m, Reg.memc_OVERRIDDEN_REF.key m,
           Reg.memc_OWED_MAX.key m, Reg.memc_CATCHUPS.key m]) ++ eventKeys 4 ++ eventKeys 64 ++ eventKeys 65) t.dev))) ∧
  ((∀ (s : State) (sram : Bool) (cpm ma : Nat), s.dev.fore.off = false → cpm < 1000 →
     let off := s.dev.flag Reg.top_ROM_DONE = false ∨ s.dev.flag Reg.pwr_AVS_HOLD = true
     let nowF := if sram then Reg.pwr_VSRAM_NOW else Reg.pwr_VCORE_NOW
     let ovF := if sram then Reg.pwr_OVERRIDDEN_SRAM else Reg.pwr_OVERRIDDEN_CORE
     let pF := if sram then Reg.pwr_P_SRAM else Reg.pwr_P_CORE
     let cpmF := if sram then Reg.pwr_V_CPM_SRAM else Reg.pwr_V_CPM_CORE
     let now := s.dev.fget nowF
     let polMin := s.dev.fget (if sram then Reg.pwr_VSRAM_POL_MIN else Reg.pwr_VCORE_POL_MIN)
     let polMax := s.dev.fget (if sram then Reg.pwr_VSRAM_POL_MAX else Reg.pwr_VCORE_POL_MAX)
     let lo := cpm + s.dev.fget (if sram then Reg.age_GUARD_SRAM else Reg.age_GUARD_CORE)
     let hi : Nat := if sram then 860 else 850
     let moved := fun (t : State) (target : Nat) => t.dev.fget nowF = max (now - 5) (min (now + 5) target)
     let ks := [nowF.key 0, ovF.key 0, pF.key 0, cpmF.key 0, Reg.pwr_EXHAUSTED.key 0] ++ eventKeys 3
     ∃ t, exec (.avsTransaction sram cpm ma) s = .next t ∧ (off → s.Framed [] [] t) ∧
       (¬ off → s.Framed ([.freeCtr, .contained] ++ eventParts) ks t ∧ t.dev.fget cpmF = cpm ∧
         (now < 60000 → hi < lo → moved t hi ∧ t.dev.flag Reg.pwr_EXHAUSTED = true ∧ t.dev.isContained 3 = true ∧ t.dev.flag ovF = false ∧
           (s.dev.flag Reg.pwr_EXHAUSTED = false → t.dev.Raised 3 Ev.pwr_MARGIN_EXHAUSTED)) ∧
         (now < 60000 → lo ≤ hi → max lo polMin ≤ min hi polMax → moved t (max lo polMin) ∧ t.dev.flag ovF = false) ∧
         (now < 60000 → lo ≤ hi → min hi polMax < max lo polMin → moved t (if hi < polMin then hi else lo) ∧ t.dev.flag ovF = true ∧
           (s.dev.flag ovF = false → t.dev.Raised 3 Ev.pwr_POLICY_CONFLICT)) ∧
         (now < 60000 → t.dev.fget nowF ≠ now → .avs sram (t.dev.fget nowF) ∈ t.dev.out))) ∧
   (∀ (s : State) (sram : Bool), s.dev.fore.off = false →
     ∃ t, exec (.avsFail sram) s = .next t ∧ (s.dev.flag Reg.pwr_AVS_HOLD = true → s.Framed [] [] t) ∧
       (s.dev.flag Reg.pwr_AVS_HOLD = false → t.dev.flag Reg.pwr_AVS_HOLD = true ∧ t.dev.isDegraded 3 = true ∧ t.dev.Raised 3 Ev.pwr_AVS_FAIL ∧
         t.dev.ErrHeld 3 Ev.pwr_AVS_FAIL (Bool.bit sram) 0 ∧ s.Framed (.degraded :: eventParts) (Reg.pwr_AVS_HOLD.key 0 :: faultKeys 3) t)) ∧
   (∀ (s : State) (ok : Bool), s.dev.fore.off = false →
     let held := s.dev.flag Reg.pwr_AVS_HOLD = true ∧ ok = true
     ∃ t, exec (.avsRetry ok) s = .next t ∧ (¬ held → s.Framed [] [] t) ∧
       (held → t.dev.flag Reg.pwr_AVS_HOLD = false ∧ t.dev.fget Reg.hdr_RECOVERY_COUNT 3 = satAdd 32 (s.dev.fget Reg.hdr_RECOVERY_COUNT 3) 1 ∧
         s.Framed [.degraded] [Reg.pwr_AVS_HOLD.key 0, Reg.hdr_RECOVERY_COUNT.key 3] t)) ∧
   (∀ s : State, s.dev.fore.off = false → ∀ temp : Int, -880 ≤ temp → temp ≤ 2800 → (∃ i : Fin 12, s.dev.sensorOn i = true) →
     let thr : Int := 16 * s.dev.fget Reg.pwr_THROTTLE_TJ
     let old := s.dev.fget Reg.pwr_STAGE
     ∃ t, exec (.thermalRead (List.replicate 12 temp)) s = .next t ∧ (∀ i : Fin 12, t.dev.sensorOn i = s.dev.sensorOn i) ∧
       t.dev.fore.tj = temp ∧ (temp % 4 = 0 → t.dev.fgetS Reg.pwr_TJ_MAX = 25 * temp / 4) ∧ (2320 ≤ temp → t.dev.fget Reg.pwr_STAGE = 3) ∧
       (temp < 2320 → temp < thr → old = 0 → t.dev.fget Reg.pwr_STAGE = 0) ∧
       (temp ≤ 2272 → thr ≤ temp → temp ≤ thr + 80 → t.dev.fget Reg.pwr_STAGE = 1) ∧
       (temp ≤ 2272 → thr + 128 ≤ temp → s.dev.fget Reg.pwr_JM_MHZ = 400 → t.dev.fget Reg.pwr_STAGE = 2) ∧
       (temp ≤ 2272 → temp ≤ thr - 48 → t.dev.fget Reg.pwr_STAGE = 0) ∧
       t.dev.fget Reg.pwr_TILL_MHZ = (if 2 ≤ t.dev.fget Reg.pwr_STAGE then 800 else 1600) ∧
       (old < t.dev.fget Reg.pwr_STAGE → t.dev.Raised 3 Ev.pwr_THROTTLE) ∧
       (old ≠ 0 → t.dev.fget Reg.pwr_STAGE = 0 → t.dev.Raised 3 Ev.pwr_THROTTLE_END) ∧
       (2240 ≤ temp → s.dev.fore.tj < 2240 → t.dev.Raised 3 Ev.pwr_THERM_WARN) ∧
       s.Framed ([.freeCtr, .fore] ++ eventParts) ([Reg.pwr_TJ_MAX.key 0, Reg.pwr_STAGE.key 0, Reg.pwr_TILL_MHZ.key 0] ++
         ((List.range 12).map fun i => Reg.pwr_TEMP.key i) ++ eventKeys 3) t) ∧
   (∀ (s : State) (i : Fin 12) (temp : Int), s.dev.fore.off = false → s.dev.sensorOn i = true → temp < -880 ∨ 2800 < temp →
     let temps := (List.range 12).map fun j => if j = i.val then temp else 400
     ∃ t, exec (.thermalRead temps) s = .next t ∧ t.dev.sensorOn i = false ∧ t.dev.isDegraded 3 = true ∧ t.dev.Raised 3 Ev.pwr_SENSOR_FAIL ∧
       t.dev.ErrHeld 3 Ev.pwr_SENSOR_FAIL i 0 ∧ (∀ j : Fin 12, j ≠ i → t.dev.sensorOn j = s.dev.sensorOn j) ∧
       s.Framed ([.freeCtr, .fore, .degraded] ++ eventParts) ([Reg.pwr_TS_VALID.key 0, Reg.pwr_TJ_MAX.key 0, Reg.pwr_STAGE.key 0,
         Reg.pwr_TILL_MHZ.key 0] ++ ((List.range 12).map fun j => Reg.pwr_TEMP.key j) ++ faultKeys 3) t) ∧
   (∀ s : State, s.dev.fore.off = false → s.dev.fget Reg.pwr_JM_MHZ < 60000 →
     let f := s.dev.fget Reg.pwr_JM_MHZ
     ∃ t, exec .throttleStep s = .next t ∧ s.Framed [] [Reg.pwr_JM_MHZ.key 0] t ∧
       t.dev.fget Reg.pwr_JM_MHZ = if s.dev.fget Reg.pwr_STAGE = 0 then min 1600 (f + 200) else max 400 (f - 200)) ∧
   ∀ (s : State) (n : Fin 12), s.dev.fore.off = false →
     ∃ t, exec (.thermalTrip n) s = .next t ∧
       (s.dev.sensorOn n = false → t.nv = s.nv ∧ s.Framed [] [] t) ∧
       (s.dev.sensorOn n = true → t.nv = { s.nv with trip := some n.val } ∧ t.dev.fore.thermN = true ∧ t.dev.fore.off = true ∧
         (s.dev.fore.tj < 2240 → t.dev.Raised 3 Ev.pwr_THERM_WARN) ∧ s.pending = t.pending ∧ s.hbm = t.hbm ∧
         s.dev.Framed (.fore :: eventParts) (eventKeys 3) t.dev))
end

