-- ==== Sys2Proof/Laws/KMap.lean ====
section
/-!
SUPPORT. What putting a value into a finite map does to what is found there.
-/

namespace Sys2Proof.Machine

variable {α : Type}

theorem KMap.find_put (m : KMap α) (k : Nat) (v : α) (j : Nat) :
    KMap.find (KMap.put m k v) j = if j = k then some v else KMap.find m j := by
  induction m with
  | nil => simp [KMap.put, KMap.find]
  | cons p t ih =>
    obtain ⟨a, b⟩ := p
    by_cases h1 : k < a
    · simp [KMap.put, h1, KMap.find]
    · by_cases h2 : k = a
      · subst h2; by_cases h3 : j = k <;> simp [KMap.put, KMap.find, h3]
      · by_cases h3 : j = a
        · subst h3; simp [KMap.put, h1, h2, KMap.find]; intro h; exact absurd h.symm h2
        · simp [KMap.put, h1, h2, KMap.find, h3, ih]

@[simp] theorem KMap.find_put_same (m : KMap α) (k : Nat) (v : α) : KMap.find (KMap.put m k v) k = some v := by
  simp [KMap.find_put]

theorem KMap.find_put_other (m : KMap α) {k j : Nat} (v : α) (h : j ≠ k) :
    KMap.find (KMap.put m k v) j = KMap.find m j := by simp [KMap.find_put, h]

theorem KMap.at_put (m : KMap α) (d : α) (k : Nat) (v : α) (j : Nat) :
    KMap.at (KMap.put m k v) d j = if j = k then v else KMap.at m d j := by
  unfold KMap.at; rw [KMap.find_put]; split <;> rfl

@[simp] theorem KMap.at_put_same (m : KMap α) (d : α) (k : Nat) (v : α) : KMap.at (KMap.put m k v) d k = v := by
  simp [KMap.at_put]

@[simp] theorem KMap.at_nil (d : α) (k : Nat) : KMap.at ([] : KMap α) d k = d := rfl

/-- Two maps that agree at a key read alike there. -/
theorem KMap.at_congr {m m' : KMap α} {k : Nat} (d : α) (h : KMap.find m k = KMap.find m' k) :
    KMap.at m d k = KMap.at m' d k := by unfold KMap.at; rw [h]

end Sys2Proof.Machine
end

