-- ==== Sys2Proof/Laws/Memory.lean ====
section
/-!
SUPPORT. Every memory operation keeps the canonical form, and what a store does to what is read.
-/

namespace Sys2Proof.Machine

theorem Memory.wf_cons {a : Host.Cell} {t : Memory} (h : Memory.wf (a :: t) = true) : Memory.wf t = true := by
  cases t with
  | nil => rfl
  | cons b t => simp [Memory.wf] at h; exact h.2

/-- In a canonical memory every later offset lies above the first. -/
theorem Memory.wf_head_lt {a : Host.Cell} {t : Memory} (h : Memory.wf (a :: t) = true) : ∀ c ∈ t, a.1 < c.1 := by
  induction t generalizing a with
  | nil => intro c hc; cases hc
  | cons b t ih =>
    intro c hc
    simp [Memory.wf] at h
    rcases List.mem_cons.mp hc with rfl | hc
    · exact h.1
    · exact Nat.lt_trans h.1 (ih h.2 c hc)

theorem Memory.wf_of_lt {a : Host.Cell} {t : Memory} (h : ∀ c ∈ t, a.1 < c.1) (ht : Memory.wf t = true) :
    Memory.wf (a :: t) = true := by
  cases t with
  | nil => rfl
  | cons b t => simp [Memory.wf]; exact ⟨h b (List.mem_cons_self ..), ht⟩

theorem Memory.mem_write {m : Memory} {a : Nat} {b : Byte} {c : Host.Cell} (h : c ∈ Memory.write m a b) :
    c = (a, b) ∨ c ∈ m := by
  induction m with
  | nil => simp [Memory.write] at h; exact .inl h
  | cons p t ih =>
    obtain ⟨k, v⟩ := p
    unfold Memory.write at h
    split at h
    · rcases List.mem_cons.mp h with h | h
      · exact .inl h
      · exact .inr h
    · split at h
      · rcases List.mem_cons.mp h with h | h
        · exact .inl h
        · exact .inr (List.mem_cons_of_mem _ h)
      · rcases List.mem_cons.mp h with h | h
        · exact .inr (by rw [h]; exact List.mem_cons_self ..)
        · rcases ih h with h | h
          · exact .inl h
          · exact .inr (List.mem_cons_of_mem _ h)

/-- A store of one byte keeps the canonical form. -/
theorem Memory.write_wf {m : Memory} (a : Nat) (b : Byte) (h : Memory.wf m = true) : Memory.wf (Memory.write m a b) = true := by
  induction m with
  | nil => rfl
  | cons p t ih =>
    obtain ⟨k, v⟩ := p
    have hlt := Memory.wf_head_lt h
    unfold Memory.write
    split
    · next hak =>
      refine Memory.wf_of_lt (fun c hc => ?_) h
      rcases List.mem_cons.mp hc with rfl | hc
      · exact hak
      · exact Nat.lt_trans hak (hlt c hc)
    · split
      · next hak => subst hak; exact Memory.wf_of_lt hlt (Memory.wf_cons h)
      · next h1 h2 =>
        refine Memory.wf_of_lt (fun c hc => ?_) (ih (Memory.wf_cons h))
        rcases Memory.mem_write hc with rfl | hc
        · show k < a; omega
        · exact hlt c hc

theorem Memory.writeBytes_wf (bs : List Byte) : ∀ {m : Memory} (a : Nat), Memory.wf m = true →
    Memory.wf (Memory.writeBytes m a bs) = true := by
  induction bs with
  | nil => intro m a h; exact h
  | cons b bs ih => intro m a h; exact ih (a + 1) (Memory.write_wf a b h)

theorem Memory.writeWords_wf (ws : List Nat) : ∀ {m : Memory} (a : Nat), Memory.wf m = true →
    Memory.wf (Memory.writeWords m a ws) = true := by
  induction ws with
  | nil => intro m a h; exact h
  | cons w ws ih => intro m a h; exact ih (a + 4) (Memory.writeBytes_wf _ a h)

theorem Memory.filter_wf (f : Host.Cell → Bool) {m : Memory} (h : Memory.wf m = true) : Memory.wf (m.filter f) = true := by
  induction m with
  | nil => rfl
  | cons p t ih =>
    have ht := ih (Memory.wf_cons h)
    have hlt := Memory.wf_head_lt h
    rw [List.filter_cons]
    split
    · exact Memory.wf_of_lt (fun c hc => hlt c (List.mem_filter.mp hc).1) ht
    · exact ht

/-- Losing bytes keeps the canonical form. -/
theorem Memory.lose_wf {m : Memory} (a n : Nat) (h : Memory.wf m = true) : Memory.wf (Memory.lose m a n) = true :=
  Memory.filter_wf _ h

theorem Memory.read_none_of_lt {m : Memory} {a : Nat} (h : ∀ c ∈ m, a < c.1) : Memory.read m a = none := by
  induction m with
  | nil => rfl
  | cons p t ih =>
    obtain ⟨k, v⟩ := p
    have hk : a < k := h (k, v) (List.mem_cons_self ..)
    have : a ≠ k := by omega
    simp [Memory.read, this]
    exact ih fun c hc => h c (List.mem_cons_of_mem _ hc)

/-- What a byte reads as after a store: the byte stored at its own offset, every other one as before. -/
theorem Memory.read_write {m : Memory} (a : Nat) (b : Byte) (j : Nat) :
    Memory.read (Memory.write m a b) j = if j = a then some b else Memory.read m j := by
  induction m with
  | nil => simp [Memory.write, Memory.read]
  | cons p t ih =>
    obtain ⟨k, v⟩ := p
    unfold Memory.write
    split
    · simp [Memory.read]
    · split
      · next hak => subst hak; by_cases hj : j = a <;> simp [Memory.read, hj]
      · next h1 h2 =>
        by_cases hj : j = k
        · subst hj
          have : j ≠ a := fun e => h2 e.symm
          simp [Memory.read, this]
        · simp [Memory.read, hj, ih]

theorem Memory.read_writeBytes_other (bs : List Byte) : ∀ {m : Memory} (a j : Nat), j < a ∨ a + bs.length ≤ j →
    Memory.read (Memory.writeBytes m a bs) j = Memory.read m j := by
  induction bs with
  | nil => intro m a j _; rfl
  | cons b bs ih =>
    intro m a j h
    simp only [List.length_cons] at h
    show Memory.read (Memory.writeBytes (Memory.write m a b) (a + 1) bs) j = _
    rw [ih (a + 1) j (by omega), Memory.read_write, if_neg (by omega)]

theorem Memory.read_writeBytes_same (bs : List Byte) : ∀ {m : Memory} (a k : Nat) (h : k < bs.length),
    Memory.read (Memory.writeBytes m a bs) (a + k) = some bs[k] := by
  induction bs with
  | nil => intro m a k h; simp at h
  | cons b bs ih =>
    intro m a k h
    show Memory.read (Memory.writeBytes (Memory.write m a b) (a + 1) bs) (a + k) = _
    cases k with
    | zero => rw [Memory.read_writeBytes_other bs (a + 1) (a + 0) (by omega), Memory.read_write]; simp
    | succ k =>
      have := ih (m := Memory.write m a b) (a + 1) k (by simpa using h)
      rw [show a + 1 + k = a + (k + 1) by omega] at this
      simpa using this

end Sys2Proof.Machine
end

