-- ==== Sys2Proof/Laws/State.lean ====
section
/-!
SUPPORT. The fields of the state under each update, one lemma per field per update, so that no later proof unfolds a record
update.
-/

namespace Sys2Proof.Machine

/-! ### The whole machine -/

@[simp] theorem State.withRest_pending (s : State) (r : List Instr) : (s.withRest r).pending = r := rfl
@[simp] theorem State.withRest_dev (s : State) (r : List Instr) : (s.withRest r).dev = s.dev := rfl
@[simp] theorem State.withRest_nv (s : State) (r : List Instr) : (s.withRest r).nv = s.nv := rfl
@[simp] theorem State.withRest_hbm (s : State) (r : List Instr) : (s.withRest r).hbm = s.hbm := rfl

@[simp] theorem State.withCommand_pending (s : State) (c : Instr) : (s.withCommand c).pending = c :: s.pending := rfl
@[simp] theorem State.withCommand_dev (s : State) (c : Instr) : (s.withCommand c).dev = s.dev := rfl
@[simp] theorem State.withCommand_nv (s : State) (c : Instr) : (s.withCommand c).nv = s.nv := rfl
@[simp] theorem State.withCommand_hbm (s : State) (c : Instr) : (s.withCommand c).hbm = s.hbm := rfl

@[simp] theorem State.onDev_pending (s : State) (f : Dev → Dev) : (s.onDev f).pending = s.pending := rfl
@[simp] theorem State.onDev_dev (s : State) (f : Dev → Dev) : (s.onDev f).dev = f s.dev := rfl
@[simp] theorem State.onDev_nv (s : State) (f : Dev → Dev) : (s.onDev f).nv = s.nv := rfl
@[simp] theorem State.onDev_hbm (s : State) (f : Dev → Dev) : (s.onDev f).hbm = s.hbm := rfl

@[simp] theorem State.onDevNv_pending (s : State) (f : Dev → NonVolatile → Dev × NonVolatile) : (s.onDevNv f).pending = s.pending := rfl
@[simp] theorem State.onDevNv_dev (s : State) (f : Dev → NonVolatile → Dev × NonVolatile) : (s.onDevNv f).dev = (f s.dev s.nv).1 := rfl
@[simp] theorem State.onDevNv_nv (s : State) (f : Dev → NonVolatile → Dev × NonVolatile) : (s.onDevNv f).nv = (f s.dev s.nv).2 := rfl
@[simp] theorem State.onDevNv_hbm (s : State) (f : Dev → NonVolatile → Dev × NonVolatile) : (s.onDevNv f).hbm = s.hbm := rfl

@[simp] theorem State.hbmStore_pending (s : State) (a : Nat) (ws : List Nat) : (s.hbmStore a ws).pending = s.pending := rfl
@[simp] theorem State.hbmStore_dev (s : State) (a : Nat) (ws : List Nat) : (s.hbmStore a ws).dev = s.dev := rfl
@[simp] theorem State.hbmStore_nv (s : State) (a : Nat) (ws : List Nat) : (s.hbmStore a ws).nv = s.nv := rfl
@[simp] theorem State.hbmStore_hbm (s : State) (a : Nat) (ws : List Nat) : (s.hbmStore a ws).hbm = Memory.writeWords s.hbm a ws := rfl

@[simp] theorem State.hbmStoreBytes_pending (s : State) (a : Nat) (bs : List Byte) : (s.hbmStoreBytes a bs).pending = s.pending := rfl
@[simp] theorem State.hbmStoreBytes_dev (s : State) (a : Nat) (bs : List Byte) : (s.hbmStoreBytes a bs).dev = s.dev := rfl
@[simp] theorem State.hbmStoreBytes_nv (s : State) (a : Nat) (bs : List Byte) : (s.hbmStoreBytes a bs).nv = s.nv := rfl
@[simp] theorem State.hbmStoreBytes_hbm (s : State) (a : Nat) (bs : List Byte) : (s.hbmStoreBytes a bs).hbm = Memory.writeBytes s.hbm a bs := rfl

@[simp] theorem State.alertNote_pending (s : State) : s.alertNote.pending = s.pending := rfl
@[simp] theorem State.alertNote_nv (s : State) : s.alertNote.nv = s.nv := rfl
@[simp] theorem State.alertNote_hbm (s : State) : s.alertNote.hbm = s.hbm := rfl
@[simp] theorem State.alertNote_regs (s : State) : s.alertNote.dev.regs = s.dev.regs := rfl
@[simp] theorem State.alertNote_tabs (s : State) : s.alertNote.dev.tabs = s.dev.tabs := rfl
@[simp] theorem State.alertNote_tctl (s : State) : s.alertNote.dev.tctl = s.dev.tctl := rfl
@[simp] theorem State.alertNote_bus (s : State) : s.alertNote.dev.bus = s.dev.bus := rfl
@[simp] theorem State.alertNote_qm (s : State) : s.alertNote.dev.qm = s.dev.qm := rfl
@[simp] theorem State.alertNote_pcie (s : State) : s.alertNote.dev.pcie = s.dev.pcie := rfl
@[simp] theorem State.alertNote_clk (s : State) : s.alertNote.dev.clk = s.dev.clk := rfl
@[simp] theorem State.alertNote_tb (s : State) : s.alertNote.dev.tb = s.dev.tb := rfl
@[simp] theorem State.alertNote_tally (s : State) : s.alertNote.dev.tally = s.dev.tally := rfl
@[simp] theorem State.alertNote_loom (s : State) : s.alertNote.dev.loom = s.dev.loom := rfl
@[simp] theorem State.alertNote_assay (s : State) : s.alertNote.dev.assay = s.dev.assay := rfl
@[simp] theorem State.alertNote_vern (s : State) : s.alertNote.dev.vern = s.dev.vern := rfl
@[simp] theorem State.alertNote_trig (s : State) : s.alertNote.dev.trig = s.dev.trig := rfl
@[simp] theorem State.alertNote_tseq (s : State) : s.alertNote.dev.tseq = s.dev.tseq := rfl
@[simp] theorem State.alertNote_tic (s : State) : s.alertNote.dev.tic = s.dev.tic := rfl
@[simp] theorem State.alertNote_acq (s : State) : s.alertNote.dev.acq = s.dev.acq := rfl
@[simp] theorem State.alertNote_chains (s : State) : s.alertNote.dev.chains = s.dev.chains := rfl
@[simp] theorem State.alertNote_toHbm (s : State) : s.alertNote.dev.toHbm = s.dev.toHbm := rfl
@[simp] theorem State.alertNote_till (s : State) : s.alertNote.dev.till = s.dev.till := rfl
@[simp] theorem State.alertNote_bench (s : State) : s.alertNote.dev.bench = s.dev.bench := rfl
@[simp] theorem State.alertNote_mem (s : State) : s.alertNote.dev.mem = s.dev.mem := rfl
@[simp] theorem State.alertNote_cas (s : State) : s.alertNote.dev.cas = s.dev.cas := rfl
@[simp] theorem State.alertNote_aux (s : State) : s.alertNote.dev.aux = s.dev.aux := rfl
@[simp] theorem State.alertNote_out (s : State) : s.alertNote.dev.out = s.dev.out := rfl
@[simp] theorem State.alertNote_freeCtr (s : State) : s.alertNote.dev.freeCtr = s.dev.freeCtr := rfl
@[simp] theorem State.alertNote_fore_injecting (s : State) : s.alertNote.dev.fore.injecting = s.dev.fore.injecting := rfl
@[simp] theorem State.alertNote_fore_expiries (s : State) : s.alertNote.dev.fore.expiries = s.dev.fore.expiries := rfl
@[simp] theorem State.alertNote_fore_badSupplies (s : State) : s.alertNote.dev.fore.badSupplies = s.dev.fore.badSupplies := rfl
@[simp] theorem State.alertNote_fore_pwrOk (s : State) : s.alertNote.dev.fore.pwrOk = s.dev.fore.pwrOk := rfl
@[simp] theorem State.alertNote_fore_thermN (s : State) : s.alertNote.dev.fore.thermN = s.dev.fore.thermN := rfl
@[simp] theorem State.alertNote_fore_degraded (s : State) : s.alertNote.dev.fore.degraded = s.dev.fore.degraded := rfl
@[simp] theorem State.alertNote_fore_contained (s : State) : s.alertNote.dev.fore.contained = s.dev.fore.contained := rfl
@[simp] theorem State.alertNote_fore_channels (s : State) : s.alertNote.dev.fore.channels = s.dev.fore.channels := rfl
@[simp] theorem State.alertNote_fore_off (s : State) : s.alertNote.dev.fore.off = s.dev.fore.off := rfl
@[simp] theorem State.alertNote_fore_latched (s : State) : s.alertNote.dev.fore.latched = s.dev.fore.latched := rfl
@[simp] theorem State.alertNote_fore_running (s : State) : s.alertNote.dev.fore.running = s.dev.fore.running := rfl
@[simp] theorem State.alertNote_fore_failedImages (s : State) : s.alertNote.dev.fore.failedImages = s.dev.fore.failedImages := rfl
@[simp] theorem State.alertNote_fore_fwDigest (s : State) : s.alertNote.dev.fore.fwDigest = s.dev.fore.fwDigest := rfl
@[simp] theorem State.alertNote_fore_recovery (s : State) : s.alertNote.dev.fore.recovery = s.dev.fore.recovery := rfl
@[simp] theorem State.alertNote_fore_mramFails (s : State) : s.alertNote.dev.fore.mramFails = s.dev.fore.mramFails := rfl
@[simp] theorem State.alertNote_fore_nonce (s : State) : s.alertNote.dev.fore.nonce = s.dev.fore.nonce := rfl
@[simp] theorem State.alertNote_fore_attNext (s : State) : s.alertNote.dev.fore.attNext = s.dev.fore.attNext := rfl
@[simp] theorem State.alertNote_fore_trees (s : State) : s.alertNote.dev.fore.trees = s.dev.fore.trees := rfl
@[simp] theorem State.alertNote_fore_logRead (s : State) : s.alertNote.dev.fore.logRead = s.dev.fore.logRead := rfl
@[simp] theorem State.alertNote_fore_marks (s : State) : s.alertNote.dev.fore.marks = s.dev.fore.marks := rfl
@[simp] theorem State.alertNote_fore_injAlloc (s : State) : s.alertNote.dev.fore.injAlloc = s.dev.fore.injAlloc := rfl
@[simp] theorem State.alertNote_fore_outliers (s : State) : s.alertNote.dev.fore.outliers = s.dev.fore.outliers := rfl
@[simp] theorem State.alertNote_fore_tj (s : State) : s.alertNote.dev.fore.tj = s.dev.fore.tj := rfl
@[simp] theorem State.alertNote_fore_planDeg (s : State) : s.alertNote.dev.fore.planDeg = s.dev.fore.planDeg := rfl
@[simp] theorem State.alertNote_fore_planDue (s : State) : s.alertNote.dev.fore.planDue = s.dev.fore.planDue := rfl

/-! ### The device -/

@[simp] theorem Dev.fset_regs (d : Dev) (f : Field) (v i : Nat) : (d.fset f v i).regs = KMap.put d.regs (f.key i) (v % 2 ^ f.width) := rfl
@[simp] theorem Dev.fset_tabs (d : Dev) (f : Field) (v i : Nat) : (d.fset f v i).tabs = d.tabs := rfl
@[simp] theorem Dev.fset_tctl (d : Dev) (f : Field) (v i : Nat) : (d.fset f v i).tctl = d.tctl := rfl
@[simp] theorem Dev.fset_bus (d : Dev) (f : Field) (v i : Nat) : (d.fset f v i).bus = d.bus := rfl
@[simp] theorem Dev.fset_qm (d : Dev) (f : Field) (v i : Nat) : (d.fset f v i).qm = d.qm := rfl
@[simp] theorem Dev.fset_pcie (d : Dev) (f : Field) (v i : Nat) : (d.fset f v i).pcie = d.pcie := rfl
@[simp] theorem Dev.fset_clk (d : Dev) (f : Field) (v i : Nat) : (d.fset f v i).clk = d.clk := rfl
@[simp] theorem Dev.fset_tb (d : Dev) (f : Field) (v i : Nat) : (d.fset f v i).tb = d.tb := rfl
@[simp] theorem Dev.fset_tally (d : Dev) (f : Field) (v i : Nat) : (d.fset f v i).tally = d.tally := rfl
@[simp] theorem Dev.fset_fore (d : Dev) (f : Field) (v i : Nat) : (d.fset f v i).fore = d.fore := rfl
@[simp] theorem Dev.fset_loom (d : Dev) (f : Field) (v i : Nat) : (d.fset f v i).loom = d.loom := rfl
@[simp] theorem Dev.fset_assay (d : Dev) (f : Field) (v i : Nat) : (d.fset f v i).assay = d.assay := rfl
@[simp] theorem Dev.fset_vern (d : Dev) (f : Field) (v i : Nat) : (d.fset f v i).vern = d.vern := rfl
@[simp] theorem Dev.fset_trig (d : Dev) (f : Field) (v i : Nat) : (d.fset f v i).trig = d.trig := rfl
@[simp] theorem Dev.fset_tseq (d : Dev) (f : Field) (v i : Nat) : (d.fset f v i).tseq = d.tseq := rfl
@[simp] theorem Dev.fset_tic (d : Dev) (f : Field) (v i : Nat) : (d.fset f v i).tic = d.tic := rfl
@[simp] theorem Dev.fset_acq (d : Dev) (f : Field) (v i : Nat) : (d.fset f v i).acq = d.acq := rfl
@[simp] theorem Dev.fset_chains (d : Dev) (f : Field) (v i : Nat) : (d.fset f v i).chains = d.chains := rfl
@[simp] theorem Dev.fset_toHbm (d : Dev) (f : Field) (v i : Nat) : (d.fset f v i).toHbm = d.toHbm := rfl
@[simp] theorem Dev.fset_till (d : Dev) (f : Field) (v i : Nat) : (d.fset f v i).till = d.till := rfl
@[simp] theorem Dev.fset_bench (d : Dev) (f : Field) (v i : Nat) : (d.fset f v i).bench = d.bench := rfl
@[simp] theorem Dev.fset_mem (d : Dev) (f : Field) (v i : Nat) : (d.fset f v i).mem = d.mem := rfl
@[simp] theorem Dev.fset_cas (d : Dev) (f : Field) (v i : Nat) : (d.fset f v i).cas = d.cas := rfl
@[simp] theorem Dev.fset_aux (d : Dev) (f : Field) (v i : Nat) : (d.fset f v i).aux = d.aux := rfl
@[simp] theorem Dev.fset_out (d : Dev) (f : Field) (v i : Nat) : (d.fset f v i).out = d.out := rfl
@[simp] theorem Dev.fset_freeCtr (d : Dev) (f : Field) (v i : Nat) : (d.fset f v i).freeCtr = d.freeCtr := rfl

@[simp] theorem Dev.tset_regs (d : Dev) (p sel b a v : Nat) : (d.tset p sel b a v).regs = d.regs := rfl
@[simp] theorem Dev.tset_tabs (d : Dev) (p sel b a v : Nat) : (d.tset p sel b a v).tabs = KMap.put d.tabs (tkey p sel b a) (v % 2 ^ 32) := rfl
@[simp] theorem Dev.tset_tctl (d : Dev) (p sel b a v : Nat) : (d.tset p sel b a v).tctl = d.tctl := rfl
@[simp] theorem Dev.tset_bus (d : Dev) (p sel b a v : Nat) : (d.tset p sel b a v).bus = d.bus := rfl
@[simp] theorem Dev.tset_qm (d : Dev) (p sel b a v : Nat) : (d.tset p sel b a v).qm = d.qm := rfl
@[simp] theorem Dev.tset_pcie (d : Dev) (p sel b a v : Nat) : (d.tset p sel b a v).pcie = d.pcie := rfl
@[simp] theorem Dev.tset_clk (d : Dev) (p sel b a v : Nat) : (d.tset p sel b a v).clk = d.clk := rfl
@[simp] theorem Dev.tset_tb (d : Dev) (p sel b a v : Nat) : (d.tset p sel b a v).tb = d.tb := rfl
@[simp] theorem Dev.tset_tally (d : Dev) (p sel b a v : Nat) : (d.tset p sel b a v).tally = d.tally := rfl
@[simp] theorem Dev.tset_fore (d : Dev) (p sel b a v : Nat) : (d.tset p sel b a v).fore = d.fore := rfl
@[simp] theorem Dev.tset_loom (d : Dev) (p sel b a v : Nat) : (d.tset p sel b a v).loom = d.loom := rfl
@[simp] theorem Dev.tset_assay (d : Dev) (p sel b a v : Nat) : (d.tset p sel b a v).assay = d.assay := rfl
@[simp] theorem Dev.tset_vern (d : Dev) (p sel b a v : Nat) : (d.tset p sel b a v).vern = d.vern := rfl
@[simp] theorem Dev.tset_trig (d : Dev) (p sel b a v : Nat) : (d.tset p sel b a v).trig = d.trig := rfl
@[simp] theorem Dev.tset_tseq (d : Dev) (p sel b a v : Nat) : (d.tset p sel b a v).tseq = d.tseq := rfl
@[simp] theorem Dev.tset_tic (d : Dev) (p sel b a v : Nat) : (d.tset p sel b a v).tic = d.tic := rfl
@[simp] theorem Dev.tset_acq (d : Dev) (p sel b a v : Nat) : (d.tset p sel b a v).acq = d.acq := rfl
@[simp] theorem Dev.tset_chains (d : Dev) (p sel b a v : Nat) : (d.tset p sel b a v).chains = d.chains := rfl
@[simp] theorem Dev.tset_toHbm (d : Dev) (p sel b a v : Nat) : (d.tset p sel b a v).toHbm = d.toHbm := rfl
@[simp] theorem Dev.tset_till (d : Dev) (p sel b a v : Nat) : (d.tset p sel b a v).till = d.till := rfl
@[simp] theorem Dev.tset_bench (d : Dev) (p sel b a v : Nat) : (d.tset p sel b a v).bench = d.bench := rfl
@[simp] theorem Dev.tset_mem (d : Dev) (p sel b a v : Nat) : (d.tset p sel b a v).mem = d.mem := rfl
@[simp] theorem Dev.tset_cas (d : Dev) (p sel b a v : Nat) : (d.tset p sel b a v).cas = d.cas := rfl
@[simp] theorem Dev.tset_aux (d : Dev) (p sel b a v : Nat) : (d.tset p sel b a v).aux = d.aux := rfl
@[simp] theorem Dev.tset_out (d : Dev) (p sel b a v : Nat) : (d.tset p sel b a v).out = d.out := rfl
@[simp] theorem Dev.tset_freeCtr (d : Dev) (p sel b a v : Nat) : (d.tset p sel b a v).freeCtr = d.freeCtr := rfl

@[simp] theorem Dev.tctlSet_regs (d : Dev) (p sel : Nat) (c : TableCtl) : (d.tctlSet p sel c).regs = d.regs := rfl
@[simp] theorem Dev.tctlSet_tabs (d : Dev) (p sel : Nat) (c : TableCtl) : (d.tctlSet p sel c).tabs = d.tabs := rfl
@[simp] theorem Dev.tctlSet_tctl (d : Dev) (p sel : Nat) (c : TableCtl) : (d.tctlSet p sel c).tctl = KMap.put d.tctl (p * 32 + sel) c := rfl
@[simp] theorem Dev.tctlSet_bus (d : Dev) (p sel : Nat) (c : TableCtl) : (d.tctlSet p sel c).bus = d.bus := rfl
@[simp] theorem Dev.tctlSet_qm (d : Dev) (p sel : Nat) (c : TableCtl) : (d.tctlSet p sel c).qm = d.qm := rfl
@[simp] theorem Dev.tctlSet_pcie (d : Dev) (p sel : Nat) (c : TableCtl) : (d.tctlSet p sel c).pcie = d.pcie := rfl
@[simp] theorem Dev.tctlSet_clk (d : Dev) (p sel : Nat) (c : TableCtl) : (d.tctlSet p sel c).clk = d.clk := rfl
@[simp] theorem Dev.tctlSet_tb (d : Dev) (p sel : Nat) (c : TableCtl) : (d.tctlSet p sel c).tb = d.tb := rfl
@[simp] theorem Dev.tctlSet_tally (d : Dev) (p sel : Nat) (c : TableCtl) : (d.tctlSet p sel c).tally = d.tally := rfl
@[simp] theorem Dev.tctlSet_fore (d : Dev) (p sel : Nat) (c : TableCtl) : (d.tctlSet p sel c).fore = d.fore := rfl
@[simp] theorem Dev.tctlSet_loom (d : Dev) (p sel : Nat) (c : TableCtl) : (d.tctlSet p sel c).loom = d.loom := rfl
@[simp] theorem Dev.tctlSet_assay (d : Dev) (p sel : Nat) (c : TableCtl) : (d.tctlSet p sel c).assay = d.assay := rfl
@[simp] theorem Dev.tctlSet_vern (d : Dev) (p sel : Nat) (c : TableCtl) : (d.tctlSet p sel c).vern = d.vern := rfl
@[simp] theorem Dev.tctlSet_trig (d : Dev) (p sel : Nat) (c : TableCtl) : (d.tctlSet p sel c).trig = d.trig := rfl
@[simp] theorem Dev.tctlSet_tseq (d : Dev) (p sel : Nat) (c : TableCtl) : (d.tctlSet p sel c).tseq = d.tseq := rfl
@[simp] theorem Dev.tctlSet_tic (d : Dev) (p sel : Nat) (c : TableCtl) : (d.tctlSet p sel c).tic = d.tic := rfl
@[simp] theorem Dev.tctlSet_acq (d : Dev) (p sel : Nat) (c : TableCtl) : (d.tctlSet p sel c).acq = d.acq := rfl
@[simp] theorem Dev.tctlSet_chains (d : Dev) (p sel : Nat) (c : TableCtl) : (d.tctlSet p sel c).chains = d.chains := rfl
@[simp] theorem Dev.tctlSet_toHbm (d : Dev) (p sel : Nat) (c : TableCtl) : (d.tctlSet p sel c).toHbm = d.toHbm := rfl
@[simp] theorem Dev.tctlSet_till (d : Dev) (p sel : Nat) (c : TableCtl) : (d.tctlSet p sel c).till = d.till := rfl
@[simp] theorem Dev.tctlSet_bench (d : Dev) (p sel : Nat) (c : TableCtl) : (d.tctlSet p sel c).bench = d.bench := rfl
@[simp] theorem Dev.tctlSet_mem (d : Dev) (p sel : Nat) (c : TableCtl) : (d.tctlSet p sel c).mem = d.mem := rfl
@[simp] theorem Dev.tctlSet_cas (d : Dev) (p sel : Nat) (c : TableCtl) : (d.tctlSet p sel c).cas = d.cas := rfl
@[simp] theorem Dev.tctlSet_aux (d : Dev) (p sel : Nat) (c : TableCtl) : (d.tctlSet p sel c).aux = d.aux := rfl
@[simp] theorem Dev.tctlSet_out (d : Dev) (p sel : Nat) (c : TableCtl) : (d.tctlSet p sel c).out = d.out := rfl
@[simp] theorem Dev.tctlSet_freeCtr (d : Dev) (p sel : Nat) (c : TableCtl) : (d.tctlSet p sel c).freeCtr = d.freeCtr := rfl

@[simp] theorem Dev.qset_regs (d : Dev) (q : Nat) (c : QCtx) : (d.qset q c).regs = d.regs := rfl
@[simp] theorem Dev.qset_tabs (d : Dev) (q : Nat) (c : QCtx) : (d.qset q c).tabs = d.tabs := rfl
@[simp] theorem Dev.qset_tctl (d : Dev) (q : Nat) (c : QCtx) : (d.qset q c).tctl = d.tctl := rfl
@[simp] theorem Dev.qset_bus (d : Dev) (q : Nat) (c : QCtx) : (d.qset q c).bus = d.bus := rfl
@[simp] theorem Dev.qset_qm (d : Dev) (q : Nat) (c : QCtx) : (d.qset q c).qm = { d.qm with ctx := KMap.put d.qm.ctx q c } := rfl
@[simp] theorem Dev.qset_pcie (d : Dev) (q : Nat) (c : QCtx) : (d.qset q c).pcie = d.pcie := rfl
@[simp] theorem Dev.qset_clk (d : Dev) (q : Nat) (c : QCtx) : (d.qset q c).clk = d.clk := rfl
@[simp] theorem Dev.qset_tb (d : Dev) (q : Nat) (c : QCtx) : (d.qset q c).tb = d.tb := rfl
@[simp] theorem Dev.qset_tally (d : Dev) (q : Nat) (c : QCtx) : (d.qset q c).tally = d.tally := rfl
@[simp] theorem Dev.qset_fore (d : Dev) (q : Nat) (c : QCtx) : (d.qset q c).fore = d.fore := rfl
@[simp] theorem Dev.qset_loom (d : Dev) (q : Nat) (c : QCtx) : (d.qset q c).loom = d.loom := rfl
@[simp] theorem Dev.qset_assay (d : Dev) (q : Nat) (c : QCtx) : (d.qset q c).assay = d.assay := rfl
@[simp] theorem Dev.qset_vern (d : Dev) (q : Nat) (c : QCtx) : (d.qset q c).vern = d.vern := rfl
@[simp] theorem Dev.qset_trig (d : Dev) (q : Nat) (c : QCtx) : (d.qset q c).trig = d.trig := rfl
@[simp] theorem Dev.qset_tseq (d : Dev) (q : Nat) (c : QCtx) : (d.qset q c).tseq = d.tseq := rfl
@[simp] theorem Dev.qset_tic (d : Dev) (q : Nat) (c : QCtx) : (d.qset q c).tic = d.tic := rfl
@[simp] theorem Dev.qset_acq (d : Dev) (q : Nat) (c : QCtx) : (d.qset q c).acq = d.acq := rfl
@[simp] theorem Dev.qset_chains (d : Dev) (q : Nat) (c : QCtx) : (d.qset q c).chains = d.chains := rfl
@[simp] theorem Dev.qset_toHbm (d : Dev) (q : Nat) (c : QCtx) : (d.qset q c).toHbm = d.toHbm := rfl
@[simp] theorem Dev.qset_till (d : Dev) (q : Nat) (c : QCtx) : (d.qset q c).till = d.till := rfl
@[simp] theorem Dev.qset_bench (d : Dev) (q : Nat) (c : QCtx) : (d.qset q c).bench = d.bench := rfl
@[simp] theorem Dev.qset_mem (d : Dev) (q : Nat) (c : QCtx) : (d.qset q c).mem = d.mem := rfl
@[simp] theorem Dev.qset_cas (d : Dev) (q : Nat) (c : QCtx) : (d.qset q c).cas = d.cas := rfl
@[simp] theorem Dev.qset_aux (d : Dev) (q : Nat) (c : QCtx) : (d.qset q c).aux = d.aux := rfl
@[simp] theorem Dev.qset_out (d : Dev) (q : Nat) (c : QCtx) : (d.qset q c).out = d.out := rfl
@[simp] theorem Dev.qset_freeCtr (d : Dev) (q : Nat) (c : QCtx) : (d.qset q c).freeCtr = d.freeCtr := rfl

@[simp] theorem Dev.free_regs (d : Dev) : (d.free.2).regs = d.regs := rfl
@[simp] theorem Dev.free_tabs (d : Dev) : (d.free.2).tabs = d.tabs := rfl
@[simp] theorem Dev.free_tctl (d : Dev) : (d.free.2).tctl = d.tctl := rfl
@[simp] theorem Dev.free_bus (d : Dev) : (d.free.2).bus = d.bus := rfl
@[simp] theorem Dev.free_qm (d : Dev) : (d.free.2).qm = d.qm := rfl
@[simp] theorem Dev.free_pcie (d : Dev) : (d.free.2).pcie = d.pcie := rfl
@[simp] theorem Dev.free_clk (d : Dev) : (d.free.2).clk = d.clk := rfl
@[simp] theorem Dev.free_tb (d : Dev) : (d.free.2).tb = d.tb := rfl
@[simp] theorem Dev.free_tally (d : Dev) : (d.free.2).tally = d.tally := rfl
@[simp] theorem Dev.free_fore (d : Dev) : (d.free.2).fore = d.fore := rfl
@[simp] theorem Dev.free_loom (d : Dev) : (d.free.2).loom = d.loom := rfl
@[simp] theorem Dev.free_assay (d : Dev) : (d.free.2).assay = d.assay := rfl
@[simp] theorem Dev.free_vern (d : Dev) : (d.free.2).vern = d.vern := rfl
@[simp] theorem Dev.free_trig (d : Dev) : (d.free.2).trig = d.trig := rfl
@[simp] theorem Dev.free_tseq (d : Dev) : (d.free.2).tseq = d.tseq := rfl
@[simp] theorem Dev.free_tic (d : Dev) : (d.free.2).tic = d.tic := rfl
@[simp] theorem Dev.free_acq (d : Dev) : (d.free.2).acq = d.acq := rfl
@[simp] theorem Dev.free_chains (d : Dev) : (d.free.2).chains = d.chains := rfl
@[simp] theorem Dev.free_toHbm (d : Dev) : (d.free.2).toHbm = d.toHbm := rfl
@[simp] theorem Dev.free_till (d : Dev) : (d.free.2).till = d.till := rfl
@[simp] theorem Dev.free_bench (d : Dev) : (d.free.2).bench = d.bench := rfl
@[simp] theorem Dev.free_mem (d : Dev) : (d.free.2).mem = d.mem := rfl
@[simp] theorem Dev.free_cas (d : Dev) : (d.free.2).cas = d.cas := rfl
@[simp] theorem Dev.free_aux (d : Dev) : (d.free.2).aux = d.aux := rfl
@[simp] theorem Dev.free_out (d : Dev) : (d.free.2).out = d.out := rfl
@[simp] theorem Dev.free_freeCtr (d : Dev) : (d.free.2).freeCtr = d.freeCtr + 1 := rfl

end Sys2Proof.Machine
end

