-- ==== Sys2Proof/Laws/Keeps.lean ====
section
/-!
SUPPORT. What no command undoes, said once for each operation on the whole machine: the queue behind the command, the canonical form of
the HBM tier, the growth of the one-time programmable and monotonic parts of the non-volatile memories.
-/

namespace Sys2Proof.Machine

theorem NonVolatile.Grows.refl (a : NonVolatile) : NonVolatile.Grows a a :=
  ⟨List.prefix_refl _, Nat.le_refl _, Nat.le_refl _, Nat.le_refl _, fun _ h => h⟩

theorem NonVolatile.Grows.trans {a b c : NonVolatile} (h : NonVolatile.Grows a b) (g : NonVolatile.Grows b c) : NonVolatile.Grows a c :=
  ⟨h.otp.trans g.otp, Nat.le_trans h.otpSvn g.otpSvn, Nat.le_trans h.mramSvn g.mramSvn, Nat.le_trans h.attReserved g.attReserved,
    fun n hn => g.revoked n (h.revoked n hn)⟩

namespace State.Keeps

theorem refl (s : State) : State.Keeps s s := ⟨rfl, fun h => h, .refl _⟩

theorem trans {s t u : State} (h : State.Keeps s t) (g : State.Keeps t u) : State.Keeps s u :=
  ⟨g.pending.trans h.pending, fun w => g.wf (h.wf w), h.nv.trans g.nv⟩

theorem onDev_after {s t : State} {f : Dev → Dev} (h : State.Keeps s t) : State.Keeps s (t.onDev f) := ⟨h.pending, h.wf, h.nv⟩

theorem withDev (s : State) (d : Dev) : State.Keeps s { s with dev := d } := ⟨rfl, fun h => h, .refl _⟩

theorem onDevNv_after {s t : State} {f : Dev → NonVolatile → Dev × NonVolatile} (hf : NonVolatile.Grows t.nv (f t.dev t.nv).2)
    (h : State.Keeps s t) : State.Keeps s (t.onDevNv f) := ⟨h.pending, h.wf, h.nv.trans hf⟩

theorem hbmStore_after {s t : State} {a : Nat} {ws : List Nat} (h : State.Keeps s t) : State.Keeps s (t.hbmStore a ws) :=
  ⟨h.pending, fun w => Memory.writeWords_wf ws a (h.wf w), h.nv⟩

theorem hbmStoreBytes_after {s t : State} {a : Nat} {bs : List Byte} (h : State.Keeps s t) : State.Keeps s (t.hbmStoreBytes a bs) :=
  ⟨h.pending, fun w => Memory.writeBytes_wf bs a (h.wf w), h.nv⟩

theorem foldWrites_wf (ws : List (Nat × List Byte)) : ∀ {m : Memory}, Memory.wf m = true →
    Memory.wf (ws.foldl (fun m p => Memory.writeBytes m p.1 p.2) m) = true := by
  induction ws with
  | nil => intro m h; exact h
  | cons w ws ih => intro m h; exact ih (Memory.writeBytes_wf _ _ h)

theorem onDevHbm_after {s t : State} {f : Dev → Dev} (h : State.Keeps s t) : State.Keeps s (t.onDevHbm f) :=
  ⟨h.pending, fun w => foldWrites_wf _ (h.wf w), h.nv⟩

theorem foldl_after {α : Type} {s t : State} {g : State → α → State} {l : List α} (hg : ∀ u a, State.Keeps u (g u a))
    (h : State.Keeps s t) : State.Keeps s (l.foldl g t) := by
  induction l generalizing t with
  | nil => exact h
  | cons a l ih => exact ih (h.trans (hg t a))

theorem ite_after {s : State} {c : Prop} [Decidable c] {a b : State} (h1 : State.Keeps s a) (h2 : State.Keeps s b) :
    State.Keeps s (if c then a else b) := by
  split
  · exact h1
  · exact h2

theorem alertNote {s t : State} (h : State.Keeps s t) : State.Keeps s t.alertNote := ⟨h.pending, h.wf, h.nv⟩

theorem live {s : State} {f : State → State} (h : State.Keeps s (f s)) : State.Keeps s (s.live f) := by
  unfold State.live
  split
  · exact .refl s
  · exact h.alertNote

end State.Keeps

theorem bitAt_or_of_left {a b n : Nat} (h : bitAt a n = true) : bitAt (a ||| b) n = true := by
  unfold bitAt at *
  rw [Nat.testBit_or, h]
  rfl

theorem pathDelayWrite_grows (who : Requester) (x val : Nat) (d : Dev) (nv : NonVolatile) :
    NonVolatile.Grows nv (pathDelayWrite who x val d nv).2 := by
  unfold pathDelayWrite
  repeat' first
    | exact NonVolatile.Grows.refl _
    | exact ⟨List.prefix_refl _, Nat.le_refl _, Nat.le_refl _, Nat.le_refl _, fun _ h => h⟩
    | split


theorem State.tillSet_keeps (s : State) (k : Nat) (t : TillShape) (w v : Nat) : State.Keeps s (State.tillSet s k t w v) := by
  unfold State.tillSet
  try dsimp only
  repeat' first
    | with_reducible exact State.Keeps.refl _
    | assumption
    | with_reducible refine State.Keeps.onDev_after ?_
    | with_reducible refine State.Keeps.onDevHbm_after ?_
    | with_reducible refine State.Keeps.hbmStore_after ?_
    | with_reducible refine State.Keeps.hbmStoreBytes_after ?_
    | with_reducible refine State.Keeps.foldl_after (fun _ _ => ?_) ?_
    | with_reducible refine State.Keeps.onDevNv_after (pathDelayWrite_grows _ _ _ _ _) ?_
    | with_reducible refine State.Keeps.ite_after ?_ ?_
    | split


theorem State.tillSetWords_keeps (s : State) (k : Nat) (t : TillShape) (w : Nat) (vs : List Nat) :
    State.Keeps s (State.tillSetWords s k t w vs) := by
  induction vs generalizing s w with
  | nil => exact .refl s
  | cons v vs ih => exact (State.tillSet_keeps s k t w v).trans (ih _ _)

theorem State.tillWipe_keeps (s : State) (k : Nat) (t : TillShape) : State.Keeps s (State.tillWipe s k t) := by
  unfold State.tillWipe
  try dsimp only
  repeat' first
    | with_reducible exact State.Keeps.refl _
    | assumption
    | with_reducible refine State.Keeps.onDev_after ?_
    | with_reducible refine State.Keeps.onDevHbm_after ?_
    | with_reducible refine State.Keeps.hbmStore_after ?_
    | with_reducible refine State.Keeps.hbmStoreBytes_after ?_
    | with_reducible refine State.Keeps.trans ?_ (State.tillSet_keeps _ _ _ _ _)
    | with_reducible refine State.Keeps.foldl_after (fun _ _ => ?_) ?_
    | with_reducible refine State.Keeps.onDevNv_after (pathDelayWrite_grows _ _ _ _ _) ?_
    | with_reducible refine State.Keeps.ite_after ?_ ?_
    | split


theorem State.takeTicket_keeps (s : State) (ws : List Nat) (sq sqHead cls grant : Nat) (segs : Bool) : State.Keeps s (State.takeTicket s ws sq sqHead cls grant segs) := by
  unfold State.takeTicket
  try dsimp only
  repeat' first
    | with_reducible exact State.Keeps.refl _
    | assumption
    | with_reducible refine State.Keeps.onDev_after ?_


theorem State.ticketAdmit_keeps (s : State) : State.Keeps s (State.ticketAdmit s) := by
  unfold State.ticketAdmit
  try dsimp only
  repeat' first
    | with_reducible exact State.Keeps.refl _
    | assumption
    | with_reducible refine State.Keeps.onDev_after ?_
    | with_reducible refine State.Keeps.onDevHbm_after ?_
    | with_reducible refine State.Keeps.hbmStore_after ?_
    | with_reducible refine State.Keeps.hbmStoreBytes_after ?_
    | with_reducible refine State.Keeps.trans ?_ (State.takeTicket_keeps _ _ _ _ _ _ _)
    | with_reducible refine State.Keeps.foldl_after (fun _ _ => ?_) ?_
    | with_reducible refine State.Keeps.onDevNv_after (pathDelayWrite_grows _ _ _ _ _) ?_
    | with_reducible refine State.Keeps.ite_after ?_ ?_
    | split


theorem State.bindingTickets_keeps (s : State) (n : Nat) : State.Keeps s (State.bindingTickets s n) := by
  unfold State.bindingTickets
  try dsimp only
  repeat' first
    | with_reducible exact State.Keeps.refl _
    | assumption
    | with_reducible refine State.Keeps.onDev_after ?_
    | with_reducible refine State.Keeps.onDevHbm_after ?_
    | with_reducible refine State.Keeps.hbmStore_after ?_
    | with_reducible refine State.Keeps.hbmStoreBytes_after ?_
    | with_reducible refine State.Keeps.trans ?_ (State.takeTicket_keeps _ _ _ _ _ _ _)
    | with_reducible refine State.Keeps.foldl_after (fun _ _ => ?_) ?_
    | with_reducible refine State.Keeps.onDevNv_after (pathDelayWrite_grows _ _ _ _ _) ?_
    | with_reducible refine State.Keeps.ite_after ?_ ?_
    | split


theorem State.bindSince_keeps (s : State) (first : Nat) : State.Keeps s (State.bindSince s first) := by
  unfold State.bindSince
  try dsimp only
  repeat' first
    | with_reducible exact State.Keeps.refl _
    | assumption
    | with_reducible refine State.Keeps.onDev_after ?_
    | with_reducible refine State.Keeps.onDevHbm_after ?_
    | with_reducible refine State.Keeps.hbmStore_after ?_
    | with_reducible refine State.Keeps.hbmStoreBytes_after ?_
    | with_reducible refine State.Keeps.trans ?_ (State.bindingTickets_keeps _ _)
    | with_reducible refine State.Keeps.foldl_after (fun _ _ => ?_) ?_
    | with_reducible refine State.Keeps.onDevNv_after (pathDelayWrite_grows _ _ _ _ _) ?_
    | with_reducible refine State.Keeps.ite_after ?_ ?_
    | split


theorem State.onTrig_keeps (s : State) (f : Dev → Dev) : State.Keeps s (State.onTrig s f) := by
  unfold State.onTrig
  try dsimp only
  repeat' first
    | with_reducible exact State.Keeps.refl _
    | assumption
    | with_reducible refine State.Keeps.onDev_after ?_
    | with_reducible refine State.Keeps.onDevHbm_after ?_
    | with_reducible refine State.Keeps.hbmStore_after ?_
    | with_reducible refine State.Keeps.hbmStoreBytes_after ?_
    | with_reducible refine State.Keeps.trans ?_ (State.bindSince_keeps _ _)


theorem State.attemptStart_keeps (s : State) (jm : Nat) : State.Keeps s (State.attemptStart s jm) := by
  unfold State.attemptStart
  try dsimp only
  repeat' first
    | with_reducible exact State.Keeps.refl _
    | assumption
    | with_reducible refine State.Keeps.onDev_after ?_
    | with_reducible refine State.Keeps.onDevHbm_after ?_
    | with_reducible refine State.Keeps.hbmStore_after ?_
    | with_reducible refine State.Keeps.hbmStoreBytes_after ?_
    | with_reducible refine State.Keeps.foldl_after (fun _ _ => ?_) ?_
    | with_reducible refine State.Keeps.onDevNv_after (pathDelayWrite_grows _ _ _ _ _) ?_
    | with_reducible refine State.Keeps.ite_after ?_ ?_
    | split


theorem State.commitRequest_keeps (s : State) (jm id attempt : Nat) : State.Keeps s (State.commitRequest s jm id attempt) := by
  unfold State.commitRequest
  try dsimp only
  repeat' first
    | with_reducible exact State.Keeps.refl _
    | assumption
    | with_reducible refine State.Keeps.onDev_after ?_
    | with_reducible refine State.Keeps.onDevHbm_after ?_
    | with_reducible refine State.Keeps.hbmStore_after ?_
    | with_reducible refine State.Keeps.hbmStoreBytes_after ?_
    | with_reducible refine State.Keeps.foldl_after (fun _ _ => ?_) ?_
    | with_reducible refine State.Keeps.onDevNv_after (pathDelayWrite_grows _ _ _ _ _) ?_
    | with_reducible refine State.Keeps.ite_after ?_ ?_
    | split


theorem State.tillMerge_keeps (s : State) (k records : Nat) (b : List Nat) : State.Keeps s (State.tillMerge s k records b) := by
  unfold State.tillMerge
  try dsimp only
  repeat' first
    | with_reducible exact State.Keeps.refl _
    | assumption
    | with_reducible refine State.Keeps.onDev_after ?_
    | with_reducible refine State.Keeps.onDevHbm_after ?_
    | with_reducible refine State.Keeps.hbmStore_after ?_
    | with_reducible refine State.Keeps.hbmStoreBytes_after ?_
    | with_reducible refine State.Keeps.trans ?_ (State.tillSet_keeps _ _ _ _ _)
    | with_reducible refine State.Keeps.foldl_after (fun _ _ => ?_) ?_
    | with_reducible refine State.Keeps.onDevNv_after (pathDelayWrite_grows _ _ _ _ _) ?_
    | with_reducible refine State.Keeps.ite_after ?_ ?_


theorem State.copyCommit_keeps (s : State) (x : Ticket) : State.Keeps s (State.copyCommit s x) := by
  unfold State.copyCommit
  try dsimp only
  repeat' first
    | with_reducible exact State.Keeps.refl _
    | assumption
    | with_reducible refine State.Keeps.onDev_after ?_
    | with_reducible refine State.Keeps.onDevHbm_after ?_


theorem State.tillResult_keeps (s : State) (k : Nat) (ws : List Nat) : State.Keeps s (State.tillResult s k ws) := by
  unfold State.tillResult
  try dsimp only
  repeat' first
    | with_reducible exact State.Keeps.refl _
    | assumption
    | with_reducible refine State.Keeps.onDev_after ?_
    | with_reducible refine State.Keeps.onDevHbm_after ?_
    | with_reducible refine State.Keeps.hbmStore_after ?_
    | with_reducible refine State.Keeps.hbmStoreBytes_after ?_
    | with_reducible refine State.Keeps.foldl_after (fun _ _ => ?_) ?_
    | with_reducible refine State.Keeps.onDevNv_after (pathDelayWrite_grows _ _ _ _ _) ?_
    | with_reducible refine State.Keeps.ite_after ?_ ?_


theorem State.maskEnd_keeps (s : State) (k : Nat) (g : Segment) (c : TillRec) (torn : Bool) : State.Keeps s (State.maskEnd s k g c torn) := by
  unfold State.maskEnd
  try dsimp only
  repeat' first
    | with_reducible exact State.Keeps.refl _
    | assumption
    | with_reducible refine State.Keeps.onDev_after ?_
    | with_reducible refine State.Keeps.onDevHbm_after ?_
    | with_reducible refine State.Keeps.hbmStore_after ?_
    | with_reducible refine State.Keeps.hbmStoreBytes_after ?_
    | with_reducible refine State.Keeps.trans ?_ (State.tillResult_keeps _ _ _)
    | with_reducible refine State.Keeps.foldl_after (fun _ _ => ?_) ?_
    | with_reducible refine State.Keeps.onDevNv_after (pathDelayWrite_grows _ _ _ _ _) ?_
    | with_reducible refine State.Keeps.ite_after ?_ ?_


theorem State.productEnd_keeps (s : State) (k : Nat) (t : TillShape) (g : Segment) (c : TillRec) (torn : Bool) : State.Keeps s (State.productEnd s k t g c torn) := by
  unfold State.productEnd
  try dsimp only
  repeat' first
    | with_reducible exact State.Keeps.refl _
    | assumption
    | with_reducible refine State.Keeps.onDev_after ?_
    | with_reducible refine State.Keeps.onDevHbm_after ?_
    | with_reducible refine State.Keeps.hbmStore_after ?_
    | with_reducible refine State.Keeps.hbmStoreBytes_after ?_
    | with_reducible refine State.Keeps.trans ?_ (State.tillSetWords_keeps _ _ _ _ _)
    | with_reducible refine State.Keeps.trans ?_ (State.tillResult_keeps _ _ _)
    | with_reducible refine State.Keeps.foldl_after (fun _ _ => ?_) ?_
    | with_reducible refine State.Keeps.onDevNv_after (pathDelayWrite_grows _ _ _ _ _) ?_
    | with_reducible refine State.Keeps.ite_after ?_ ?_


theorem State.recordEnd_keeps (s : State) (k : Nat) (t : TillShape) (g : Segment) (c : TillRec) (torn : Bool) : State.Keeps s (State.recordEnd s k t g c torn) := by
  unfold State.recordEnd
  try dsimp only
  repeat' first
    | with_reducible exact State.Keeps.refl _
    | assumption
    | with_reducible refine State.Keeps.onDev_after ?_
    | with_reducible refine State.Keeps.onDevHbm_after ?_
    | with_reducible refine State.Keeps.hbmStore_after ?_
    | with_reducible refine State.Keeps.hbmStoreBytes_after ?_
    | with_reducible refine State.Keeps.trans ?_ (State.maskEnd_keeps _ _ _ _ _)
    | with_reducible refine State.Keeps.trans ?_ (State.productEnd_keeps _ _ _ _ _ _)
    | with_reducible refine State.Keeps.foldl_after (fun _ _ => ?_) ?_
    | with_reducible refine State.Keeps.onDevNv_after (pathDelayWrite_grows _ _ _ _ _) ?_
    | with_reducible refine State.Keeps.ite_after ?_ ?_


theorem State.addAverage_keeps (s : State) (k : Nat) (t : TillShape) (j : Nat) (v : Int) : State.Keeps s (State.addAverage s k t j v) := by
  unfold State.addAverage
  try dsimp only
  repeat' first
    | with_reducible exact State.Keeps.refl _
    | assumption
    | with_reducible refine State.Keeps.onDev_after ?_
    | with_reducible refine State.Keeps.onDevHbm_after ?_
    | with_reducible refine State.Keeps.hbmStore_after ?_
    | with_reducible refine State.Keeps.hbmStoreBytes_after ?_
    | with_reducible refine State.Keeps.trans ?_ (State.tillSet_keeps _ _ _ _ _)


theorem State.addEnvelope_keeps (s : State) (k : Nat) (t : TillShape) (j : Nat) (v : Int × Int) : State.Keeps s (State.addEnvelope s k t j v) := by
  unfold State.addEnvelope
  try dsimp only
  repeat' first
    | with_reducible exact State.Keeps.refl _
    | assumption
    | with_reducible refine State.Keeps.onDev_after ?_
    | with_reducible refine State.Keeps.onDevHbm_after ?_
    | with_reducible refine State.Keeps.hbmStore_after ?_
    | with_reducible refine State.Keeps.hbmStoreBytes_after ?_
    | with_reducible refine State.Keeps.trans ?_ (State.tillSet_keeps _ _ _ _ _)


theorem State.addDensity_keeps (s : State) (k : Nat) (t : TillShape) (g : Segment) (r j : Nat) (v : Int) : State.Keeps s (State.addDensity s k t g r j v) := by
  unfold State.addDensity
  try dsimp only
  repeat' first
    | with_reducible exact State.Keeps.refl _
    | assumption
    | with_reducible refine State.Keeps.onDev_after ?_
    | with_reducible refine State.Keeps.onDevHbm_after ?_
    | with_reducible refine State.Keeps.hbmStore_after ?_
    | with_reducible refine State.Keeps.hbmStoreBytes_after ?_
    | with_reducible refine State.Keeps.trans ?_ (State.tillSet_keeps _ _ _ _ _)
    | with_reducible refine State.Keeps.foldl_after (fun _ _ => ?_) ?_
    | with_reducible refine State.Keeps.onDevNv_after (pathDelayWrite_grows _ _ _ _ _) ?_
    | with_reducible refine State.Keeps.ite_after ?_ ?_


theorem State.addMask_keeps (s : State) (k : Nat) (t : TillShape) (j : Nat) (v : Int) : State.Keeps s (State.addMask s k t j v) := by
  unfold State.addMask
  try dsimp only
  repeat' first
    | with_reducible exact State.Keeps.refl _
    | assumption
    | with_reducible refine State.Keeps.onDev_after ?_
    | with_reducible refine State.Keeps.onDevHbm_after ?_
    | with_reducible refine State.Keeps.hbmStore_after ?_
    | with_reducible refine State.Keeps.hbmStoreBytes_after ?_
    | with_reducible refine State.Keeps.trans ?_ (State.tillSet_keeps _ _ _ _ _)
    | with_reducible refine State.Keeps.foldl_after (fun _ _ => ?_) ?_
    | with_reducible refine State.Keeps.onDevNv_after (pathDelayWrite_grows _ _ _ _ _) ?_
    | with_reducible refine State.Keeps.ite_after ?_ ?_


theorem State.addProduct_keeps (s : State) (k : Nat) (g : Segment) (j : Nat) (v : Int) : State.Keeps s (State.addProduct s k g j v) := by
  unfold State.addProduct
  exact (State.Keeps.refl s).onDev_after

theorem State.addPosition_keeps (s : State) (k : Nat) (t : TillShape) (g : Segment) (r j : Nat) : State.Keeps s (State.addPosition s k t g r j) := by
  unfold State.addPosition
  try dsimp only
  repeat' first
    | with_reducible exact State.Keeps.refl _
    | assumption
    | with_reducible refine State.Keeps.onDev_after ?_
    | with_reducible refine State.Keeps.onDevHbm_after ?_
    | with_reducible refine State.Keeps.hbmStore_after ?_
    | with_reducible refine State.Keeps.hbmStoreBytes_after ?_
    | with_reducible refine State.Keeps.trans ?_ (State.addAverage_keeps _ _ _ _ _)
    | with_reducible refine State.Keeps.trans ?_ (State.addEnvelope_keeps _ _ _ _ _)
    | with_reducible refine State.Keeps.trans ?_ (State.addDensity_keeps _ _ _ _ _ _ _)
    | with_reducible refine State.Keeps.trans ?_ (State.addMask_keeps _ _ _ _ _)
    | with_reducible refine State.Keeps.trans ?_ (State.addProduct_keeps _ _ _ _ _)
    | with_reducible refine State.Keeps.foldl_after (fun _ _ => ?_) ?_
    | with_reducible refine State.Keeps.onDevNv_after (pathDelayWrite_grows _ _ _ _ _) ?_
    | with_reducible refine State.Keeps.ite_after ?_ ?_
    | split


theorem State.readPositions_keeps (s : State) (k : Nat) (t : TillShape) (g : Segment) (r n : Nat) :
    State.Keeps s (State.readPositions s k t g r n) := by
  induction n generalizing s with
  | zero => exact .refl s
  | succ n ih =>
    unfold State.readPositions
    split
    · exact .refl s
    · exact ((State.addPosition_keeps s k t g r _).onDev_after).trans (ih _)

theorem State.readOn_keeps (s : State) (k : Nat) (t : TillShape) (g : Segment) (c : TillRec) (count : Nat) :
    State.Keeps s (State.readOn s k t g c count) := by
  unfold State.readOn
  dsimp only
  split
  · split
    · exact (State.Keeps.refl s).onDev_after
    · split
      · exact .refl s
      · exact State.recordEnd_keeps _ _ _ _ _ _
  · split
    · exact .refl s
    · have h := State.readPositions_keeps s k t g (s.dev.fget Reg.accu_part_SRC k) (min count (s.dev.needed k t g - c.next))
      split
      · exact h
      · split
        · exact h.trans (State.recordEnd_keeps _ _ _ _ _ _)
        · exact h

theorem State.sweepStart_keeps (s : State) (k : Nat) : State.Keeps s (State.sweepStart s k) := by
  unfold State.sweepStart
  try dsimp only
  repeat' first
    | with_reducible exact State.Keeps.refl _
    | assumption
    | with_reducible refine State.Keeps.onDev_after ?_
    | with_reducible refine State.Keeps.onDevHbm_after ?_
    | with_reducible refine State.Keeps.hbmStore_after ?_
    | with_reducible refine State.Keeps.hbmStoreBytes_after ?_
    | with_reducible refine State.Keeps.trans ?_ (State.tillWipe_keeps _ _ _)
    | with_reducible refine State.Keeps.foldl_after (fun _ _ => ?_) ?_
    | with_reducible refine State.Keeps.onDevNv_after (pathDelayWrite_grows _ _ _ _ _) ?_
    | with_reducible refine State.Keeps.ite_after ?_ ?_
    | split


theorem State.recordRead_keeps (s : State) (k count : Nat) : State.Keeps s (State.recordRead s k count) := by
  have h := State.sweepStart_keeps s k
  unfold State.recordRead
  dsimp only
  generalize s.sweepStart k = u at *
  repeat' first
    | with_reducible assumption
    | with_reducible refine State.Keeps.trans ?_ (State.readOn_keeps _ _ _ _ _ _)
    | with_reducible refine State.Keeps.onDev_after ?_
    | split

theorem State.tillClear_keeps (s : State) (k : Nat) : State.Keeps s (State.tillClear s k) := by
  unfold State.tillClear
  try dsimp only
  repeat' first
    | with_reducible exact State.Keeps.refl _
    | assumption
    | with_reducible refine State.Keeps.onDev_after ?_
    | with_reducible refine State.Keeps.onDevHbm_after ?_
    | with_reducible refine State.Keeps.hbmStore_after ?_
    | with_reducible refine State.Keeps.hbmStoreBytes_after ?_
    | with_reducible refine State.Keeps.trans ?_ (State.tillWipe_keeps _ _ _)
    | with_reducible refine State.Keeps.foldl_after (fun _ _ => ?_) ?_
    | with_reducible refine State.Keeps.onDevNv_after (pathDelayWrite_grows _ _ _ _ _) ?_
    | with_reducible refine State.Keeps.ite_after ?_ ?_


theorem State.tillLoad_keeps (s : State) (k slot : Nat) : State.Keeps s (State.tillLoad s k slot) := by
  unfold State.tillLoad
  try dsimp only
  repeat' first
    | with_reducible exact State.Keeps.refl _
    | assumption
    | with_reducible refine State.Keeps.onDev_after ?_
    | with_reducible refine State.Keeps.onDevHbm_after ?_
    | with_reducible refine State.Keeps.hbmStore_after ?_
    | with_reducible refine State.Keeps.hbmStoreBytes_after ?_
    | with_reducible refine State.Keeps.trans ?_ (State.tillSetWords_keeps _ _ _ _ _)
    | with_reducible refine State.Keeps.foldl_after (fun _ _ => ?_) ?_
    | with_reducible refine State.Keeps.onDevNv_after (pathDelayWrite_grows _ _ _ _ _) ?_
    | with_reducible refine State.Keeps.ite_after ?_ ?_


theorem State.eccLose_keeps (s : State) (k point : Nat) : State.Keeps s (State.eccLose s k point) := by
  unfold State.eccLose
  try dsimp only
  repeat' first
    | with_reducible exact State.Keeps.refl _
    | assumption
    | with_reducible refine State.Keeps.onDev_after ?_
    | with_reducible refine State.Keeps.onDevHbm_after ?_
    | with_reducible refine State.Keeps.hbmStore_after ?_
    | with_reducible refine State.Keeps.hbmStoreBytes_after ?_
    | with_reducible refine State.Keeps.trans ?_ (State.tillSet_keeps _ _ _ _ _)
    | with_reducible refine State.Keeps.foldl_after (fun _ _ => ?_) ?_
    | with_reducible refine State.Keeps.onDevNv_after (pathDelayWrite_grows _ _ _ _ _) ?_
    | with_reducible refine State.Keeps.ite_after ?_ ?_
    | split


theorem State.dumpDone_keeps (s : State) (k : Nat) : State.Keeps s (State.dumpDone s k) := by
  unfold State.dumpDone
  try dsimp only
  repeat' first
    | with_reducible exact State.Keeps.refl _
    | assumption
    | with_reducible refine State.Keeps.onDev_after ?_
    | with_reducible refine State.Keeps.onDevHbm_after ?_
    | with_reducible refine State.Keeps.hbmStore_after ?_
    | with_reducible refine State.Keeps.hbmStoreBytes_after ?_
    | with_reducible refine State.Keeps.foldl_after (fun _ _ => ?_) ?_
    | with_reducible refine State.Keeps.onDevNv_after (pathDelayWrite_grows _ _ _ _ _) ?_
    | with_reducible refine State.Keeps.ite_after ?_ ?_
    | split


theorem State.partCtrl_keeps (s : State) (who : Requester) (k val : Nat) (act : State → State) (h : ∀ u, State.Keeps u (act u)) : State.Keeps s (State.partCtrl s who k val act) := by
  unfold State.partCtrl
  repeat' first
    | with_reducible exact State.Keeps.refl _
    | assumption
    | with_reducible refine State.Keeps.onDev_after ?_
    | with_reducible refine State.Keeps.onDevHbm_after ?_
    | with_reducible refine State.Keeps.hbmStore_after ?_
    | with_reducible refine State.Keeps.hbmStoreBytes_after ?_
    | with_reducible refine State.Keeps.foldl_after (fun _ _ => ?_) ?_
    | with_reducible refine State.Keeps.onDevNv_after (pathDelayWrite_grows _ _ _ _ _) ?_
    | with_reducible refine State.Keeps.ite_after ?_ ?_
    | split
    | intro _
    | exact h _

theorem State.recipeValidationDone_keeps (s : State) (slot : Nat) : State.Keeps s (State.recipeValidationDone s slot) := by
  unfold State.recipeValidationDone
  try dsimp only
  repeat' first
    | with_reducible exact State.Keeps.refl _
    | assumption
    | with_reducible refine State.Keeps.onDev_after ?_
    | with_reducible refine State.Keeps.onDevHbm_after ?_
    | with_reducible refine State.Keeps.hbmStore_after ?_
    | with_reducible refine State.Keeps.hbmStoreBytes_after ?_
    | with_reducible refine State.Keeps.foldl_after (fun _ _ => ?_) ?_
    | with_reducible refine State.Keeps.onDevNv_after (pathDelayWrite_grows _ _ _ _ _) ?_
    | with_reducible refine State.Keeps.ite_after ?_ ?_
    | split


theorem State.recipeLoad_keeps (s : State) (id slot : Nat) (image : List Nat) : State.Keeps s (State.recipeLoad s id slot image) := by
  unfold State.recipeLoad
  try dsimp only
  repeat' first
    | with_reducible exact State.Keeps.refl _
    | assumption
    | with_reducible refine State.Keeps.onDev_after ?_
    | with_reducible refine State.Keeps.onDevHbm_after ?_
    | with_reducible refine State.Keeps.hbmStore_after ?_
    | with_reducible refine State.Keeps.hbmStoreBytes_after ?_
    | with_reducible refine State.Keeps.foldl_after (fun _ _ => ?_) ?_
    | with_reducible refine State.Keeps.onDevNv_after (pathDelayWrite_grows _ _ _ _ _) ?_
    | with_reducible refine State.Keeps.ite_after ?_ ?_


theorem State.uncorrectable_keeps (s : State) (pc line : Nat) : State.Keeps s (State.uncorrectable s pc line) := by
  unfold State.uncorrectable
  try dsimp only
  repeat' first
    | with_reducible exact State.Keeps.refl _
    | assumption
    | with_reducible refine State.Keeps.onDev_after ?_
    | with_reducible refine State.Keeps.onDevHbm_after ?_
    | with_reducible refine State.Keeps.hbmStore_after ?_
    | with_reducible refine State.Keeps.hbmStoreBytes_after ?_
    | with_reducible refine State.Keeps.foldl_after (fun _ _ => ?_) ?_
    | with_reducible refine State.Keeps.onDevNv_after (pathDelayWrite_grows _ _ _ _ _) ?_
    | with_reducible refine State.Keeps.ite_after ?_ ?_


theorem State.xferGo_keeps (s : State) : State.Keeps s (State.xferGo s) := by
  unfold State.xferGo
  try dsimp only
  repeat' first
    | with_reducible exact State.Keeps.refl _
    | assumption
    | with_reducible refine State.Keeps.onDev_after ?_
    | with_reducible refine State.Keeps.onDevHbm_after ?_
    | with_reducible refine State.Keeps.hbmStore_after ?_
    | with_reducible refine State.Keeps.hbmStoreBytes_after ?_
    | with_reducible refine State.Keeps.foldl_after (fun _ _ => ?_) ?_
    | with_reducible refine State.Keeps.onDevNv_after (pathDelayWrite_grows _ _ _ _ _) ?_
    | with_reducible refine State.Keeps.ite_after ?_ ?_
    | split


theorem State.xferDone_keeps (s : State) (ok : Bool) : State.Keeps s (State.xferDone s ok) := by
  unfold State.xferDone
  try dsimp only
  repeat' first
    | with_reducible exact State.Keeps.refl _
    | assumption
    | with_reducible refine State.Keeps.onDev_after ?_
    | with_reducible refine State.Keeps.onDevHbm_after ?_
    | with_reducible refine State.Keeps.hbmStore_after ?_
    | with_reducible refine State.Keeps.hbmStoreBytes_after ?_
    | with_reducible refine State.Keeps.foldl_after (fun _ _ => ?_) ?_
    | with_reducible refine State.Keeps.onDevNv_after (pathDelayWrite_grows _ _ _ _ _) ?_
    | with_reducible refine State.Keeps.ite_after ?_ ?_
    | split


theorem State.copyPiece_keeps (s : State) (src dst len at_ : Nat) (ws : List Nat) :
    State.Keeps s (State.copyPiece s src dst len at_ ws) := by
  unfold State.copyPiece
  extract_lets answer s1
  have h : State.Keeps s s1 := by
    show State.Keeps s (if _ then _ else _)
    split
    · exact (State.Keeps.refl s).onDev_after
    · exact .refl s
  have ha : ∀ (t : State) (ok : Bool), State.Keeps s t → State.Keeps s (answer t ok) := fun t ok ht => ht.onDev_after
  refine State.Keeps.ite_after (ha _ _ ((State.Keeps.refl s).onDev_after)) ?_
  split
  · exact h
  · exact State.Keeps.ite_after (ha _ _ (h.hbmStore_after).onDev_after) (h.hbmStore_after).onDev_after

theorem State.dataLand_keeps (s : State) (src : Nat) (p : DataPart) : State.Keeps s (State.dataLand s src p) := by
  unfold State.dataLand
  try dsimp only
  repeat' first
    | with_reducible exact State.Keeps.refl _
    | assumption
    | with_reducible refine State.Keeps.onDev_after ?_
    | with_reducible refine State.Keeps.onDevHbm_after ?_
    | with_reducible refine State.Keeps.hbmStore_after ?_
    | with_reducible refine State.Keeps.hbmStoreBytes_after ?_
    | with_reducible refine State.Keeps.trans ?_ (State.xferDone_keeps _ _)
    | with_reducible refine State.Keeps.trans ?_ (State.copyPiece_keeps _ _ _ _ _ _)
    | with_reducible refine State.Keeps.foldl_after (fun _ _ => ?_) ?_
    | with_reducible refine State.Keeps.onDevNv_after (pathDelayWrite_grows _ _ _ _ _) ?_
    | with_reducible refine State.Keeps.ite_after ?_ ?_
    | split


theorem State.dataFrame_keeps (s : State) (n : Nat) (c : FrameCheck) (f : DataFrame) : State.Keeps s (State.dataFrame s n c f) := by
  unfold State.dataFrame
  try dsimp only
  repeat' first
    | with_reducible exact State.Keeps.refl _
    | assumption
    | with_reducible refine State.Keeps.onDev_after ?_
    | with_reducible refine State.Keeps.onDevHbm_after ?_
    | with_reducible refine State.Keeps.hbmStore_after ?_
    | with_reducible refine State.Keeps.hbmStoreBytes_after ?_
    | with_reducible refine State.Keeps.trans ?_ (State.dataLand_keeps _ _ _)
    | with_reducible refine State.Keeps.foldl_after (fun _ _ => ?_) ?_
    | with_reducible refine State.Keeps.onDevNv_after (pathDelayWrite_grows _ _ _ _ _) ?_
    | with_reducible refine State.Keeps.ite_after ?_ ?_


theorem State.xaccImage_keeps (s : State) (k src : Nat) : State.Keeps s (State.xaccImage s k src) := by
  unfold State.xaccImage
  try dsimp only
  repeat' first
    | with_reducible exact State.Keeps.refl _
    | assumption
    | with_reducible refine State.Keeps.onDev_after ?_
    | with_reducible refine State.Keeps.onDevHbm_after ?_
    | with_reducible refine State.Keeps.hbmStore_after ?_
    | with_reducible refine State.Keeps.hbmStoreBytes_after ?_
    | with_reducible refine State.Keeps.trans ?_ (State.tillMerge_keeps _ _ _ _)
    | with_reducible refine State.Keeps.foldl_after (fun _ _ => ?_) ?_
    | with_reducible refine State.Keeps.onDevNv_after (pathDelayWrite_grows _ _ _ _ _) ?_
    | with_reducible refine State.Keeps.ite_after ?_ ?_
    | split


theorem State.bar6Read_keeps (s : State) (off len : Nat) : State.Keeps s (State.bar6Read s off len) := by
  unfold State.bar6Read
  try dsimp only
  repeat' first
    | with_reducible exact State.Keeps.refl _
    | assumption
    | with_reducible refine State.Keeps.onDev_after ?_
    | with_reducible refine State.Keeps.onDevHbm_after ?_
    | with_reducible refine State.Keeps.hbmStore_after ?_
    | with_reducible refine State.Keeps.hbmStoreBytes_after ?_
    | with_reducible refine State.Keeps.foldl_after (fun _ _ => ?_) ?_
    | with_reducible refine State.Keeps.onDevNv_after (pathDelayWrite_grows _ _ _ _ _) ?_
    | with_reducible refine State.Keeps.ite_after ?_ ?_


theorem State.bar6Write_keeps (s : State) (off : Nat) (bytes : List Byte) : State.Keeps s (State.bar6Write s off bytes) := by
  unfold State.bar6Write
  try dsimp only
  repeat' first
    | with_reducible exact State.Keeps.refl _
    | assumption
    | with_reducible refine State.Keeps.onDev_after ?_
    | with_reducible refine State.Keeps.onDevHbm_after ?_
    | with_reducible refine State.Keeps.hbmStore_after ?_
    | with_reducible refine State.Keeps.hbmStoreBytes_after ?_
    | with_reducible refine State.Keeps.foldl_after (fun _ _ => ?_) ?_
    | with_reducible refine State.Keeps.onDevNv_after (pathDelayWrite_grows _ _ _ _ _) ?_
    | with_reducible refine State.Keeps.ite_after ?_ ?_


theorem State.lifeEffects_keeps (j : Journal) (s : State) : State.Keeps s (State.lifeEffects j s) := by
  unfold State.lifeEffects
  repeat' split
  · exact ⟨rfl, fun h => h, ⟨List.prefix_refl _, Nat.le_refl _, Nat.le_refl _, Nat.le_refl _, fun _ h => h⟩⟩
  · exact ⟨rfl, fun h => h, ⟨List.prefix_refl _, Nat.le_refl _, Nat.le_refl _, Nat.le_refl _, fun _ h => h⟩⟩
  · exact ⟨rfl, fun h => h, ⟨List.prefix_refl _, Nat.le_refl _, Nat.le_refl _, Nat.le_refl _, fun _ h => h⟩⟩
  · exact ⟨rfl, fun _ => rfl, ⟨List.prefix_refl _, Nat.le_refl _, Nat.le_refl _, Nat.le_refl _, fun _ h => h⟩⟩
  · exact ⟨rfl, fun h => h, ⟨List.prefix_refl _, Nat.le_refl _, Nat.le_refl _, Nat.le_refl _, fun _ h => h⟩⟩

theorem otpProgram_grows (otp : List Nat) (code : Nat) : otp <+: otpProgram otp code := by
  unfold otpProgram
  repeat' split
  · exact List.prefix_refl _
  · exact List.prefix_append _ _
  · exact List.prefix_refl _

theorem State.lifeAdvance_keeps (j : Journal) (s : State) : State.Keeps s (State.lifeAdvance j s) :=
  (State.lifeEffects_keeps j s).trans
    ⟨rfl, fun h => h, ⟨otpProgram_grows _ _, Nat.le_refl _, Nat.le_refl _, Nat.le_refl _, fun _ h => h⟩⟩

theorem State.lifeEntered_keeps (s : State) : State.Keeps s (State.lifeEntered s) := by
  unfold State.lifeEntered
  try dsimp only
  repeat' first
    | with_reducible exact State.Keeps.refl _
    | assumption
    | with_reducible refine State.Keeps.onDev_after ?_


theorem State.journalReplay_keeps (s : State) : State.Keeps s (State.journalReplay s) := by
  unfold State.journalReplay
  split
  · exact .refl s
  · exact ((State.lifeAdvance_keeps _ s).trans (State.lifeEntered_keeps _)).onDev_after

theorem State.romBegin_keeps (s : State) : State.Keeps s (State.romBegin s) := by
  unfold State.romBegin
  exact (State.journalReplay_keeps s).onDev_after

theorem State.foremanRestart_keeps (s : State) : State.Keeps s (State.foremanRestart s) := by
  unfold State.foremanRestart
  try dsimp only
  repeat' first
    | with_reducible exact State.Keeps.refl _
    | assumption
    | with_reducible refine State.Keeps.onDev_after ?_
    | with_reducible refine State.Keeps.onDevHbm_after ?_
    | with_reducible refine State.Keeps.hbmStore_after ?_
    | with_reducible refine State.Keeps.hbmStoreBytes_after ?_
    | with_reducible refine State.Keeps.trans ?_ (State.romBegin_keeps _)


theorem State.romStart_keeps (s : State) : State.Keeps s (State.romStart s) := by
  have h : State.Keeps s { s with nv.otpSvn := max s.nv.otpSvn s.nv.mramSvn } :=
    ⟨rfl, fun h => h, ⟨List.prefix_refl _, Nat.le_max_left _ _, Nat.le_refl _, Nat.le_refl _, fun _ h => h⟩⟩
  unfold State.romStart
  exact (h.trans (State.romBegin_keeps _)).onDev_after

theorem NonVolatile.tripLogged_grows (nv : NonVolatile) (d : Dev) : NonVolatile.Grows nv (nv.tripLogged d) := by
  unfold NonVolatile.tripLogged
  split
  · exact .refl _
  · exact ⟨List.prefix_refl _, Nat.le_refl _, Nat.le_refl _, Nat.le_refl _, fun _ h => h⟩

theorem State.imageRead_keeps (img : FwImage) (s : State) : State.Keeps s (State.imageRead img s) := by
  have h : State.Keeps s (if s.dev.flag Reg.top_ROM_DONE then s else s.romStart) :=
    State.Keeps.ite_after (.refl s) (State.romStart_keeps s)
  unfold State.imageRead
  extract_lets u d slot
  refine h.trans ?_
  show State.Keeps u _
  refine State.Keeps.ite_after (.refl u) (State.Keeps.ite_after ?_ (State.Keeps.ite_after (.withDev u _) (.withDev u _)))
  exact ⟨rfl, fun h => h, NonVolatile.tripLogged_grows _ _⟩

theorem State.foremanExpiry_keeps (bit atMs : Nat) (s : State) : State.Keeps s (State.foremanExpiry bit atMs s) := by
  unfold State.foremanExpiry
  extract_lets times s1 s2
  have h : State.Keeps s s2 := ((State.Keeps.refl s).onDev_after).trans (State.foremanRestart_keeps _)
  exact State.Keeps.ite_after (.refl s) (State.Keeps.ite_after h h.onDev_after)

theorem State.lcTransition_keeps (id : Nat) (r : LcRequest) (s : State) : State.Keeps s (State.lcTransition id r s) := by
  unfold State.lcTransition
  extract_lets st j
  refine State.Keeps.ite_after (State.Keeps.refl s).onDev_after (State.Keeps.ite_after (State.Keeps.refl s).onDev_after ?_)
  split
  · exact (((State.lifeAdvance_keeps j s).trans (State.lifeEntered_keeps _)).onDev_after).trans (State.foremanRestart_keeps _)
  · refine (State.lifeEffects_keeps j s).trans ⟨rfl, fun h => h, ⟨?_, Nat.le_refl _, Nat.le_refl _, Nat.le_refl _, fun _ h => h⟩⟩
    dsimp only
    split
    · exact List.prefix_append _ _
    · exact List.prefix_refl _

theorem State.lcRequest_keeps (id : Nat) (r : LcRequest) (s : State) : State.Keeps s (State.lcRequest id r s) := by
  have h : ∀ n, State.Keeps s { s with dev.fore.nonce := n } := fun n => .withDev s _
  unfold State.lcRequest
  refine State.Keeps.ite_after (h none).onDev_after ?_
  split
  · exact (h none).trans (State.lcTransition_keeps _ _ _)
  · refine State.Keeps.onDev_after ((h none).trans ?_)
    exact ⟨rfl, fun h => h, ⟨List.prefix_refl _, Nat.le_refl _, Nat.le_refl _, Nat.le_refl _, fun _ h => h⟩⟩
  · exact (h none).onDev_after
  · refine State.Keeps.onDev_after ((h none).trans ?_)
    refine ⟨rfl, fun h => h, ⟨List.prefix_refl _, Nat.le_refl _, Nat.le_refl _, Nat.le_refl _, fun n h => ?_⟩⟩
    exact bitAt_or_of_left h

theorem State.fwActivate_keeps (id : Nat) (ws : List Nat) (img : FwImage) (s : State) :
    State.Keeps s (State.fwActivate id ws img s) := by
  have h : ∀ slot, State.Keeps s { s with nv.bootPref := slot } := fun _ =>
    ⟨rfl, fun h => h, ⟨List.prefix_refl _, Nat.le_refl _, Nat.le_refl _, Nat.le_refl _, fun _ h => h⟩⟩
  unfold State.fwActivate
  refine State.Keeps.ite_after (State.Keeps.refl s).onDev_after (State.Keeps.ite_after (State.Keeps.refl s).onDev_after ?_)
  exact State.Keeps.ite_after (((h _).onDev_after).trans (State.foremanRestart_keeps _)) (h _).onDev_after

theorem State.tableRead_keeps (s : State) (who : Requester) (page sel addr : Nat) : State.Keeps s (State.tableRead s who page sel addr) := by
  unfold State.tableRead
  try dsimp only
  repeat' first
    | with_reducible exact State.Keeps.refl _
    | assumption
    | with_reducible refine State.Keeps.onDev_after ?_
    | with_reducible refine State.Keeps.onDevHbm_after ?_
    | with_reducible refine State.Keeps.hbmStore_after ?_
    | with_reducible refine State.Keeps.hbmStoreBytes_after ?_
    | with_reducible refine State.Keeps.foldl_after (fun _ _ => ?_) ?_
    | with_reducible refine State.Keeps.onDevNv_after (pathDelayWrite_grows _ _ _ _ _) ?_
    | with_reducible refine State.Keeps.ite_after ?_ ?_


theorem State.tablePut_keeps (s : State) (page sel addr val : Nat) : State.Keeps s (State.tablePut s page sel addr val) := by
  unfold State.tablePut
  try dsimp only
  repeat' first
    | with_reducible exact State.Keeps.refl _
    | assumption
    | with_reducible refine State.Keeps.onDev_after ?_
    | with_reducible refine State.Keeps.onDevHbm_after ?_
    | with_reducible refine State.Keeps.hbmStore_after ?_
    | with_reducible refine State.Keeps.hbmStoreBytes_after ?_
    | with_reducible refine State.Keeps.trans ?_ (State.tillSet_keeps _ _ _ _ _)
    | with_reducible refine State.Keeps.foldl_after (fun _ _ => ?_) ?_
    | with_reducible refine State.Keeps.onDevNv_after (pathDelayWrite_grows _ _ _ _ _) ?_
    | with_reducible refine State.Keeps.ite_after ?_ ?_
    | split


theorem State.tableWrite_keeps (s : State) (who : Requester) (page sel addr val : Nat) : State.Keeps s (State.tableWrite s who page sel addr val) := by
  unfold State.tableWrite
  try dsimp only
  repeat' first
    | with_reducible exact State.Keeps.refl _
    | assumption
    | with_reducible refine State.Keeps.onDev_after ?_
    | with_reducible refine State.Keeps.onDevHbm_after ?_
    | with_reducible refine State.Keeps.hbmStore_after ?_
    | with_reducible refine State.Keeps.hbmStoreBytes_after ?_
    | with_reducible refine State.Keeps.trans ?_ (State.tablePut_keeps _ _ _ _ _)
    | with_reducible refine State.Keeps.foldl_after (fun _ _ => ?_) ?_
    | with_reducible refine State.Keeps.onDevNv_after (pathDelayWrite_grows _ _ _ _ _) ?_
    | with_reducible refine State.Keeps.ite_after ?_ ?_


theorem State.tableData_keeps (s : State) (who : Requester) (page : Nat) (write : Option Nat) : State.Keeps s (State.tableData s who page write) := by
  unfold State.tableData
  try dsimp only
  repeat' first
    | with_reducible exact State.Keeps.refl _
    | assumption
    | with_reducible refine State.Keeps.onDev_after ?_
    | with_reducible refine State.Keeps.onDevHbm_after ?_
    | with_reducible refine State.Keeps.hbmStore_after ?_
    | with_reducible refine State.Keeps.hbmStoreBytes_after ?_
    | with_reducible refine State.Keeps.trans ?_ (State.tableRead_keeps _ _ _ _ _)
    | with_reducible refine State.Keeps.trans ?_ (State.tableWrite_keeps _ _ _ _ _ _)
    | with_reducible refine State.Keeps.foldl_after (fun _ _ => ?_) ?_
    | with_reducible refine State.Keeps.onDevNv_after (pathDelayWrite_grows _ _ _ _ _) ?_
    | with_reducible refine State.Keeps.ite_after ?_ ?_
    | split


theorem State.tableAperture_keeps (s : State) (page w : Nat) (write : Option Nat) : State.Keeps s (State.tableAperture s page w write) := by
  unfold State.tableAperture
  try dsimp only
  repeat' first
    | with_reducible exact State.Keeps.refl _
    | assumption
    | with_reducible refine State.Keeps.onDev_after ?_
    | with_reducible refine State.Keeps.onDevHbm_after ?_
    | with_reducible refine State.Keeps.hbmStore_after ?_
    | with_reducible refine State.Keeps.hbmStoreBytes_after ?_
    | with_reducible refine State.Keeps.trans ?_ (State.tableRead_keeps _ _ _ _ _)
    | with_reducible refine State.Keeps.trans ?_ (State.tableWrite_keeps _ _ _ _ _ _)
    | with_reducible refine State.Keeps.foldl_after (fun _ _ => ?_) ?_
    | with_reducible refine State.Keeps.onDevNv_after (pathDelayWrite_grows _ _ _ _ _) ?_
    | with_reducible refine State.Keeps.ite_after ?_ ?_
    | split


theorem State.crcStart_keeps (s : State) (page sel : Nat) : State.Keeps s (State.crcStart s page sel) := by
  unfold State.crcStart
  try dsimp only
  repeat' first
    | with_reducible exact State.Keeps.refl _
    | assumption
    | with_reducible refine State.Keeps.onDev_after ?_
    | with_reducible refine State.Keeps.onDevHbm_after ?_
    | with_reducible refine State.Keeps.hbmStore_after ?_
    | with_reducible refine State.Keeps.hbmStoreBytes_after ?_
    | with_reducible refine State.Keeps.foldl_after (fun _ _ => ?_) ?_
    | with_reducible refine State.Keeps.onDevNv_after (pathDelayWrite_grows _ _ _ _ _) ?_
    | with_reducible refine State.Keeps.ite_after ?_ ?_


theorem State.tableCtrl_keeps (s : State) (who : Requester) (page val : Nat) (act : TableDef → Nat → State → State) (h : ∀ t sel u, State.Keeps u (act t sel u)) : State.Keeps s (State.tableCtrl s who page val act) := by
  unfold State.tableCtrl
  repeat' first
    | with_reducible exact State.Keeps.refl _
    | assumption
    | with_reducible refine State.Keeps.onDev_after ?_
    | with_reducible refine State.Keeps.onDevHbm_after ?_
    | with_reducible refine State.Keeps.hbmStore_after ?_
    | with_reducible refine State.Keeps.hbmStoreBytes_after ?_
    | with_reducible refine State.Keeps.foldl_after (fun _ _ => ?_) ?_
    | with_reducible refine State.Keeps.onDevNv_after (pathDelayWrite_grows _ _ _ _ _) ?_
    | with_reducible refine State.Keeps.ite_after ?_ ?_
    | split
    | intro _
    | exact h _ _ _

theorem State.crcCheck_keeps (s : State) (who : Requester) (page : Nat) : State.Keeps s (State.crcCheck s who page) := by
  unfold State.crcCheck
  try dsimp only
  repeat' first
    | with_reducible exact State.Keeps.refl _
    | assumption
    | with_reducible refine State.Keeps.onDev_after ?_
    | with_reducible refine State.Keeps.onDevHbm_after ?_
    | with_reducible refine State.Keeps.hbmStore_after ?_
    | with_reducible refine State.Keeps.hbmStoreBytes_after ?_
    | with_reducible refine State.Keeps.trans ?_ (State.crcStart_keeps _ _ _)
    | with_reducible refine State.Keeps.trans ?_ (State.tableCtrl_keeps _ _ _ _ _ ?_)
    | with_reducible refine State.Keeps.foldl_after (fun _ _ => ?_) ?_
    | with_reducible refine State.Keeps.onDevNv_after (pathDelayWrite_grows _ _ _ _ _) ?_
    | with_reducible refine State.Keeps.ite_after ?_ ?_
    | split
    | intro _


theorem State.crcDoneOf_keeps (s : State) (page sel : Nat) : State.Keeps s (State.crcDoneOf s page sel) := by
  unfold State.crcDoneOf
  try dsimp only
  repeat' first
    | with_reducible exact State.Keeps.refl _
    | assumption
    | with_reducible refine State.Keeps.onDev_after ?_
    | with_reducible refine State.Keeps.onDevHbm_after ?_
    | with_reducible refine State.Keeps.hbmStore_after ?_
    | with_reducible refine State.Keeps.hbmStoreBytes_after ?_
    | with_reducible refine State.Keeps.trans ?_ (State.tablePut_keeps _ _ _ _ _)
    | with_reducible refine State.Keeps.foldl_after (fun _ _ => ?_) ?_
    | with_reducible refine State.Keeps.onDevNv_after (pathDelayWrite_grows _ _ _ _ _) ?_
    | with_reducible refine State.Keeps.ite_after ?_ ?_


theorem State.crcDone_keeps (s : State) (page : Nat) : State.Keeps s (State.crcDone s page) :=
  State.Keeps.foldl_after (fun u sel => State.crcDoneOf_keeps u page sel) (.refl s)

theorem State.tableCopyOf_keeps (s : State) (who : Requester) (page sel : Nat) (t : TableDef) (val : Nat) : State.Keeps s (State.tableCopyOf s who page sel t val) := by
  unfold State.tableCopyOf
  try dsimp only
  repeat' first
    | with_reducible exact State.Keeps.refl _
    | assumption
    | with_reducible refine State.Keeps.onDev_after ?_


theorem State.tableCopy_keeps (s : State) (who : Requester) (page : Nat) : State.Keeps s (State.tableCopy s who page) := by
  unfold State.tableCopy
  try dsimp only
  repeat' first
    | with_reducible exact State.Keeps.refl _
    | assumption
    | with_reducible refine State.Keeps.onDev_after ?_
    | with_reducible refine State.Keeps.onDevHbm_after ?_
    | with_reducible refine State.Keeps.hbmStore_after ?_
    | with_reducible refine State.Keeps.hbmStoreBytes_after ?_
    | with_reducible refine State.Keeps.trans ?_ (State.tableCtrl_keeps _ _ _ _ _ ?_)
    | with_reducible refine State.Keeps.trans ?_ (State.tableCopyOf_keeps _ _ _ _ _ _)
    | with_reducible refine State.Keeps.foldl_after (fun _ _ => ?_) ?_
    | with_reducible refine State.Keeps.onDevNv_after (pathDelayWrite_grows _ _ _ _ _) ?_
    | with_reducible refine State.Keeps.ite_after ?_ ?_
    | split
    | intro _


theorem State.swapRequest_keeps (s : State) (page sel : Nat) : State.Keeps s (State.swapRequest s page sel) := by
  unfold State.swapRequest
  try dsimp only
  repeat' first
    | with_reducible exact State.Keeps.refl _
    | assumption
    | with_reducible refine State.Keeps.onDev_after ?_
    | with_reducible refine State.Keeps.onDevHbm_after ?_
    | with_reducible refine State.Keeps.hbmStore_after ?_
    | with_reducible refine State.Keeps.hbmStoreBytes_after ?_
    | with_reducible refine State.Keeps.trans ?_ (State.crcStart_keeps _ _ _)
    | with_reducible refine State.Keeps.foldl_after (fun _ _ => ?_) ?_
    | with_reducible refine State.Keeps.onDevNv_after (pathDelayWrite_grows _ _ _ _ _) ?_
    | with_reducible refine State.Keeps.ite_after ?_ ?_


theorem State.tableSwap_keeps (s : State) (who : Requester) (page : Nat) : State.Keeps s (State.tableSwap s who page) := by
  unfold State.tableSwap
  try dsimp only
  repeat' first
    | with_reducible exact State.Keeps.refl _
    | assumption
    | with_reducible refine State.Keeps.onDev_after ?_
    | with_reducible refine State.Keeps.onDevHbm_after ?_
    | with_reducible refine State.Keeps.hbmStore_after ?_
    | with_reducible refine State.Keeps.hbmStoreBytes_after ?_
    | with_reducible refine State.Keeps.trans ?_ (State.tableCtrl_keeps _ _ _ _ _ ?_)
    | with_reducible refine State.Keeps.trans ?_ (State.swapRequest_keeps _ _ _)
    | with_reducible refine State.Keeps.foldl_after (fun _ _ => ?_) ?_
    | with_reducible refine State.Keeps.onDevNv_after (pathDelayWrite_grows _ _ _ _ _) ?_
    | with_reducible refine State.Keeps.ite_after ?_ ?_
    | split
    | intro _


theorem State.swapResolve_keeps (s : State) (page sel : Nat) : State.Keeps s (State.swapResolve s page sel) := by
  unfold State.swapResolve
  try dsimp only
  repeat' first
    | with_reducible exact State.Keeps.refl _
    | assumption
    | with_reducible refine State.Keeps.onDev_after ?_
    | with_reducible refine State.Keeps.onDevHbm_after ?_
    | with_reducible refine State.Keeps.hbmStore_after ?_
    | with_reducible refine State.Keeps.hbmStoreBytes_after ?_
    | with_reducible refine State.Keeps.foldl_after (fun _ _ => ?_) ?_
    | with_reducible refine State.Keeps.onDevNv_after (pathDelayWrite_grows _ _ _ _ _) ?_
    | with_reducible refine State.Keeps.ite_after ?_ ?_


theorem State.swapTakeEffect_keeps (s : State) (page : Nat) : State.Keeps s (State.swapTakeEffect s page) :=
  State.Keeps.onDev_after (State.Keeps.foldl_after (fun u p =>
    State.Keeps.foldl_after (fun v sel => State.swapResolve_keeps v p sel) (.refl u)) (.refl s))

theorem State.sectionWrite_keeps (s : State) (x : ImgSection) : State.Keeps s (State.sectionWrite s x) := by
  unfold State.sectionWrite
  try dsimp only
  repeat' first
    | with_reducible exact State.Keeps.refl _
    | assumption
    | with_reducible refine State.Keeps.onDev_after ?_


theorem State.sectionsWrite_keeps (xs : List ImgSection) : ∀ (s : State) (n : Nat), State.Keeps s (s.sectionsWrite n xs).1 := by
  induction xs with
  | nil => intro s n; exact .refl s
  | cons x t ih =>
    intro s n
    have h : State.Keeps s (s.sectionWrite x) := State.sectionWrite_keeps s x
    unfold State.sectionsWrite
    dsimp only
    split
    · exact h
    · split
      · exact h
      · exact h.trans (ih _ _)

theorem State.tableLoad_keeps (s : State) (id : Nat) (ws : List Nat) (len : Nat) (swap : Bool) :
    State.Keeps s (State.tableLoad s id ws len swap) := by
  have h : ∀ f xs, State.Keeps s ((s.onDev f).sectionsWrite 0 xs).1 := fun f xs =>
    ((State.Keeps.refl s).onDev_after).trans (State.sectionsWrite_keeps _ _ _)
  unfold State.tableLoad
  refine State.Keeps.ite_after (State.Keeps.refl s).onDev_after ?_
  extract_lets xs ts r
  split
  · exact (h _ _).onDev_after
  · exact (h _ _).onDev_after

theorem State.sectionsDone_keeps (s : State) : State.Keeps s (State.sectionsDone s) := by
  unfold State.sectionsDone
  try dsimp only
  repeat' first
    | with_reducible exact State.Keeps.refl _
    | assumption
    | with_reducible refine State.Keeps.onDev_after ?_
    | with_reducible refine State.Keeps.onDevHbm_after ?_
    | with_reducible refine State.Keeps.hbmStore_after ?_
    | with_reducible refine State.Keeps.hbmStoreBytes_after ?_
    | with_reducible refine State.Keeps.trans ?_ (State.swapRequest_keeps _ _ _)
    | with_reducible refine State.Keeps.foldl_after (fun _ _ => ?_) ?_
    | with_reducible refine State.Keeps.onDevNv_after (pathDelayWrite_grows _ _ _ _ _) ?_
    | with_reducible refine State.Keeps.ite_after ?_ ?_
    | split


theorem State.injTorn_keeps (k : Nat) (s : State) : State.Keeps s (State.injTorn k s) := by
  unfold State.injTorn
  try dsimp only
  repeat' first
    | with_reducible exact State.Keeps.refl _
    | assumption
    | with_reducible refine State.Keeps.onDev_after ?_
    | with_reducible refine State.Keeps.onDevHbm_after ?_
    | with_reducible refine State.Keeps.hbmStore_after ?_
    | with_reducible refine State.Keeps.hbmStoreBytes_after ?_
    | with_reducible refine State.Keeps.trans ?_ (State.recordEnd_keeps _ _ _ _ _ _)
    | with_reducible refine State.Keeps.foldl_after (fun _ _ => ?_) ?_
    | with_reducible refine State.Keeps.onDevNv_after (pathDelayWrite_grows _ _ _ _ _) ?_
    | with_reducible refine State.Keeps.ite_after ?_ ?_
    | split


theorem State.presentAt_keeps (s : State) (p e el atMs : Nat) : State.Keeps s (State.presentAt s p e el atMs) := by
  unfold State.presentAt
  try dsimp only
  repeat' first
    | with_reducible exact State.Keeps.refl _
    | assumption
    | with_reducible refine State.Keeps.onDev_after ?_
    | with_reducible refine State.Keeps.onDevHbm_after ?_
    | with_reducible refine State.Keeps.hbmStore_after ?_
    | with_reducible refine State.Keeps.hbmStoreBytes_after ?_
    | with_reducible refine State.Keeps.trans ?_ (State.onTrig_keeps _ _)
    | with_reducible refine State.Keeps.trans ?_ (State.eccLose_keeps _ _ _)
    | with_reducible refine State.Keeps.trans ?_ (State.foremanExpiry_keeps _ _ _)
    | with_reducible refine State.Keeps.trans ?_ (State.injTorn_keeps _ _)
    | with_reducible refine State.Keeps.foldl_after (fun _ _ => ?_) ?_
    | with_reducible refine State.Keeps.onDevNv_after (pathDelayWrite_grows _ _ _ _ _) ?_
    | with_reducible refine State.Keeps.ite_after ?_ ?_


theorem State.inject_keeps (s : State) (p e el atMs : Nat) : State.Keeps s (State.inject s p e el atMs) := by
  unfold State.inject
  try dsimp only
  repeat' first
    | with_reducible exact State.Keeps.refl _
    | assumption
    | with_reducible refine State.Keeps.onDev_after ?_
    | with_reducible refine State.Keeps.onDevHbm_after ?_
    | with_reducible refine State.Keeps.hbmStore_after ?_
    | with_reducible refine State.Keeps.hbmStoreBytes_after ?_
    | with_reducible refine State.Keeps.trans ?_ (State.presentAt_keeps _ _ _ _ _)


theorem State.injectBit_keeps (p atMs : Nat) (s : State) (e : Nat) : State.Keeps s (State.injectBit p atMs s e) := by
  unfold State.injectBit
  try dsimp only
  repeat' first
    | with_reducible exact State.Keeps.refl _
    | assumption
    | with_reducible refine State.Keeps.onDev_after ?_
    | with_reducible refine State.Keeps.onDevHbm_after ?_
    | with_reducible refine State.Keeps.hbmStore_after ?_
    | with_reducible refine State.Keeps.hbmStoreBytes_after ?_
    | with_reducible refine State.Keeps.trans ?_ (State.inject_keeps _ _ _ _ _)
    | with_reducible refine State.Keeps.foldl_after (fun _ _ => ?_) ?_
    | with_reducible refine State.Keeps.onDevNv_after (pathDelayWrite_grows _ _ _ _ _) ?_
    | with_reducible refine State.Keeps.ite_after ?_ ?_
    | split


theorem State.eventInject_keeps (s : State) (who : Requester) (p val atMs : Nat) : State.Keeps s (State.eventInject s who p val atMs) := by
  unfold State.eventInject
  try dsimp only
  repeat' first
    | with_reducible exact State.Keeps.refl _
    | assumption
    | with_reducible refine State.Keeps.onDev_after ?_
    | with_reducible refine State.Keeps.onDevHbm_after ?_
    | with_reducible refine State.Keeps.hbmStore_after ?_
    | with_reducible refine State.Keeps.hbmStoreBytes_after ?_
    | with_reducible refine State.Keeps.trans ?_ (State.injectBit_keeps _ _ _ _)
    | with_reducible refine State.Keeps.foldl_after (fun _ _ => ?_) ?_
    | with_reducible refine State.Keeps.onDevNv_after (pathDelayWrite_grows _ _ _ _ _) ?_
    | with_reducible refine State.Keeps.ite_after ?_ ?_


theorem getLog_grows (id cls : Nat) (ws : List Nat) (d : Dev) (nv : NonVolatile) : NonVolatile.Grows nv (getLog id cls ws d nv).2 := by
  unfold getLog
  dsimp only
  repeat' first
    | exact NonVolatile.Grows.refl _
    | exact ⟨List.prefix_refl _, Nat.le_refl _, Nat.le_refl _, Nat.le_refl _, fun _ h => h⟩
    | split

theorem attest_grows (id : Nat) (ws sig : List Nat) (d : Dev) (nv : NonVolatile) : NonVolatile.Grows nv (attest id ws sig d nv).2 := by
  unfold attest
  extract_lets q
  split
  · exact .refl _
  · split
    · exact .refl _
    · split
      · exact .refl _
      · split
        · exact .refl _
        · show NonVolatile.Grows nv (if nv.attReserved ≤ q then _ else nv)
          split
          · exact ⟨List.prefix_refl _, Nat.le_refl _, Nat.le_refl _, Nat.le_add_right _ _, fun _ h => h⟩
          · exact .refl _

theorem fwCommit_grows (id : Nat) (d : Dev) (nv : NonVolatile) : NonVolatile.Grows nv (fwCommit id d nv).2 := by
  unfold fwCommit
  extract_lets v
  split
  · exact .refl _
  · exact ⟨List.prefix_refl _, Nat.le_max_left _ _, Nat.le_max_left _ _, Nat.le_refl _, fun _ h => h⟩

theorem State.runCmd_keeps (s : State) (id cls : Nat) (ws : List Nat) (data : HostData) :
    State.Keeps s (State.runCmd s id cls ws data) := by
  have hd : ∀ f : Dev → Dev, State.Keeps s (s.onDev f) := fun f => (State.Keeps.refl s).onDev_after
  unfold State.runCmd
  extract_lets op words
  repeat' first
    | with_reducible exact hd _
    | with_reducible exact State.tableLoad_keeps _ _ _ _ _
    | with_reducible exact State.recipeLoad_keeps _ _ _ _
    | with_reducible exact State.lcRequest_keeps _ _ _
    | with_reducible exact State.fwActivate_keeps _ _ _ _
    | with_reducible exact State.Keeps.onDevNv_after (getLog_grows _ _ _ _ _) (.refl s)
    | with_reducible exact State.Keeps.onDevNv_after (attest_grows _ _ _ _ _) (.refl s)
    | with_reducible exact State.Keeps.onDevNv_after (fwCommit_grows _ _ _) (.refl s)
    | with_reducible refine State.Keeps.ite_after ?_ ?_
    | split

theorem State.startCmd_keeps (s : State) (id q cls : Nat) (ws : List Nat) (data : HostData) : State.Keeps s (State.startCmd s id q cls ws data) := by
  unfold State.startCmd
  try dsimp only
  repeat' first
    | with_reducible exact State.Keeps.refl _
    | assumption
    | with_reducible refine State.Keeps.onDev_after ?_
    | with_reducible refine State.Keeps.onDevHbm_after ?_
    | with_reducible refine State.Keeps.hbmStore_after ?_
    | with_reducible refine State.Keeps.hbmStoreBytes_after ?_
    | with_reducible refine State.Keeps.trans ?_ (State.runCmd_keeps _ _ _ _ _)
    | with_reducible refine State.Keeps.foldl_after (fun _ _ => ?_) ?_
    | with_reducible refine State.Keeps.onDevNv_after (pathDelayWrite_grows _ _ _ _ _) ?_
    | with_reducible refine State.Keeps.ite_after ?_ ?_


theorem State.submitConsume_keeps (s : State) (q : Nat) (entry : List Word) (data : HostData) : State.Keeps s (State.submitConsume s q entry data) := by
  unfold State.submitConsume
  try dsimp only
  repeat' first
    | with_reducible exact State.Keeps.refl _
    | assumption
    | with_reducible refine State.Keeps.onDev_after ?_
    | with_reducible refine State.Keeps.onDevHbm_after ?_
    | with_reducible refine State.Keeps.hbmStore_after ?_
    | with_reducible refine State.Keeps.hbmStoreBytes_after ?_
    | with_reducible refine State.Keeps.trans ?_ (State.startCmd_keeps _ _ _ _ _ _)
    | with_reducible refine State.Keeps.foldl_after (fun _ _ => ?_) ?_
    | with_reducible refine State.Keeps.onDevNv_after (pathDelayWrite_grows _ _ _ _ _) ?_
    | with_reducible refine State.Keeps.ite_after ?_ ?_


theorem State.consumeOp_keeps (s : State) (op : Nat) (q : Nat) (entry : List Word) (data : HostData) : State.Keeps s (State.consumeOp s op q entry data) := by
  unfold State.consumeOp
  try dsimp only
  repeat' first
    | with_reducible exact State.Keeps.refl _
    | assumption
    | with_reducible refine State.Keeps.onDev_after ?_
    | with_reducible refine State.Keeps.onDevHbm_after ?_
    | with_reducible refine State.Keeps.hbmStore_after ?_
    | with_reducible refine State.Keeps.hbmStoreBytes_after ?_
    | with_reducible refine State.Keeps.trans ?_ (State.submitConsume_keeps _ _ _ _)
    | with_reducible refine State.Keeps.foldl_after (fun _ _ => ?_) ?_
    | with_reducible refine State.Keeps.onDevNv_after (pathDelayWrite_grows _ _ _ _ _) ?_
    | with_reducible refine State.Keeps.ite_after ?_ ?_


theorem State.publish_keeps (s : State) (x : Ticket) (o : TicketOut) (op : RecipeOp) : State.Keeps s (s.publish x o op).1 := by
  have hd : ∀ f : Dev → Dev, State.Keeps s (s.onDev f) := fun f => (State.Keeps.refl s).onDev_after
  unfold State.publish
  by_cases h1 : op.op = 0x38
  · rw [if_pos h1]
    dsimp only
    exact hd _
  · rw [if_neg h1]
    by_cases h2 : op.op = 0x39
    · rw [if_pos h2]
      dsimp only
      split
      · exact (State.Keeps.refl s).hbmStoreBytes_after
      · dsimp only
        exact hd _
    · rw [if_neg h2]
      by_cases h3 : op.op = 0x3A
      · rw [if_pos h3]
        split
        · exact .refl s
        · dsimp only
          exact State.Keeps.onDev_after (State.Keeps.foldl_after (fun u b => State.tillMerge_keeps u _ _ b) (.refl s))
      · rw [if_neg h3]
        by_cases h4 : op.op = 0x3B
        · rw [if_pos h4]; exact State.copyCommit_keeps s x
        · rw [if_neg h4]
          dsimp only
          exact hd _

theorem State.publishAll_keeps (id : Nat) (o : TicketOut) (ops : List RecipeOp) : ∀ s : State, State.Keeps s (s.publishAll id o ops).1 := by
  induction ops with
  | nil => intro s; exact .refl s
  | cons op ops ih =>
    intro s
    unfold State.publishAll
    split
    · exact .refl s
    · extract_lets r
      have h : State.Keeps s r.1 := State.publish_keeps s _ o op
      split
      · exact (h.onDev_after).trans (ih _)
      · exact h

theorem State.ticketCommit_keeps (s : State) (id : Nat) : State.Keeps s (State.ticketCommit s id) := by
  unfold State.ticketCommit
  split
  · exact .refl s
  · split
    · exact .refl s
    · split
      · exact .refl s
      · extract_lets r o1 s1 p
        have h1 : State.Keeps s s1 := (State.Keeps.refl s).onDev_after
        have h : State.Keeps s p.1 := by
          show State.Keeps s (if o1.status = 0 then _ else (s1, true)).1
          split
          · exact h1.trans (State.publishAll_keeps _ _ _ _)
          · exact h1
        split
        · exact h
        · exact h.onDev_after

theorem State.ticketsPost_keeps (s : State) : State.Keeps s (State.ticketsPost s) := by
  unfold State.ticketsPost
  try dsimp only
  repeat' first
    | with_reducible exact State.Keeps.refl _
    | assumption
    | with_reducible refine State.Keeps.onDev_after ?_
    | with_reducible refine State.Keeps.onDevHbm_after ?_
    | with_reducible refine State.Keeps.hbmStore_after ?_
    | with_reducible refine State.Keeps.hbmStoreBytes_after ?_
    | with_reducible refine State.Keeps.trans ?_ (State.ticketCommit_keeps _ _)
    | with_reducible refine State.Keeps.foldl_after (fun _ _ => ?_) ?_


theorem State.completionPost_keeps (s : State) : State.Keeps s (State.completionPost s) := by
  unfold State.completionPost
  try dsimp only
  repeat' first
    | with_reducible exact State.Keeps.refl _
    | assumption
    | with_reducible refine State.Keeps.onDev_after ?_
    | with_reducible refine State.Keeps.onDevHbm_after ?_
    | with_reducible refine State.Keeps.hbmStore_after ?_
    | with_reducible refine State.Keeps.hbmStoreBytes_after ?_
    | with_reducible refine State.Keeps.trans ?_ (State.ticketsPost_keeps _)


theorem State.multiRead_keeps (s : State) (who : Requester) (off w0 n : Nat) : State.Keeps s (State.multiRead s who off w0 n) := by
  unfold State.multiRead
  try dsimp only
  repeat' first
    | with_reducible exact State.Keeps.refl _
    | assumption
    | with_reducible refine State.Keeps.onDev_after ?_
    | with_reducible refine State.Keeps.onDevHbm_after ?_
    | with_reducible refine State.Keeps.hbmStore_after ?_
    | with_reducible refine State.Keeps.hbmStoreBytes_after ?_
    | with_reducible refine State.Keeps.foldl_after (fun _ _ => ?_) ?_
    | with_reducible refine State.Keeps.onDevNv_after (pathDelayWrite_grows _ _ _ _ _) ?_
    | with_reducible refine State.Keeps.ite_after ?_ ?_


theorem State.ticRead_keeps (s : State) (who : Requester) (off : Nat) : State.Keeps s (State.ticRead s who off) := by
  unfold State.ticRead
  exact State.Keeps.ite_after (((State.Keeps.refl s).onDev_after).trans (State.multiRead_keeps _ _ _ _ _)) (State.Keeps.refl s).onDev_after

theorem State.plainRead_keeps (s : State) (who : Requester) (off inc : Nat) : State.Keeps s (State.plainRead s who off inc) := by
  unfold State.plainRead
  try dsimp only
  repeat' first
    | with_reducible exact State.Keeps.refl _
    | assumption
    | with_reducible refine State.Keeps.onDev_after ?_


theorem State.bar0Read_keeps (s : State) (who : Requester) (off inc : Nat) : State.Keeps s (State.bar0Read s who off inc) := by
  have hd : ∀ f : Dev → Dev, State.Keeps s (s.onDev f) := fun f => (State.Keeps.refl s).onDev_after
  unfold State.bar0Read
  refine State.Keeps.ite_after (hd _) (State.Keeps.ite_after (hd _) (State.Keeps.ite_after (hd _) (State.Keeps.ite_after (hd _)
    (State.Keeps.ite_after (hd _) (State.Keeps.ite_after (hd _) (State.Keeps.ite_after (State.tableData_keeps _ _ _ _)
      (State.Keeps.ite_after (hd _) (State.Keeps.ite_after (State.ticRead_keeps _ _ _) ?_))))))))
  split
  · exact State.multiRead_keeps _ _ _ _ _
  · exact hd _

theorem State.bar2Read_keeps (s : State) (b : Nat) : State.Keeps s (State.bar2Read s b) := by
  have hd : ∀ f : Dev → Dev, State.Keeps s (s.onDev f) := fun f => (State.Keeps.refl s).onDev_after
  unfold State.bar2Read
  exact State.Keeps.ite_after (hd _) (State.Keeps.ite_after (State.tableAperture_keeps _ _ _ _) (hd _))

theorem State.barRead_keeps (s : State) (who : Requester) (off inc : Nat) : State.Keeps s (State.barRead s who off inc) := by
  unfold State.barRead
  refine State.Keeps.ite_after (State.bar0Read_keeps _ _ _ _) ?_
  split
  · exact State.bar2Read_keeps _ _
  · exact (State.Keeps.refl s).onDev_after

theorem State.coldReset_keeps (s : State) : State.Keeps s (State.coldReset s) := by
  unfold State.coldReset
  split
  · extract_lets s1
    have h : State.Keeps s s1 :=
      (show State.Keeps s { s with dev := s.dev.coldStart, hbm := [] } from ⟨rfl, fun _ => rfl, .refl _⟩).trans (State.romStart_keeps _)
    split
    · exact h
    · exact h.onDev_after
  · exact (State.Keeps.refl s).onDev_after

theorem State.headerWrite_keeps (s : State) (who : Requester) (p o val : Nat) : State.Keeps s (State.headerWrite s who p o val) := by
  unfold State.headerWrite
  try dsimp only
  repeat' first
    | with_reducible exact State.Keeps.refl _
    | assumption
    | with_reducible refine State.Keeps.onDev_after ?_
    | with_reducible refine State.Keeps.onDevHbm_after ?_
    | with_reducible refine State.Keeps.hbmStore_after ?_
    | with_reducible refine State.Keeps.hbmStoreBytes_after ?_
    | with_reducible refine State.Keeps.trans ?_ (State.eventInject_keeps _ _ _ _ _)
    | with_reducible refine State.Keeps.foldl_after (fun _ _ => ?_) ?_
    | with_reducible refine State.Keeps.onDevNv_after (pathDelayWrite_grows _ _ _ _ _) ?_
    | with_reducible refine State.Keeps.ite_after ?_ ?_


theorem State.tableCtrlWrite_keeps (s : State) (who : Requester) (p val : Nat) : State.Keeps s (State.tableCtrlWrite s who p val) := by
  unfold State.tableCtrlWrite
  try dsimp only
  repeat' first
    | with_reducible exact State.Keeps.refl _
    | assumption
    | with_reducible refine State.Keeps.onDev_after ?_
    | with_reducible refine State.Keeps.onDevHbm_after ?_
    | with_reducible refine State.Keeps.hbmStore_after ?_
    | with_reducible refine State.Keeps.hbmStoreBytes_after ?_
    | with_reducible refine State.Keeps.trans ?_ (State.crcStart_keeps _ _ _)
    | with_reducible refine State.Keeps.trans ?_ (State.tableCopyOf_keeps _ _ _ _ _ _)
    | with_reducible refine State.Keeps.trans ?_ (State.swapRequest_keeps _ _ _)
    | with_reducible refine State.Keeps.foldl_after (fun _ _ => ?_) ?_
    | with_reducible refine State.Keeps.onDevNv_after (pathDelayWrite_grows _ _ _ _ _) ?_
    | with_reducible refine State.Keeps.ite_after ?_ ?_
    | split


theorem State.tableWindowWrite_keeps (s : State) (who : Requester) (p o val : Nat) : State.Keeps s (State.tableWindowWrite s who p o val) := by
  unfold State.tableWindowWrite
  try dsimp only
  repeat' first
    | with_reducible exact State.Keeps.refl _
    | assumption
    | with_reducible refine State.Keeps.onDev_after ?_
    | with_reducible refine State.Keeps.onDevHbm_after ?_
    | with_reducible refine State.Keeps.hbmStore_after ?_
    | with_reducible refine State.Keeps.hbmStoreBytes_after ?_
    | with_reducible refine State.Keeps.trans ?_ (State.tableData_keeps _ _ _ _)
    | with_reducible refine State.Keeps.trans ?_ (State.tableCtrlWrite_keeps _ _ _ _)
    | with_reducible refine State.Keeps.foldl_after (fun _ _ => ?_) ?_
    | with_reducible refine State.Keeps.onDevNv_after (pathDelayWrite_grows _ _ _ _ _) ?_
    | with_reducible refine State.Keeps.ite_after ?_ ?_


theorem State.partCtrlWrite_keeps (s : State) (who : Requester) (k val : Nat) : State.Keeps s (State.partCtrlWrite s who k val) := by
  unfold State.partCtrlWrite
  try dsimp only
  repeat' first
    | with_reducible exact State.Keeps.refl _
    | assumption
    | with_reducible refine State.Keeps.onDev_after ?_
    | with_reducible refine State.Keeps.onDevHbm_after ?_
    | with_reducible refine State.Keeps.hbmStore_after ?_
    | with_reducible refine State.Keeps.hbmStoreBytes_after ?_
    | with_reducible refine State.Keeps.trans ?_ (State.tillClear_keeps _ _)
    | with_reducible refine State.Keeps.trans ?_ (State.tillLoad_keeps _ _ _)
    | with_reducible refine State.Keeps.trans ?_ (State.partCtrl_keeps _ _ _ _ _ ?_)
    | with_reducible refine State.Keeps.foldl_after (fun _ _ => ?_) ?_
    | with_reducible refine State.Keeps.onDevNv_after (pathDelayWrite_grows _ _ _ _ _) ?_
    | with_reducible refine State.Keeps.ite_after ?_ ?_
    | split
    | intro _


theorem State.accuWrite_keeps (s : State) (who : Requester) (o val : Nat) : State.Keeps s (State.accuWrite s who o val) := by
  have hd : ∀ f : Dev → Dev, State.Keeps s (s.onDev f) := fun f => (State.Keeps.refl s).onDev_after
  unfold State.accuWrite
  exact State.Keeps.ite_after (State.Keeps.ite_after (hd _) (State.Keeps.ite_after (hd _) (State.Keeps.ite_after
    (State.partCtrlWrite_keeps _ _ _ _) (.refl s)))) (State.Keeps.ite_after (hd _) (hd _))

theorem State.xferWrite_keeps (s : State) (who : Requester) (val : Nat) : State.Keeps s (State.xferWrite s who val) := by
  unfold State.xferWrite
  try dsimp only
  repeat' first
    | with_reducible exact State.Keeps.refl _
    | assumption
    | with_reducible refine State.Keeps.onDev_after ?_
    | with_reducible refine State.Keeps.onDevHbm_after ?_
    | with_reducible refine State.Keeps.hbmStore_after ?_
    | with_reducible refine State.Keeps.hbmStoreBytes_after ?_
    | with_reducible refine State.Keeps.trans ?_ (State.xferGo_keeps _)
    | with_reducible refine State.Keeps.foldl_after (fun _ _ => ?_) ?_
    | with_reducible refine State.Keeps.onDevNv_after (pathDelayWrite_grows _ _ _ _ _) ?_
    | with_reducible refine State.Keeps.ite_after ?_ ?_


theorem State.pageWrite_keeps (s : State) (who : Requester) (p o val : Nat) : State.Keeps s (State.pageWrite s who p o val) := by
  unfold State.pageWrite
  try dsimp only
  repeat' first
    | with_reducible exact State.Keeps.refl _
    | assumption
    | with_reducible refine State.Keeps.onDev_after ?_
    | with_reducible refine State.Keeps.onDevHbm_after ?_
    | with_reducible refine State.Keeps.hbmStore_after ?_
    | with_reducible refine State.Keeps.hbmStoreBytes_after ?_
    | with_reducible refine State.Keeps.trans ?_ (State.accuWrite_keeps _ _ _ _)
    | with_reducible refine State.Keeps.trans ?_ (State.xferWrite_keeps _ _ _)
    | with_reducible refine State.Keeps.foldl_after (fun _ _ => ?_) ?_
    | with_reducible refine State.Keeps.onDevNv_after (pathDelayWrite_grows _ _ _ _ _) ?_
    | with_reducible refine State.Keeps.ite_after ?_ ?_


theorem State.bar0Write_keeps (s : State) (who : Requester) (off val : Nat) : State.Keeps s (State.bar0Write s who off val) := by
  unfold State.bar0Write
  try dsimp only
  repeat' first
    | with_reducible exact State.Keeps.refl _
    | assumption
    | with_reducible refine State.Keeps.onDev_after ?_
    | with_reducible refine State.Keeps.onDevHbm_after ?_
    | with_reducible refine State.Keeps.hbmStore_after ?_
    | with_reducible refine State.Keeps.hbmStoreBytes_after ?_
    | with_reducible refine State.Keeps.trans ?_ (State.headerWrite_keeps _ _ _ _ _)
    | with_reducible refine State.Keeps.trans ?_ (State.tableWindowWrite_keeps _ _ _ _ _)
    | with_reducible refine State.Keeps.trans ?_ (State.pageWrite_keeps _ _ _ _ _)
    | with_reducible refine State.Keeps.foldl_after (fun _ _ => ?_) ?_
    | with_reducible refine State.Keeps.onDevNv_after (pathDelayWrite_grows _ _ _ _ _) ?_
    | with_reducible refine State.Keeps.ite_after ?_ ?_


theorem State.smbusWrite_keeps (s : State) (off val : Nat) : State.Keeps s (State.smbusWrite s off val) := by
  unfold State.smbusWrite
  try dsimp only
  repeat' first
    | with_reducible exact State.Keeps.refl _
    | assumption
    | with_reducible refine State.Keeps.onDev_after ?_
    | with_reducible refine State.Keeps.onDevHbm_after ?_
    | with_reducible refine State.Keeps.hbmStore_after ?_
    | with_reducible refine State.Keeps.hbmStoreBytes_after ?_
    | with_reducible refine State.Keeps.trans ?_ (State.bar0Write_keeps _ _ _ _)
    | with_reducible refine State.Keeps.foldl_after (fun _ _ => ?_) ?_
    | with_reducible refine State.Keeps.onDevNv_after (pathDelayWrite_grows _ _ _ _ _) ?_
    | with_reducible refine State.Keeps.ite_after ?_ ?_


theorem State.smbusRead_keeps (s : State) (off : Nat) : State.Keeps s (State.smbusRead s off) := by
  unfold State.smbusRead
  try dsimp only
  repeat' first
    | with_reducible exact State.Keeps.refl _
    | assumption
    | with_reducible refine State.Keeps.onDev_after ?_
    | with_reducible refine State.Keeps.onDevHbm_after ?_
    | with_reducible refine State.Keeps.hbmStore_after ?_
    | with_reducible refine State.Keeps.hbmStoreBytes_after ?_
    | with_reducible refine State.Keeps.trans ?_ (State.bar0Read_keeps _ _ _ _)
    | with_reducible refine State.Keeps.foldl_after (fun _ _ => ?_) ?_
    | with_reducible refine State.Keeps.onDevNv_after (pathDelayWrite_grows _ _ _ _ _) ?_
    | with_reducible refine State.Keeps.ite_after ?_ ?_


theorem NonVolatile.setCalb_grows (nv : NonVolatile) (b : Nat) (x : Bank) : NonVolatile.Grows nv (nv.setCalb b x) := by
  unfold NonVolatile.setCalb
  split
  · exact ⟨List.prefix_refl _, Nat.le_refl _, Nat.le_refl _, Nat.le_refl _, fun _ h => h⟩
  · exact ⟨List.prefix_refl _, Nat.le_refl _, Nat.le_refl _, Nat.le_refl _, fun _ h => h⟩

theorem NonVolatile.storePlan_grows (nv : NonVolatile) (p : Plan) (ok : Bool) : NonVolatile.Grows nv (nv.storePlan p ok) := by
  unfold NonVolatile.storePlan
  dsimp only
  split
  · exact ⟨List.prefix_refl _, Nat.le_refl _, Nat.le_refl _, Nat.le_refl _, fun _ h => h⟩
  · exact ⟨List.prefix_refl _, Nat.le_refl _, Nat.le_refl _, Nat.le_refl _, fun _ h => h⟩

theorem islPllLockAll_grows (i : Nat) (d : Dev) (nv : NonVolatile) : NonVolatile.Grows nv (islPllLockAll i d nv).2 := by
  unfold islPllLockAll
  dsimp only
  repeat' first
    | exact NonVolatile.Grows.refl _
    | exact ⟨List.prefix_refl _, Nat.le_refl _, Nat.le_refl _, Nat.le_refl _, fun _ h => h⟩
    | exact NonVolatile.setCalb_grows _ _ _
    | exact NonVolatile.storePlan_grows _ _ _
    | split

theorem bankCommitStart_grows (d : Dev) (nv : NonVolatile) : NonVolatile.Grows nv (bankCommitStart d nv).2 := by
  unfold bankCommitStart
  dsimp only
  repeat' first
    | exact NonVolatile.Grows.refl _
    | exact ⟨List.prefix_refl _, Nat.le_refl _, Nat.le_refl _, Nat.le_refl _, fun _ h => h⟩
    | exact NonVolatile.setCalb_grows _ _ _
    | exact NonVolatile.storePlan_grows _ _ _
    | split

theorem mramBlockWriteDone_grows (d : Dev) (nv : NonVolatile) : NonVolatile.Grows nv (mramBlockWriteDone d nv).2 := by
  have h : NonVolatile.Grows nv { nv with mramWrites := nv.mramWrites + 1 } :=
    ⟨List.prefix_refl _, Nat.le_refl _, Nat.le_refl _, Nat.le_refl _, fun _ h => h⟩
  unfold mramBlockWriteDone
  split
  · exact .refl nv
  · dsimp only
    split
    · exact h.trans (NonVolatile.setCalb_grows _ _ _)
    · split
      · exact h
      · exact h.trans (NonVolatile.setCalb_grows _ _ _)

theorem logCollect_grows (p : Nat) (d : Dev) (nv : NonVolatile) : NonVolatile.Grows nv (logCollect p d nv).2 := by
  unfold logCollect
  dsimp only
  repeat' first
    | exact NonVolatile.Grows.refl _
    | exact ⟨List.prefix_refl _, Nat.le_refl _, Nat.le_refl _, Nat.le_refl _, fun _ h => h⟩
    | exact NonVolatile.setCalb_grows _ _ _
    | exact NonVolatile.storePlan_grows _ _ _
    | split

theorem ageingMeasure_grows (counts : List (Nat × Nat)) (d : Dev) (nv : NonVolatile) : NonVolatile.Grows nv (ageingMeasure counts d nv).2 := by
  unfold ageingMeasure
  dsimp only
  repeat' first
    | exact NonVolatile.Grows.refl _
    | exact ⟨List.prefix_refl _, Nat.le_refl _, Nat.le_refl _, Nat.le_refl _, fun _ h => h⟩

theorem trendSummary_grows (v : List (Nat × Nat × Int)) (d : Dev) (nv : NonVolatile) : NonVolatile.Grows nv (trendSummary v d nv).2 := by
  unfold trendSummary
  dsimp only
  repeat' first
    | exact NonVolatile.Grows.refl _
    | exact ⟨List.prefix_refl _, Nat.le_refl _, Nat.le_refl _, Nat.le_refl _, fun _ h => h⟩
    | exact NonVolatile.setCalb_grows _ _ _
    | exact NonVolatile.storePlan_grows _ _ _
    | split

theorem planDone_grows (p : PlanData) (d : Dev) (nv : NonVolatile) : NonVolatile.Grows nv (planDone p d nv).2 := by
  unfold planDone
  dsimp only
  repeat' first
    | exact NonVolatile.Grows.refl _
    | exact ⟨List.prefix_refl _, Nat.le_refl _, Nat.le_refl _, Nat.le_refl _, fun _ h => h⟩
    | exact NonVolatile.setCalb_grows _ _ _
    | exact NonVolatile.storePlan_grows _ _ _
    | split

theorem thermalTrip_grows (k : Nat) (d : Dev) (nv : NonVolatile) : NonVolatile.Grows nv (thermalTrip k d nv).2 := by
  unfold thermalTrip
  dsimp only
  repeat' first
    | exact NonVolatile.Grows.refl _
    | exact ⟨List.prefix_refl _, Nat.le_refl _, Nat.le_refl _, Nat.le_refl _, fun _ h => h⟩
    | exact NonVolatile.setCalb_grows _ _ _
    | exact NonVolatile.storePlan_grows _ _ _
    | split

theorem treeReady_grows (t : Nat) (d : Dev) (nv : NonVolatile) : NonVolatile.Grows nv (treeReady t d nv).2 := by
  unfold treeReady
  dsimp only
  repeat' first
    | exact NonVolatile.Grows.refl _
    | exact ⟨List.prefix_refl _, Nat.le_refl _, Nat.le_refl _, Nat.le_refl _, fun _ h => h⟩
    | exact NonVolatile.setCalb_grows _ _ _
    | exact NonVolatile.storePlan_grows _ _ _
    | split

end Sys2Proof.Machine
end

