-- ==== Sys2Proof/Laws/Ops.lean ====
section
/-!
SUPPORT. What each shared operation can do, said once: a field after a field was set, the frame of raising an event, and what raising
an event leaves in EVENT.
-/

namespace Sys2Proof.Machine

/-! ### Fields -/

theorem Dev.fget_fset (d : Dev) (f : Field) (v i : Nat) (g : Field) (j : Nat) :
    (d.fset f v i).fget g j = if g.key j = f.key i then v % 2 ^ f.width else d.fget g j := by
  simp [Dev.fget, KMap.at_put]

@[simp] theorem Dev.fget_fset_same (d : Dev) (f : Field) (v i : Nat) : (d.fset f v i).fget f i = v % 2 ^ f.width := by
  simp [Dev.fget_fset]

theorem Dev.find_fset (d : Dev) (f : Field) (v i k : Nat) :
    KMap.find (d.fset f v i).regs k = if k = f.key i then some (v % 2 ^ f.width) else KMap.find d.regs k := by
  simp [KMap.find_put]

/-- Devices whose register files agree at a field's key read the field alike. -/
theorem Dev.fget_congr {d d' : Dev} (f : Field) (i : Nat) (h : KMap.find d.regs (f.key i) = KMap.find d'.regs (f.key i)) :
    d.fget f i = d'.fget f i := KMap.at_congr _ h

/-! ### What an event can touch (R409 to R411, R319 to R323, R365) -/

/-- All that raising an event can change: registers, queues, the host link, the output. -/
structure Dev.EvEq (d d' : Dev) : Prop where
  tabs : d'.tabs = d.tabs
  tctl : d'.tctl = d.tctl
  bus : d'.bus = d.bus
  clk : d'.clk = d.clk
  tb : d'.tb = d.tb
  tally : d'.tally = d.tally
  fore : d'.fore = d.fore
  loom : d'.loom = d.loom
  assay : d'.assay = d.assay
  vern : d'.vern = d.vern
  trig : d'.trig = d.trig
  tseq : d'.tseq = d.tseq
  tic : d'.tic = d.tic
  acq : d'.acq = d.acq
  chains : d'.chains = d.chains
  toHbm : d'.toHbm = d.toHbm
  till : d'.till = d.till
  bench : d'.bench = d.bench
  mem : d'.mem = d.mem
  cas : d'.cas = d.cas
  aux : d'.aux = d.aux
  freeCtr : d'.freeCtr = d.freeCtr

theorem Dev.EvEq.refl (d : Dev) : Dev.EvEq d d := by constructor <;> rfl

theorem Dev.EvEq.trans {a b c : Dev} (h : Dev.EvEq a b) (g : Dev.EvEq b c) : Dev.EvEq a c := by
  constructor
  · exact g.tabs.trans h.tabs
  · exact g.tctl.trans h.tctl
  · exact g.bus.trans h.bus
  · exact g.clk.trans h.clk
  · exact g.tb.trans h.tb
  · exact g.tally.trans h.tally
  · exact g.fore.trans h.fore
  · exact g.loom.trans h.loom
  · exact g.assay.trans h.assay
  · exact g.vern.trans h.vern
  · exact g.trig.trans h.trig
  · exact g.tseq.trans h.tseq
  · exact g.tic.trans h.tic
  · exact g.acq.trans h.acq
  · exact g.chains.trans h.chains
  · exact g.toHbm.trans h.toHbm
  · exact g.till.trans h.till
  · exact g.bench.trans h.bench
  · exact g.mem.trans h.mem
  · exact g.cas.trans h.cas
  · exact g.aux.trans h.aux
  · exact g.freeCtr.trans h.freeCtr

theorem Dev.fset_ev (d : Dev) (f : Field) (v i : Nat) : Dev.EvEq d (d.fset f v i) := by constructor <;> rfl

theorem Dev.qset_ev (d : Dev) (q : Nat) (c : QCtx) : Dev.EvEq d (d.qset q c) := by constructor <;> rfl

theorem Dev.linkBusy_ev (d : Dev) : Dev.EvEq d d.linkBusy := by
  unfold Dev.linkBusy; split
  · exact d.fset_ev _ _ _
  · exact .refl d

/-- What leaves the device changes no other part. -/
theorem Dev.out_ev (d : Dev) (os : List Output) : Dev.EvEq d { d with out := os } := by constructor <;> rfl

theorem Dev.emit_ev (d : Dev) (o : Output) : Dev.EvEq d (d.emit o) := by
  unfold Dev.emit; split
  · constructor <;> rfl
  · split
    · exact d.linkBusy_ev.trans (d.linkBusy.out_ev _)
    · exact d.out_ev _

theorem Dev.msix_ev (d : Dev) (v : Nat) : Dev.EvEq d (d.msix v) := by
  unfold Dev.msix
  split
  · constructor <;> rfl
  · exact Dev.emit_ev d _

theorem Dev.signalIfDue_ev (d : Dev) (q : Nat) : Dev.EvEq d (d.signalIfDue q) := by
  unfold Dev.signalIfDue
  dsimp only
  split
  · exact (Dev.qset_ev d q _).trans (Dev.msix_ev _ _)
  · exact .refl d

theorem Dev.pushEntry_ev (d : Dev) (q : Nat) (ws : List Nat) : Dev.EvEq d (d.pushEntry q ws) :=
  ((Dev.emit_ev d _).trans (Dev.qset_ev _ q _)).trans (Dev.signalIfDue_ev _ q)

theorem Dev.setEvent_ev (d : Dev) (p mask : Nat) : Dev.EvEq d (d.setEvent p mask).1 := by
  unfold Dev.setEvent
  dsimp only
  split <;> (constructor <;> rfl)

theorem Dev.postEvent_ev (d : Dev) (p new q : Nat) : Dev.EvEq d (d.postEvent p new q).1 := by
  unfold Dev.postEvent
  dsimp only
  split
  · exact Dev.fset_ev d _ _ _
  · split
    · exact (Dev.qset_ev d q _).trans (Dev.pushEntry_ev _ q _)
    · split <;> (constructor <;> rfl)

theorem Dev.routePost_ev (d : Dev) (p new w : Nat) :
    Dev.EvEq d (if bitAt w 12 then d.postEvent p new (bitField w 16 16) else (d, false)).1 := by
  split
  · exact Dev.postEvent_ev d p new _
  · exact .refl d

theorem Dev.routeMsix_ev (d : Dev) (w : Nat) : Dev.EvEq d (if bitAt w 11 then d.msix (bitField w 0 11) else d) := by
  split
  · exact Dev.msix_ev d _
  · exact .refl d

theorem Dev.routePme_ev (d : Dev) (c : Bool) :
    Dev.EvEq d (if c then { d with pcie := { d.pcie with pmeStatus := true } } else d) := by
  split <;> (constructor <;> rfl)

theorem Dev.route_ev (d : Dev) (p new : Nat) : Dev.EvEq d (d.route p new).1 :=
  ((Dev.routePost_ev d p new _).trans (Dev.routeMsix_ev _ _)).trans (Dev.routePme_ev _ _)

theorem Dev.setAndRoute_ev (d : Dev) (p mask : Nat) : Dev.EvEq d (d.setAndRoute p mask).1 := by
  unfold Dev.setAndRoute
  dsimp only
  split
  · exact Dev.setEvent_ev d p mask
  · exact (Dev.setEvent_ev d p mask).trans (Dev.route_ev _ _ _)

theorem Dev.egressFull_ev (d : Dev) (n : Nat) : Dev.EvEq d (d.egressFull n) := by
  unfold Dev.egressFull
  split
  · exact .refl d
  · exact Dev.EvEq.trans (b := { d with pcie := { d.pcie with fullRaised := true } }) (by constructor <;> rfl) (Dev.setAndRoute_ev _ _ _)

theorem Dev.raiseMask_ev (d : Dev) (p mask : Nat) : Dev.EvEq d (d.raiseMask p mask) := by
  unfold Dev.raiseMask
  dsimp only
  split
  · exact ((Dev.setAndRoute_ev d p mask).trans (Dev.setAndRoute_ev _ _ _)).trans (Dev.egressFull_ev _ _)
  · exact Dev.setAndRoute_ev d p mask

theorem Dev.raise_ev (d : Dev) (p bit : Nat) : Dev.EvEq d (d.raise p bit) := Dev.raiseMask_ev d p _

@[simp] theorem Dev.fbit_tabs (d : Dev) (f : Field) (b : Bool) (i : Nat) : (d.fbit f b i).tabs = d.tabs := rfl
@[simp] theorem Dev.fbit_tctl (d : Dev) (f : Field) (b : Bool) (i : Nat) : (d.fbit f b i).tctl = d.tctl := rfl
@[simp] theorem Dev.fbit_bus (d : Dev) (f : Field) (b : Bool) (i : Nat) : (d.fbit f b i).bus = d.bus := rfl
@[simp] theorem Dev.fbit_qm (d : Dev) (f : Field) (b : Bool) (i : Nat) : (d.fbit f b i).qm = d.qm := rfl
@[simp] theorem Dev.fbit_pcie (d : Dev) (f : Field) (b : Bool) (i : Nat) : (d.fbit f b i).pcie = d.pcie := rfl
@[simp] theorem Dev.fbit_clk (d : Dev) (f : Field) (b : Bool) (i : Nat) : (d.fbit f b i).clk = d.clk := rfl
@[simp] theorem Dev.fbit_tb (d : Dev) (f : Field) (b : Bool) (i : Nat) : (d.fbit f b i).tb = d.tb := rfl
@[simp] theorem Dev.fbit_tally (d : Dev) (f : Field) (b : Bool) (i : Nat) : (d.fbit f b i).tally = d.tally := rfl
@[simp] theorem Dev.fbit_fore (d : Dev) (f : Field) (b : Bool) (i : Nat) : (d.fbit f b i).fore = d.fore := rfl
@[simp] theorem Dev.fbit_loom (d : Dev) (f : Field) (b : Bool) (i : Nat) : (d.fbit f b i).loom = d.loom := rfl
@[simp] theorem Dev.fbit_assay (d : Dev) (f : Field) (b : Bool) (i : Nat) : (d.fbit f b i).assay = d.assay := rfl
@[simp] theorem Dev.fbit_vern (d : Dev) (f : Field) (b : Bool) (i : Nat) : (d.fbit f b i).vern = d.vern := rfl
@[simp] theorem Dev.fbit_trig (d : Dev) (f : Field) (b : Bool) (i : Nat) : (d.fbit f b i).trig = d.trig := rfl
@[simp] theorem Dev.fbit_tseq (d : Dev) (f : Field) (b : Bool) (i : Nat) : (d.fbit f b i).tseq = d.tseq := rfl
@[simp] theorem Dev.fbit_tic (d : Dev) (f : Field) (b : Bool) (i : Nat) : (d.fbit f b i).tic = d.tic := rfl
@[simp] theorem Dev.fbit_acq (d : Dev) (f : Field) (b : Bool) (i : Nat) : (d.fbit f b i).acq = d.acq := rfl
@[simp] theorem Dev.fbit_chains (d : Dev) (f : Field) (b : Bool) (i : Nat) : (d.fbit f b i).chains = d.chains := rfl
@[simp] theorem Dev.fbit_toHbm (d : Dev) (f : Field) (b : Bool) (i : Nat) : (d.fbit f b i).toHbm = d.toHbm := rfl
@[simp] theorem Dev.fbit_till (d : Dev) (f : Field) (b : Bool) (i : Nat) : (d.fbit f b i).till = d.till := rfl
@[simp] theorem Dev.fbit_bench (d : Dev) (f : Field) (b : Bool) (i : Nat) : (d.fbit f b i).bench = d.bench := rfl
@[simp] theorem Dev.fbit_mem (d : Dev) (f : Field) (b : Bool) (i : Nat) : (d.fbit f b i).mem = d.mem := rfl
@[simp] theorem Dev.fbit_cas (d : Dev) (f : Field) (b : Bool) (i : Nat) : (d.fbit f b i).cas = d.cas := rfl
@[simp] theorem Dev.fbit_aux (d : Dev) (f : Field) (b : Bool) (i : Nat) : (d.fbit f b i).aux = d.aux := rfl
@[simp] theorem Dev.fbit_out (d : Dev) (f : Field) (b : Bool) (i : Nat) : (d.fbit f b i).out = d.out := rfl
@[simp] theorem Dev.fbit_freeCtr (d : Dev) (f : Field) (b : Bool) (i : Nat) : (d.fbit f b i).freeCtr = d.freeCtr := rfl

@[simp] theorem Dev.finc_tabs (d : Dev) (f : Field) (n i : Nat) : (d.finc f n i).tabs = d.tabs := rfl
@[simp] theorem Dev.finc_tctl (d : Dev) (f : Field) (n i : Nat) : (d.finc f n i).tctl = d.tctl := rfl
@[simp] theorem Dev.finc_bus (d : Dev) (f : Field) (n i : Nat) : (d.finc f n i).bus = d.bus := rfl
@[simp] theorem Dev.finc_qm (d : Dev) (f : Field) (n i : Nat) : (d.finc f n i).qm = d.qm := rfl
@[simp] theorem Dev.finc_pcie (d : Dev) (f : Field) (n i : Nat) : (d.finc f n i).pcie = d.pcie := rfl
@[simp] theorem Dev.finc_clk (d : Dev) (f : Field) (n i : Nat) : (d.finc f n i).clk = d.clk := rfl
@[simp] theorem Dev.finc_tb (d : Dev) (f : Field) (n i : Nat) : (d.finc f n i).tb = d.tb := rfl
@[simp] theorem Dev.finc_tally (d : Dev) (f : Field) (n i : Nat) : (d.finc f n i).tally = d.tally := rfl
@[simp] theorem Dev.finc_fore (d : Dev) (f : Field) (n i : Nat) : (d.finc f n i).fore = d.fore := rfl
@[simp] theorem Dev.finc_loom (d : Dev) (f : Field) (n i : Nat) : (d.finc f n i).loom = d.loom := rfl
@[simp] theorem Dev.finc_assay (d : Dev) (f : Field) (n i : Nat) : (d.finc f n i).assay = d.assay := rfl
@[simp] theorem Dev.finc_vern (d : Dev) (f : Field) (n i : Nat) : (d.finc f n i).vern = d.vern := rfl
@[simp] theorem Dev.finc_trig (d : Dev) (f : Field) (n i : Nat) : (d.finc f n i).trig = d.trig := rfl
@[simp] theorem Dev.finc_tseq (d : Dev) (f : Field) (n i : Nat) : (d.finc f n i).tseq = d.tseq := rfl
@[simp] theorem Dev.finc_tic (d : Dev) (f : Field) (n i : Nat) : (d.finc f n i).tic = d.tic := rfl
@[simp] theorem Dev.finc_acq (d : Dev) (f : Field) (n i : Nat) : (d.finc f n i).acq = d.acq := rfl
@[simp] theorem Dev.finc_chains (d : Dev) (f : Field) (n i : Nat) : (d.finc f n i).chains = d.chains := rfl
@[simp] theorem Dev.finc_toHbm (d : Dev) (f : Field) (n i : Nat) : (d.finc f n i).toHbm = d.toHbm := rfl
@[simp] theorem Dev.finc_till (d : Dev) (f : Field) (n i : Nat) : (d.finc f n i).till = d.till := rfl
@[simp] theorem Dev.finc_bench (d : Dev) (f : Field) (n i : Nat) : (d.finc f n i).bench = d.bench := rfl
@[simp] theorem Dev.finc_mem (d : Dev) (f : Field) (n i : Nat) : (d.finc f n i).mem = d.mem := rfl
@[simp] theorem Dev.finc_cas (d : Dev) (f : Field) (n i : Nat) : (d.finc f n i).cas = d.cas := rfl
@[simp] theorem Dev.finc_aux (d : Dev) (f : Field) (n i : Nat) : (d.finc f n i).aux = d.aux := rfl
@[simp] theorem Dev.finc_out (d : Dev) (f : Field) (n i : Nat) : (d.finc f n i).out = d.out := rfl
@[simp] theorem Dev.finc_freeCtr (d : Dev) (f : Field) (n i : Nat) : (d.finc f n i).freeCtr = d.freeCtr := rfl

@[simp] theorem Dev.fsetS_tabs (d : Dev) (f : Field) (v : Int) (i : Nat) : (d.fsetS f v i).tabs = d.tabs := rfl
@[simp] theorem Dev.fsetS_tctl (d : Dev) (f : Field) (v : Int) (i : Nat) : (d.fsetS f v i).tctl = d.tctl := rfl
@[simp] theorem Dev.fsetS_bus (d : Dev) (f : Field) (v : Int) (i : Nat) : (d.fsetS f v i).bus = d.bus := rfl
@[simp] theorem Dev.fsetS_qm (d : Dev) (f : Field) (v : Int) (i : Nat) : (d.fsetS f v i).qm = d.qm := rfl
@[simp] theorem Dev.fsetS_pcie (d : Dev) (f : Field) (v : Int) (i : Nat) : (d.fsetS f v i).pcie = d.pcie := rfl
@[simp] theorem Dev.fsetS_clk (d : Dev) (f : Field) (v : Int) (i : Nat) : (d.fsetS f v i).clk = d.clk := rfl
@[simp] theorem Dev.fsetS_tb (d : Dev) (f : Field) (v : Int) (i : Nat) : (d.fsetS f v i).tb = d.tb := rfl
@[simp] theorem Dev.fsetS_tally (d : Dev) (f : Field) (v : Int) (i : Nat) : (d.fsetS f v i).tally = d.tally := rfl
@[simp] theorem Dev.fsetS_fore (d : Dev) (f : Field) (v : Int) (i : Nat) : (d.fsetS f v i).fore = d.fore := rfl
@[simp] theorem Dev.fsetS_loom (d : Dev) (f : Field) (v : Int) (i : Nat) : (d.fsetS f v i).loom = d.loom := rfl
@[simp] theorem Dev.fsetS_assay (d : Dev) (f : Field) (v : Int) (i : Nat) : (d.fsetS f v i).assay = d.assay := rfl
@[simp] theorem Dev.fsetS_vern (d : Dev) (f : Field) (v : Int) (i : Nat) : (d.fsetS f v i).vern = d.vern := rfl
@[simp] theorem Dev.fsetS_trig (d : Dev) (f : Field) (v : Int) (i : Nat) : (d.fsetS f v i).trig = d.trig := rfl
@[simp] theorem Dev.fsetS_tseq (d : Dev) (f : Field) (v : Int) (i : Nat) : (d.fsetS f v i).tseq = d.tseq := rfl
@[simp] theorem Dev.fsetS_tic (d : Dev) (f : Field) (v : Int) (i : Nat) : (d.fsetS f v i).tic = d.tic := rfl
@[simp] theorem Dev.fsetS_acq (d : Dev) (f : Field) (v : Int) (i : Nat) : (d.fsetS f v i).acq = d.acq := rfl
@[simp] theorem Dev.fsetS_chains (d : Dev) (f : Field) (v : Int) (i : Nat) : (d.fsetS f v i).chains = d.chains := rfl
@[simp] theorem Dev.fsetS_toHbm (d : Dev) (f : Field) (v : Int) (i : Nat) : (d.fsetS f v i).toHbm = d.toHbm := rfl
@[simp] theorem Dev.fsetS_till (d : Dev) (f : Field) (v : Int) (i : Nat) : (d.fsetS f v i).till = d.till := rfl
@[simp] theorem Dev.fsetS_bench (d : Dev) (f : Field) (v : Int) (i : Nat) : (d.fsetS f v i).bench = d.bench := rfl
@[simp] theorem Dev.fsetS_mem (d : Dev) (f : Field) (v : Int) (i : Nat) : (d.fsetS f v i).mem = d.mem := rfl
@[simp] theorem Dev.fsetS_cas (d : Dev) (f : Field) (v : Int) (i : Nat) : (d.fsetS f v i).cas = d.cas := rfl
@[simp] theorem Dev.fsetS_aux (d : Dev) (f : Field) (v : Int) (i : Nat) : (d.fsetS f v i).aux = d.aux := rfl
@[simp] theorem Dev.fsetS_out (d : Dev) (f : Field) (v : Int) (i : Nat) : (d.fsetS f v i).out = d.out := rfl
@[simp] theorem Dev.fsetS_freeCtr (d : Dev) (f : Field) (v : Int) (i : Nat) : (d.fsetS f v i).freeCtr = d.freeCtr := rfl

@[simp] theorem Dev.fset64_tabs (d : Dev) (f0 f1 : Field) (v i : Nat) : (d.fset64 f0 f1 v i).tabs = d.tabs := rfl
@[simp] theorem Dev.fset64_tctl (d : Dev) (f0 f1 : Field) (v i : Nat) : (d.fset64 f0 f1 v i).tctl = d.tctl := rfl
@[simp] theorem Dev.fset64_bus (d : Dev) (f0 f1 : Field) (v i : Nat) : (d.fset64 f0 f1 v i).bus = d.bus := rfl
@[simp] theorem Dev.fset64_qm (d : Dev) (f0 f1 : Field) (v i : Nat) : (d.fset64 f0 f1 v i).qm = d.qm := rfl
@[simp] theorem Dev.fset64_pcie (d : Dev) (f0 f1 : Field) (v i : Nat) : (d.fset64 f0 f1 v i).pcie = d.pcie := rfl
@[simp] theorem Dev.fset64_clk (d : Dev) (f0 f1 : Field) (v i : Nat) : (d.fset64 f0 f1 v i).clk = d.clk := rfl
@[simp] theorem Dev.fset64_tb (d : Dev) (f0 f1 : Field) (v i : Nat) : (d.fset64 f0 f1 v i).tb = d.tb := rfl
@[simp] theorem Dev.fset64_tally (d : Dev) (f0 f1 : Field) (v i : Nat) : (d.fset64 f0 f1 v i).tally = d.tally := rfl
@[simp] theorem Dev.fset64_fore (d : Dev) (f0 f1 : Field) (v i : Nat) : (d.fset64 f0 f1 v i).fore = d.fore := rfl
@[simp] theorem Dev.fset64_loom (d : Dev) (f0 f1 : Field) (v i : Nat) : (d.fset64 f0 f1 v i).loom = d.loom := rfl
@[simp] theorem Dev.fset64_assay (d : Dev) (f0 f1 : Field) (v i : Nat) : (d.fset64 f0 f1 v i).assay = d.assay := rfl
@[simp] theorem Dev.fset64_vern (d : Dev) (f0 f1 : Field) (v i : Nat) : (d.fset64 f0 f1 v i).vern = d.vern := rfl
@[simp] theorem Dev.fset64_trig (d : Dev) (f0 f1 : Field) (v i : Nat) : (d.fset64 f0 f1 v i).trig = d.trig := rfl
@[simp] theorem Dev.fset64_tseq (d : Dev) (f0 f1 : Field) (v i : Nat) : (d.fset64 f0 f1 v i).tseq = d.tseq := rfl
@[simp] theorem Dev.fset64_tic (d : Dev) (f0 f1 : Field) (v i : Nat) : (d.fset64 f0 f1 v i).tic = d.tic := rfl
@[simp] theorem Dev.fset64_acq (d : Dev) (f0 f1 : Field) (v i : Nat) : (d.fset64 f0 f1 v i).acq = d.acq := rfl
@[simp] theorem Dev.fset64_chains (d : Dev) (f0 f1 : Field) (v i : Nat) : (d.fset64 f0 f1 v i).chains = d.chains := rfl
@[simp] theorem Dev.fset64_toHbm (d : Dev) (f0 f1 : Field) (v i : Nat) : (d.fset64 f0 f1 v i).toHbm = d.toHbm := rfl
@[simp] theorem Dev.fset64_till (d : Dev) (f0 f1 : Field) (v i : Nat) : (d.fset64 f0 f1 v i).till = d.till := rfl
@[simp] theorem Dev.fset64_bench (d : Dev) (f0 f1 : Field) (v i : Nat) : (d.fset64 f0 f1 v i).bench = d.bench := rfl
@[simp] theorem Dev.fset64_mem (d : Dev) (f0 f1 : Field) (v i : Nat) : (d.fset64 f0 f1 v i).mem = d.mem := rfl
@[simp] theorem Dev.fset64_cas (d : Dev) (f0 f1 : Field) (v i : Nat) : (d.fset64 f0 f1 v i).cas = d.cas := rfl
@[simp] theorem Dev.fset64_aux (d : Dev) (f0 f1 : Field) (v i : Nat) : (d.fset64 f0 f1 v i).aux = d.aux := rfl
@[simp] theorem Dev.fset64_out (d : Dev) (f0 f1 : Field) (v i : Nat) : (d.fset64 f0 f1 v i).out = d.out := rfl
@[simp] theorem Dev.fset64_freeCtr (d : Dev) (f0 f1 : Field) (v i : Nat) : (d.fset64 f0 f1 v i).freeCtr = d.freeCtr := rfl

@[simp] theorem Dev.fsetBit_tabs (d : Dev) (f : Field) (n : Nat) (b : Bool) (i : Nat) : (d.fsetBit f n b i).tabs = d.tabs := rfl
@[simp] theorem Dev.fsetBit_tctl (d : Dev) (f : Field) (n : Nat) (b : Bool) (i : Nat) : (d.fsetBit f n b i).tctl = d.tctl := rfl
@[simp] theorem Dev.fsetBit_bus (d : Dev) (f : Field) (n : Nat) (b : Bool) (i : Nat) : (d.fsetBit f n b i).bus = d.bus := rfl
@[simp] theorem Dev.fsetBit_qm (d : Dev) (f : Field) (n : Nat) (b : Bool) (i : Nat) : (d.fsetBit f n b i).qm = d.qm := rfl
@[simp] theorem Dev.fsetBit_pcie (d : Dev) (f : Field) (n : Nat) (b : Bool) (i : Nat) : (d.fsetBit f n b i).pcie = d.pcie := rfl
@[simp] theorem Dev.fsetBit_clk (d : Dev) (f : Field) (n : Nat) (b : Bool) (i : Nat) : (d.fsetBit f n b i).clk = d.clk := rfl
@[simp] theorem Dev.fsetBit_tb (d : Dev) (f : Field) (n : Nat) (b : Bool) (i : Nat) : (d.fsetBit f n b i).tb = d.tb := rfl
@[simp] theorem Dev.fsetBit_tally (d : Dev) (f : Field) (n : Nat) (b : Bool) (i : Nat) : (d.fsetBit f n b i).tally = d.tally := rfl
@[simp] theorem Dev.fsetBit_fore (d : Dev) (f : Field) (n : Nat) (b : Bool) (i : Nat) : (d.fsetBit f n b i).fore = d.fore := rfl
@[simp] theorem Dev.fsetBit_loom (d : Dev) (f : Field) (n : Nat) (b : Bool) (i : Nat) : (d.fsetBit f n b i).loom = d.loom := rfl
@[simp] theorem Dev.fsetBit_assay (d : Dev) (f : Field) (n : Nat) (b : Bool) (i : Nat) : (d.fsetBit f n b i).assay = d.assay := rfl
@[simp] theorem Dev.fsetBit_vern (d : Dev) (f : Field) (n : Nat) (b : Bool) (i : Nat) : (d.fsetBit f n b i).vern = d.vern := rfl
@[simp] theorem Dev.fsetBit_trig (d : Dev) (f : Field) (n : Nat) (b : Bool) (i : Nat) : (d.fsetBit f n b i).trig = d.trig := rfl
@[simp] theorem Dev.fsetBit_tseq (d : Dev) (f : Field) (n : Nat) (b : Bool) (i : Nat) : (d.fsetBit f n b i).tseq = d.tseq := rfl
@[simp] theorem Dev.fsetBit_tic (d : Dev) (f : Field) (n : Nat) (b : Bool) (i : Nat) : (d.fsetBit f n b i).tic = d.tic := rfl
@[simp] theorem Dev.fsetBit_acq (d : Dev) (f : Field) (n : Nat) (b : Bool) (i : Nat) : (d.fsetBit f n b i).acq = d.acq := rfl
@[simp] theorem Dev.fsetBit_chains (d : Dev) (f : Field) (n : Nat) (b : Bool) (i : Nat) : (d.fsetBit f n b i).chains = d.chains := rfl
@[simp] theorem Dev.fsetBit_toHbm (d : Dev) (f : Field) (n : Nat) (b : Bool) (i : Nat) : (d.fsetBit f n b i).toHbm = d.toHbm := rfl
@[simp] theorem Dev.fsetBit_till (d : Dev) (f : Field) (n : Nat) (b : Bool) (i : Nat) : (d.fsetBit f n b i).till = d.till := rfl
@[simp] theorem Dev.fsetBit_bench (d : Dev) (f : Field) (n : Nat) (b : Bool) (i : Nat) : (d.fsetBit f n b i).bench = d.bench := rfl
@[simp] theorem Dev.fsetBit_mem (d : Dev) (f : Field) (n : Nat) (b : Bool) (i : Nat) : (d.fsetBit f n b i).mem = d.mem := rfl
@[simp] theorem Dev.fsetBit_cas (d : Dev) (f : Field) (n : Nat) (b : Bool) (i : Nat) : (d.fsetBit f n b i).cas = d.cas := rfl
@[simp] theorem Dev.fsetBit_aux (d : Dev) (f : Field) (n : Nat) (b : Bool) (i : Nat) : (d.fsetBit f n b i).aux = d.aux := rfl
@[simp] theorem Dev.fsetBit_out (d : Dev) (f : Field) (n : Nat) (b : Bool) (i : Nat) : (d.fsetBit f n b i).out = d.out := rfl
@[simp] theorem Dev.fsetBit_freeCtr (d : Dev) (f : Field) (n : Nat) (b : Bool) (i : Nat) : (d.fsetBit f n b i).freeCtr = d.freeCtr := rfl

@[simp] theorem Dev.logErr_tabs (d : Dev) (p code d0 d1 : Nat) : (d.logErr p code d0 d1).tabs = d.tabs := rfl
@[simp] theorem Dev.logErr_tctl (d : Dev) (p code d0 d1 : Nat) : (d.logErr p code d0 d1).tctl = d.tctl := rfl
@[simp] theorem Dev.logErr_bus (d : Dev) (p code d0 d1 : Nat) : (d.logErr p code d0 d1).bus = d.bus := rfl
@[simp] theorem Dev.logErr_qm (d : Dev) (p code d0 d1 : Nat) : (d.logErr p code d0 d1).qm = d.qm := rfl
@[simp] theorem Dev.logErr_pcie (d : Dev) (p code d0 d1 : Nat) : (d.logErr p code d0 d1).pcie = d.pcie := rfl
@[simp] theorem Dev.logErr_clk (d : Dev) (p code d0 d1 : Nat) : (d.logErr p code d0 d1).clk = d.clk := rfl
@[simp] theorem Dev.logErr_tb (d : Dev) (p code d0 d1 : Nat) : (d.logErr p code d0 d1).tb = d.tb := rfl
@[simp] theorem Dev.logErr_tally (d : Dev) (p code d0 d1 : Nat) : (d.logErr p code d0 d1).tally = d.tally := rfl
@[simp] theorem Dev.logErr_fore (d : Dev) (p code d0 d1 : Nat) : (d.logErr p code d0 d1).fore = d.fore := rfl
@[simp] theorem Dev.logErr_loom (d : Dev) (p code d0 d1 : Nat) : (d.logErr p code d0 d1).loom = d.loom := rfl
@[simp] theorem Dev.logErr_assay (d : Dev) (p code d0 d1 : Nat) : (d.logErr p code d0 d1).assay = d.assay := rfl
@[simp] theorem Dev.logErr_vern (d : Dev) (p code d0 d1 : Nat) : (d.logErr p code d0 d1).vern = d.vern := rfl
@[simp] theorem Dev.logErr_trig (d : Dev) (p code d0 d1 : Nat) : (d.logErr p code d0 d1).trig = d.trig := rfl
@[simp] theorem Dev.logErr_tseq (d : Dev) (p code d0 d1 : Nat) : (d.logErr p code d0 d1).tseq = d.tseq := rfl
@[simp] theorem Dev.logErr_tic (d : Dev) (p code d0 d1 : Nat) : (d.logErr p code d0 d1).tic = d.tic := rfl
@[simp] theorem Dev.logErr_acq (d : Dev) (p code d0 d1 : Nat) : (d.logErr p code d0 d1).acq = d.acq := rfl
@[simp] theorem Dev.logErr_chains (d : Dev) (p code d0 d1 : Nat) : (d.logErr p code d0 d1).chains = d.chains := rfl
@[simp] theorem Dev.logErr_toHbm (d : Dev) (p code d0 d1 : Nat) : (d.logErr p code d0 d1).toHbm = d.toHbm := rfl
@[simp] theorem Dev.logErr_till (d : Dev) (p code d0 d1 : Nat) : (d.logErr p code d0 d1).till = d.till := rfl
@[simp] theorem Dev.logErr_bench (d : Dev) (p code d0 d1 : Nat) : (d.logErr p code d0 d1).bench = d.bench := rfl
@[simp] theorem Dev.logErr_mem (d : Dev) (p code d0 d1 : Nat) : (d.logErr p code d0 d1).mem = d.mem := rfl
@[simp] theorem Dev.logErr_cas (d : Dev) (p code d0 d1 : Nat) : (d.logErr p code d0 d1).cas = d.cas := rfl
@[simp] theorem Dev.logErr_aux (d : Dev) (p code d0 d1 : Nat) : (d.logErr p code d0 d1).aux = d.aux := rfl
@[simp] theorem Dev.logErr_out (d : Dev) (p code d0 d1 : Nat) : (d.logErr p code d0 d1).out = d.out := rfl
@[simp] theorem Dev.logErr_freeCtr (d : Dev) (p code d0 d1 : Nat) : (d.logErr p code d0 d1).freeCtr = d.freeCtr := rfl

@[simp] theorem Dev.logDiscard_tabs (d : Dev) (who : Requester) (p off val : Nat) : (d.logDiscard who p off val).tabs = d.tabs := rfl
@[simp] theorem Dev.logDiscard_tctl (d : Dev) (who : Requester) (p off val : Nat) : (d.logDiscard who p off val).tctl = d.tctl := rfl
@[simp] theorem Dev.logDiscard_bus (d : Dev) (who : Requester) (p off val : Nat) : (d.logDiscard who p off val).bus = d.bus := rfl
@[simp] theorem Dev.logDiscard_qm (d : Dev) (who : Requester) (p off val : Nat) : (d.logDiscard who p off val).qm = d.qm := rfl
@[simp] theorem Dev.logDiscard_pcie (d : Dev) (who : Requester) (p off val : Nat) : (d.logDiscard who p off val).pcie = d.pcie := rfl
@[simp] theorem Dev.logDiscard_clk (d : Dev) (who : Requester) (p off val : Nat) : (d.logDiscard who p off val).clk = d.clk := rfl
@[simp] theorem Dev.logDiscard_tb (d : Dev) (who : Requester) (p off val : Nat) : (d.logDiscard who p off val).tb = d.tb := rfl
@[simp] theorem Dev.logDiscard_tally (d : Dev) (who : Requester) (p off val : Nat) : (d.logDiscard who p off val).tally = d.tally := rfl
@[simp] theorem Dev.logDiscard_fore (d : Dev) (who : Requester) (p off val : Nat) : (d.logDiscard who p off val).fore = d.fore := rfl
@[simp] theorem Dev.logDiscard_loom (d : Dev) (who : Requester) (p off val : Nat) : (d.logDiscard who p off val).loom = d.loom := rfl
@[simp] theorem Dev.logDiscard_assay (d : Dev) (who : Requester) (p off val : Nat) : (d.logDiscard who p off val).assay = d.assay := rfl
@[simp] theorem Dev.logDiscard_vern (d : Dev) (who : Requester) (p off val : Nat) : (d.logDiscard who p off val).vern = d.vern := rfl
@[simp] theorem Dev.logDiscard_trig (d : Dev) (who : Requester) (p off val : Nat) : (d.logDiscard who p off val).trig = d.trig := rfl
@[simp] theorem Dev.logDiscard_tseq (d : Dev) (who : Requester) (p off val : Nat) : (d.logDiscard who p off val).tseq = d.tseq := rfl
@[simp] theorem Dev.logDiscard_tic (d : Dev) (who : Requester) (p off val : Nat) : (d.logDiscard who p off val).tic = d.tic := rfl
@[simp] theorem Dev.logDiscard_acq (d : Dev) (who : Requester) (p off val : Nat) : (d.logDiscard who p off val).acq = d.acq := rfl
@[simp] theorem Dev.logDiscard_chains (d : Dev) (who : Requester) (p off val : Nat) : (d.logDiscard who p off val).chains = d.chains := rfl
@[simp] theorem Dev.logDiscard_toHbm (d : Dev) (who : Requester) (p off val : Nat) : (d.logDiscard who p off val).toHbm = d.toHbm := rfl
@[simp] theorem Dev.logDiscard_till (d : Dev) (who : Requester) (p off val : Nat) : (d.logDiscard who p off val).till = d.till := rfl
@[simp] theorem Dev.logDiscard_bench (d : Dev) (who : Requester) (p off val : Nat) : (d.logDiscard who p off val).bench = d.bench := rfl
@[simp] theorem Dev.logDiscard_mem (d : Dev) (who : Requester) (p off val : Nat) : (d.logDiscard who p off val).mem = d.mem := rfl
@[simp] theorem Dev.logDiscard_cas (d : Dev) (who : Requester) (p off val : Nat) : (d.logDiscard who p off val).cas = d.cas := rfl
@[simp] theorem Dev.logDiscard_aux (d : Dev) (who : Requester) (p off val : Nat) : (d.logDiscard who p off val).aux = d.aux := rfl
@[simp] theorem Dev.logDiscard_out (d : Dev) (who : Requester) (p off val : Nat) : (d.logDiscard who p off val).out = d.out := rfl
@[simp] theorem Dev.logDiscard_freeCtr (d : Dev) (who : Requester) (p off val : Nat) : (d.logDiscard who p off val).freeCtr = d.freeCtr := rfl

@[simp] theorem Dev.countTimeout_tabs (d : Dev) (p : Nat) : (d.countTimeout p).tabs = d.tabs := rfl
@[simp] theorem Dev.countTimeout_tctl (d : Dev) (p : Nat) : (d.countTimeout p).tctl = d.tctl := rfl
@[simp] theorem Dev.countTimeout_bus (d : Dev) (p : Nat) : (d.countTimeout p).bus = d.bus := rfl
@[simp] theorem Dev.countTimeout_qm (d : Dev) (p : Nat) : (d.countTimeout p).qm = d.qm := rfl
@[simp] theorem Dev.countTimeout_pcie (d : Dev) (p : Nat) : (d.countTimeout p).pcie = d.pcie := rfl
@[simp] theorem Dev.countTimeout_clk (d : Dev) (p : Nat) : (d.countTimeout p).clk = d.clk := rfl
@[simp] theorem Dev.countTimeout_tb (d : Dev) (p : Nat) : (d.countTimeout p).tb = d.tb := rfl
@[simp] theorem Dev.countTimeout_tally (d : Dev) (p : Nat) : (d.countTimeout p).tally = d.tally := rfl
@[simp] theorem Dev.countTimeout_fore (d : Dev) (p : Nat) : (d.countTimeout p).fore = d.fore := rfl
@[simp] theorem Dev.countTimeout_loom (d : Dev) (p : Nat) : (d.countTimeout p).loom = d.loom := rfl
@[simp] theorem Dev.countTimeout_assay (d : Dev) (p : Nat) : (d.countTimeout p).assay = d.assay := rfl
@[simp] theorem Dev.countTimeout_vern (d : Dev) (p : Nat) : (d.countTimeout p).vern = d.vern := rfl
@[simp] theorem Dev.countTimeout_trig (d : Dev) (p : Nat) : (d.countTimeout p).trig = d.trig := rfl
@[simp] theorem Dev.countTimeout_tseq (d : Dev) (p : Nat) : (d.countTimeout p).tseq = d.tseq := rfl
@[simp] theorem Dev.countTimeout_tic (d : Dev) (p : Nat) : (d.countTimeout p).tic = d.tic := rfl
@[simp] theorem Dev.countTimeout_acq (d : Dev) (p : Nat) : (d.countTimeout p).acq = d.acq := rfl
@[simp] theorem Dev.countTimeout_chains (d : Dev) (p : Nat) : (d.countTimeout p).chains = d.chains := rfl
@[simp] theorem Dev.countTimeout_toHbm (d : Dev) (p : Nat) : (d.countTimeout p).toHbm = d.toHbm := rfl
@[simp] theorem Dev.countTimeout_till (d : Dev) (p : Nat) : (d.countTimeout p).till = d.till := rfl
@[simp] theorem Dev.countTimeout_bench (d : Dev) (p : Nat) : (d.countTimeout p).bench = d.bench := rfl
@[simp] theorem Dev.countTimeout_mem (d : Dev) (p : Nat) : (d.countTimeout p).mem = d.mem := rfl
@[simp] theorem Dev.countTimeout_cas (d : Dev) (p : Nat) : (d.countTimeout p).cas = d.cas := rfl
@[simp] theorem Dev.countTimeout_aux (d : Dev) (p : Nat) : (d.countTimeout p).aux = d.aux := rfl
@[simp] theorem Dev.countTimeout_out (d : Dev) (p : Nat) : (d.countTimeout p).out = d.out := rfl
@[simp] theorem Dev.countTimeout_freeCtr (d : Dev) (p : Nat) : (d.countTimeout p).freeCtr = d.freeCtr := rfl

@[simp] theorem Dev.countRecovery_tabs (d : Dev) (p : Nat) : (d.countRecovery p).tabs = d.tabs := rfl
@[simp] theorem Dev.countRecovery_tctl (d : Dev) (p : Nat) : (d.countRecovery p).tctl = d.tctl := rfl
@[simp] theorem Dev.countRecovery_bus (d : Dev) (p : Nat) : (d.countRecovery p).bus = d.bus := rfl
@[simp] theorem Dev.countRecovery_qm (d : Dev) (p : Nat) : (d.countRecovery p).qm = d.qm := rfl
@[simp] theorem Dev.countRecovery_pcie (d : Dev) (p : Nat) : (d.countRecovery p).pcie = d.pcie := rfl
@[simp] theorem Dev.countRecovery_clk (d : Dev) (p : Nat) : (d.countRecovery p).clk = d.clk := rfl
@[simp] theorem Dev.countRecovery_tb (d : Dev) (p : Nat) : (d.countRecovery p).tb = d.tb := rfl
@[simp] theorem Dev.countRecovery_tally (d : Dev) (p : Nat) : (d.countRecovery p).tally = d.tally := rfl
@[simp] theorem Dev.countRecovery_fore (d : Dev) (p : Nat) : (d.countRecovery p).fore = d.fore := rfl
@[simp] theorem Dev.countRecovery_loom (d : Dev) (p : Nat) : (d.countRecovery p).loom = d.loom := rfl
@[simp] theorem Dev.countRecovery_assay (d : Dev) (p : Nat) : (d.countRecovery p).assay = d.assay := rfl
@[simp] theorem Dev.countRecovery_vern (d : Dev) (p : Nat) : (d.countRecovery p).vern = d.vern := rfl
@[simp] theorem Dev.countRecovery_trig (d : Dev) (p : Nat) : (d.countRecovery p).trig = d.trig := rfl
@[simp] theorem Dev.countRecovery_tseq (d : Dev) (p : Nat) : (d.countRecovery p).tseq = d.tseq := rfl
@[simp] theorem Dev.countRecovery_tic (d : Dev) (p : Nat) : (d.countRecovery p).tic = d.tic := rfl
@[simp] theorem Dev.countRecovery_acq (d : Dev) (p : Nat) : (d.countRecovery p).acq = d.acq := rfl
@[simp] theorem Dev.countRecovery_chains (d : Dev) (p : Nat) : (d.countRecovery p).chains = d.chains := rfl
@[simp] theorem Dev.countRecovery_toHbm (d : Dev) (p : Nat) : (d.countRecovery p).toHbm = d.toHbm := rfl
@[simp] theorem Dev.countRecovery_till (d : Dev) (p : Nat) : (d.countRecovery p).till = d.till := rfl
@[simp] theorem Dev.countRecovery_bench (d : Dev) (p : Nat) : (d.countRecovery p).bench = d.bench := rfl
@[simp] theorem Dev.countRecovery_mem (d : Dev) (p : Nat) : (d.countRecovery p).mem = d.mem := rfl
@[simp] theorem Dev.countRecovery_cas (d : Dev) (p : Nat) : (d.countRecovery p).cas = d.cas := rfl
@[simp] theorem Dev.countRecovery_aux (d : Dev) (p : Nat) : (d.countRecovery p).aux = d.aux := rfl
@[simp] theorem Dev.countRecovery_out (d : Dev) (p : Nat) : (d.countRecovery p).out = d.out := rfl
@[simp] theorem Dev.countRecovery_freeCtr (d : Dev) (p : Nat) : (d.countRecovery p).freeCtr = d.freeCtr := rfl

@[simp] theorem Dev.cfgEpoch_tabs (d : Dev) (p : Nat) : (d.cfgEpoch p).tabs = d.tabs := rfl
@[simp] theorem Dev.cfgEpoch_tctl (d : Dev) (p : Nat) : (d.cfgEpoch p).tctl = d.tctl := rfl
@[simp] theorem Dev.cfgEpoch_bus (d : Dev) (p : Nat) : (d.cfgEpoch p).bus = d.bus := rfl
@[simp] theorem Dev.cfgEpoch_qm (d : Dev) (p : Nat) : (d.cfgEpoch p).qm = d.qm := rfl
@[simp] theorem Dev.cfgEpoch_pcie (d : Dev) (p : Nat) : (d.cfgEpoch p).pcie = d.pcie := rfl
@[simp] theorem Dev.cfgEpoch_clk (d : Dev) (p : Nat) : (d.cfgEpoch p).clk = d.clk := rfl
@[simp] theorem Dev.cfgEpoch_tb (d : Dev) (p : Nat) : (d.cfgEpoch p).tb = d.tb := rfl
@[simp] theorem Dev.cfgEpoch_tally (d : Dev) (p : Nat) : (d.cfgEpoch p).tally = d.tally := rfl
@[simp] theorem Dev.cfgEpoch_fore (d : Dev) (p : Nat) : (d.cfgEpoch p).fore = d.fore := rfl
@[simp] theorem Dev.cfgEpoch_loom (d : Dev) (p : Nat) : (d.cfgEpoch p).loom = d.loom := rfl
@[simp] theorem Dev.cfgEpoch_assay (d : Dev) (p : Nat) : (d.cfgEpoch p).assay = d.assay := rfl
@[simp] theorem Dev.cfgEpoch_vern (d : Dev) (p : Nat) : (d.cfgEpoch p).vern = d.vern := rfl
@[simp] theorem Dev.cfgEpoch_trig (d : Dev) (p : Nat) : (d.cfgEpoch p).trig = d.trig := rfl
@[simp] theorem Dev.cfgEpoch_tseq (d : Dev) (p : Nat) : (d.cfgEpoch p).tseq = d.tseq := rfl
@[simp] theorem Dev.cfgEpoch_tic (d : Dev) (p : Nat) : (d.cfgEpoch p).tic = d.tic := rfl
@[simp] theorem Dev.cfgEpoch_acq (d : Dev) (p : Nat) : (d.cfgEpoch p).acq = d.acq := rfl
@[simp] theorem Dev.cfgEpoch_chains (d : Dev) (p : Nat) : (d.cfgEpoch p).chains = d.chains := rfl
@[simp] theorem Dev.cfgEpoch_toHbm (d : Dev) (p : Nat) : (d.cfgEpoch p).toHbm = d.toHbm := rfl
@[simp] theorem Dev.cfgEpoch_till (d : Dev) (p : Nat) : (d.cfgEpoch p).till = d.till := rfl
@[simp] theorem Dev.cfgEpoch_bench (d : Dev) (p : Nat) : (d.cfgEpoch p).bench = d.bench := rfl
@[simp] theorem Dev.cfgEpoch_mem (d : Dev) (p : Nat) : (d.cfgEpoch p).mem = d.mem := rfl
@[simp] theorem Dev.cfgEpoch_cas (d : Dev) (p : Nat) : (d.cfgEpoch p).cas = d.cas := rfl
@[simp] theorem Dev.cfgEpoch_aux (d : Dev) (p : Nat) : (d.cfgEpoch p).aux = d.aux := rfl
@[simp] theorem Dev.cfgEpoch_out (d : Dev) (p : Nat) : (d.cfgEpoch p).out = d.out := rfl
@[simp] theorem Dev.cfgEpoch_freeCtr (d : Dev) (p : Nat) : (d.cfgEpoch p).freeCtr = d.freeCtr := rfl

@[simp] theorem Dev.degrade_regs (d : Dev) (p r : Nat) (b : Bool) : (d.degrade p r b).regs = d.regs := rfl
@[simp] theorem Dev.degrade_tabs (d : Dev) (p r : Nat) (b : Bool) : (d.degrade p r b).tabs = d.tabs := rfl
@[simp] theorem Dev.degrade_tctl (d : Dev) (p r : Nat) (b : Bool) : (d.degrade p r b).tctl = d.tctl := rfl
@[simp] theorem Dev.degrade_bus (d : Dev) (p r : Nat) (b : Bool) : (d.degrade p r b).bus = d.bus := rfl
@[simp] theorem Dev.degrade_qm (d : Dev) (p r : Nat) (b : Bool) : (d.degrade p r b).qm = d.qm := rfl
@[simp] theorem Dev.degrade_pcie (d : Dev) (p r : Nat) (b : Bool) : (d.degrade p r b).pcie = d.pcie := rfl
@[simp] theorem Dev.degrade_clk (d : Dev) (p r : Nat) (b : Bool) : (d.degrade p r b).clk = d.clk := rfl
@[simp] theorem Dev.degrade_tb (d : Dev) (p r : Nat) (b : Bool) : (d.degrade p r b).tb = d.tb := rfl
@[simp] theorem Dev.degrade_tally (d : Dev) (p r : Nat) (b : Bool) : (d.degrade p r b).tally = d.tally := rfl
@[simp] theorem Dev.degrade_loom (d : Dev) (p r : Nat) (b : Bool) : (d.degrade p r b).loom = d.loom := rfl
@[simp] theorem Dev.degrade_assay (d : Dev) (p r : Nat) (b : Bool) : (d.degrade p r b).assay = d.assay := rfl
@[simp] theorem Dev.degrade_vern (d : Dev) (p r : Nat) (b : Bool) : (d.degrade p r b).vern = d.vern := rfl
@[simp] theorem Dev.degrade_trig (d : Dev) (p r : Nat) (b : Bool) : (d.degrade p r b).trig = d.trig := rfl
@[simp] theorem Dev.degrade_tseq (d : Dev) (p r : Nat) (b : Bool) : (d.degrade p r b).tseq = d.tseq := rfl
@[simp] theorem Dev.degrade_tic (d : Dev) (p r : Nat) (b : Bool) : (d.degrade p r b).tic = d.tic := rfl
@[simp] theorem Dev.degrade_acq (d : Dev) (p r : Nat) (b : Bool) : (d.degrade p r b).acq = d.acq := rfl
@[simp] theorem Dev.degrade_chains (d : Dev) (p r : Nat) (b : Bool) : (d.degrade p r b).chains = d.chains := rfl
@[simp] theorem Dev.degrade_toHbm (d : Dev) (p r : Nat) (b : Bool) : (d.degrade p r b).toHbm = d.toHbm := rfl
@[simp] theorem Dev.degrade_till (d : Dev) (p r : Nat) (b : Bool) : (d.degrade p r b).till = d.till := rfl
@[simp] theorem Dev.degrade_bench (d : Dev) (p r : Nat) (b : Bool) : (d.degrade p r b).bench = d.bench := rfl
@[simp] theorem Dev.degrade_mem (d : Dev) (p r : Nat) (b : Bool) : (d.degrade p r b).mem = d.mem := rfl
@[simp] theorem Dev.degrade_cas (d : Dev) (p r : Nat) (b : Bool) : (d.degrade p r b).cas = d.cas := rfl
@[simp] theorem Dev.degrade_aux (d : Dev) (p r : Nat) (b : Bool) : (d.degrade p r b).aux = d.aux := rfl
@[simp] theorem Dev.degrade_out (d : Dev) (p r : Nat) (b : Bool) : (d.degrade p r b).out = d.out := rfl
@[simp] theorem Dev.degrade_freeCtr (d : Dev) (p r : Nat) (b : Bool) : (d.degrade p r b).freeCtr = d.freeCtr := rfl

@[simp] theorem Dev.contain_regs (d : Dev) (p r : Nat) (b : Bool) : (d.contain p r b).regs = d.regs := rfl
@[simp] theorem Dev.contain_tabs (d : Dev) (p r : Nat) (b : Bool) : (d.contain p r b).tabs = d.tabs := rfl
@[simp] theorem Dev.contain_tctl (d : Dev) (p r : Nat) (b : Bool) : (d.contain p r b).tctl = d.tctl := rfl
@[simp] theorem Dev.contain_bus (d : Dev) (p r : Nat) (b : Bool) : (d.contain p r b).bus = d.bus := rfl
@[simp] theorem Dev.contain_qm (d : Dev) (p r : Nat) (b : Bool) : (d.contain p r b).qm = d.qm := rfl
@[simp] theorem Dev.contain_pcie (d : Dev) (p r : Nat) (b : Bool) : (d.contain p r b).pcie = d.pcie := rfl
@[simp] theorem Dev.contain_clk (d : Dev) (p r : Nat) (b : Bool) : (d.contain p r b).clk = d.clk := rfl
@[simp] theorem Dev.contain_tb (d : Dev) (p r : Nat) (b : Bool) : (d.contain p r b).tb = d.tb := rfl
@[simp] theorem Dev.contain_tally (d : Dev) (p r : Nat) (b : Bool) : (d.contain p r b).tally = d.tally := rfl
@[simp] theorem Dev.contain_loom (d : Dev) (p r : Nat) (b : Bool) : (d.contain p r b).loom = d.loom := rfl
@[simp] theorem Dev.contain_assay (d : Dev) (p r : Nat) (b : Bool) : (d.contain p r b).assay = d.assay := rfl
@[simp] theorem Dev.contain_vern (d : Dev) (p r : Nat) (b : Bool) : (d.contain p r b).vern = d.vern := rfl
@[simp] theorem Dev.contain_trig (d : Dev) (p r : Nat) (b : Bool) : (d.contain p r b).trig = d.trig := rfl
@[simp] theorem Dev.contain_tseq (d : Dev) (p r : Nat) (b : Bool) : (d.contain p r b).tseq = d.tseq := rfl
@[simp] theorem Dev.contain_tic (d : Dev) (p r : Nat) (b : Bool) : (d.contain p r b).tic = d.tic := rfl
@[simp] theorem Dev.contain_acq (d : Dev) (p r : Nat) (b : Bool) : (d.contain p r b).acq = d.acq := rfl
@[simp] theorem Dev.contain_chains (d : Dev) (p r : Nat) (b : Bool) : (d.contain p r b).chains = d.chains := rfl
@[simp] theorem Dev.contain_toHbm (d : Dev) (p r : Nat) (b : Bool) : (d.contain p r b).toHbm = d.toHbm := rfl
@[simp] theorem Dev.contain_till (d : Dev) (p r : Nat) (b : Bool) : (d.contain p r b).till = d.till := rfl
@[simp] theorem Dev.contain_bench (d : Dev) (p r : Nat) (b : Bool) : (d.contain p r b).bench = d.bench := rfl
@[simp] theorem Dev.contain_mem (d : Dev) (p r : Nat) (b : Bool) : (d.contain p r b).mem = d.mem := rfl
@[simp] theorem Dev.contain_cas (d : Dev) (p r : Nat) (b : Bool) : (d.contain p r b).cas = d.cas := rfl
@[simp] theorem Dev.contain_aux (d : Dev) (p r : Nat) (b : Bool) : (d.contain p r b).aux = d.aux := rfl
@[simp] theorem Dev.contain_out (d : Dev) (p r : Nat) (b : Bool) : (d.contain p r b).out = d.out := rfl
@[simp] theorem Dev.contain_freeCtr (d : Dev) (p r : Nat) (b : Bool) : (d.contain p r b).freeCtr = d.freeCtr := rfl

@[simp] theorem Dev.raiseMask_tabs (d : Dev) (p m : Nat) : (d.raiseMask p m).tabs = d.tabs := (raiseMask_ev d p m).tabs
@[simp] theorem Dev.raiseMask_tctl (d : Dev) (p m : Nat) : (d.raiseMask p m).tctl = d.tctl := (raiseMask_ev d p m).tctl
@[simp] theorem Dev.raiseMask_bus (d : Dev) (p m : Nat) : (d.raiseMask p m).bus = d.bus := (raiseMask_ev d p m).bus
@[simp] theorem Dev.raiseMask_clk (d : Dev) (p m : Nat) : (d.raiseMask p m).clk = d.clk := (raiseMask_ev d p m).clk
@[simp] theorem Dev.raiseMask_tb (d : Dev) (p m : Nat) : (d.raiseMask p m).tb = d.tb := (raiseMask_ev d p m).tb
@[simp] theorem Dev.raiseMask_tally (d : Dev) (p m : Nat) : (d.raiseMask p m).tally = d.tally := (raiseMask_ev d p m).tally
@[simp] theorem Dev.raiseMask_fore (d : Dev) (p m : Nat) : (d.raiseMask p m).fore = d.fore := (raiseMask_ev d p m).fore
@[simp] theorem Dev.raiseMask_loom (d : Dev) (p m : Nat) : (d.raiseMask p m).loom = d.loom := (raiseMask_ev d p m).loom
@[simp] theorem Dev.raiseMask_assay (d : Dev) (p m : Nat) : (d.raiseMask p m).assay = d.assay := (raiseMask_ev d p m).assay
@[simp] theorem Dev.raiseMask_vern (d : Dev) (p m : Nat) : (d.raiseMask p m).vern = d.vern := (raiseMask_ev d p m).vern
@[simp] theorem Dev.raiseMask_trig (d : Dev) (p m : Nat) : (d.raiseMask p m).trig = d.trig := (raiseMask_ev d p m).trig
@[simp] theorem Dev.raiseMask_tseq (d : Dev) (p m : Nat) : (d.raiseMask p m).tseq = d.tseq := (raiseMask_ev d p m).tseq
@[simp] theorem Dev.raiseMask_tic (d : Dev) (p m : Nat) : (d.raiseMask p m).tic = d.tic := (raiseMask_ev d p m).tic
@[simp] theorem Dev.raiseMask_acq (d : Dev) (p m : Nat) : (d.raiseMask p m).acq = d.acq := (raiseMask_ev d p m).acq
@[simp] theorem Dev.raiseMask_chains (d : Dev) (p m : Nat) : (d.raiseMask p m).chains = d.chains := (raiseMask_ev d p m).chains
@[simp] theorem Dev.raiseMask_toHbm (d : Dev) (p m : Nat) : (d.raiseMask p m).toHbm = d.toHbm := (raiseMask_ev d p m).toHbm
@[simp] theorem Dev.raiseMask_till (d : Dev) (p m : Nat) : (d.raiseMask p m).till = d.till := (raiseMask_ev d p m).till
@[simp] theorem Dev.raiseMask_bench (d : Dev) (p m : Nat) : (d.raiseMask p m).bench = d.bench := (raiseMask_ev d p m).bench
@[simp] theorem Dev.raiseMask_mem (d : Dev) (p m : Nat) : (d.raiseMask p m).mem = d.mem := (raiseMask_ev d p m).mem
@[simp] theorem Dev.raiseMask_cas (d : Dev) (p m : Nat) : (d.raiseMask p m).cas = d.cas := (raiseMask_ev d p m).cas
@[simp] theorem Dev.raiseMask_aux (d : Dev) (p m : Nat) : (d.raiseMask p m).aux = d.aux := (raiseMask_ev d p m).aux
@[simp] theorem Dev.raiseMask_freeCtr (d : Dev) (p m : Nat) : (d.raiseMask p m).freeCtr = d.freeCtr := (raiseMask_ev d p m).freeCtr

@[simp] theorem Dev.raise_tabs (d : Dev) (p b : Nat) : (d.raise p b).tabs = d.tabs := (raise_ev d p b).tabs
@[simp] theorem Dev.raise_tctl (d : Dev) (p b : Nat) : (d.raise p b).tctl = d.tctl := (raise_ev d p b).tctl
@[simp] theorem Dev.raise_bus (d : Dev) (p b : Nat) : (d.raise p b).bus = d.bus := (raise_ev d p b).bus
@[simp] theorem Dev.raise_clk (d : Dev) (p b : Nat) : (d.raise p b).clk = d.clk := (raise_ev d p b).clk
@[simp] theorem Dev.raise_tb (d : Dev) (p b : Nat) : (d.raise p b).tb = d.tb := (raise_ev d p b).tb
@[simp] theorem Dev.raise_tally (d : Dev) (p b : Nat) : (d.raise p b).tally = d.tally := (raise_ev d p b).tally
@[simp] theorem Dev.raise_fore (d : Dev) (p b : Nat) : (d.raise p b).fore = d.fore := (raise_ev d p b).fore
@[simp] theorem Dev.raise_loom (d : Dev) (p b : Nat) : (d.raise p b).loom = d.loom := (raise_ev d p b).loom
@[simp] theorem Dev.raise_assay (d : Dev) (p b : Nat) : (d.raise p b).assay = d.assay := (raise_ev d p b).assay
@[simp] theorem Dev.raise_vern (d : Dev) (p b : Nat) : (d.raise p b).vern = d.vern := (raise_ev d p b).vern
@[simp] theorem Dev.raise_trig (d : Dev) (p b : Nat) : (d.raise p b).trig = d.trig := (raise_ev d p b).trig
@[simp] theorem Dev.raise_tseq (d : Dev) (p b : Nat) : (d.raise p b).tseq = d.tseq := (raise_ev d p b).tseq
@[simp] theorem Dev.raise_tic (d : Dev) (p b : Nat) : (d.raise p b).tic = d.tic := (raise_ev d p b).tic
@[simp] theorem Dev.raise_acq (d : Dev) (p b : Nat) : (d.raise p b).acq = d.acq := (raise_ev d p b).acq
@[simp] theorem Dev.raise_chains (d : Dev) (p b : Nat) : (d.raise p b).chains = d.chains := (raise_ev d p b).chains
@[simp] theorem Dev.raise_toHbm (d : Dev) (p b : Nat) : (d.raise p b).toHbm = d.toHbm := (raise_ev d p b).toHbm
@[simp] theorem Dev.raise_till (d : Dev) (p b : Nat) : (d.raise p b).till = d.till := (raise_ev d p b).till
@[simp] theorem Dev.raise_bench (d : Dev) (p b : Nat) : (d.raise p b).bench = d.bench := (raise_ev d p b).bench
@[simp] theorem Dev.raise_mem (d : Dev) (p b : Nat) : (d.raise p b).mem = d.mem := (raise_ev d p b).mem
@[simp] theorem Dev.raise_cas (d : Dev) (p b : Nat) : (d.raise p b).cas = d.cas := (raise_ev d p b).cas
@[simp] theorem Dev.raise_aux (d : Dev) (p b : Nat) : (d.raise p b).aux = d.aux := (raise_ev d p b).aux
@[simp] theorem Dev.raise_freeCtr (d : Dev) (p b : Nat) : (d.raise p b).freeCtr = d.freeCtr := (raise_ev d p b).freeCtr

/-! ### Which registers an event can touch -/

/-- Outside a list of keys the register files of two devices agree. -/
def Dev.RegEq (ks : List Nat) (d d' : Dev) : Prop := ∀ k, k ∉ ks → KMap.find d'.regs k = KMap.find d.regs k

theorem Dev.RegEq.refl (ks : List Nat) (d : Dev) : Dev.RegEq ks d d := fun _ _ => rfl

theorem Dev.RegEq.trans {ks : List Nat} {a b c : Dev} (h : Dev.RegEq ks a b) (g : Dev.RegEq ks b c) : Dev.RegEq ks a c :=
  fun k hk => (g k hk).trans (h k hk)

theorem Dev.RegEq.mono {ks ls : List Nat} {a b : Dev} (h : Dev.RegEq ks a b) (hs : ks ⊆ ls) : Dev.RegEq ls a b :=
  fun k hk => h k fun hk' => hk (hs hk')

theorem Dev.RegEq.of_regs {ks : List Nat} {a b : Dev} (h : b.regs = a.regs) : Dev.RegEq ks a b := fun _ _ => by rw [h]

theorem Dev.fset_regEq (d : Dev) (f : Field) (v i : Nat) {ks : List Nat} (h : f.key i ∈ ks) : Dev.RegEq ks d (d.fset f v i) :=
  fun k hk => by rw [Dev.find_fset, if_neg fun (e : k = _) => hk (e ▸ h)]

theorem Dev.linkBusy_regEq (d : Dev) {ks : List Nat} (h : Reg.pcie_IN_L1.key 0 ∈ ks) : Dev.RegEq ks d d.linkBusy := by
  unfold Dev.linkBusy
  split
  · exact Dev.fset_regEq _ _ _ _ h
  · exact .refl ks d

theorem Dev.emit_regEq (d : Dev) (o : Output) {ks : List Nat} (h : Reg.pcie_EGRESS_LEVEL.key 0 ∈ ks ∧ Reg.pcie_IN_L1.key 0 ∈ ks) :
    Dev.RegEq ks d (d.emit o) := by
  unfold Dev.emit
  split
  · exact Dev.RegEq.trans (Dev.RegEq.of_regs (b := { d with pcie := { d.pcie with egress := d.pcie.egress ++ [o] } }) rfl)
      (Dev.fset_regEq _ _ _ _ h.1)
  · split
    · exact Dev.RegEq.trans (Dev.linkBusy_regEq d h.2) (.of_regs rfl)
    · exact .of_regs rfl

theorem Dev.msix_regEq (d : Dev) (v : Nat) {ks : List Nat} (h : Reg.pcie_EGRESS_LEVEL.key 0 ∈ ks ∧ Reg.pcie_IN_L1.key 0 ∈ ks) :
    Dev.RegEq ks d (d.msix v) := by
  unfold Dev.msix
  split
  · exact .of_regs rfl
  · exact Dev.emit_regEq d _ h

theorem Dev.signalIfDue_regEq (d : Dev) (q : Nat) {ks : List Nat} (h : Reg.pcie_EGRESS_LEVEL.key 0 ∈ ks ∧ Reg.pcie_IN_L1.key 0 ∈ ks) :
    Dev.RegEq ks d (d.signalIfDue q) := by
  unfold Dev.signalIfDue
  dsimp only
  split
  · exact Dev.RegEq.trans (.of_regs (b := d.qset q _) rfl) (Dev.msix_regEq _ _ h)
  · exact .refl ks d

theorem Dev.pushEntry_regEq (d : Dev) (q : Nat) (ws : List Nat) {ks : List Nat} (h : Reg.pcie_EGRESS_LEVEL.key 0 ∈ ks ∧ Reg.pcie_IN_L1.key 0 ∈ ks) :
    Dev.RegEq ks d (d.pushEntry q ws) := by
  unfold Dev.pushEntry
  dsimp only
  refine Dev.RegEq.trans ?_ (Dev.signalIfDue_regEq _ q h)
  exact Dev.RegEq.trans (b := d.emit _) (Dev.emit_regEq d _ h) (.of_regs rfl)

theorem routeLost_mem : Reg.evt_ROUTE_LOST.key 0 ∈ routeKeys := List.mem_cons_self ..

theorem eventDrops_mem : Reg.qmgr_EVENT_DROPS.key 0 ∈ routeKeys := List.mem_cons_of_mem _ (List.mem_cons_self ..)

theorem emitKeys_mem : Reg.pcie_EGRESS_LEVEL.key 0 ∈ routeKeys ∧ Reg.pcie_IN_L1.key 0 ∈ routeKeys :=
  ⟨List.mem_cons_of_mem _ (List.mem_cons_of_mem _ (List.mem_cons_self ..)),
    List.mem_cons_of_mem _ (List.mem_cons_of_mem _ (List.mem_cons_of_mem _ (List.mem_cons_self ..)))⟩

theorem Dev.finc_regEq (d : Dev) (f : Field) (n i : Nat) {ks : List Nat} (h : f.key i ∈ ks) : Dev.RegEq ks d (d.finc f n i) :=
  Dev.fset_regEq d f _ i h

theorem Dev.postEvent_regEq (d : Dev) (p new q : Nat) : Dev.RegEq routeKeys d (d.postEvent p new q).1 := by
  unfold Dev.postEvent
  dsimp only
  split
  · exact Dev.finc_regEq d Reg.evt_ROUTE_LOST 1 0 routeLost_mem
  · split
    · exact Dev.RegEq.trans (b := d.qset q _) (.of_regs rfl) (Dev.pushEntry_regEq _ q _ emitKeys_mem)
    · refine Dev.RegEq.trans (.of_regs ?_) (Dev.finc_regEq _ Reg.qmgr_EVENT_DROPS 1 0 eventDrops_mem)
      split <;> rfl

theorem Dev.route_regEq (d : Dev) (p new : Nat) : Dev.RegEq routeKeys d (d.route p new).1 := by
  have h1 : ∀ w, Dev.RegEq routeKeys d (if bitAt w 12 then d.postEvent p new (bitField w 16 16) else (d, false)).1 := by
    intro w
    split
    · exact Dev.postEvent_regEq d p new _
    · exact .refl _ d
  have h2 : ∀ (d : Dev) w, Dev.RegEq routeKeys d (if bitAt w 11 then d.msix (bitField w 0 11) else d) := by
    intro d w
    split
    · exact Dev.msix_regEq d _ emitKeys_mem
    · exact .refl _ d
  have h3 : ∀ (d : Dev) (c : Bool), Dev.RegEq routeKeys d (if c then { d with pcie := { d.pcie with pmeStatus := true } } else d) := by
    intro d c
    split <;> exact .of_regs rfl
  exact Dev.RegEq.trans (Dev.RegEq.trans (h1 _) (h2 _ _)) (h3 _ _)

theorem Dev.setEvent_regEq (d : Dev) (p mask : Nat) : Dev.RegEq (eventFields p) d (d.setEvent p mask).1 := by
  unfold Dev.setEvent
  dsimp only
  have h0 := Dev.fset_regEq d Reg.hdr_EVENT (d.fget Reg.hdr_EVENT p ||| mask % 2 ^ 32) p (ks := eventFields p) (by simp [eventFields])
  split
  · exact Dev.RegEq.trans (Dev.RegEq.trans (Dev.RegEq.trans (Dev.RegEq.trans h0 (Dev.fset_regEq _ _ _ _ (by simp [eventFields])))
      (Dev.fset_regEq _ _ _ _ (by simp [eventFields]))) (Dev.fset_regEq _ _ _ _ (by simp [eventFields])))
      (Dev.fset_regEq _ _ _ _ (by simp [eventFields]))
  · exact h0

theorem Dev.setAndRoute_regEq (d : Dev) (p mask : Nat) : Dev.RegEq (eventFields p ++ routeKeys) d (d.setAndRoute p mask).1 := by
  have h := (Dev.setEvent_regEq d p mask).mono (ls := eventFields p ++ routeKeys) (fun _ => List.mem_append_left _)
  unfold Dev.setAndRoute
  dsimp only
  split
  · exact h
  · exact h.trans ((Dev.route_regEq _ _ _).mono fun _ => List.mem_append_right _)

theorem Dev.egressFull_regEq (d : Dev) (n : Nat) : Dev.RegEq (eventFields 68 ++ routeKeys) d (d.egressFull n) := by
  unfold Dev.egressFull
  split
  · exact .refl _ d
  · exact Dev.RegEq.trans (.of_regs rfl) (Dev.setAndRoute_regEq _ _ _)

theorem Dev.raiseMask_regEq (d : Dev) (p mask : Nat) : Dev.RegEq (eventKeys p) d (d.raiseMask p mask) := by
  have m1 : eventFields p ++ routeKeys ⊆ eventKeys p := fun k h => by
    rcases List.mem_append.mp h with h | h
    · exact List.mem_append_left _ (List.mem_append_left _ (List.mem_append_left _ h))
    · exact List.mem_append_right _ h
  have m2 : eventFields 28 ++ routeKeys ⊆ eventKeys p := fun k h => by
    rcases List.mem_append.mp h with h | h
    · exact List.mem_append_left _ (List.mem_append_left _ (List.mem_append_right _ h))
    · exact List.mem_append_right _ h
  have m3 : eventFields 68 ++ routeKeys ⊆ eventKeys p := fun k h => by
    rcases List.mem_append.mp h with h | h
    · exact List.mem_append_left _ (List.mem_append_right _ h)
    · exact List.mem_append_right _ h
  unfold Dev.raiseMask
  dsimp only
  split
  · exact (((Dev.setAndRoute_regEq d p mask).mono m1).trans ((Dev.setAndRoute_regEq _ _ _).mono m2)).trans
      ((Dev.egressFull_regEq _ _).mono m3)
  · exact (Dev.setAndRoute_regEq d p mask).mono m1

/-- Raising an event writes no other field than `eventKeys` names. -/
theorem Dev.find_raise (d : Dev) (p bit : Nat) {k : Nat} (h : k ∉ eventKeys p) :
    KMap.find (d.raise p bit).regs k = KMap.find d.regs k := Dev.raiseMask_regEq d p _ k h

theorem Dev.fget_raise (d : Dev) (p bit : Nat) (f : Field) (i : Nat) (h : f.key i ∉ eventKeys p) :
    (d.raise p bit).fget f i = d.fget f i := Dev.fget_congr f i (Dev.find_raise d p bit h)

/-! ### Frames -/

namespace Dev.Framed

variable {ps : List Part} {ks : List Nat} {d d' : Dev}

theorem refl (d : Dev) : Dev.Framed ps ks d d :=
  ⟨fun b _ => by cases b <;> rfl, fun _ _ => rfl⟩

/-! A change of one part. -/

theorem ofTabs (h : Dev.Framed ps ks d d') {x} (hp : Part.tabs ∈ ps) : Dev.Framed ps ks d { d' with tabs := x } :=
  ⟨fun b hb => by have := h.parts b hb; cases b <;> first | exact this | exact absurd hp hb, h.regs⟩

theorem ofTctl (h : Dev.Framed ps ks d d') {x} (hp : Part.tctl ∈ ps) : Dev.Framed ps ks d { d' with tctl := x } :=
  ⟨fun b hb => by have := h.parts b hb; cases b <;> first | exact this | exact absurd hp hb, h.regs⟩

theorem ofBus (h : Dev.Framed ps ks d d') {x} (hp : Part.bus ∈ ps) : Dev.Framed ps ks d { d' with bus := x } :=
  ⟨fun b hb => by have := h.parts b hb; cases b <;> first | exact this | exact absurd hp hb, h.regs⟩

theorem ofQm (h : Dev.Framed ps ks d d') {x} (hp : Part.qm ∈ ps) : Dev.Framed ps ks d { d' with qm := x } :=
  ⟨fun b hb => by have := h.parts b hb; cases b <;> first | exact this | exact absurd hp hb, h.regs⟩

theorem ofPcie (h : Dev.Framed ps ks d d') {x} (hp : Part.pcie ∈ ps) : Dev.Framed ps ks d { d' with pcie := x } :=
  ⟨fun b hb => by have := h.parts b hb; cases b <;> first | exact this | exact absurd hp hb, h.regs⟩

theorem ofClk (h : Dev.Framed ps ks d d') {x} (hp : Part.clk ∈ ps) : Dev.Framed ps ks d { d' with clk := x } :=
  ⟨fun b hb => by have := h.parts b hb; cases b <;> first | exact this | exact absurd hp hb, h.regs⟩

theorem ofTb (h : Dev.Framed ps ks d d') {x} (hp : Part.tb ∈ ps) : Dev.Framed ps ks d { d' with tb := x } :=
  ⟨fun b hb => by have := h.parts b hb; cases b <;> first | exact this | exact absurd hp hb, h.regs⟩

theorem ofTally (h : Dev.Framed ps ks d d') {x} (hp : Part.tally ∈ ps) : Dev.Framed ps ks d { d' with tally := x } :=
  ⟨fun b hb => by have := h.parts b hb; cases b <;> first | exact this | exact absurd hp hb, h.regs⟩

theorem ofLoom (h : Dev.Framed ps ks d d') {x} (hp : Part.loom ∈ ps) : Dev.Framed ps ks d { d' with loom := x } :=
  ⟨fun b hb => by have := h.parts b hb; cases b <;> first | exact this | exact absurd hp hb, h.regs⟩

theorem ofAssay (h : Dev.Framed ps ks d d') {x} (hp : Part.assay ∈ ps) : Dev.Framed ps ks d { d' with assay := x } :=
  ⟨fun b hb => by have := h.parts b hb; cases b <;> first | exact this | exact absurd hp hb, h.regs⟩

theorem ofVern (h : Dev.Framed ps ks d d') {x} (hp : Part.vern ∈ ps) : Dev.Framed ps ks d { d' with vern := x } :=
  ⟨fun b hb => by have := h.parts b hb; cases b <;> first | exact this | exact absurd hp hb, h.regs⟩

theorem ofTrig (h : Dev.Framed ps ks d d') {x} (hp : Part.trig ∈ ps) : Dev.Framed ps ks d { d' with trig := x } :=
  ⟨fun b hb => by have := h.parts b hb; cases b <;> first | exact this | exact absurd hp hb, h.regs⟩

theorem ofTseq (h : Dev.Framed ps ks d d') {x} (hp : Part.tseq ∈ ps) : Dev.Framed ps ks d { d' with tseq := x } :=
  ⟨fun b hb => by have := h.parts b hb; cases b <;> first | exact this | exact absurd hp hb, h.regs⟩

theorem ofTic (h : Dev.Framed ps ks d d') {x} (hp : Part.tic ∈ ps) : Dev.Framed ps ks d { d' with tic := x } :=
  ⟨fun b hb => by have := h.parts b hb; cases b <;> first | exact this | exact absurd hp hb, h.regs⟩

theorem ofAcq (h : Dev.Framed ps ks d d') {x} (hp : Part.acq ∈ ps) : Dev.Framed ps ks d { d' with acq := x } :=
  ⟨fun b hb => by have := h.parts b hb; cases b <;> first | exact this | exact absurd hp hb, h.regs⟩

theorem ofChains (h : Dev.Framed ps ks d d') {x} (hp : Part.chains ∈ ps) : Dev.Framed ps ks d { d' with chains := x } :=
  ⟨fun b hb => by have := h.parts b hb; cases b <;> first | exact this | exact absurd hp hb, h.regs⟩

theorem ofToHbm (h : Dev.Framed ps ks d d') {x} : Dev.Framed ps ks d { d' with toHbm := x } :=
  ⟨fun b hb => by have := h.parts b hb; cases b <;> exact this, h.regs⟩

theorem ofTill (h : Dev.Framed ps ks d d') {x} (hp : Part.till ∈ ps) : Dev.Framed ps ks d { d' with till := x } :=
  ⟨fun b hb => by have := h.parts b hb; cases b <;> first | exact this | exact absurd hp hb, h.regs⟩

theorem ofBench (h : Dev.Framed ps ks d d') {x} (hp : Part.bench ∈ ps) : Dev.Framed ps ks d { d' with bench := x } :=
  ⟨fun b hb => by have := h.parts b hb; cases b <;> first | exact this | exact absurd hp hb, h.regs⟩

theorem ofMem (h : Dev.Framed ps ks d d') {x} (hp : Part.mem ∈ ps) : Dev.Framed ps ks d { d' with mem := x } :=
  ⟨fun b hb => by have := h.parts b hb; cases b <;> first | exact this | exact absurd hp hb, h.regs⟩

theorem ofCas (h : Dev.Framed ps ks d d') {x} (hp : Part.cas ∈ ps) : Dev.Framed ps ks d { d' with cas := x } :=
  ⟨fun b hb => by have := h.parts b hb; cases b <;> first | exact this | exact absurd hp hb, h.regs⟩

theorem ofAux (h : Dev.Framed ps ks d d') {x} (hp : Part.aux ∈ ps) : Dev.Framed ps ks d { d' with aux := x } :=
  ⟨fun b hb => by have := h.parts b hb; cases b <;> first | exact this | exact absurd hp hb, h.regs⟩

theorem ofOut (h : Dev.Framed ps ks d d') {x} (hp : Part.out ∈ ps) : Dev.Framed ps ks d { d' with out := x } :=
  ⟨fun b hb => by have := h.parts b hb; cases b <;> first | exact this | exact absurd hp hb, h.regs⟩

theorem ofFreeCtr (h : Dev.Framed ps ks d d') {x} (hp : Part.freeCtr ∈ ps) : Dev.Framed ps ks d { d' with freeCtr := x } :=
  ⟨fun b hb => by have := h.parts b hb; cases b <;> first | exact this | exact absurd hp hb, h.regs⟩

theorem fset (h : Dev.Framed ps ks d d') {f : Field} {v i : Nat} (hk : f.key i ∈ ks) : Dev.Framed ps ks d (d'.fset f v i) :=
  ⟨fun b hb => by have := h.parts b hb; cases b <;> exact this, fun k hk' => (Dev.fset_regEq d' f v i hk k hk').trans (h.regs k hk')⟩

theorem fbit (h : Dev.Framed ps ks d d') {f : Field} {v : Bool} {i : Nat} (hk : f.key i ∈ ks) :
    Dev.Framed ps ks d (d'.fbit f v i) := h.fset hk

theorem finc (h : Dev.Framed ps ks d d') {f : Field} {n i : Nat} (hk : f.key i ∈ ks) : Dev.Framed ps ks d (d'.finc f n i) :=
  h.fset hk

theorem fsetS (h : Dev.Framed ps ks d d') {f : Field} {v : Int} {i : Nat} (hk : f.key i ∈ ks) : Dev.Framed ps ks d (d'.fsetS f v i) :=
  h.fset hk

theorem fsetBit (h : Dev.Framed ps ks d d') {f : Field} {n : Nat} {b : Bool} {i : Nat} (hk : f.key i ∈ ks) :
    Dev.Framed ps ks d (d'.fsetBit f n b i) := h.fset hk

theorem fset64 (h : Dev.Framed ps ks d d') {f g : Field} {v i : Nat} (hf : f.key i ∈ ks) (hg : g.key i ∈ ks) :
    Dev.Framed ps ks d (d'.fset64 f g v i) := (h.fset hf).fset hg

theorem cfgEpoch (h : Dev.Framed ps ks d d') {p : Nat} (hk : Reg.hdr_CFG_EPOCH.key p ∈ ks) : Dev.Framed ps ks d (d'.cfgEpoch p) :=
  h.fset hk

theorem countTimeout (h : Dev.Framed ps ks d d') {p : Nat} (hk : Reg.hdr_TIMEOUT_COUNT.key p ∈ ks) :
    Dev.Framed ps ks d (d'.countTimeout p) := h.fset hk

theorem countRecovery (h : Dev.Framed ps ks d d') {p : Nat} (hk : Reg.hdr_RECOVERY_COUNT.key p ∈ ks) :
    Dev.Framed ps ks d (d'.countRecovery p) := h.fset hk

theorem logErr (h : Dev.Framed ps ks d d') {p c a b : Nat} (hk : errKeys p ⊆ ks) : Dev.Framed ps ks d (d'.logErr p c a b) := by
  unfold Dev.logErr
  refine Dev.Framed.fset (Dev.Framed.fset (Dev.Framed.fset (Dev.Framed.finc (Dev.Framed.fbit (Dev.Framed.fbit (Dev.Framed.fbit
    (Dev.Framed.fset h ?_) ?_) ?_) ?_) ?_) ?_) ?_) ?_ <;> exact hk (by simp [errKeys])

theorem logDiscard (h : Dev.Framed ps ks d d') {who : Requester} {p a b : Nat} (hk : errKeys p ⊆ ks) :
    Dev.Framed ps ks d (d'.logDiscard who p a b) := h.logErr hk

theorem raiseMask (h : Dev.Framed ps ks d d') {p m : Nat} (hp : eventParts ⊆ ps) (hk : eventKeys p ⊆ ks) :
    Dev.Framed ps ks d (d'.raiseMask p m) := by
  refine ⟨fun b hb => ?_, fun k hk' => (Dev.raiseMask_regEq d' p m k fun h => hk' (hk h)).trans (h.regs k hk')⟩
  have h1 := h.parts b hb
  have e := Dev.raiseMask_ev d' p m
  cases b <;> first
    | (refine absurd (hp ?_) hb; decide)
    | (simp only [Part.same] at h1 ⊢; simpa using h1)

theorem raise (h : Dev.Framed ps ks d d') {p b : Nat} (hp : eventParts ⊆ ps) (hk : eventKeys p ⊆ ks) :
    Dev.Framed ps ks d (d'.raise p b) := h.raiseMask hp hk

theorem degrade (h : Dev.Framed ps ks d d') {p r : Nat} {b : Bool} (hp : Part.degraded ∈ ps) : Dev.Framed ps ks d (d'.degrade p r b) := by
  refine ⟨fun b hb => ?_, h.regs⟩
  have h1 := h.parts b hb
  cases b <;> first | exact absurd hp hb | exact h1 | (simp only [Part.same] at h1 ⊢; rw [Dev.degrade, h1])

theorem contain (h : Dev.Framed ps ks d d') {p r : Nat} {b : Bool} (hp : Part.contained ∈ ps) : Dev.Framed ps ks d (d'.contain p r b) := by
  refine ⟨fun b hb => ?_, h.regs⟩
  have h1 := h.parts b hb
  cases b <;> first | exact absurd hp hb | exact h1 | (simp only [Part.same] at h1 ⊢; rw [Dev.contain, h1])

/-- A change of the Foreman's state. -/
theorem ofFore (h : Dev.Framed ps ks d d') {x : ForeState} (h1 : Part.fore ∈ ps) (h2 : x.degraded = d'.fore.degraded)
    (h3 : x.contained = d'.fore.contained) : Dev.Framed ps ks d { d' with fore := x } := by
  refine ⟨fun b hb => ?_, h.regs⟩
  have h4 := h.parts b hb
  cases b <;> first | exact absurd h1 hb | exact h4 | exact h2.trans h4 | exact h3.trans h4

theorem ofIf (c : Prop) [Decidable c] {a b : Dev} (h1 : c → Dev.Framed ps ks d a) (h2 : ¬c → Dev.Framed ps ks d b) :
    Dev.Framed ps ks d (if c then a else b) := by
  split
  · next h => exact h1 h
  · next h => exact h2 h

theorem mono {ps' : List Part} {ks' : List Nat} (h : Dev.Framed ps ks d d') (hp : ps ⊆ ps') (hk : ks ⊆ ks') :
    Dev.Framed ps' ks' d d' := ⟨fun b hb => h.parts b fun h => hb (hp h), fun k h' => h.regs k fun h => h' (hk h)⟩

theorem trans {d'' : Dev} (h : Dev.Framed ps ks d d') (g : Dev.Framed ps ks d' d'') : Dev.Framed ps ks d d'' := by
  refine ⟨fun b hb => ?_, fun k hk => (g.regs k hk).trans (h.regs k hk)⟩
  have h1 := h.parts b hb
  have h2 := g.parts b hb
  cases b <;> first
    | exact h2.trans h1
    | (simp only [Part.same] at h1 h2 ⊢; rw [h2, h1])

theorem onOff (h : Dev.Framed ps ks d d') {who : Requester} {p off val : Nat} {e : Bool} {act : Dev → Dev}
    (ha : Dev.Framed ps ks d (act d')) (h1 : errKeys p ⊆ ks) (h2 : Reg.hdr_CFG_EPOCH.key p ∈ ks) :
    Dev.Framed ps ks d (d'.writeGate who p off val e act) := by
  unfold Dev.writeGate
  split
  · exact h.logDiscard h1
  · split
    · exact h.logDiscard h1
    · exact ha.cfgEpoch h2

end Dev.Framed

theorem State.alertNote_fore (s : State) :
    s.alertNote.dev.fore = { s.dev.fore with alertAnswered := s.alertNote.dev.fore.alertAnswered } := rfl

/-- The note of an answered alert stands outside every frame. -/
theorem State.Framed.alertNote {ps : List Part} {ks : List Nat} {s t : State} (h : State.Framed ps ks s t) :
    State.Framed ps ks s t.alertNote := by
  refine ⟨⟨fun b hb => ?_, h.dev.regs⟩, h.pending, h.nv, h.hbm⟩
  have h1 := h.dev.parts b hb
  cases b <;> first
    | exact h1
    | exact (State.alertNote_fore t).trans
        (congrArg (fun f : ForeState => { f with alertAnswered := t.alertNote.dev.fore.alertAnswered }) h1)

theorem State.Framed.onDev {ps : List Part} {ks : List Nat} {s : State} {f : Dev → Dev} (h : Dev.Framed ps ks s.dev (f s.dev)) :
    State.Framed ps ks s (s.onDev f) := ⟨h, rfl, rfl, rfl⟩

/-- A command that changes the device alone, on a live device or on one that is off, keeps the frame of its change. -/
theorem State.Framed.live {ps : List Part} {ks : List Nat} {s : State} {f : Dev → Dev} (h : Dev.Framed ps ks s.dev (f s.dev)) :
    State.Framed ps ks s (s.live fun s => s.onDev f) := by
  unfold State.live
  split
  · exact ⟨.refl _, rfl, rfl, rfl⟩
  · exact (State.Framed.onDev h).alertNote

/-! ### What raising an event leaves in EVENT -/

theorem bitAt_or_left {a b n : Nat} (h : bitAt a n = true) : bitAt (a ||| b) n = true := by
  unfold bitAt at *; simp [Nat.testBit_or, h]

theorem bitAt_mod {a n : Nat} (hn : n < 32) : bitAt (a % 2 ^ 32) n = bitAt a n := by
  unfold bitAt; rw [Nat.testBit_mod_two_pow]; simp [hn]

theorem eventField_ne (f : Field) (p q : Nat) (hf : f ∈ [Reg.hdr_FIRST_BIT, Reg.hdr_FIRST_MULTI, Reg.hdr_FIRST_INJECTED, Reg.hdr_FIRST_VALID]) :
    Reg.hdr_EVENT.key q ≠ f.key p := by
  simp only [List.mem_cons, List.not_mem_nil, or_false] at hf
  rcases hf with rfl | rfl | rfl | rfl <;>
    simp only [Field.key, Reg.hdr_EVENT, Reg.hdr_FIRST_BIT, Reg.hdr_FIRST_MULTI, Reg.hdr_FIRST_INJECTED, Reg.hdr_FIRST_VALID] <;> omega

theorem eventKey_inj (p q : Nat) : Reg.hdr_EVENT.key q = Reg.hdr_EVENT.key p ↔ q = p := by
  simp only [Field.key, Reg.hdr_EVENT]; omega

/-- EVENT after setting bits: the bits are added, and other pages keep theirs. -/
theorem Dev.fget_setEvent (d : Dev) (p mask q : Nat) : (d.setEvent p mask).1.fget Reg.hdr_EVENT q =
    if q = p then (d.fget Reg.hdr_EVENT p ||| mask % 2 ^ 32) % 2 ^ 32 else d.fget Reg.hdr_EVENT q := by
  have e1 := eventField_ne Reg.hdr_FIRST_BIT p q (by simp)
  have e2 := eventField_ne Reg.hdr_FIRST_MULTI p q (by simp)
  have e3 := eventField_ne Reg.hdr_FIRST_INJECTED p q (by simp)
  have e4 := eventField_ne Reg.hdr_FIRST_VALID p q (by simp)
  unfold Dev.setEvent
  dsimp only
  split <;> simp only [Dev.fbit, Dev.fget_fset, e1, e2, e3, e4, if_false, eventKey_inj] <;> rfl

theorem Dev.setEvent_keeps (d : Dev) (p mask q n : Nat) (hn : n < 32) (h : bitAt (d.fget Reg.hdr_EVENT q) n = true) :
    bitAt ((d.setEvent p mask).1.fget Reg.hdr_EVENT q) n = true := by
  rw [Dev.fget_setEvent]
  split
  · next e => subst e; rw [bitAt_mod hn]; exact bitAt_or_left h
  · exact h

theorem event_not_routeKey (q : Nat) : Reg.hdr_EVENT.key q ∉ routeKeys := by
  simp only [routeKeys, List.mem_cons, List.not_mem_nil, or_false, Field.key, Reg.hdr_EVENT, Reg.evt_ROUTE_LOST, Reg.qmgr_EVENT_DROPS,
    Reg.pcie_EGRESS_LEVEL, Reg.pcie_IN_L1]
  omega

theorem Dev.fget_route (d : Dev) (p new q : Nat) : (d.route p new).1.fget Reg.hdr_EVENT q = d.fget Reg.hdr_EVENT q :=
  Dev.fget_congr _ _ (Dev.route_regEq d p new _ (event_not_routeKey q))

theorem Dev.setAndRoute_event (d : Dev) (p mask q : Nat) :
    (d.setAndRoute p mask).1.fget Reg.hdr_EVENT q = (d.setEvent p mask).1.fget Reg.hdr_EVENT q := by
  unfold Dev.setAndRoute
  dsimp only
  split
  · rfl
  · exact Dev.fget_route _ _ _ _

theorem Dev.setAndRoute_keeps (d : Dev) (p mask q n : Nat) (hn : n < 32) (h : bitAt (d.fget Reg.hdr_EVENT q) n = true) :
    bitAt ((d.setAndRoute p mask).1.fget Reg.hdr_EVENT q) n = true := by
  rw [Dev.setAndRoute_event]; exact Dev.setEvent_keeps d p mask q n hn h

theorem Dev.egressFull_keeps (d : Dev) (m q n : Nat) (hn : n < 32) (h : bitAt (d.fget Reg.hdr_EVENT q) n = true) :
    bitAt ((d.egressFull m).fget Reg.hdr_EVENT q) n = true := by
  unfold Dev.egressFull
  split
  · exact h
  · exact Dev.setAndRoute_keeps _ _ _ _ _ hn h

/-- Raising events clears no EVENT bit. -/
theorem Dev.raiseMask_keeps (d : Dev) (p mask q n : Nat) (hn : n < 32) (h : bitAt (d.fget Reg.hdr_EVENT q) n = true) :
    bitAt ((d.raiseMask p mask).fget Reg.hdr_EVENT q) n = true := by
  unfold Dev.raiseMask
  dsimp only
  split
  · exact Dev.egressFull_keeps _ _ _ _ hn (Dev.setAndRoute_keeps _ _ _ _ _ hn (Dev.setAndRoute_keeps _ _ _ _ _ hn h))
  · exact Dev.setAndRoute_keeps _ _ _ _ _ hn h

theorem Dev.raise_keeps (d : Dev) (p b q n : Nat) (hn : n < 32) (h : bitAt (d.fget Reg.hdr_EVENT q) n = true) :
    bitAt ((d.raise p b).fget Reg.hdr_EVENT q) n = true := Dev.raiseMask_keeps d p _ q n hn h

/-- Every bit raised is set in EVENT (R409). -/
theorem Dev.raiseMask_sets (d : Dev) (p mask n : Nat) (hn : n < 32) (h : bitAt mask n = true) :
    bitAt ((d.raiseMask p mask).fget Reg.hdr_EVENT p) n = true := by
  have h0 : bitAt ((d.setAndRoute p mask).1.fget Reg.hdr_EVENT p) n = true := by
    rw [Dev.setAndRoute_event, Dev.fget_setEvent, if_pos rfl, bitAt_mod hn]
    rw [Nat.or_comm]
    exact bitAt_or_left (by rw [bitAt_mod hn]; exact h)
  unfold Dev.raiseMask
  dsimp only
  split
  · exact Dev.egressFull_keeps _ _ _ _ hn (Dev.setAndRoute_keeps _ _ _ _ _ hn h0)
  · exact h0

theorem Dev.raise_sets (d : Dev) (p b : Nat) (hb : b < 32) : bitAt ((d.raise p b).fget Reg.hdr_EVENT p) b = true :=
  Dev.raiseMask_sets d p _ b hb (by unfold bitAt; simp [Nat.testBit_two_pow_self])

/-! ### Events raised and records held -/

theorem Dev.raise_raised (d : Dev) (p b : Nat) (hb : b < 32) : (d.raise p b).Raised p b := Dev.raise_sets d p b hb

theorem Dev.Raised.raise {d : Dev} {q n : Nat} (h : d.Raised q n) (hn : n < 32) (p b : Nat) : (d.raise p b).Raised q n :=
  Dev.raise_keeps d p b q n hn h

theorem Dev.Raised.congr {d d' : Dev} {q n : Nat} (h : d.Raised q n)
    (e : KMap.find d'.regs (Reg.hdr_EVENT.key q) = KMap.find d.regs (Reg.hdr_EVENT.key q)) : d'.Raised q n := by
  unfold Dev.Raised; rw [Dev.fget_congr Reg.hdr_EVENT q e]; exact h

theorem Dev.Raised.fset {d : Dev} {q n : Nat} (h : d.Raised q n) (f : Field) (v i : Nat) (hk : Reg.hdr_EVENT.key q ≠ f.key i) :
    (d.fset f v i).Raised q n := h.congr (by rw [Dev.find_fset, if_neg hk])

theorem Dev.Raised.fbit {d : Dev} {q n : Nat} (h : d.Raised q n) (f : Field) (b : Bool) (i : Nat)
    (hk : Reg.hdr_EVENT.key q ≠ f.key i) : (d.fbit f b i).Raised q n := h.fset f _ i hk

/-- Changes within a frame that does not name EVENT of the page keep its bits. -/
theorem Dev.Raised.framed {d d' : Dev} {q n : Nat} {ps : List Part} {ks : List Nat} (h : d.Raised q n) (e : Dev.Framed ps ks d d')
    (hk : Reg.hdr_EVENT.key q ∉ ks) : d'.Raised q n := h.congr (e.regs _ hk)

theorem Dev.logErr_held (d : Dev) (p c a b : Nat) : (d.logErr p c a b).ErrHeld p (c % 256) (a % 2 ^ 32) (b % 2 ^ 32) := by
  refine ⟨?_, ?_, ?_, ?_⟩ <;>
    simp [Dev.logErr, Dev.fget_fset, Dev.fbit, Dev.finc, Bool.bit, Field.key, Reg.hdr_ERR_CODE, Reg.hdr_ERR_INJECTED,
      Reg.hdr_ERR_OVERWRITTEN, Reg.hdr_ERR_VALID, Reg.hdr_ERR_COUNT, Reg.hdr_ERR_DETAIL0, Reg.hdr_ERR_DETAIL1, Reg.hdr_ERR_TIME]
  all_goals (repeat' split) <;> omega

theorem Dev.ErrHeld.congr {d d' : Dev} {p c a b : Nat} (h : d.ErrHeld p c a b)
    (e : ∀ k ∈ errKeys p, KMap.find d'.regs k = KMap.find d.regs k) : d'.ErrHeld p c a b := by
  obtain ⟨h1, h2, h3, h4⟩ := h
  refine ⟨?_, ?_, ?_, ?_⟩
  · rw [Dev.fget_congr _ _ (e _ (by simp [errKeys]))]; exact h1
  · rw [Dev.fget_congr _ _ (e _ (by simp [errKeys]))]; exact h2
  · rw [Dev.fget_congr _ _ (e _ (by simp [errKeys]))]; exact h3
  · rw [Dev.fget_congr _ _ (e _ (by simp [errKeys]))]; exact h4

/-- Changes within a frame that does not name the error log of the page keep its record. -/
theorem Dev.ErrHeld.framed {d d' : Dev} {p c a b : Nat} {ps : List Part} {ks : List Nat} (h : d.ErrHeld p c a b)
    (e : Dev.Framed ps ks d d') (hk : ∀ k ∈ errKeys p, k ∉ ks) : d'.ErrHeld p c a b := h.congr fun k hm => e.regs k (hk k hm)

/-! ### Lifting -/

theorem State.live_on {s : State} (h : s.dev.fore.off = false) (f : State → State) : s.live f = (f s).alertNote := by
  simp [State.live, h]

theorem State.live_off {s : State} (h : s.dev.fore.off = true) (f : State → State) : s.live f = s := by
  simp [State.live, h]

@[simp] theorem State.alertNote_fget (s : State) (f : Field) (i : Nat) : s.alertNote.dev.fget f i = s.dev.fget f i := rfl

@[simp] theorem State.alertNote_flag (s : State) (f : Field) (i : Nat) : s.alertNote.dev.flag f i = s.dev.flag f i := rfl

theorem State.alertNote_raised (s : State) (p b : Nat) (h : s.dev.Raised p b) : s.alertNote.dev.Raised p b := h

theorem State.alertNote_errHeld (s : State) (p c a b : Nat) (h : s.dev.ErrHeld p c a b) : s.alertNote.dev.ErrHeld p c a b := h

end Sys2Proof.Machine
end

