-- ==== Sys2Proof/WellFormed.lean ====
section
/-!
DEFINITION. Which commands are well formed: the bounds of the operands that their types do not already give. A command that is not well
formed is one that nothing outside the device can send or measure; the machine answers it all the same (no meaning rests on these bounds).
-/

namespace Sys2Proof

/-- A 32-bit quantity. -/
def word (n : Nat) : Bool := decide (n < 2 ^ 32)

/-- A value of a `w`-bit two's complement field (R6). -/
def signed (w : Nat) (i : Int) : Bool := decide (-2 ^ (w - 1) ≤ i) && decide (i < 2 ^ (w - 1))

/-- An aligned BAR0 offset (R15): BAR0 has 8 MiB. -/
def writeOff (off : Nat) : Bool := decide (off < 2 ^ 23) && off % 4 == 0

/-- An aligned offset of BAR0, or of BAR2 behind it (log entry 36). -/
def readOff (off : Nat) : Bool := decide (off < 2 ^ 24) && off % 4 == 0

/-- An offset within a page (R476). -/
def inPage (p off : Nat) : Bool := off / 4096 == p

/-- A 64-byte submission entry (R307). -/
def entryOk (e : List Word) : Bool := e.length == 16

/-- Bytes of record space: the HBM tier's 45 GiB (R194). -/
def recordSpace : Nat := 45 * 2 ^ 30

/-- A BAR6 access within the largest window (log entry 30). -/
def barSpan (off len : Nat) : Bool := decide (0 < len) && decide (off + len ≤ 2 ^ 36)

/-- The number of a device of a cascade: 0x3FF names none (R372). -/
def device (n : Nat) : Bool := decide (n < 1024)

/-- A page error record (Table 17.4). -/
def errRecordOk (r : ErrRecord) : Bool := decide (r.code < 256) && word r.detail0 && word r.detail1

/-- A firmware image: its digest has 256 bits (Table 19.5). -/
def firmwareOk (i : FwImage) : Bool := i.digest.length == 8

/-- The 16 taps of a slice's FIR (Table 03.11). -/
def firOk (h : List Int) : Bool := h.length == 16 && h.all (signed 16)

/-- A slice's coefficients (Table 03.11). -/
def coeffsOk (c : SliceCoeffs) : Bool := signed 16 c.offset && decide (0 ≤ c.gain) && decide (c.gain < 2 ^ 24) && signed 16 c.trim && firOk c.fir

/-- A source's bench and Till island (R276, R248). -/
def sourceOk : HbmSource → Bool
  | .load b _ | .bench b => decide (b < 32)
  | .tillFeed t | .tillExt t => decide (t < 4)
  | .capture | .refresh | .replay | .decimator | .ledger | .spill | .egress _ | .erase _ | .rebuild _ | .bar6 | .recipe => true

/-- A request: its bank and line within the pseudo-channel (R327, R328). -/
def hbmReqOk (r : HbmReq) : Bool := sourceOk r.source && decide (r.bank < 48) && decide (r.row < 2 ^ 24) && decide (r.line < 12582912)

/-- A pseudo-channel's training result: four byte lanes (R333). -/
def trainOk (r : TrainResult) : Bool := decide (r.pc < 64) && r.lanes.length == 4

/-- A frame's SEQ (R373). -/
def checkOk (c : FrameCheck) : Bool := word c.seq

/-- A MGMT frame: device numbers and hop counts in their fields (R377). -/
def mgmtOk (f : MgmtFrame) : Bool :=
  device f.devId && device f.rootId && f.otherRoot.all device && f.depth.all (fun n => decide (n < 256)) && decide (f.hopsMax < 256) &&
    f.below.all fun p => device p.1

/-- The times of a SYNC exchange: 80 bits each (R378). -/
def syncOk (t : SyncTimes) : Bool :=
  decide (t.t1 < 2 ^ 80) && decide (t.t2 < 2 ^ 80) && decide (t.t3 < 2 ^ 80) && decide (t.t4 < 2 ^ 80)

/-- A DATA frame names two devices (R388). -/
def dataOk (f : DataFrame) : Bool := device f.src && device f.dst

/-- A signed request: a SHA-256 digest of its PAYLOAD (Table 19.2). -/
def requestOk (r : LcRequest) : Bool := r.digest.length == 8

/-- What a consumed entry takes from outside. -/
def hostDataOk (h : HostData) : Bool := h.req.all requestOk && h.image.all firmwareOk

/-- An occurrence of a counted event: its class is one of three, its master one of two kinds (R465). -/
def tallyOk (e : TallyEvent) : Bool :=
  e.attr.priv.all (fun k => decide (k < 3)) && e.attr.master.all fun m => m.1 == 1 || m.1 == 2

/-- Whether a command's operands lie within what its row of the opcode table can carry. -/
def Instr.wf : Instr → Bool
  | .registerWrite _ off _ _ => writeOff off
  | .rcRead _ off inc => readOff off && word inc
  | .multiwordW0Read _ off => readOff off
  | .stagedHighWordWrite _ off _ => writeOff off
  | .multiwordW0Write _ off _ => writeOff off
  | .errLogRead _ _ same => same.all errRecordOk
  | .firmwareImageReadDone img => firmwareOk img
  | .handshakeTransfer _ _ payload _ => word payload
  | .clksReturn _ phase => decide (-2 ^ 31 ≤ phase) && decide (phase < 2 ^ 31)
  | .freqGateEnd khz => word khz
  | .disciplineSourceValid _ (inc, phase) => decide (inc < 2 ^ 64) && decide (-2 ^ 63 ≤ phase) && decide (phase < 2 ^ 63)
  | .refReturn phaseErr => decide (-2 ^ 63 ≤ phaseErr) && decide (phaseErr < 2 ^ 63)
  | .weftEmit raw => raw.length == 128
  | .sliceTempSample temps => temps.length == 136
  | .dcPhaseEnd _ below above => below.length == 4 && above.length == 5 && (below ++ above).all (signed 20)
  | .livePhaseEnd _ (_, trim) fir neighbours => signed 16 trim && firOk fir && neighbours.all fun x => signed 16 x.1 && decide (0 ≤ x.2) && decide (x.2 < 2 ^ 24)
  | .dllTapMeasure _ trims bandMap => trims.length == 16 && trims.all (signed 8) && bandMap.length == 8 && bandMap.all word
  | .vernCalWindowEnd _ periodA periodB _ => decide (periodA < 2 ^ 31) && decide (periodB < 2 ^ 31)
  | .fgSliceDone _ coeffs _ => coeffsOk coeffs
  | .vernierConversionDone _ code => word code
  | .qualExpired seg => word seg
  | .ledgerEntryWrite seg => word seg
  | .autoRelease seg => word seg
  | .spillStreamWrite _ count => decide (0 < count)
  | .ringConfigWrite _ off _ => writeOff off && inPage 22 off
  | .chainConfigWrite _ off _ => writeOff off && inPage 24 off
  | .tillRecordRead _ count => word count
  | .eccFix _ bank => decide (bank < 256)
  | .eccLost _ point => word point
  | .ticket q entry => decide (q < 2 ^ 16) && entryOk entry
  | .commitRequest _ tk attempt => word tk && word attempt
  | .ticketCommit tk => word tk
  | .submitConsume _ entry data => entryOk entry && hostDataOk data
  | .createQueue _ entry => entryOk entry
  | .deleteQueue _ entry => entryOk entry
  | .resetQueue _ entry => entryOk entry
  | .arm _ entry => entryOk entry
  | .stop _ entry => entryOk entry
  | .release _ entry => entryOk entry
  | .calibrate _ entry => entryOk entry
  | .calCommit _ entry => entryOk entry
  | .tableLoad _ entry _ => entryOk entry
  | .recipeLoad _ entry _ => entryOk entry
  | .getLog _ entry => entryOk entry
  | .resync _ entry => entryOk entry
  | .hbmTrainingDone results => results.all trainOk
  | .retrainSweepDone _ eyes => eyes.length == 4
  | .refreshDue _ _ (reqs, _) => reqs.all hbmReqOk
  | .tierChange _ temp tj parts => signed 16 temp && signed 16 tj && parts.all fun p => decide (p.1 < 3072) && decide (p.2 < 1000)
  | .hammer _ reqs _ => reqs.all hbmReqOk
  | .pdAdaptTick _ hits total => decide (hits ≤ total)
  | .hbmEccCorrected _ _ row => decide (row < 2 ^ 24)
  | .bar6Read off len => barSpan off len
  | .bar6Write off bytes => barSpan off bytes.length
  | .ptmDone _ hostNs devTs => decide (hostNs < 2 ^ 64) && decide (devTs < 2 ^ 96)
  | .marginDone results => decide (results.length ≤ 16)
  | .mgmtFrame _ check frame => checkOk check && mgmtOk frame
  | .syncSend departs => departs.length == 4 && departs.all fun t => decide (t < 2 ^ 80)
  | .syncFrame _ check frame => checkOk check && syncOk frame
  | .trigFrame _ check _ => checkOk check
  | .frameAckTimeout _ cls seq => decide (cls < 16) && word seq
  | .dataFrame _ check frame => checkOk check && dataOk frame
  | .remoteQualExpired origin seqT => device origin && decide (seqT < 2 ^ 12)
  | .xaccImage _ src => device src
  | .auxConversionDone _ code => decide (code < 4096)
  | .filterConversion _ code => decide (0 ≤ code) && decide (code < 4096)
  | .ageingMeasure counts => counts.length == 96
  | .trendSummary values => values.all fun v => decide (1 ≤ v.1) && decide (v.1 ≤ 11)
  | .planDone plan => plan.eyes.all fun e => decide (e.2 < 256)
  | .avsTransaction _ cpm _ => decide (cpm < 65536)
  | .thermalRead temps => temps.length == 12
  | .lcStatus _ entry => entryOk entry
  | .lcRequest _ entry req => entryOk entry && requestOk req
  | .getNonce _ entry _ => entryOk entry
  | .attest _ entry sig => entryOk entry && sig.length == 821
  | .getCert _ entry cert => entryOk entry && cert.length == 756
  | .debugLock _ entry => entryOk entry
  | .fwWrite _ entry => entryOk entry
  | .fwActivate _ entry image => entryOk entry && firmwareOk image
  | .fwCommit _ entry => entryOk entry
  | .smbusWrite off _ => word off
  | .smbusRead off => word off
  | .groupTick counts => counts.all tallyOk
  | .uncorrectableDataError _ line => decide (64 * line < recordSpace)
  | .frameAcknowledged _ cls seq => decide (cls < 16) && word seq
  | .eventClear _ _ _ _ _ | .softReset _ _ | .coldReset | .supplyMonitorBad _ | .supplyMonitorGood _ | .pwrOkFall | .perstNAssert
  | .perstNDeassert | .functionLevelReset | .configSpaceReady | .watchdog _ | .lockstep _ | .handshakeTimeout _ _ | .clksLost | .clksRange
  | .dllBandSearch _ | .dllBandTrialEnd _ _ | .dllLock _ _ | .dllUnlock _ | .dllHandover _ _ | .dllLockTimeout _ | .dllRetryTimer _
  | .relock _ | .reseed _ | .islPllLock _ | .islClkFallback _ | .islPllRetry _ | .islrefLost _ | .islrefSourceValid _ | .islrefResume
  | .refLost | .slewDone | .ppsArm _ | .ppsInEdge | .ppsMissing | .setCommit _ | .nominalFreqWrite _ _ | .modeWrite _ _ | .modeReady
  | .pathDelayWrite _ _ _ | .retire _ _ | .substitutionBoundary _ | .sliceFail _ | .spareSettled _ _ | .idleSpareFail _
  | .quietCheckStart _ _ | .quietDone _ | .assayRunStart _ | .assayRunReturn _ _ | .runAbandoned _ | .livePhaseRestart _ | .vernStale _
  | .fgStart _ _ | .quietRetryTimer | .cancel _ | .commitNow _ | .bankCommitStart | .mramBlockWriteDone | .mramRetry
  | .comparatorEdge _ _ _ | .trigInEdge _ _ _ | .convTimeout _ | .levelChangeApply _ _ | .condCfgWrite _ _ _ | .autoLevelWindowEnd _
  | .autoEnWrite _ _ _ | .stateTimeout | .bucketRefill | .tseqRestart _ | .trigOutPulse _ | .trigOutPulseEnd _ | .ticArm _ _ | .ticStop _ _
  | .ticEventReceived _ | .ticGateEnd _ | .ticNoSignal _ | .ticWindowExpiry _ | .ticResultRead _ _ | .ctrlArm _ | .armBoundary
  | .ctrlStop _ | .stopBoundary | .stopDone | .captureBlockStored _ | .ledgRelease _ _ | .releaseUpto _ _ | .segmentSpillStart
  | .segmentSpillDone | .spillErr _ | .partRunSet _ _ _ | .partRunClear _ _ _ | .clear _ _ | .clearDone _ | .snap _ _ _ | .dumpSweepStart _
  | .dumpDone _ | .load _ _ _ | .abort _ _ | .ticketAdmit | .ticketDispatch | .attemptStart _ | .ticketSteal _ | .ticketTimeout _ _
  | .islResetDone _ | .benchHeartbeat _ | .benchIsolated _ | .benchSelfTestDone _ _ | .recipeValidationDone _ | .doorbellWrite _ _ _
  | .tableLoadSectionsDone | .completionPost | .streamRecordWrite _ | .coalesceTimer _ | .adminEnable _ _ | .queueErr _ | .cplTimeout _
  | .rateWrite _ _ | .retrainStart _ | .retrainDone _ | .actWindowEnd _ _ | .pdEntry _ | .parityAlert _ | .hbmTransactionTimeout _ _
  | .rebuildDone _ | .linkDown | .linkUp _ _ _ | .busMasterEnable _ | .discard _ | .ptmTrigger _ | .l1Entry _ | .marginScanStart
  | .hostMarginCommand _ | .portPresent _ | .portTrained _ | .portUp _ | .portDown _ _ | .failover | .primaryReturn | .trigForward
  | .mergePoint | .xferGo _ _ | .xferDone _ | .auxEnable _ _ _ | .regPeriodTimer _ | .urgentTrigger _ | .auxConvTimeout _ | .resultNumbered
  | .auxFlushTimer | .filterEnable _ _ _ | .eventInject _ _ _ _ | .injArm _ | .injDisarm _ | .armWindowExpiry | .logCollect _
  | .recompute _ | .planStart | .avsFail _ | .avsRetry _ | .throttleStep | .thermalTrip _ | .nonceExpiry | .tapLocked | .bottomTreeReady _
  | .expertGateWrite _ _ | .smbusAlertResponse | .tableSelWrite _ _ _ | .tableDataAccess _ _ _ | .tableApertureAccess _ _ _ | .swap _ _
  | .swapTakeEffect _ | .crcCheck _ _ | .crcDone _ | .copy _ _ | .tapInstruction _ | .linkSpeedChange _ _ => true

end Sys2Proof
end

