-- ==== Sys2Proof/Tests/Slice0.lean ====
section
/-!
SUPPORT. Tests of the model: an ill-formed command for each check of WellFormed, worked examples of the manual, single commands on small states, and,
for each statement with hypotheses, states and operands that meet them. Where a clause answers several cases, each case that the model can evaluate is met;
cases that rest on a value of Config, which has none, or on the CRC of a 4 KiB image are met without that last condition.
-/

open Sys2Proof.Machine

namespace Sys2Proof.Tests

set_option Elab.async false
set_option linter.unusedVariables false

/-- A state whose device is the reset one changed by f. -/
def wit (f : Dev → Dev) : State := { State.reset with dev := f State.reset.dev }
def frozenAt (p : Nat) (d : Dev) : Dev := d.fbit Reg.hdr_FREEZE true p
def expertAt (p : Nat) (d : Dev) : Dev := ((d.fbit Reg.hdr_EXPERT true p).fbit Reg.top_OPEN true).fbit Reg.life_EXPERT_PERMIT true
/-- CLK_S present and calibration loaded. -/
def upDev (d : Dev) : Dev := ({ d with clk.seen := true }.fbit Reg.clk_CLKS_PRESENT true).fbit Reg.top_CAL_LOADED true
def mod (s : State) (f : Dev → Dev) : State := { s with dev := f s.dev }
def sndDev (d : Dev) : Dev := ((d.raise 6 0).raise 17 3).logErr 6 0xF0 7 9
/-- Register values outside their widths, an accumulator outside its own: states no run reaches. -/
def fatS (s : State) : State :=
  { s with
    dev := { s.dev with regs := s.dev.regs.map (fun p => (p.1, if p.2 < 2 then p.2 else p.2 + 2 ^ 40)), tb.acc := s.dev.tb.acc + 2 ^ 100 + 2 ^ 70, freeCtr := 5, toHbm := [(77, [1#8])], tabs := s.dev.tabs.map (fun p => (p.1, p.2 + 2 ^ 40)) } }
/-- n numbers from a, b apart, in w bits. -/
def progB (w a b n : Nat) : List (BitVec w) := (List.range n).map fun k => BitVec.ofNat w (a + b * k)
/-- n integers from a, b apart. -/
def progI (a b : Int) (n : Nat) : List Int := (List.range n).map fun (k : Nat) => a + b * Int.ofNat k

/-! ### Ill-formed commands -/

/-- A 64-byte entry of zeros. -/
def entry0 : List Word := List.replicate 16 0

/-- A signed request whose digest is a word short. -/
def shortReq : LcRequest := { kind := 1, signer := 0, uid := 0, nonce := 0, target := 0, payload := [], digest := List.replicate 7 0, sigOk := true }

/-- A firmware image whose digest is a word short. -/
def shortImage : FwImage := { headerOk := true, keySlot := 0, keyOk := true, sigOk := true, bodyOk := true, svn := 1, digest := List.replicate 7 0 }

/-- A request of an HBM source; one to a bank of another pseudo-channel is ill formed. -/
def hreq (b : Nat) : HbmReq := { source := .bench 1, bank := b, row := 1, line := 1 }

/-- A MGMT frame from a device. -/
def mframe (n : Nat) : MgmtFrame :=
  { devId := n, root := false, depth := none, rootId := 1, otherRoot := none, hopsMax := 1, horizon := 1, below := [], hops := 0, alternates := false }

/-- One ill-formed command for each check of the registers, clocks and power. -/
theorem test_wf_refuses_registers_and_clocks :
    ([.registerWrite .host (2 ^ 23) 15 0, .registerWrite .host 2 15 0, .rcRead .host (2 ^ 24) 0, .rcRead .host 0 (2 ^ 32), .multiwordW0Read .host 1,
      .stagedHighWordWrite .host 3 0, .multiwordW0Write .host (2 ^ 23) 0, .errLogRead .host 0 (some ⟨256, 0, 0, false⟩),
      .errLogRead .host 0 (some ⟨1, 2 ^ 32, 0, false⟩), .firmwareImageReadDone shortImage,
      .handshakeTransfer 0 true (2 ^ 32) true, .clksReturn 0 (2 ^ 31), .freqGateEnd (2 ^ 32), .disciplineSourceValid true (2 ^ 64, 0),
      .disciplineSourceValid true (0, 2 ^ 63), .refReturn (2 ^ 63), .smbusWrite (2 ^ 32) 0, .smbusRead (2 ^ 32), .avsTransaction true 65536 0,
      .thermalRead [0], .groupTick [{ counter := 0, count := 1, attr := { priv := some 3 } }],
      .groupTick [{ counter := 0, count := 1, attr := { master := some (3, 0) } }],
      .ageingMeasure [], .trendSummary [(12, 0, 0)], .planDone { tRet0 := 1, tRet1 := 1, eyes := [(3, 256)], stored := true }] : List Instr).all
      (fun i => !i.wf) = true := by decide +kernel

/-- One ill-formed command for each check of the looms, the Assayer, the trigger, capture and the Till. -/
theorem test_wf_refuses_measurement :
    ([.weftEmit [], .sliceTempSample [], .dcPhaseEnd 0 [1] (List.replicate 5 0), .dcPhaseEnd 0 (List.replicate 4 0) [1], .dcPhaseEnd 0 (List.replicate 4 (2 ^ 19)) (List.replicate 5 0), .livePhaseEnd 0 (0, 2 ^ 15) (List.replicate 16 0) none,
      .livePhaseEnd 0 (0, 0) (List.replicate 15 0) none, .livePhaseEnd 0 (0, 0) (List.replicate 16 0) (some (0, 2 ^ 24)), .dllTapMeasure 0 [] [],
      .dllTapMeasure 0 (List.replicate 16 0) (List.replicate 8 (2 ^ 32)), .vernCalWindowEnd 0 (2 ^ 31) 0 0,
      .fgSliceDone 0 { offset := 0, gain := -1, trim := 0, fir := List.replicate 16 0 } ⟨0, 0, 0⟩, .vernierConversionDone 0 (2 ^ 32), .qualExpired (2 ^ 32),
      .ledgerEntryWrite (2 ^ 32), .autoRelease (2 ^ 32), .spillStreamWrite 0 0, .ringConfigWrite .host 0 0, .chainConfigWrite .host 0 0,
      .tillRecordRead 0 (2 ^ 32), .eccFix 0 256, .eccLost 0 (2 ^ 32)] : List Instr).all (fun i => !i.wf) = true := by decide +kernel

/-- One ill-formed command for each check of the queues, the benches, HBM, PCIe, the cascade and the life cycle. -/
theorem test_wf_refuses_queues_and_links :
    ([.ticket (2 ^ 16) entry0, .ticket 0 [], .commitRequest 0 (2 ^ 32) 0, .ticketCommit (2 ^ 32), .submitConsume 0 [] {},
      .submitConsume 0 entry0 { req := some shortReq }, .submitConsume 0 entry0 { image := some shortImage }, .createQueue 0 [], .deleteQueue 0 [],
      .resetQueue 0 [], .arm 0 [], .stop 0 [], .release 0 [], .calibrate 0 [], .calCommit 0 [], .tableLoad 0 [] [], .recipeLoad 0 [] [], .getLog 0 [],
      .resync 0 [], .hbmTrainingDone [⟨64, true, [], [], []⟩], .retrainSweepDone 0 [], .refreshDue 0 0 ([hreq 48], 0), .tierChange 0 (2 ^ 15) 0 [],
      .tierChange 0 0 0 [(3072, 0)], .hammer 0 [{ hreq 1 with source := .tillFeed 4 }] 0, .pdAdaptTick 0 2 1, .hbmEccCorrected 0 0 (2 ^ 24), .bar6Read 0 0,
      .bar6Write (2 ^ 36) [0], .ptmDone true (2 ^ 64) 0, .marginDone (List.replicate 17 (0, 0)), .mgmtFrame 0 ⟨2 ^ 32, true⟩ (mframe 1),
      .mgmtFrame 0 ⟨0, true⟩ (mframe 1024), .syncSend [], .syncFrame 0 ⟨0, true⟩ ⟨2 ^ 80, 0, 0, 0⟩, .trigFrame 0 ⟨2 ^ 32, true⟩ ⟨0, 0, 0, 0, 0⟩,
      .frameAckTimeout 0 16 0, .dataFrame 0 ⟨0, true⟩ ⟨1024, 0, .copyDone true⟩, .remoteQualExpired 1024 0, .xaccImage 0 1024, .auxConversionDone 0 4096,
      .filterConversion 0 (-1), .lcStatus 0 [], .lcRequest 0 entry0 shortReq, .getNonce 0 [] 0, .attest 0 entry0 [], .getCert 0 entry0 [], .debugLock 0 [],
      .fwWrite 0 [], .fwActivate 0 entry0 shortImage, .fwCommit 0 [], .uncorrectableDataError 0 recordSpace, .frameAcknowledged 0 16 0] : List Instr).all
      (fun i => !i.wf) = true := by decide +kernel

/-- Their well-formed neighbours are not refused. -/
theorem test_wf_accepts :
    ([.registerWrite .host (2 ^ 23 - 4) 15 0, .ringConfigWrite .host (22 * 4096 + 0x100) 0, .clksReturn 0 (-2 ^ 31), .ticket 65535 entry0,
      .refreshDue 0 0 ([hreq 47], 0), .bar6Read (2 ^ 36 - 1) 1, .dcPhaseEnd 0 (List.replicate 4 (2 ^ 19 - 1)) (List.replicate 5 (-2 ^ 19)), .mgmtFrame 0 ⟨0, true⟩ (mframe 1023),
      .weftEmit (List.replicate 128 0), .auxConversionDone 0 4095] : List Instr).all Instr.wf = true := by decide +kernel

/-! ### Worked examples of the manual -/

/-- R445: PROVISIONED is stored as 0xE1. -/
theorem test_otp_provisioned : otpEntry 1 = 0xE1 := by decide

/-- R89's example: the pair (-3, 0x5A3) is stored as 0xFD, 0x3F, 0x5A. -/
theorem test_pair_bytes : pairBytes (packPair (-3) 0x5A3) = [0xFD, 0x3F, 0x5A] := by decide

/-- R73's example, two-input mode: weft index 37 of IN_A is position 18 of LOOM_1, at tap 10. -/
theorem test_sample_position : sampleSlot 1 0 37 = 32 + 18 ∧ tapOf 1 1 18 = 10 := by decide

/-- The address example of chapter 8: a 64 MiB ring 0 at BASE 0x4000. S_r is 44,739,200; index 50,000,001 is at byte 7,891,200 of the
ring, in the upper half of its pair. -/
theorem test_ring_address :
    let d := (State.reset.dev.fset Reg.acq_ring_BASE 0x4000 0).fset Reg.acq_ring_SIZE 1024 0
    d.capacity 0 = 44739200 ∧ d.ringByte 0 50000001 = 7891200 ∧ d.ringOdd 0 50000001 = true := by decide +kernel

/-- The plan example of chapter 18: 12,400 ppm gives 33 mV of guard band; 95 ms of retention gives a floor of x2. -/
theorem test_plan_example : guardBand 20 12400 = 33 ∧ refFloor 95000 = 1 := by decide

/-- Table 02.11: a PHASE_ERR of -5,033 LSB at 10.24 GHz is slewed; 100 ps more is not. -/
theorem test_return_slews : within100ps (-5033) 10240000 = true ∧ within100ps (-13422) 10240000 = false := by decide

/-! ### Single commands on small states -/

/-- The device after a command. -/
def after (c : Instr) (s : State) : Option Dev :=
  match exec c s with
  | .next t => some t.dev
  | _ => none

/-- Table 01.9's W1C: writing 1 to an event bit clears it and leaves the others. -/
theorem test_event_clear :
    (after (.eventClear .host 6 1 0 false) (wit fun d => (d.raise 6 0).raise 6 1)).map (fun d => d.fget Reg.hdr_EVENT 6) = some 2 := by decide +kernel

/-- R440: below its minimum, a supply holds the device in reset. -/
theorem test_supply_bad : (after (.supplyMonitorBad .core) State.reset).map (fun d => d.fore.off) = some true := by decide +kernel

/-- Table 02.1: without CLK_S, CLKS_PRESENT is 0. -/
theorem test_clks_lost : (after .clksLost (wit upDev)).map (fun d => d.flag Reg.clk_CLKS_PRESENT) = some false := by decide +kernel

/-- R11, R14: a field keeps only its own bits of the written word, under the byte enables. -/
theorem test_byte_enables :
    (after (.registerWrite .host (32 * 4096 + 0x030) 1 0xFFFFFFFF) State.reset).map (fun d => d.fget Reg.hdr_EVENT 32) = some 0 := by decide +kernel

/-- R444, R456: BYPASS answers the device as it was; a debug instruction on an open TAP is refused. -/
theorem test_tap :
    after (.tapInstruction .bypass) State.reset = some State.reset.dev ∧
    (match exec (.tapInstruction (.debug 1 2)) (wit fun d => d.fbit Reg.life_TAP_OPEN true) with
      | .refused r => r == .debugInstructionUnspecified
      | _ => false) = true := ⟨rfl, by decide +kernel⟩

/-- A step runs the front command with the rest of the queue. -/
theorem test_step_order :
    (match step { wit upDev with pending := [.clksLost, .coldReset] } with
      | .next t => t.pending == [.coldReset] && !t.dev.flag Reg.clk_CLKS_PRESENT
      | _ => false) = true := by decide +kernel

/-! ### States and operands that meet the statements' hypotheses -/

/-- A command in front, and none. -/
theorem witness_StepRunsFrontCommand :
    (∃ (c : Instr) (rest : List Instr) (s : State), s.pending = c :: rest) ∧ (∃ s : State, s.pending = []) :=
  ⟨⟨.coldReset, [], { State.reset with pending := [.coldReset] }, rfl⟩, ⟨State.reset, rfl⟩⟩

/-- A stepping state whose memory lists a byte. -/
theorem witness_StepKeepsMemoryCanonical :
    ∃ s t : State, Memory.wf s.hbm = true ∧ step s = .next t :=
  ⟨{ State.reset with hbm := [(5, 255)] }, _, by decide +kernel, rfl⟩

/-- A stepping state with one-time programmable entries. -/
theorem witness_StepOnlyGrowsOneTimeState : ∃ s t : State, s.nv.otp ≠ [] ∧ step s = .next t :=
  ⟨{ State.reset with nv := { State.reset.nv with otp := [otpEntry 1] } }, _, by decide, rfl⟩

/-- A command that is no debug instruction; a debug instruction on a closed TAP; and one on an open TAP. -/
theorem witness_EveryCommandAnswers :
    (∃ (c : Instr) (s : State), ∀ ir dr, c = .tapInstruction (.debug ir dr) → s.dev.flag Reg.life_TAP_OPEN = false ∨ s.dev.fore.off = true) ∧
    (∃ s : State, s.dev.flag Reg.life_TAP_OPEN = false) ∧
    (∃ s : State, s.dev.flag Reg.life_TAP_OPEN = true ∧ s.dev.fore.off = false) :=
  ⟨⟨.coldReset, State.reset, nofun⟩, ⟨wit fun d => d.fbit Reg.life_TAP_OPEN false, by decide +kernel⟩,
    ⟨wit fun d => d.fbit Reg.life_TAP_OPEN true, by decide +kernel⟩⟩

/-- A stopped device. -/
theorem witness_StoppedDeviceOnlyPowersUp : ∃ s : State, s.dev.fore.off = true :=
  ⟨wit fun d => { d with fore.off := true }, rfl⟩

/-- A row of the table for each kind of request, and the last of its range. -/
theorem witness_LifeCycleTable :
    lcAllowed 0 0 1 0 1 = true ∧ lcAllowed 2 0 1 1 3 = true ∧ lcAllowed 2 0 2 1 7 = true ∧ lcAllowed 2 4 3 1 3600 = true ∧ lcAllowed 3 0 4 0 3 = true ∧
    lcAllowed 2 0 3 1 3600 = false ∧ lcAllowed 2 0 2 1 8 = false := by decide

namespace P02
def pool : List State := [State.reset, wit upDev, wit (frozenAt 6), wit (frozenAt 0), wit (frozenAt 9), wit (frozenAt 70), wit (expertAt 8), wit (expertAt 9), wit sndDev,
  wit (fun d => d.fbit Reg.life_EXPERT_PERMIT true), wit (fun d => (d.fbit Reg.top_OPEN true)),
  wit (fun d => { d with bus.staged := [(stageKey .host 0x6074, 77), (stageKey .smbus 0x6074, 78)], bus.shadow := [(shadowKey .host 0x6054, 5)], tb.acc := 2^70 + 2^40 + 12345678 }),
  wit (fun d => ((d.fset Reg.hdr_TIMEOUT_COUNT 7 6).fset Reg.hdr_TIMEOUT_COUNT (2^32-1) 0).fset Reg.hdr_EVENT 0xFFFFFFFF 17),
  wit (fun d => (((d.logErr 6 1 2 3).logErr 6 0xF0 7 9).fset Reg.hdr_EVENT_MASK 0 6).fset Reg.hdr_EVENT 5 6) ]
def stateAt (n : Nat) : State := (pool).getD n State.reset
def nfAt (n : Nat) : State := mod (stateAt n) fun d => d.fset Reg.tbase_NOMINAL_FREQ 8000000

/-- States and operands that meet the hypotheses of RegisterWrites. -/
theorem witness_RegisterWrites :
  (∃ (s : State) (who : Requester) (off : Nat) (be : BitVec 4) (val : Word),
    (s.dev.fore.off = false) ∧
    (be ≠ 15)) ∧
  (∃ (s : State) (who : Requester) (p o : Nat) (val : Word),
    (s.dev.fore.off = false) ∧
    (p ≤ 70) ∧
    (p ≠ 31) ∧
    (o < 4096) ∧
    (o % 4 = 0) ∧
    (o ≠ 0x08) ∧
    (o ≠ 0x10) ∧
    (o ≠ 0x14) ∧
    (s.dev.flag Reg.hdr_FREEZE p = true)) ∧
  (∃ (s : State) (who : Requester) (x : Fin 4) (val : Word),
    (s.dev.fore.off = false) ∧
    (s.dev.flag Reg.hdr_FREEZE (8 + x) = false) ∧
    (s.dev.expertOpen (8 + x) = true)) ∧
  (∃ (s : State) (who : Requester) (x : Fin 4) (val : Word),
    (s.dev.fore.off = false) ∧
    (s.dev.flag Reg.hdr_FREEZE (8 + x) = false) ∧
    (s.dev.expertOpen (8 + x) = false) ∧
    (val.toNat / 65536 % 2 = s.dev.fget Reg.fe_BUF_FORCE_ON x)) ∧
  (∃ (s : State) (who : Requester) (x : Fin 4) (val : Word),
    (s.dev.fore.off = false) ∧
    (s.dev.flag Reg.hdr_FREEZE (8 + x) = false) ∧
    (s.dev.expertOpen (8 + x) = false) ∧
    (val.toNat / 65536 % 2 ≠ s.dev.fget Reg.fe_BUF_FORCE_ON x)) ∧
  (∃ (s : State) (who : Requester) (val : Word),
    (s.dev.fore.off = false) ∧
    (s.dev.flag Reg.hdr_FREEZE 6 = false) ∧
    ∃ (v : _),
    (KMap.find s.dev.bus.staged (stageKey who 0x6074) = some v)) ∧
  (∃ (s : State) (who : Requester) (val : Word),
    (s.dev.fore.off = false) ∧
    (s.dev.flag Reg.hdr_FREEZE 6 = false) ∧
    (KMap.find s.dev.bus.staged (stageKey who 0x6074) = none)) := by
  refine ⟨⟨(stateAt 0), (Requester.host), 0, (0#4), (0#32), ?_⟩,
    ⟨(stateAt 2), (Requester.host), 6, 0, (0#32), ?_⟩,
    ⟨(stateAt 6), (Requester.host), 0, (0#32), ?_⟩,
    ⟨(stateAt 0), (Requester.host), 0, (0#32), ?_⟩,
    ⟨(stateAt 0), (Requester.host), 0, (0x96410001#32), ?_⟩,
    ⟨(stateAt 11), (Requester.host), (0#32), ?_, ?_, 77, ?_⟩,
    ⟨(stateAt 0), (Requester.host), (0#32), ?_⟩⟩ <;>
    first | (unfold Dev.TakesCmd; decide +kernel) | (unfold Dev.AssayIdle; decide +kernel) | (unfold Dev.TakesFrame; decide +kernel) | (unfold Dev.Outstanding; decide +kernel) | (unfold khzOut maxKhz; cases Config.partBE <;> decide +kernel) | decide +kernel

/-- States and operands that meet the hypotheses of RegisterReads. -/
theorem witness_RegisterReads :
  (∃ (s : State) (who : Requester),
    (s.dev.fore.off = false)) ∧
  (∃ (s : State) (who : Requester) (p inc : Nat),
    (s.dev.fore.off = false) ∧
    (p ≤ 70) ∧
    (p ≠ 31)) := by
  refine ⟨⟨(stateAt 0), (Requester.host), ?_⟩,
    ⟨(stateAt 0), (Requester.host), 0, 0, ?_⟩⟩ <;>
    first | (unfold Dev.TakesCmd; decide +kernel) | (unfold Dev.AssayIdle; decide +kernel) | (unfold Dev.TakesFrame; decide +kernel) | (unfold Dev.Outstanding; decide +kernel) | (unfold khzOut maxKhz; cases Config.partBE <;> decide +kernel) | decide +kernel

/-- States and operands that meet the hypotheses of EventsAndErrorLogs. -/
theorem witness_EventsAndErrorLogs :
  (∃ (s : State) (who : Requester) (p : Fin 128) (val : Word),
    (s.dev.fore.off = false) ∧
    (p.val ≤ 70) ∧
    (p.val ≠ 31) ∧
    (andNot (s.dev.fget Reg.hdr_EVENT p) val.toNat = 0)) ∧
  (∃ (s : State) (who : Requester) (p : Fin 128) (val : Word),
    (s.dev.fore.off = false) ∧
    (p.val ≤ 70) ∧
    (p.val ≠ 31) ∧
    (andNot (s.dev.fget Reg.hdr_EVENT p) val.toNat ≠ 0)) ∧
  (∃ (s : State) (who : Requester) (p : Fin 128) (val hw : Word) (n : Nat),
    (s.dev.fore.off = false) ∧
    (p.val ≤ 70) ∧
    (p.val ≠ 31) ∧
    (n < 32) ∧
    (bitAt hw.toNat n = true)) ∧
  (∃ (s : State) (who : Requester) (p : Fin 128) (same : Option ErrRecord),
    (s.dev.fore.off = false) ∧
    (same = none)) ∧
  (∃ (s : State) (who : Requester) (p : Fin 128) (same : Option ErrRecord),
    (s.dev.fore.off = false) ∧
    ∃ (r : _),
    (same = some r)) := by
  refine ⟨⟨(stateAt 0), (Requester.host), 0, (0#32), ?_⟩,
    ⟨(stateAt 8), (Requester.host), 6, (0#32), ?_⟩,
    ⟨(stateAt 0), (Requester.host), 0, (0#32), (1#32), 0, ?_⟩,
    ⟨(stateAt 0), (Requester.host), 0, (none), ?_⟩,
    ⟨(stateAt 0), (Requester.host), 0, (some { code := 3, detail0 := 4, detail1 := 5, injected := false }), ?_, ({ code := 3, detail0 := 4, detail1 := 5, injected := false }), ?_⟩⟩ <;>
    first | (unfold Dev.TakesCmd; decide +kernel) | (unfold Dev.AssayIdle; decide +kernel) | (unfold Dev.TakesFrame; decide +kernel) | (unfold Dev.Outstanding; decide +kernel) | (unfold khzOut maxKhz; cases Config.partBE <;> decide +kernel) | decide +kernel

/-- States and operands that meet the hypotheses of ExpertGateWrite. -/
theorem witness_ExpertGateWrite :
  (∃ (s : State) (who : Requester) (val : Word),
    (s.dev.fore.off = false) ∧
    (s.dev.flag Reg.hdr_FREEZE 0 = false) ∧
    (val.toNat % 2 = 1) ∧
    (val.toNat / 65536 = 0x9640) ∧
    (s.dev.flag Reg.life_EXPERT_PERMIT = true)) ∧
  (∃ (s : State) (who : Requester) (val : Word),
    (s.dev.fore.off = false) ∧
    (s.dev.flag Reg.hdr_FREEZE 0 = false) ∧
    (val.toNat % 2 = 1) ∧
    ((val.toNat / 65536 ≠ 0x9640 ∨ s.dev.flag Reg.life_EXPERT_PERMIT = false))) ∧
  (∃ (s : State) (who : Requester) (val : Word),
    (s.dev.fore.off = false) ∧
    (s.dev.flag Reg.hdr_FREEZE 0 = false) ∧
    (val.toNat % 2 = 0)) := by
  refine ⟨⟨(stateAt 6), (Requester.host), (0x96400001#32), ?_⟩,
    ⟨(stateAt 0), (Requester.host), (1#32), ?_⟩,
    ⟨(stateAt 0), (Requester.host), (0#32), ?_⟩⟩ <;>
    first | (unfold Dev.TakesCmd; decide +kernel) | (unfold Dev.AssayIdle; decide +kernel) | (unfold Dev.TakesFrame; decide +kernel) | (unfold Dev.Outstanding; decide +kernel) | (unfold khzOut maxKhz; cases Config.partBE <;> decide +kernel) | decide +kernel

end P02

namespace P03
def q1 : QCtx := { typ := 4, cls := 1, log2 := 4, esize := 6, state := 1 }
def q0 : QCtx := { typ := 1, cls := 1, log2 := 4, state := 1, tail := 3, cq := 1 }
def pool0 : List State := [State.reset, wit upDev, wit (frozenAt 6), wit (fun d => sndDev d), wit (fun d => d.fbit Reg.inj_ARMED true),
  wit (fun d => { d with fore.badSupplies := 3 }), wit (fun d => { d with fore.badSupplies := 1, fore.off := true, fore.pwrOk := false, pcie.perstN := true, loom.tick := 5 }),
  { wit upDev with hbm := [(5, 6)], nv := { (State.reset.nv) with otp := [otpEntry 1, otpEntry 2], mramSvn := 3, otpSvn := 1, trip := some 4, hours := 5 } },
  { wit upDev with nv := { (State.reset.nv) with journal := some ⟨1, 2, [1], [2], some 3⟩, otp := [otpEntry 1] } },
  { wit upDev with nv := { (State.reset.nv) with planA := some { seq := 1, years := 2, limiter := 3, guardCore := 3, guardSram := 2, floor0 := 2, floor1 := 2, retrainDays := 2, retrain := [], retired := [3] } } },
  wit (fun d => { d with bus.staged := [(stageKey .host 0x6074, 77), (stageKey .smbus 0x6074, 78)], tctl := [(6*32, {swapPending := true}), (19 * 32 + 1, {swapPending := true, bank := 1})] }),
  wit (fun d => (d.fbit Reg.acq_ARMED true).fset Reg.accu_part_STATE 2 3),
  wit (fun d => ({ d with qm.ctx := [(0, q0), (7, q1)], tic := d.tic, pcie.egress := [.msix 3] }.fbit Reg.pcie_HOLD true).fbit Reg.pcie_DL_UP true),
  wit (fun d => (((({ d with qm.ctx := [(0, q0), (1, {q0 with typ := 2}), (7, q1)], qm.cmds := [⟨0, 3, 0, 1, 5, 2, [], none⟩] }.fbit Reg.top_OPEN true).fbit Reg.inj_ARMED true).fbit Reg.pcie_DL_UP true).fbit Reg.top_FLR_STOPS_ACQ true).fbit Reg.acq_ARMED true)]
def qc : QCtx := { typ := 1, cls := 0, log2 := 4, state := 1, tail := 3, head := 1, cq := 2 }
def qk : QCtx := { typ := 2, cls := 0, log2 := 4, state := 1, base := 4096 }
def ld (d : Dev) : Dev := { d with qm.ctx := [(1, qc), (2, qk), (7, q1)], qm.cmds := [⟨5, 0x10, 1, 2, 9, 2, [], none⟩], qm.loads := [⟨5, [(18, 3), (24, 1)], true, 4, some [(18, 3)], false⟩], tctl := [(18*32+3, {swapPending := true, loadBusy := true, bank := 1}), (24*32+1, {loadBusy := true})] }
def tch : TicChan := { running := true, waiting := true, seq := 5, evs := [], hist := [(1, .idle, 2, true)], fifo := [(4,5)], merged := true, lapsed := true }
def pl2 : List State := [wit (fun d => d.fset Reg.life_TAP_REMAIN 9), wit ld, wit (fun d => (ld d).fbit Reg.inj_ARMED true), wit (fun d => d.fbit Reg.life_MDIAG_OPEN true),
  wit (fun d => ({ d with qm.streams := [(7, [⟨1, 2, 3, [1], none⟩, ⟨2, 2, 3, [1], none⟩])], tic.ch := [(3, tch), (5, tch)], aux.batch := [[2]], bench.offered := [(1, [2])], pcie.msixWords := [(3,4)], pcie.d3hot := true, pcie.adminOnly := true }.fset Reg.tic_RUNNING 40).fbit Reg.pcie_HOLD true),
  wit (fun d => ((((d.tset 23 1 0 5 77).tset 30 0 0 9 4).tset 30 0 0 128 4).fset Reg.grp_SAMPLED_W0 7 3).fset Reg.grp_SAMPLE_CNT 7 3),
  wit (fun d => ((((d.fbit Reg.aux_auxc_EN true 2).fset Reg.aux_auxc_STATE 2 2).fset Reg.inj_REFUSED 3).fset Reg.hdr_TIMEOUT_COUNT 5 26)),
  wit (fun d => { d with fore.off := true }), wit (fun d => { (d.fset Reg.pcie_LINK_DOWNS 9).fbit Reg.pcie_DL_UP true with pcie.pmeStatus := true, pcie.configReady := true })]
def pool := pool0 ++ pl2
def stateAt (n : Nat) : State := (pool).getD n State.reset
def nfAt (n : Nat) : State := mod (stateAt n) fun d => d.fset Reg.tbase_NOMINAL_FREQ 8000000

/-- States and operands that meet the hypotheses of Resets. -/
theorem witness_Resets :
  (∃ (s : State) (i : Supply),
    ∃ (j : Supply),
    (j ≠ i)) ∧
  (∃ (s : State),
    (s.dev.fore.badSupplies = 0) ∧
    (s.nv.journal = none)) ∧
  (∃ (s : State),
    (s.dev.fore.badSupplies = 0) ∧
    (s.dev.fget Reg.life_TAP_REMAIN ≠ 0)) ∧
  (∃ (s : State),
    (s.dev.fore.badSupplies ≠ 0)) ∧
  (∃ (s : State),
    (s.dev.fore.off = false) ∧
    (s.dev.pcie.perstN = false) ∧
    let down := s.dev.flag Reg.pcie_DL_UP
    (down = true)) ∧
  (∃ (s : State),
    (s.dev.fore.off = true ∨ s.dev.pcie.perstN = true)) ∧
  (∃ (s : State) (who : Requester) (p : Fin 128),
    (s.dev.fore.off = false) ∧
    (hasHeader p = true) ∧
    (s.dev.mdiagShut p 8 = false) ∧
    (s.dev.softDiscarded p = false) ∧
    let armed := s.dev.flag Reg.inj_ARMED
    let evs := if armed then Reg.inj_ARMED.key 0 :: eventKeys 7 else []
    let wiped := [Reg.hdr_EVENT, Reg.hdr_FIRST_BIT, Reg.hdr_FIRST_MULTI, Reg.hdr_FIRST_INJECTED, Reg.hdr_FIRST_VALID, Reg.hdr_TIMEOUT_COUNT,
      Reg.hdr_RECOVERY_COUNT, Reg.hdr_ERR_CODE, Reg.hdr_ERR_INJECTED, Reg.hdr_ERR_OVERWRITTEN, Reg.hdr_ERR_VALID, Reg.hdr_ERR_COUNT,
      Reg.hdr_ERR_DETAIL0, Reg.hdr_ERR_DETAIL1, Reg.hdr_ERR_TIME]
    ∃ (f : _),
    (f ∈ wiped) ∧
    (f.key p ∉ evs)) ∧
  (∃ (s : State) (who : Requester) (p : Fin 128),
    (s.dev.fore.off = false) ∧
    (hasHeader p = true) ∧
    (s.dev.mdiagShut p 8 = false) ∧
    (s.dev.softDiscarded p = false) ∧
    let armed := s.dev.flag Reg.inj_ARMED
    (armed = true)) ∧
  (∃ (s : State) (who : Requester) (p : Fin 128),
    (s.dev.fore.off = false) ∧
    (hasHeader p = true) ∧
    (s.dev.mdiagShut p 8 = false) ∧
    (s.dev.softDiscarded p = false) ∧
    let armed := s.dev.flag Reg.inj_ARMED
    let evs := if armed then Reg.inj_ARMED.key 0 :: eventKeys 7 else []
    ∃ (f : _),
    (f ∈ pageOwnFields p) ∧
    ∃ (i : _),
    (f.has i = true) ∧
    (f.key i / 131072 = p.val) ∧
    (f.key i ∉ evs) ∧
    (f.acc = .rc)) ∧
  (∃ (s : State) (who : Requester) (p : Fin 128),
    (s.dev.fore.off = false) ∧
    (hasHeader p = true) ∧
    (s.dev.mdiagShut p 8 = false) ∧
    (s.dev.softDiscarded p = false) ∧
    let armed := s.dev.flag Reg.inj_ARMED
    let evs := if armed then Reg.inj_ARMED.key 0 :: eventKeys 7 else []
    let own := [Reg.aux_auxc_EN, Reg.aux_auxc_STATE, Reg.aux_auxc_STEP, Reg.aux_auxc_INJ_PENDING, Reg.tic_RUNNING, Reg.tic_ARM]
    ∃ (f : _),
    (f ∈ pageOwnFields p) ∧
    ∃ (i : _),
    (f.has i = true) ∧
    (f.key i / 131072 = p.val) ∧
    (f.key i ∉ evs) ∧
    (f.acc ≠ .rc) ∧
    (f ∉ own)) ∧
  (∃ (s : State) (who : Requester) (p : Fin 128),
    (s.dev.fore.off = false) ∧
    (hasHeader p = true) ∧
    (s.dev.mdiagShut p 8 = false) ∧
    (s.dev.softDiscarded p = false) ∧
    let armed := s.dev.flag Reg.inj_ARMED
    let evs := if armed then Reg.inj_ARMED.key 0 :: eventKeys 7 else []
    ∃ (f : _),
    (f ∈ [Reg.hdr_EXPERT, Reg.hdr_FREEZE, Reg.hdr_CFG_EPOCH, Reg.hdr_EVENT_MASK]) ∧
    (f.key p ∉ evs)) ∧
  (∃ (s : State) (who : Requester) (p : Fin 128),
    (s.dev.fore.off = false) ∧
    (hasHeader p = true) ∧
    (s.dev.mdiagShut p 8 = false) ∧
    (s.dev.softDiscarded p = false) ∧
    let armed := s.dev.flag Reg.inj_ARMED
    let evs := if armed then Reg.inj_ARMED.key 0 :: eventKeys 7 else []
    ∃ (k : _),
    (k / 131072 ≠ p.val) ∧
    (k ∉ evs) ∧
    (p.val ≠ 70 ∨ k / 131072 < 71) ∧
    ((s.dev.qm.loads = [] ∨ k / 131072 ≠ 28))) ∧
  (∃ (s : State) (who : Requester) (p : Fin 128),
    (s.dev.fore.off = false) ∧
    (hasHeader p = true) ∧
    (s.dev.mdiagShut p 8 = false) ∧
    (s.dev.softDiscarded p = false) ∧
    (p.val = 70) ∧
    ∃ (g : Nat),
    (g < 24)) ∧
  (∃ (s : State) (who : Requester) (p : Fin 128),
    (s.dev.fore.off = false) ∧
    (hasHeader p = true) ∧
    (s.dev.mdiagShut p 8 = false) ∧
    (s.dev.softDiscarded p = false) ∧
    ∃ (sel : Nat),
    (sel < 32)) ∧
  (∃ (s : State) (who : Requester) (p : Fin 128),
    (s.dev.fore.off = false) ∧
    (hasHeader p = true) ∧
    (s.dev.mdiagShut p 8 = false) ∧
    (s.dev.softDiscarded p = false) ∧
    (p.val = 23) ∧
    ∃ (k : Nat),
    (k < 256)) ∧
  (∃ (s : State) (who : Requester) (p : Fin 128),
    (s.dev.fore.off = false) ∧
    (hasHeader p = true) ∧
    (s.dev.mdiagShut p 8 = false) ∧
    (s.dev.softDiscarded p = false) ∧
    let armed := s.dev.flag Reg.inj_ARMED
    (armed = false) ∧
    (s.dev.qm.loads = []) ∧
    (p.val ≠ 21)) ∧
  (∃ (s : State) (who : Requester) (p : Fin 128),
    (s.dev.fore.off = false) ∧
    (hasHeader p = true) ∧
    (s.dev.mdiagShut p 8 = false) ∧
    (s.dev.softDiscarded p = false) ∧
    let armed := s.dev.flag Reg.inj_ARMED
    (armed = false) ∧
    (s.dev.qm.loads = []) ∧
    (p.val = 21)) ∧
  (∃ (s : State) (who : Requester) (p : Fin 128),
    (s.dev.fore.off = false) ∧
    (hasHeader p = true) ∧
    (s.dev.mdiagShut p 8 = false) ∧
    (s.dev.softDiscarded p = false) ∧
    ∃ (b : _),
    (b ∈ [Part.clk, .tb, .loom, .vern, .trig, .tseq, .acq, .chains, .till, .bench, .mem, .cas, .freeCtr, .degraded, .contained, .fore])) ∧
  (∃ (s : State) (who : Requester) (p : Fin 128),
    (s.dev.fore.off = false) ∧
    (hasHeader p = true) ∧
    (s.dev.softDiscarded p = true) ∧
    (s.dev.mdiagShut p 8 = false)) ∧
  (∃ (s : State) (who : Requester) (p : Fin 128),
    (s.dev.fore.off = false) ∧
    (s.dev.mdiagShut p 8 = true)) ∧
  (∃ (s : State) (who : Requester) (p : Fin 128),
    (s.dev.fore.off = false) ∧
    (hasHeader p = false)) := by
  refine ⟨⟨(stateAt 0), (Supply.core), (Supply.io), ?_⟩,
    ⟨(stateAt 0), ?_⟩,
    ⟨(stateAt 14), ?_⟩,
    ⟨(stateAt 5), ?_⟩,
    ⟨(stateAt 12), ?_⟩,
    ⟨(stateAt 6), ?_⟩,
    ⟨(stateAt 0), (Requester.host), 0, ?_, ?_, ?_, ?_, ({ base := 16, stride := 4096, count := 78, blk := 0, lsb := 0, width := 32, acc := Access.w1c, reset := Reset.val 0, level := Level.b }), ?_⟩,
    ⟨(stateAt 4), (Requester.host), 0, ?_⟩,
    ⟨(stateAt 0), (Requester.host), 7, ?_, ?_, ?_, ?_, ({ base := 28752, stride := 0, count := 1, blk := 0, lsb := 0, width := 32, acc := Access.rc, reset := Reset.val 0, level := Level.b }), ?_, 0, ?_⟩,
    ⟨(stateAt 0), (Requester.host), 0, ?_, ?_, ?_, ?_, ({ base := 64, stride := 0, count := 1, blk := 0, lsb := 0, width := 1, acc := Access.ro, reset := Reset.val 0, level := Level.b }), ?_, 0, ?_⟩,
    ⟨(stateAt 0), (Requester.host), 0, ?_, ?_, ?_, ?_, ({ base := 8, stride := 4096, count := 78, blk := 0, lsb := 2, width := 1, acc := Access.rw, reset := Reset.val 0, level := Level.b }), ?_⟩,
    ⟨(stateAt 0), (Requester.host), 0, ?_, ?_, ?_, ?_, 8589934597, ?_⟩,
    ⟨(stateAt 0), (Requester.host), 70, ?_, ?_, ?_, ?_, ?_, 0, ?_⟩,
    ⟨(stateAt 0), (Requester.host), 0, ?_, ?_, ?_, ?_, 0, ?_⟩,
    ⟨(stateAt 0), (Requester.host), 23, ?_, ?_, ?_, ?_, ?_, 0, ?_⟩,
    ⟨(stateAt 0), (Requester.host), 0, ?_⟩,
    ⟨(stateAt 0), (Requester.host), 21, ?_⟩,
    ⟨(stateAt 0), (Requester.host), 0, ?_, ?_, ?_, ?_, (Part.clk), ?_⟩,
    ⟨(stateAt 11), (Requester.host), 22, ?_⟩,
    ⟨(stateAt 0), (Requester.host), 31, ?_⟩,
    ⟨(stateAt 0), (Requester.host), 71, ?_⟩⟩ <;>
    first | (unfold Dev.TakesCmd; decide +kernel) | (unfold Dev.AssayIdle; decide +kernel) | (unfold Dev.TakesFrame; decide +kernel) | (unfold Dev.Outstanding; decide +kernel) | (unfold khzOut maxKhz; cases Config.partBE <;> decide +kernel) | decide +kernel

end P03

namespace P04
def img0 : FwImage := { headerOk := true, keyOk := true, keySlot := 0, sigOk := true, bodyOk := true, svn := 3, digest := [1, 2] }
def run0 (d : Dev) : Dev := { d with fore.running := true }
def romd (d : Dev) : Dev := d.fbit Reg.top_ROM_DONE true
def pool : List State := [State.reset, wit upDev, wit sndDev, wit (romd ∘ upDev), wit (fun d => {romd d with fore.failedImages := 1}), wit (fun d => {(romd d).fset Reg.life_OTP_SVN 2 with fore.failedImages := 1}),
  wit (fun d => { d with fore.channels := [(0, { retained := some 7, count := 5}), (2, {accepted := true, retained := some 3, resent := true}), (70, {accepted := true})] }),
  wit (fun d => run0 (((((d.logErr 6 1 2 3).logErr 6 0xF0 7 9).logErr 17 3 3 3).asInjected (fun d => d.logErr 16 2 2 2)))),
  wit (fun d => { run0 d with fore.expiries := [0, 0], fore.nonce := some 4 }), wit (fun d => { run0 d with fore.expiries := [8]}),
  { wit (run0 ∘ upDev) with nv := { (State.reset.nv) with journal := some ⟨1, 2, [1], [2], some 3⟩, otp := [otpEntry 1] } },
  { wit (romd ∘ upDev) with nv := { (State.reset.nv) with trip := some 3, bootPref := 1, log := [(0, [1])], logNext := 4096 } } ]
def stateAt (n : Nat) : State := (pool).getD n State.reset
def nfAt (n : Nat) : State := mod (stateAt n) fun d => d.fset Reg.tbase_NOMINAL_FREQ 8000000

/-- States and operands that meet the hypotheses of EventsAndErrorLogs. -/
theorem witness_EventsAndErrorLogs :
  (∃ (s : State) (p : Fin 128),
    (s.dev.fore.off = false) ∧
    (s.dev.fore.running = true) ∧
    (s.dev.fget Reg.hdr_ERR_COUNT p ≠ 0) ∧
    ∃ (k : Nat),
    (k < 4096) ∧
    (k ≠ s.nv.logNext % 4096) ∧
    (k ≠ (s.nv.logNext + 1) % 4096)) := by
  refine ⟨(stateAt 7), 6, ?_, ?_, ?_, 6, ?_⟩ <;>
    first | (unfold Dev.TakesCmd; decide +kernel) | (unfold Dev.AssayIdle; decide +kernel) | (unfold Dev.TakesFrame; decide +kernel) | (unfold Dev.Outstanding; decide +kernel) | (unfold khzOut maxKhz; cases Config.partBE <;> decide +kernel) | decide +kernel

/-- States and operands that meet the hypotheses of HandshakeChannels. -/
theorem witness_HandshakeChannels :
  (∃ (s : State) (ch : Nat) (seq : Bool) (v : Nat) (acked : Bool),
    (s.dev.fore.off = false)) ∧
  (∃ (s : State) (ch : Nat) (p : Fin 128),
    (s.dev.fore.off = false) ∧
    ((s.dev.channel ch).retained.isSome = true)) := by
  refine ⟨⟨(stateAt 0), 0, (false), 0, (false), ?_⟩,
    ⟨(stateAt 6), 0, 0, ?_⟩⟩ <;>
    first | (unfold Dev.TakesCmd; decide +kernel) | (unfold Dev.AssayIdle; decide +kernel) | (unfold Dev.TakesFrame; decide +kernel) | (unfold Dev.Outstanding; decide +kernel) | (unfold khzOut maxKhz; cases Config.partBE <;> decide +kernel) | decide +kernel

/-- States and operands that meet the hypotheses of ForemanStarts. -/
theorem witness_ForemanStarts :
  (∃ (s : State) (atMs : Nat) (w : Bool),
    (s.dev.fore.off = false) ∧
    (s.dev.romRecovery = false) ∧
    (s.dev.fget Reg.life_STATE ≠ 4) ∧
    (s.nv.journal = none)) ∧
  (∃ (s : State) (atMs : Nat) (w : Bool),
    (s.dev.fore.off = false) ∧
    (s.dev.romRecovery = false) ∧
    (s.dev.fget Reg.life_STATE ≠ 4) ∧
    ∃ (b : _),
    (b ∈ [Part.tctl, .bus, .clk, .tb, .tally, .loom, .assay, .vern, .trig, .tseq, .tic, .acq, .chains, .mem, .cas, .aux, .bench, .tabs, .freeCtr])) ∧
  (∃ (s : State) (img : FwImage),
    (s.dev.fore.off = false) ∧
    (s.dev.flag Reg.top_ROM_DONE = true) ∧
    (s.dev.fore.running = false) ∧
    (s.dev.romRecovery = false) ∧
    (s.dev.fget Reg.life_STATE ≠ 4) ∧
    (s.dev.imageCheck img = 0) ∧
    (s.nv.trip = none)) ∧
  (∃ (s : State) (img : FwImage),
    (s.dev.fore.off = false) ∧
    (s.dev.flag Reg.top_ROM_DONE = true) ∧
    (s.dev.fore.running = false) ∧
    (s.dev.romRecovery = false) ∧
    (s.dev.fget Reg.life_STATE ≠ 4) ∧
    (s.dev.imageCheck img = 0) ∧
    (s.nv.plan.all (fun p => p.retired.isEmpty) = true) ∧
    (s.dev.flag Reg.top_CAL_LOADED = false)) ∧
  (∃ (s : State) (img : FwImage),
    (s.dev.fore.off = false) ∧
    (s.dev.flag Reg.top_ROM_DONE = true) ∧
    (s.dev.fore.running = false) ∧
    (s.dev.romRecovery = false) ∧
    (s.dev.fget Reg.life_STATE ≠ 4) ∧
    (s.dev.imageCheck img ≠ 0) ∧
    (s.dev.fore.failedImages = 0)) ∧
  (∃ (s : State) (img : FwImage),
    (s.dev.fore.off = false) ∧
    (s.dev.flag Reg.top_ROM_DONE = true) ∧
    (s.dev.fore.running = false) ∧
    (s.dev.romRecovery = false) ∧
    (s.dev.fget Reg.life_STATE ≠ 4) ∧
    (s.dev.imageCheck img ≠ 0) ∧
    (s.dev.fore.failedImages ≠ 0)) := by
  refine ⟨⟨(stateAt 0), 0, (false), ?_⟩,
    ⟨(stateAt 0), 0, (false), ?_, ?_, ?_, (Part.tctl), ?_⟩,
    ⟨(stateAt 3), ({ headerOk := true, keySlot := 0#2, keyOk := true, sigOk := true, bodyOk := true, svn := 3#6, digest := [1#32, 2#32] }), ?_⟩,
    ⟨(stateAt 4), ({ headerOk := true, keySlot := 0#2, keyOk := true, sigOk := true, bodyOk := true, svn := 3#6, digest := [1#32, 2#32] }), ?_⟩,
    ⟨(stateAt 3), ({ headerOk := true, keySlot := 0#2, keyOk := true, sigOk := false, bodyOk := true, svn := 3#6, digest := [1#32, 2#32] }), ?_⟩,
    ⟨(stateAt 4), ({ headerOk := true, keySlot := 0#2, keyOk := true, sigOk := false, bodyOk := true, svn := 3#6, digest := [1#32, 2#32] }), ?_⟩⟩ <;>
    first | (unfold Dev.TakesCmd; decide +kernel) | (unfold Dev.AssayIdle; decide +kernel) | (unfold Dev.TakesFrame; decide +kernel) | (unfold Dev.Outstanding; decide +kernel) | (unfold khzOut maxKhz; cases Config.partBE <;> decide +kernel) | decide +kernel

end P04

namespace P05
def img0 : FwImage := { headerOk := true, keyOk := true, keySlot := 0, sigOk := true, bodyOk := true, svn := 3, digest := [1, 2] }
def q0 : QCtx := { typ := 1, cls := 1, log2 := 4, state := 1, head := 5, tail := 8, cq := 1 }
def q1 : QCtx := { typ := 2, cls := 1, log2 := 4, state := 1, head := 17, tail := 20, base := 4096, irqEn := true, irqArmed := true, vector := 3 }
def qd (d : Dev) : Dev := { d with qm.ctx := [(0, q0), (1, q1)], fore.running := true }.fbit Reg.pcie_BME true
def e (l : List Nat) : List Word := l.map (BitVec.ofNat 32)
def rq : LcRequest := { kind := 1, signer := 0, uid := 5, nonce := 77, target := 1, payload := [1,2], digest := [3], sigOk := true }
def life (n : Nat) (d : Dev) : Dev := { ((qd d).fset Reg.life_STATE n).fset Reg.life_UID_W0 5 |>.fset Reg.life_UID_W1 0 with fore.nonce := some 77 }
def lifeS (n : Nat) (f : Dev → Dev) : State := { wit (f ∘ life n) with nv := { (State.reset.nv) with otp := [otpEntry 1, otpEntry 2, otpEntry 3].take (if n = 4 then 3 else n) ++ (if n = 4 then [otpEntry 4] else []), idSeed := true, ownerKey := [9], attReserved := 1024 }, hbm := [(3,4)] }
def pool : List State := [State.reset, wit upDev, wit qd, lifeS 0 id, lifeS 1 id, lifeS 2 id, lifeS 3 id, lifeS 2 (fun d => d.fset Reg.life_POLICY 4), lifeS 4 id, lifeS 1 (fun d => { d with fore.attNext := 2^30}), lifeS 1 (fun d => { d with fore.attNext := 1024, fore.trees := [0]}), lifeS 1 (fun d => { d with fore.attNext := 32768, fore.trees := [0]}),
  lifeS 1 (fun d => { d with fore.attNext := 7, fore.trees := [0]}),
  lifeS 1 (fun d => (d.fset Reg.life_TAP_REMAIN 4).fbit Reg.life_TAP_OPEN true),lifeS 0 (fun d => (d.fset Reg.life_TAP_REMAIN 4).fbit Reg.inj_ARMED true), lifeS 2 (fun d => (d.fset Reg.life_TAP_REMAIN 4).fset Reg.life_FW_SVN 4),
  lifeS 3 (fun d => ((d.fset Reg.hdr_EVENT_MASK 0 1).fset Reg.life_FW_SVN 4).tset 30 0 0 1 (2^12 + 2^11 + 5 + 65536 * 9))]
def stateAt (n : Nat) : State := (pool).getD n State.reset
def nfAt (n : Nat) : State := mod (stateAt n) fun d => d.fset Reg.tbase_NOMINAL_FREQ 8000000

/-- States and operands that meet the hypotheses of LifeCycleQueriesAndAttestation. -/
theorem witness_LifeCycleQueriesAndAttestation :
  (∃ (s : State) (q : BitVec 16) (entry : List Word),
    (s.dev.fore.off = false) ∧
    (s.dev.TakesCmd q.toNat 0x50 (entryWords entry))) ∧
  (∃ (s : State) (q : BitVec 16) (entry : List Word) (nonce : BitVec 64),
    (s.dev.fore.off = false) ∧
    (s.dev.TakesCmd q.toNat 0x52 (entryWords entry))) ∧
  (∃ (s : State),
    (s.dev.fore.off = false)) ∧
  (∃ (s : State) (q : BitVec 16) (entry cert : List Word),
    (s.dev.fore.off = false) ∧
    (s.dev.TakesCmd q.toNat 0x54 (entryWords entry)) ∧
    (s.dev.fget Reg.life_STATE ≠ 0) ∧
    (3032 ≤ (entryWords entry).getD 3 0)) ∧
  (∃ (s : State) (q : BitVec 16) (entry sig : List Word),
    (s.dev.fore.off = false) ∧
    (s.dev.TakesCmd q.toNat 0x53 (entryWords entry)) ∧
    (s.dev.fget Reg.life_STATE ≠ 0) ∧
    (3540 ≤ (entryWords entry).getD 3 0) ∧
    (s.dev.fore.attNext < 2 ^ 30) ∧
    (s.dev.fore.trees.contains (s.dev.fore.attNext / 2 ^ 15) = true)) ∧
  (∃ (s : State) (q : BitVec 16) (entry sig : List Word),
    (s.dev.fore.off = false) ∧
    (s.dev.TakesCmd q.toNat 0x53 (entryWords entry)) ∧
    (s.dev.fget Reg.life_STATE ≠ 0) ∧
    (3540 ≤ (entryWords entry).getD 3 0) ∧
    (2 ^ 30 ≤ s.dev.fore.attNext)) ∧
  (∃ (s : State) (q : BitVec 16) (entry sig : List Word),
    (s.dev.fore.off = false) ∧
    (s.dev.TakesCmd q.toNat 0x53 (entryWords entry)) ∧
    (s.dev.fget Reg.life_STATE ≠ 0) ∧
    (3540 ≤ (entryWords entry).getD 3 0) ∧
    (s.dev.fore.attNext < 2 ^ 30) ∧
    (s.dev.fore.trees.contains (s.dev.fore.attNext / 2 ^ 15) = false)) ∧
  (∃ (s : State) (tree : BitVec 15),
    (s.dev.fore.off = false) ∧
    (s.dev.fore.running = true) ∧
    (s.nv.idSeed = true) ∧
    (tree.toNat = s.dev.fore.attNext / 2 ^ 15) ∧
    (s.dev.fore.trees.contains tree.toNat = false)) := by
  refine ⟨⟨(stateAt 2), (0#16), ([0x70050#32]), ?_⟩,
    ⟨(stateAt 2), (0#16), ([0x80052#32]), (0#64), ?_⟩,
    ⟨(stateAt 0), ?_⟩,
    ⟨(stateAt 4), (0#16), ([0x90054#32, 0x40#32, 1#32, 0xbd8#32]), ([0x70050#32]), ?_⟩,
    ⟨(stateAt 10), (0#16), ([0x90053#32, 0x40#32, 1#32, 0xfa0#32, 3#32, 2#32, 1#32, 1#32, 1#32, 1#32, 1#32, 9#32]), ([0x70050#32]), ?_⟩,
    ⟨(stateAt 9), (0#16), ([0x90053#32, 0x40#32, 1#32, 0xfa0#32, 3#32, 2#32, 1#32, 1#32, 1#32, 1#32, 1#32, 9#32]), ([0x70050#32]), ?_⟩,
    ⟨(stateAt 4), (0#16), ([0x90053#32, 0x40#32, 1#32, 0xfa0#32, 3#32, 2#32, 1#32, 1#32, 1#32, 1#32, 1#32, 9#32]), ([0x70050#32]), ?_⟩,
    ⟨(stateAt 3), (0#15), ?_⟩⟩ <;>
    first | (unfold Dev.TakesCmd; decide +kernel) | (unfold Dev.AssayIdle; decide +kernel) | (unfold Dev.TakesFrame; decide +kernel) | (unfold Dev.Outstanding; decide +kernel) | (unfold khzOut maxKhz; cases Config.partBE <;> decide +kernel) | decide +kernel

/-- States and operands that meet the hypotheses of LifeCycleRequest. -/
theorem witness_LifeCycleRequest :
  (∃ (s : State) (q : BitVec 16) (entry : List Word) (r : LcRequest),
    (s.dev.fore.off = false) ∧
    (s.dev.TakesCmd q.toNat 0x51 (entryWords entry)) ∧
    (s.dev.lcAccepts r = false)) ∧
  (∃ (s : State) (q : BitVec 16) (entry : List Word) (r : LcRequest),
    (s.dev.fore.off = false) ∧
    (s.dev.TakesCmd q.toNat 0x51 (entryWords entry)) ∧
    (s.dev.lcAccepts r = true) ∧
    (r.kind = 1) ∧
    (r.cut = none) ∧
    (otpFree s.nv.otp r.target.toNat = true) ∧
    (s.dev.eraseBusy = false) ∧
    (s.dev.fget Reg.life_STATE = 2) ∧
    (r.target = 3)) ∧
  (∃ (s : State) (q : BitVec 16) (entry : List Word) (r : LcRequest),
    (s.dev.fore.off = false) ∧
    (s.dev.TakesCmd q.toNat 0x51 (entryWords entry)) ∧
    (s.dev.lcAccepts r = true) ∧
    (r.kind = 1) ∧
    (r.cut = none) ∧
    (otpFree s.nv.otp r.target.toNat = true) ∧
    (s.dev.eraseBusy = false) ∧
    (s.dev.fget Reg.life_STATE = 1) ∧
    (r.target = 2)) ∧
  (∃ (s : State) (q : BitVec 16) (entry : List Word) (r : LcRequest),
    (s.dev.fore.off = false) ∧
    (s.dev.TakesCmd q.toNat 0x51 (entryWords entry)) ∧
    (s.dev.lcAccepts r = true) ∧
    (r.kind = 1) ∧
    (r.cut = none) ∧
    (otpFree s.nv.otp r.target.toNat = true) ∧
    (s.dev.eraseBusy = false) ∧
    (r.target = 4)) ∧
  (∃ (s : State) (q : BitVec 16) (entry : List Word) (r : LcRequest),
    (s.dev.fore.off = false) ∧
    (s.dev.TakesCmd q.toNat 0x51 (entryWords entry)) ∧
    (s.dev.lcAccepts r = true) ∧
    (r.kind = 2)) ∧
  (∃ (s : State) (q : BitVec 16) (entry : List Word) (r : LcRequest),
    (s.dev.fore.off = false) ∧
    (s.dev.TakesCmd q.toNat 0x51 (entryWords entry)) ∧
    (s.dev.lcAccepts r = true) ∧
    (r.kind = 3)) ∧
  (∃ (s : State) (q : BitVec 16) (entry : List Word) (r : LcRequest),
    (s.dev.fore.off = false) ∧
    (s.dev.TakesCmd q.toNat 0x51 (entryWords entry)) ∧
    (s.dev.lcAccepts r = true) ∧
    (r.kind = 4)) := by
  refine ⟨⟨(stateAt 2), 0, ([0x51#32, 0x40#32, 1#32, 0x200#32]), ({ kind := 9#8, signer := 0, uid := 5, nonce := 77, target := 1, payload := [1, 2], digest := [3], sigOk := true }), ?_⟩,
    ⟨(stateAt 5), (0#16), ([0x51#32, 0x40#32, 1#32, 0x200#32]), ({ kind := 1#8, signer := 1#8, uid := 5#64, nonce := 0x4d#64, target := 3#32, payload := [1#32, 2#32], digest := [3#32], sigOk := true, cut := none }), ?_⟩,
    ⟨(stateAt 4), (0#16), ([0x51#32, 0x40#32, 1#32, 0x200#32]), ({ kind := 1#8, signer := 0#8, uid := 5#64, nonce := 0x4d#64, target := 2#32, payload := [1#32, 2#32], digest := [3#32], sigOk := true, cut := none }), ?_⟩,
    ⟨(stateAt 3), (0#16), ([0x51#32, 0x40#32, 1#32, 0x200#32]), ({ kind := 1#8, signer := 0#8, uid := 5#64, nonce := 0x4d#64, target := 4#32, payload := [1#32, 2#32], digest := [3#32], sigOk := true, cut := none }), ?_⟩,
    ⟨(stateAt 5), (0#16), ([0x51#32, 0x40#32, 1#32, 0x200#32]), ({ kind := 2#8, signer := 1#8, uid := 5#64, nonce := 0x4d#64, target := 5#32, payload := [1#32, 2#32], digest := [3#32], sigOk := true, cut := none }), ?_⟩,
    ⟨(stateAt 4), (0#16), ([0x51#32, 0x40#32, 1#32, 0x200#32]), ({ kind := 3#8, signer := 0#8, uid := 5#64, nonce := 0x4d#64, target := 0x64#32, payload := [1#32, 2#32], digest := [3#32], sigOk := true, cut := none }), ?_⟩,
    ⟨(stateAt 3), (0#16), ([0x51#32, 0x40#32, 1#32, 0x200#32]), ({ kind := 4#8, signer := 0#8, uid := 5#64, nonce := 0x4d#64, target := 2#32, payload := [1#32, 2#32], digest := [3#32], sigOk := true, cut := none }), ?_⟩⟩ <;>
    first | (unfold Dev.TakesCmd; decide +kernel) | (unfold Dev.AssayIdle; decide +kernel) | (unfold Dev.TakesFrame; decide +kernel) | (unfold Dev.Outstanding; decide +kernel) | (unfold khzOut maxKhz; cases Config.partBE <;> decide +kernel) | decide +kernel

/-- States and operands that meet the hypotheses of DebugAndFirmware. -/
theorem witness_DebugAndFirmware :
  (∃ (s : State) (q : BitVec 16) (entry : List Word),
    (s.dev.fore.off = false) ∧
    (s.dev.TakesCmd q.toNat 0x55 (entryWords entry)) ∧
    (s.dev.fget Reg.life_TAP_REMAIN ≠ 0)) ∧
  (∃ (s : State),
    (s.dev.fore.off = false) ∧
    (s.dev.fget Reg.life_TAP_REMAIN ≠ 0)) ∧
  (∃ (s : State) (q : BitVec 16) (entry : List Word),
    (s.dev.fore.off = false) ∧
    (s.dev.TakesCmd q.toNat 0x56 (entryWords entry)) ∧
    let len := (entryWords entry).getD 3 0
    let off := (entryWords entry).getD 4 0
    let slot := (entryWords entry).getD 5 0 % 2
    (0 < len) ∧
    (len % 4096 = 0) ∧
    (len ≤ 2 ^ 20) ∧
    (off % 4096 = 0) ∧
    (off + len ≤ 2 ^ 24) ∧
    (s.dev.slotRuns slot = false)) ∧
  (∃ (s : State) (q : BitVec 16) (entry : List Word) (img : FwImage),
    (s.dev.fore.off = false) ∧
    (s.dev.TakesCmd q.toNat 0x57 (entryWords entry)) ∧
    (s.dev.slotRuns ((entryWords entry).getD 1 0 % 2) = false) ∧
    (s.dev.imageCheck img = 0) ∧
    (bitAt ((entryWords entry).getD 1 0) 1 = false) ∧
    (s.dev.fget Reg.life_BOOT_PREF ≠ (entryWords entry).getD 1 0 % 2)) ∧
  (∃ (s : State) (q : BitVec 16) (entry : List Word),
    (s.dev.fore.off = false) ∧
    (s.dev.TakesCmd q.toNat 0x58 (entryWords entry)) ∧
    (s.dev.svnFloor < s.dev.fget Reg.life_FW_SVN)) := by
  refine ⟨⟨(stateAt 13), (0#16), ([0x55#32]), ?_⟩,
    ⟨(stateAt 13), ?_⟩,
    ⟨(stateAt 2), (0#16), ([0x56#32, 1#32, 2#32, 0x2000#32, 0x1000#32, 1#32]), ?_⟩,
    ⟨(stateAt 2), (0#16), ([0x57#32, 1#32]), ({ headerOk := true, keySlot := 0#2, keyOk := true, sigOk := true, bodyOk := true, svn := 3#6, digest := [1#32, 2#32] }), ?_⟩,
    ⟨(stateAt 15), (0#16), ([0x58#32]), ?_⟩⟩ <;>
    first | (unfold Dev.TakesCmd; decide +kernel) | (unfold Dev.AssayIdle; decide +kernel) | (unfold Dev.TakesFrame; decide +kernel) | (unfold Dev.Outstanding; decide +kernel) | (unfold khzOut maxKhz; cases Config.partBE <;> decide +kernel) | decide +kernel

end P05

namespace P06
def q0 : QCtx := { typ := 1, cls := 1, log2 := 4, state := 1, head := 5, tail := 8, cq := 1 }
def q1 : QCtx := { typ := 2, cls := 1, log2 := 4, state := 1, head := 17, tail := 20, base := 4096, irqEn := true, irqArmed := true, vector := 3 }
def qd (d : Dev) : Dev := { d with qm.ctx := [(0, q0), (1, q1)], fore.running := true }.fbit Reg.pcie_BME true
def e (l : List Nat) : List Word := l.map (BitVec.ofNat 32)
def cr : Nat := crc32c ((List.range 32).map fun a => if a = 3 then 5 else if a = 4 then 6 else if a = 5 then 7 else 0)
def imgBody (page sel : Nat) (merge check : Nat) (start : Nat) (ws : List Nat) (exp : Nat := 9) : List Nat :=
  let hd := [0x54594131, 1 + 65536, 32 + 16 + 4 * ws.length, 0, 0, 0, 0]
  let body := [page + 256 * sel + 2^24 * check + 2^25 * merge, start, ws.length, exp] ++ ws
  hd ++ [crc32c (hd ++ body)] ++ body
def cm : Cmd := ⟨4, 0x30, 0, 1, 7, 6, [], none⟩
def ld : TableLoad := { cmd := 4, tables := [(19, 1)], swap := false, result := 9}
def ld2 : TableLoad := { ld with swap := true }
def ld3 : TableLoad := { ld2 with waiting := some [(19, 1)] }
def secs : List ImgSection := [⟨19, 1, false, true, 3, [5,6,7], 9⟩, ⟨19, 1, false, false, 3, [5,6,7], 9⟩, ⟨19, 1, true, true, 3, [5,6,7], 9⟩, ⟨19, 1, true, false, 3, [5,6,7], cr⟩, ⟨19, 1, true, false, 3, [5,6,7], 8⟩, ⟨16, 0, false, true, 3, [5, 0xFF7F8081,7], 9⟩]
def pool : List State := [State.reset, wit upDev, wit qd, wit (frozenAt 19), wit (expertAt 16), 
 wit (fun d => ((((qd d).setTableSel .host 19 1).setTableAddr .host 19 4).tset 19 1 0 4 77).tset 19 1 1 4 78),
 wit (fun d => (({qd d with tctl := [(19*32 + 1, {bank := 1})]}.setTableSel .host 19 1).tset 19 1 0 5 77)),
 wit (fun d => (({qd d with tctl := [(19*32 + 1, {bank := 1, swapPending := true})]}.setTableSel .host 19 1).tset 19 1 0 5 77)),
 wit (fun d => (({qd d with tctl := [(19*32 + 1, {bank := 1, swapPending := true, checkEn := true, expect := 5})]}.setTableSel .host 19 1).tset 19 1 0 5 77)),
 wit (fun d => (({qd d with tctl := [(20*32 + 1, {bank := 0, crcBusy := true, crcNext := 5, crc := 3})]}.setTableSel .host 20 1).tset 19 1 0 5 77)),
 wit (fun d => (({qd d with tctl := [(69*32 + 0, {bank := 0, swapPending := true})]}.setTableSel .host 19 1).tset 69 0 1 5 77)),
 wit (fun d => { qd d with tctl := [(19*32+1, {loadBusy := true})], qm := {(qd d).qm with cmds := [cm], loads := [ld]} } ),
 wit (fun d => (expertAt 16 (((d.fset Reg.assay_MANUAL 15).setTableSel .host 16 0).setTableAddr .host 16 9))),
 wit (fun d => { qd d with tctl := [(19*32+1, {loadBusy := true})], qm := {(qd d).qm with cmds := [cm], loads := [ld2]} } ),
 wit (fun d => { qd d with tctl := [(19*32+1, {loadBusy := true, swapPending := true})], qm := {(qd d).qm with cmds := [cm], loads := [ld3]} } ),
 wit (fun d => ((({ qd d with tctl := [(19*32+1, {crcBusy := true, checkEn := true, held := [(3, 4), (5, 0x3FF)]})] }.setTableSel .host 19 1).setTableAddr .host 19 5).setTableSel .smbus 30 0).setTableAddr .smbus 30 7),
 wit (fun d => ((({ qd d with tctl := [(19*32+1, {crcBusy := true, crcNext := 8})] }.setTableSel .host 17 0).setTableAddr .host 17 5).setTableSel .smbus 25 3).setTableAddr .smbus 17 8),
 wit (fun d => ((expertAt 13 (d.fset Reg.assay_MANUAL 15)).setTableSel .host 13 0).tset 13 0 1 4 9),
 wit (fun d => { expertAt 13 (d.fset Reg.assay_MANUAL 15) with tctl := [(13*32, {swapPending := true})] }),
 wit (fun d => { d with tctl := [(24*32, {swapPending := true})] }),
 wit (fun d => { d with tctl := [(20*32+1, {swapPending := true})] }.tset 20 1 1 5 3),
 wit (fun d => { d with tctl := [(19*32+1, {checkEn := true})] }.setTableSel .host 19 1)]
def stateAt (n : Nat) : State := (pool).getD n State.reset
def nfAt (n : Nat) : State := mod (stateAt n) fun d => d.fset Reg.tbase_NOMINAL_FREQ 8000000

/-- States and operands that meet the hypotheses of TableWindowAccess. -/
theorem witness_TableWindowAccess :
  (∃ (s : State) (who : Requester) (p : Fin 128) (val : Word),
    (s.dev.fore.off = false) ∧
    (s.dev.tableCount p ≠ 0) ∧
    (s.dev.flag Reg.hdr_FREEZE p = false) ∧
    ∃ (w : Requester),
    (w ≠ who)) ∧
  (∃ (s : State) (who : Requester) (p : Fin 128) (val : Word),
    (s.dev.fore.off = false) ∧
    (s.dev.tableCount p ≠ 0) ∧
    (s.dev.flag Reg.hdr_FREEZE p = false) ∧
    ∃ (w : Requester) (q : Fin 128),
    (q ≠ p)) ∧
  (∃ (s : State) (who : Requester) (p : Fin 128) (val : Word),
    (s.dev.fore.off = false) ∧
    (s.dev.tableCount p ≠ 0) ∧
    (s.dev.flag Reg.hdr_FREEZE p = true)) ∧
  (∃ (s : State) (who : Requester) (p : Fin 128),
    (s.dev.fore.off = false) ∧
    (s.dev.tableCount p ≠ 0)) ∧
  (∃ (s : State) (who : Requester) (p : Fin 128) (val : Word),
    (s.dev.fore.off = false) ∧
    let sel := s.dev.tableSel who p
    let addr := s.dev.tableAddr who p
    (s.dev.tableCount p ≠ 0) ∧
    (s.dev.tableShut p sel addr = false)) ∧
  (∃ (s : State) (who : Requester) (p : Fin 128) (val : Word),
    (s.dev.fore.off = false) ∧
    (s.dev.tableCount p ≠ 0) ∧
    (s.dev.tableShut p (s.dev.tableSel who p) (s.dev.tableAddr who p) = true)) ∧
  (∃ (s : State) (p : Fin 128) (w : Fin 8192),
    (s.dev.fore.off = false) ∧
    (s.dev.tableCount p ≠ 0)) ∧
  (∃ (s : State) (p : Fin 128) (w : Fin 8192) (val : Word),
    (s.dev.fore.off = false) ∧
    let sel := s.dev.tableSel .host p
    let addr := s.dev.tableAddr .host p / 8192 * 8192 + w
    (s.dev.tableCount p ≠ 0) ∧
    (s.dev.tableShut p sel addr = false)) ∧
  (∃ (s : State) (p : Fin 128) (w : Fin 8192) (val : Word),
    (s.dev.fore.off = false) ∧
    (s.dev.tableCount p ≠ 0) ∧
    (s.dev.tableShut p (s.dev.tableSel .host p) (s.dev.tableAddr .host p / 8192 * 8192 + w) = true)) ∧
  (∃ (s : State) (who : Requester) (p : Fin 128) (w : Fin 8192) (val : Word),
    (s.dev.fore.off = false) ∧
    (s.dev.tableCount p = 0)) := by
  refine ⟨⟨(stateAt 0), (Requester.host), 13, (1#32), ?_, ?_, ?_, (Requester.smbus), ?_⟩,
    ⟨(stateAt 0), (Requester.host), 13, (1#32), ?_, ?_, ?_, (Requester.host), 0, ?_⟩,
    ⟨(stateAt 3), (Requester.host), 19, (1#32), ?_⟩,
    ⟨(stateAt 0), (Requester.host), 13, ?_⟩,
    ⟨(stateAt 0), (Requester.host), 24, (1#32), ?_⟩,
    ⟨(stateAt 0), (Requester.host), 13, (1#32), ?_⟩,
    ⟨(stateAt 0), 13, 0, ?_⟩,
    ⟨(stateAt 0), 24, 0, (1#32), ?_⟩,
    ⟨(stateAt 0), 13, 0, (1#32), ?_⟩,
    ⟨(stateAt 0), (Requester.host), 0, 0, (1#32), ?_⟩⟩ <;>
    first | (unfold Dev.TakesCmd; decide +kernel) | (unfold Dev.AssayIdle; decide +kernel) | (unfold Dev.TakesFrame; decide +kernel) | (unfold Dev.Outstanding; decide +kernel) | (unfold khzOut maxKhz; cases Config.partBE <;> decide +kernel) | decide +kernel

/-- States and operands that meet the hypotheses of TableCrcCopySwap. -/
theorem witness_TableCrcCopySwap :
  (∃ (s : State) (who : Requester) (p : Fin 128),
    (s.dev.fore.off = false) ∧
    (s.dev.flag Reg.hdr_FREEZE p = false) ∧
    ((s.dev.tableDef p (s.dev.tableSel who p)).isSome = true) ∧
    let sel := s.dev.tableSel who p
    ∃ (k : Nat),
    (k < 32) ∧
    (k ≠ sel)) ∧
  (∃ (s : State) (who : Requester) (p : Fin 128),
    (s.dev.fore.off = false) ∧
    (s.dev.flag Reg.hdr_FREEZE p = true)) ∧
  (∃ (s : State) (p : Fin 128) (sel : Fin 32) (td : TableDef),
    (s.dev.fore.off = false) ∧
    ((∀ k < 32, (s.dev.tctlOf p k).crcBusy = decide (k = sel.val))) ∧
    (s.dev.tableDef p sel = some td) ∧
    (td.kind = .banked) ∧
    ∃ (k : Nat),
    (k < 32) ∧
    (k ≠ sel.val)) ∧
  (∃ (s : State) (p : Fin 128) (sel : Fin 32) (td : TableDef),
    (s.dev.fore.off = false) ∧
    ((∀ k < 32, (s.dev.tctlOf p k).crcBusy = decide (k = sel.val))) ∧
    (s.dev.tableDef p sel = some td) ∧
    (td.kind = .banked) ∧
    let held := (s.dev.tctlOf p sel).held
    ∃ (l a v : _),
    (held = l ++ [(a, v)])) ∧
  (∃ (s : State) (p : Fin 128) (sel : Fin 32),
    (s.dev.fore.off = false) ∧
    ((∀ k < 32, (s.dev.tctlOf p k).crcBusy = decide (k = sel.val))) ∧
    ((s.dev.tctlOf p sel).held = []) ∧
    ∃ (k : Nat),
    (k < 32) ∧
    (k ≠ sel.val)) ∧
  (∃ (s : State) (who : Requester) (p : Fin 128) (td : TableDef),
    (s.dev.fore.off = false) ∧
    (s.dev.flag Reg.hdr_FREEZE p = false) ∧
    let sel := s.dev.tableSel who p
    let c := s.dev.tctlOf p sel
    (s.dev.tableDef p sel = some td) ∧
    (td.kind = .banked) ∧
    ((td.expert = true → s.dev.expertOpen p = true)) ∧
    (c.swapPending = false) ∧
    (c.loadBusy = false) ∧
    ∃ (a : Nat),
    (a < td.len)) ∧
  (∃ (s : State) (who : Requester) (p : Fin 128) (td : TableDef),
    (s.dev.fore.off = false) ∧
    (s.dev.flag Reg.hdr_FREEZE p = false) ∧
    let sel := s.dev.tableSel who p
    let c := s.dev.tctlOf p sel
    (s.dev.tableDef p sel = some td) ∧
    (td.kind = .banked) ∧
    ((td.expert = true ∧ s.dev.expertOpen p = false) ∨ c.swapPending = true ∨ c.loadBusy = true)) ∧
  (∃ (s : State) (who : Requester) (p : Fin 128) (td : TableDef),
    (s.dev.fore.off = false) ∧
    (s.dev.flag Reg.hdr_FREEZE p = false) ∧
    let sel := s.dev.tableSel who p
    (s.dev.tableDef p sel = some td) ∧
    (td.kind = .banked) ∧
    ∃ (k : Nat),
    (k < 32) ∧
    (k ≠ sel)) ∧
  (∃ (s : State) (who : Requester) (p : Fin 128) (td : TableDef),
    (s.dev.fore.off = false) ∧
    (s.dev.flag Reg.hdr_FREEZE p = false) ∧
    (s.dev.tableDef p (s.dev.tableSel who p) = some td) ∧
    (td.kind ≠ .banked)) ∧
  (∃ (s : State) (p : Fin 128) (sel : Fin 32),
    (s.dev.fore.off = false) ∧
    (s.dev.qm.loads = []) ∧
    ((∀ q ∈ swapPages p, ∀ k < 32, (s.dev.tctlOf q k).swapPending = (decide (q = p.val) && decide (k = sel.val)))) ∧
    ((s.dev.tctlOf p sel).crcBusy = false) ∧
    ((s.dev.tctlOf p sel).bank < 2) ∧
    (((s.dev.tctlOf p sel).checkEn = true → crc32c (s.tableWords p sel) = (s.dev.tctlOf p sel).expect)) ∧
    (s.swapBad p sel = false) ∧
    ∃ (a : Nat),
    (a < 4096)) ∧
  (∃ (s : State) (p : Fin 128) (sel : Fin 32),
    (s.dev.fore.off = false) ∧
    (s.dev.qm.loads = []) ∧
    ((∀ q ∈ swapPages p, ∀ k < 32, (s.dev.tctlOf q k).swapPending = (decide (q = p.val) && decide (k = sel.val)))) ∧
    ((s.dev.tctlOf p sel).crcBusy = false) ∧
    ((s.dev.tctlOf p sel).bank < 2) ∧
    (((s.dev.tctlOf p sel).checkEn = true → crc32c (s.tableWords p sel) = (s.dev.tctlOf p sel).expect)) ∧
    (s.swapBad p sel = false) ∧
    ∃ (k : Nat),
    (k < 32) ∧
    (k ≠ sel.val)) ∧
  (∃ (s : State) (p : Fin 128) (sel : Fin 32),
    (s.dev.fore.off = false) ∧
    (s.dev.qm.loads = []) ∧
    ((∀ q ∈ swapPages p, ∀ k < 32, (s.dev.tctlOf q k).swapPending = (decide (q = p.val) && decide (k = sel.val)))) ∧
    ((s.dev.tctlOf p sel).crcBusy = false) ∧
    (((s.dev.tctlOf p sel).checkEn = true ∧ crc32c (s.tableWords p sel) ≠ (s.dev.tctlOf p sel).expect ∨ (s.dev.tctlOf p sel).checkEn = false ∧ s.swapBad p sel = true)) ∧
    ∃ (k : Nat),
    (k < 32) ∧
    (k ≠ sel.val)) ∧
  (∃ (s : State) (p : Fin 128) (sel : Fin 32),
    (s.dev.fore.off = false) ∧
    (s.dev.qm.loads = []) ∧
    ((∀ q ∈ swapPages p, ∀ k < 32, (s.dev.tctlOf q k).swapPending = (decide (q = p.val) && decide (k = sel.val)))) ∧
    ((s.dev.tctlOf p sel).crcBusy = false) ∧
    (((s.dev.tctlOf p sel).checkEn = true ∧ crc32c (s.tableWords p sel) ≠ (s.dev.tctlOf p sel).expect ∨ (s.dev.tctlOf p sel).checkEn = false ∧ s.swapBad p sel = true)) ∧
    ∃ (b : _),
    (tableRefusedBit p = some b)) := by
  refine ⟨⟨(stateAt 0), (Requester.host), 13, ?_, ?_, ?_, 1, ?_⟩,
    ⟨(stateAt 3), (Requester.host), 19, ?_⟩,
    ⟨(stateAt 15), 19, 1, ({ kind := .banked, len := 32, expert := false }), ?_, ?_, ?_, ?_, 0, ?_⟩,
    ⟨(stateAt 15), 19, 1, ({ kind := TableKind.banked, len := 32, expert := false }), ?_, ?_, ?_, ?_, ([(3, 4)]), 5, 1023, ?_⟩,
    ⟨(stateAt 16), 19, 1, ?_, ?_, ?_, 0, ?_⟩,
    ⟨(stateAt 0), (Requester.host), 24, ({ kind := TableKind.banked, len := 32, expert := false }), ?_, ?_, ?_, ?_, ?_, ?_, ?_, 0, ?_⟩,
    ⟨(stateAt 0), (Requester.host), 13, ({ kind := TableKind.banked, len := 68, expert := true }), ?_⟩,
    ⟨(stateAt 0), (Requester.host), 13, ({ kind := TableKind.banked, len := 68, expert := true }), ?_, ?_, ?_, ?_, 1, ?_⟩,
    ⟨(stateAt 0), (Requester.host), 17, ({ kind := TableKind.readOnly, len := 544, expert := false }), ?_⟩,
    ⟨(stateAt 19), 24, 0, ?_, ?_, ?_, ?_, ?_, ?_, ?_, 0, ?_⟩,
    ⟨(stateAt 19), 24, 0, ?_, ?_, ?_, ?_, ?_, ?_, ?_, 1, ?_⟩,
    ⟨(stateAt 8), 19, 1, ?_, ?_, ?_, ?_, ?_, 0, ?_⟩,
    ⟨(stateAt 20), 20, 1, ?_, ?_, ?_, ?_, ?_, 3, ?_⟩⟩ <;>
    first | (unfold Dev.TakesCmd; decide +kernel) | (unfold Dev.AssayIdle; decide +kernel) | (unfold Dev.TakesFrame; decide +kernel) | (unfold Dev.Outstanding; decide +kernel) | (unfold khzOut maxKhz; cases Config.partBE <;> decide +kernel) | decide +kernel

/-- States and operands that meet the hypotheses of TableLoadCommand. -/
theorem witness_TableLoadCommand :
  (∃ (s : State) (q : BitVec 16) (entry image : List Word),
    (s.dev.fore.off = false) ∧
    (s.dev.TakesCmd q.toNat 0x30 (entryWords entry)) ∧
    let len := (entryWords entry).getD 3 0
    let st := if 4 * image.length < len then 4 else s.dev.imgStatus (image.map BitVec.toNat) len
    (st ≠ 0)) ∧
  (∃ (s : State) (q : BitVec 16) (entry image : List Word) (xs : List ImgSection),
    (s.dev.fore.off = false) ∧
    (s.dev.TakesCmd q.toNat 0x30 (entryWords entry)) ∧
    ((entryWords entry).getD 3 0 ≤ 4 * image.length) ∧
    (s.dev.imgStatus (image.map BitVec.toNat) ((entryWords entry).getD 3 0) = 0) ∧
    (imgParse (image.map BitVec.toNat) ((entryWords entry).getD 3 0) = some xs) ∧
    ((∀ x ∈ xs, ∀ td, s.dev.tableDef x.page x.sel = some td → x.check = true → crc32c (s.dev.sectionImage x td.len) = x.expect)) ∧
    ∃ (x : _),
    (x ∈ xs) ∧
    ∃ (td : _),
    (s.dev.tableDef x.page x.sel = some td) ∧
    ∃ (a : Nat),
    (a < td.len)) ∧
  (∃ (s : State) (q : BitVec 16) (entry image : List Word) (x : ImgSection) (td : TableDef),
    (s.dev.fore.off = false) ∧
    (s.dev.TakesCmd q.toNat 0x30 (entryWords entry)) ∧
    ((entryWords entry).getD 3 0 ≤ 4 * image.length) ∧
    (s.dev.imgStatus (image.map BitVec.toNat) ((entryWords entry).getD 3 0) = 0) ∧
    (imgParse (image.map BitVec.toNat) ((entryWords entry).getD 3 0) = some [x]) ∧
    (s.dev.tableDef x.page x.sel = some td) ∧
    (x.check = true) ∧
    (crc32c (s.dev.sectionImage x td.len) ≠ x.expect) ∧
    ∃ (a : Nat),
    (a < td.len)) ∧
  (∃ (s : State) (c : Cmd) (p sel : Nat) (l : TableLoad),
    (s.dev.fore.off = false) ∧
    (s.dev.Outstanding c) ∧
    (s.dev.qm.loads = [l]) ∧
    (l.cmd = c.id) ∧
    (l.tables = [(p, sel)]) ∧
    (l.waiting = none) ∧
    (l.swap = false)) ∧
  (∃ (s : State) (c : Cmd) (p sel : Nat) (l : TableLoad),
    (s.dev.fore.off = false) ∧
    (s.dev.Outstanding c) ∧
    (s.dev.qm.loads = [l]) ∧
    (l.cmd = c.id) ∧
    (l.tables = [(p, sel)]) ∧
    (l.waiting = none) ∧
    (l.swap = true) ∧
    ((s.dev.tctlOf p sel).swapPending = false) ∧
    ((s.dev.tctlOf p sel).checkEn = false)) ∧
  (∃ (s : State) (c : Cmd) (p : Fin 128) (sel : Fin 32) (l : TableLoad),
    (s.dev.fore.off = false) ∧
    (s.dev.Outstanding c) ∧
    (s.dev.qm.loads = [l]) ∧
    (l.cmd = c.id) ∧
    (l.tables = [(p.val, sel.val)]) ∧
    (l.waiting = some [(p.val, sel.val)]) ∧
    (l.refused = false) ∧
    ((∀ q ∈ swapPages p, ∀ k < 32, (s.dev.tctlOf q k).swapPending = (decide (q = p.val) && decide (k = sel.val)))) ∧
    ((s.dev.tctlOf p sel).crcBusy = false) ∧
    ((s.dev.tctlOf p sel).checkEn = false) ∧
    (p.val ≠ 24)) := by
  refine ⟨⟨(stateAt 2), (0#16), ([0x70030#32, 0x40#32, 0#32, 0x3c#32]), ([0x70030#32, 0x40#32, 0#32, 0x3c#32]), ?_⟩,
    ⟨(stateAt 2), (0#16), ([0x70030#32, 0x40#32, 0#32, 0x3c#32]), ([0x54594131#32, 0x10001#32, 0x3c#32, 0#32, 0#32, 0#32, 0#32, 0xe4095e08#32, 0x2000113#32, 3#32, 3#32, 9#32, 5#32, 6#32, 7#32]), ([{ page := 19, sel := 1, check := false, merge := true, start := 3, words := [5, 6, 7], expect := 9 }]), ?_, ?_, ?_, ?_, ?_, ?_, ({ page := 19, sel := 1, check := false, merge := true, start := 3, words := [5, 6, 7], expect := 9 }), ?_, ({ kind := TableKind.banked, len := 32, expert := false }), ?_, 0, ?_⟩,
    ⟨(stateAt 2), (0#16), ([0x70030#32, 0x40#32, 0#32, 0x3c#32]), ([0x54594131#32, 0x10001#32, 0x3c#32, 0#32, 0#32, 0#32, 0#32, 0x64580f51#32, 0x1000113#32, 3#32, 3#32, 8#32, 5#32, 6#32, 7#32]), ({ page := 19, sel := 1, check := true, merge := false, start := 3, words := [5, 6, 7], expect := 8 }), ({ kind := TableKind.banked, len := 32, expert := false }), ?_, ?_, ?_, ?_, ?_, ?_, ?_, ?_, 0, ?_⟩,
    ⟨(stateAt 11), ({ id := 4, opcode := 48, sq := 0, cq := 1, tag := 7, sqHead := 6, entry := [], result := none }), 19, 1, ({ cmd := 4, tables := [(19, 1)], swap := false, result := 9, waiting := none, refused := false }), ?_⟩,
    ⟨(stateAt 13), ({ id := 4, opcode := 48, sq := 0, cq := 1, tag := 7, sqHead := 6, entry := [], result := none }), 19, 1, ({ cmd := 4, tables := [(19, 1)], swap := true, result := 9, waiting := none, refused := false }), ?_⟩,
    ⟨(stateAt 14), ({ id := 4, opcode := 48, sq := 0, cq := 1, tag := 7, sqHead := 6, entry := [], result := none }), 19, 1, ({ cmd := 4, tables := [(19, 1)], swap := true, result := 9, waiting := some [(19, 1)], refused := false }), ?_⟩⟩ <;>
    first | (unfold Dev.TakesCmd; decide +kernel) | (unfold Dev.AssayIdle; decide +kernel) | (unfold Dev.TakesFrame; decide +kernel) | (unfold Dev.Outstanding; decide +kernel) | (unfold khzOut maxKhz; cases Config.partBE <;> decide +kernel) | decide +kernel

end P06

namespace P07
def dl (l : List Dll) (d : Dev) : Dev := { (upDev d) with clk.dlls := l.zipIdx.map (fun x => (x.2, x.1)), loom.everRun := true }
def X : Dll := {}
def pool : List State := [State.reset, wit upDev, wit (fun d => { d with clk.slowRelock := 2^44 - 1 }), wit (fun d => { d with fore.degraded := [(5, 16)] }), wit (fun d => { (d.fset Reg.clk_ISL_LOCK_W0 1) with clk.slowRelock := 1 + 2^40 }), wit (fun d => d.fset Reg.clk_DITHER_SEED 0x12345678), wit (frozenAt 5),
 wit (fun d => dl [{X with phase := .searching, trials := [3,4,2]}, {X with phase := .locked, band := 7, fine := 5, good := some (7,5)}, {X with phase := .locked, band := 0, lfsr := 9}, {X with phase := .hold, expiries := 2}] (d.fset Reg.clk_DITHER_SEED 0)),
 wit (fun d => dl [{X with phase := .searching, trials := [3], expiries := 2}, {X with phase := .searching, band := 7, fine := 5, good := some (7,5), expiries := 2}, {X with phase := .searching, expiries := 5}, {X with phase := .locked, band := 3, dither := true}] ((d.fset Reg.clk_ISLREF_SRC 0).fbit Reg.clk_ISLREF_HOLDOVER false |>.fset Reg.clk_KHZ 8500000 |>.fbit Reg.top_DLL_LOCK true |>.fbit Reg.clk_DITHER_EN false)),
 wit (fun d => { d with clk.seen := true, loom.everRun := true, tb.acc := 2^40+77}.fset Reg.tbase_EPOCH 65535), wit (fun d => { (d.fset Reg.clk_ISLREF_SRC 0).fbit Reg.tbase_REF_VALID true with clk.seen := true, loom.everRun := true, loom.cur := none, tb.acc := 2^95+77, tb.epochs := 5000}),
 wit (fun d => { (dl [{X with phase := .locked}, {X with phase := .locked}, {X with phase := .locked}, {X with phase := .searching}] d) with clk.srcValid := [(0, true), (1, true), (2, true)]}.fset Reg.clk_ISLREF_SRC 0),
 wit (fun d => { d with clk.srcValid := [(2, true)]}.fset Reg.clk_ISLREF_SRC 2),
 wit (fun d => ((({ d with clk.srcValid := [(1, true),(0,false)], clk.gates := List.replicate 100 8000000 }.fset Reg.clk_ISLREF_SRC 1).fbit Reg.top_ISL_PLL_LOCK true).fbit Reg.top_CAL_LOADED true).fset Reg.clk_ISL_LOCK_W1 0xF00),
 wit (fun d => { d with clk.gates := [8000000, 8000160] }.fset Reg.clk_ISLREF_SRC 1),
 wit (fun d => { dl [{X with phase := .searching, trials := [3,4,2]}, {X with phase := .searching, trials := [3], expiries := 2}] d with loom.everRun := false }),
 wit (fun d => { dl [{X with phase := .searching, trials := [], measuring := true}, {X with phase := .locked, band := 3, fine := 900, good := some (3,900), expiries := 2}, {X with phase := .hold, good := some (2,3)}, {X with phase := .locked, band := 5, fine := 65000}] d with clk.gates := [5100000, 8000160], clk.seen := true }.fset Reg.clk_ISLREF_SRC 1 |>.fbit Reg.clk_ISLREF_HOLDOVER false),
 wit (fun d => ({ dl [{X with phase := .searching, trials := [], measuring := true}, {X with phase := .searching, band := 3, fine := 900, good := some (3,900), expiries := 2}, {X with phase := .hold, good := some (2,3)}, {X with phase := .locked, band := 5, fine := 65000}] d with clk.gates := [3000000, 8000160], clk.seen := true, fore.degraded := [(5, 2)] }.fset Reg.clk_ISLREF_SRC 1 |>.fbit Reg.clk_ISLREF_HOLDOVER false)),
 wit (fun d => ({ dl [{X with phase := .searching, trials := [], measuring := true}, {X with phase := .searching, band := 3, fine := 900, good := some (3,900), expiries := 2}, {X with phase := .hold, good := some (2,3)}, {X with phase := .locked, band := 0, fine := 65535}] d with clk.gates := [5000000, 8000160], clk.seen := true, assay.runs := [(1, { phys := 4, pos := some 4, phase := .live, temp := 5 })] }.fset Reg.clk_ISLREF_SRC 3 |>.fbit Reg.clk_ISLREF_HOLDOVER true |>.fbit Reg.clk_CLKS_RANGE_ERR true)),
 wit (fun d => { dl [{X with phase := .searching, trials := [], measuring := true, band := 3}, {X with phase := .locked, band := 3, fine := 900, good := some (3,900), expiries := 2}, {X with phase := .hold, good := some (2,3)}, {X with phase := .locked, band := 5, fine := 65000}] d with clk.gates := [5100000, 8000160], clk.seen := true, loom.everRun := false }.fset Reg.clk_ISLREF_SRC 1 |>.fbit Reg.clk_ISLREF_HOLDOVER false),
 wit (fun d => { dl [{X with phase := .searching, trials := [4], band := 3}, {X with phase := .locked, band := 3, fine := 900, good := some (3,900), expiries := 2}, {X with phase := .locked, good := some (2,3)}, {X with phase := .locked, band := 5, fine := 65000}] d with clk.gates := [5100000, 8000160], clk.seen := true, loom.everRun := false }.fset Reg.clk_ISLREF_SRC 1 |>.fbit Reg.clk_ISLREF_HOLDOVER false |>.fbit Reg.top_FW_VALID true)]
def stateAt (n : Nat) : State := (pool).getD n State.reset
def nfAt (n : Nat) : State := mod (stateAt n) fun d => d.fset Reg.tbase_NOMINAL_FREQ 8000000

/-- States and operands that meet the hypotheses of Dlls. -/
theorem witness_Dlls :
  (∃ (s : State) (g : Fin 4),
    (s.dev.fore.off = false) ∧
    (s.dev.flag Reg.clk_CLKS_PRESENT = true) ∧
    ((s.dev.dll g).phase ≠ .locked) ∧
    ((s.dev.dll g).phase ≠ .hold) ∧
    (s.dev.flag Reg.clk_DITHER_EN = true)) ∧
  (∃ (s : State) (g : Fin 4),
    (s.dev.fore.off = false) ∧
    (s.dev.flag Reg.clk_CLKS_PRESENT = true) ∧
    ((s.dev.dll g).phase ≠ .locked) ∧
    ((s.dev.dll g).phase ≠ .hold) ∧
    ∃ (k : Nat),
    (k < 4) ∧
    (k ≠ g.val)) ∧
  (∃ (s : State) (g : Fin 4) (found : Bool),
    (s.dev.fore.off = false) ∧
    ((s.dev.dll g).phase = .searching) ∧
    ((s.dev.dll g).trials ≠ []) ∧
    (found = true)) ∧
  (∃ (s : State) (g : Fin 4) (found : Bool),
    (s.dev.fore.off = false) ∧
    ((s.dev.dll g).phase = .searching) ∧
    ((s.dev.dll g).trials ≠ []) ∧
    (found = false)) ∧
  (∃ (s : State) (g : Fin 4) (fine : BitVec 16),
    (s.dev.fore.off = false) ∧
    ((s.dev.dll g).phase = .searching) ∧
    (s.dev.sliceClock = true) ∧
    (s.dev.lastKhz = none)) ∧
  (∃ (s : State) (g : Fin 4) (fine : BitVec 16),
    (s.dev.fore.off = false) ∧
    ((s.dev.dll g).phase = .searching) ∧
    (s.dev.sliceClock = true) ∧
    ∃ (khz : _),
    (s.dev.lastKhz = some khz) ∧
    let nominal := nominalFine (s.dev.dll g).band khz
    (nominal ≤ fine.toNat + 4096) ∧
    (fine.toNat ≤ nominal + 4096)) ∧
  (∃ (s : State) (g : Fin 4) (fine : BitVec 16),
    (s.dev.fore.off = false) ∧
    ((s.dev.dll g).phase = .searching) ∧
    (s.dev.sliceClock = true) ∧
    ∃ (k : Nat),
    (k < 4) ∧
    (k ≠ g.val)) ∧
  (∃ (s : State) (g : Fin 4) (fine : BitVec 16),
    (s.dev.fore.off = false) ∧
    ((s.dev.dll g).phase = .searching) ∧
    (s.dev.sliceClock = true) ∧
    (s.dev.loom.everRun = false)) ∧
  (∃ (s : State) (g : Fin 4) (fine : BitVec 16),
    (s.dev.fore.off = false) ∧
    ((s.dev.dll g).phase = .searching) ∧
    (s.dev.sliceClock = true) ∧
    ((∀ k < 4, k ≠ g.val → (s.dev.dll k).phase = .locked))) ∧
  (∃ (s : State) (g : Fin 4) (fine : BitVec 16),
    (s.dev.fore.off = false) ∧
    ((s.dev.dll g).phase = .searching) ∧
    (s.dev.sliceClock = true) ∧
    ((s.dev.flag Reg.top_DLL_LOCK = true ∨ ∃ k : Fin 4, k ≠ g ∧ (s.dev.dll k).phase ≠ .locked))) ∧
  (∃ (s : State) (g : Fin 4),
    (s.dev.fore.off = false) ∧
    ((s.dev.dll g).phase = .searching) ∧
    ((s.dev.dll g).expiries < 2)) ∧
  (∃ (s : State) (g : Fin 4),
    (s.dev.fore.off = false) ∧
    ((s.dev.dll g).phase = .searching) ∧
    (2 ≤ (s.dev.dll g).expiries) ∧
    ((s.dev.dll g).good.isSome = true) ∧
    (andNot (KMap.at s.dev.fore.degraded 0 5) 15 ≠ KMap.at s.dev.fore.degraded 0 5)) ∧
  (∃ (s : State) (g : Fin 4),
    (s.dev.fore.off = false) ∧
    ((s.dev.dll g).phase = .searching) ∧
    (2 ≤ (s.dev.dll g).expiries) ∧
    ((s.dev.dll g).good = none)) ∧
  (∃ (s : State) (g : Fin 4),
    (s.dev.fore.off = false) ∧
    ((s.dev.dll g).phase = .searching) ∧
    (2 ≤ (s.dev.dll g).expiries) ∧
    ∃ (k : Nat),
    (k < 4) ∧
    (k ≠ g.val)) ∧
  (∃ (s : State) (g : Fin 4),
    (s.dev.fore.off = false) ∧
    ((s.dev.dll g).phase = .searching) ∧
    ((s.dev.dll g).good = none) ∧
    (3 ≤ (s.dev.dll g).expiries) ∧
    ∃ (k : Nat),
    (k < 4) ∧
    (k ≠ g.val)) ∧
  (∃ (s : State) (g : Fin 4),
    (s.dev.fore.off = false) ∧
    ((s.dev.dll g).phase = .locked) ∧
    (s.dev.freqRef = true) ∧
    ∃ (k : Nat),
    (k < 4) ∧
    (k ≠ g.val)) ∧
  (∃ (s : State) (g : Fin 4),
    (s.dev.fore.off = false) ∧
    ((s.dev.dll g).phase = .locked) ∧
    (s.dev.freqRef = false) ∧
    ∃ (k : Nat),
    (k < 4) ∧
    ∃ (r : _),
    (KMap.find s.dev.assay.runs k = some r) ∧
    (r.phase = .live)) ∧
  (∃ (s : State) (g : Fin 4) (up : Bool),
    (s.dev.fore.off = false) ∧
    ((s.dev.dll g).phase = .locked) ∧
    ((if up then (s.dev.dll g).band < 7 ∧ (s.dev.dll g).fine * 1000 ≤ 15 * 65535 else 0 < (s.dev.dll g).band ∧ (65535 - (s.dev.dll g).fine) * 1000 ≤ 15 * 65535)) ∧
    ∃ (k : Nat),
    (k < 4) ∧
    (k ≠ g.val)) ∧
  (∃ (s : State) (who : Requester),
    (s.dev.fore.off = false) ∧
    (s.dev.flag Reg.hdr_FREEZE 5 = false) ∧
    ∃ (g : Nat),
    (g < 4) ∧
    ((s.dev.dll g).phase = .hold)) ∧
  (∃ (s : State) (who : Requester),
    (s.dev.fore.off = false) ∧
    (s.dev.flag Reg.hdr_FREEZE 5 = false) ∧
    ∃ (g : Nat),
    (g < 4) ∧
    ((s.dev.dll g).phase ≠ .hold)) := by
  refine ⟨⟨(stateAt 1), 0, ?_⟩,
    ⟨(stateAt 1), 0, ?_, ?_, ?_, ?_, 1, ?_⟩,
    ⟨(stateAt 7), 0, (true), ?_⟩,
    ⟨(stateAt 7), 0, (false), ?_⟩,
    ⟨(stateAt 7), 0, (0#16), ?_⟩,
    ⟨(stateAt 16), 0, (0#16), ?_, ?_, ?_, 5100000, ?_⟩,
    ⟨(stateAt 7), 0, (0#16), ?_, ?_, ?_, 1, ?_⟩,
    ⟨(stateAt 15), 0, (0#16), ?_⟩,
    ⟨(stateAt 11), 3, (0#16), ?_⟩,
    ⟨(stateAt 7), 0, (0#16), ?_⟩,
    ⟨(stateAt 7), 0, ?_⟩,
    ⟨(stateAt 17), 1, ?_⟩,
    ⟨(stateAt 8), 0, ?_⟩,
    ⟨(stateAt 8), 0, ?_, ?_, ?_, 1, ?_⟩,
    ⟨(stateAt 8), 2, ?_, ?_, ?_, ?_, 0, ?_⟩,
    ⟨(stateAt 8), 3, ?_, ?_, ?_, 0, ?_⟩,
    ⟨(stateAt 18), 3, ?_, ?_, ?_, 1, ?_, ({ phys := 4, pos := some 4, phase := RunPhase.live, temp := 5, khz := 0, dc := none, fine := none, results := false }), ?_⟩,
    ⟨(stateAt 7), 2, (true), ?_, ?_, ?_, 0, ?_⟩,
    ⟨(stateAt 7), (Requester.host), ?_, ?_, 3, ?_⟩,
    ⟨(stateAt 0), (Requester.host), ?_, ?_, 0, ?_⟩⟩ <;>
    first | (unfold Dev.TakesCmd; decide +kernel) | (unfold Dev.AssayIdle; decide +kernel) | (unfold Dev.TakesFrame; decide +kernel) | (unfold Dev.Outstanding; decide +kernel) | (unfold khzOut maxKhz; cases Config.partBE <;> decide +kernel) | decide +kernel

/-- States and operands that meet the hypotheses of LfsrStep. -/
theorem witness_LfsrStep :
  (∃ (w i : Nat),
    (w < 2 ^ 32)) := by
  refine ⟨0, 0, ?_⟩ <;>
    first | (unfold Dev.TakesCmd; decide +kernel) | (unfold Dev.AssayIdle; decide +kernel) | (unfold Dev.TakesFrame; decide +kernel) | (unfold Dev.Outstanding; decide +kernel) | (unfold khzOut maxKhz; cases Config.partBE <;> decide +kernel) | decide +kernel

/-- States and operands that meet the hypotheses of SampleClockAndIslands. -/
theorem witness_SampleClockAndIslands :
  (∃ (s : State),
    (s.dev.fore.off = false) ∧
    (s.dev.flag Reg.clk_CLKS_PRESENT = true) ∧
    ∃ (g : Nat),
    (g < 4)) ∧
  (∃ (s : State),
    (s.dev.fore.off = false) ∧
    (s.dev.flag Reg.clk_CLKS_PRESENT = true) ∧
    (s.dev.loom.cur = none) ∧
    (s.dev.loom.quiet = [])) ∧
  (∃ (s : State),
    (s.dev.fore.off = false) ∧
    (s.dev.flag Reg.clk_CLKS_RANGE_ERR = false) ∧
    (s.dev.rangeDecides = true) ∧
    ∃ (g : Nat),
    (g < 4)) ∧
  (∃ (s : State),
    (s.dev.fore.off = false) ∧
    (s.dev.flag Reg.clk_CLKS_RANGE_ERR = false) ∧
    (s.dev.rangeDecides = true) ∧
    (s.dev.loom.cur = none) ∧
    (s.dev.loom.quiet = [])) ∧
  (∃ (s : State) (gap : Nat) (phase : Int),
    (s.dev.fore.off = false) ∧
    (s.dev.clksOk = false) ∧
    ((∀ khz, s.dev.lastKhz = some khz → khzOut khz = false)) ∧
    (s.dev.clk.seen = true) ∧
    (s.dev.tb.openEntry = none) ∧
    (s.dev.tb.acc < 2 ^ 96) ∧
    let ph : Int := if s.dev.flag Reg.tbase_REF_VALID then phase else 0
    (ph = 0)) ∧
  (∃ (s : State) (gap : Nat) (phase : Int),
    (s.dev.fore.off = false) ∧
    (s.dev.clksOk = false) ∧
    ((∀ khz, s.dev.lastKhz = some khz → khzOut khz = false)) ∧
    (s.dev.clk.seen = true) ∧
    (s.dev.tb.openEntry = none) ∧
    (s.dev.tb.acc < 2 ^ 96) ∧
    ∃ (k : Nat),
    (k < 8)) ∧
  (∃ (s : State) (gap : Nat) (phase : Int),
    (s.dev.fore.off = false) ∧
    (s.dev.clksOk = false) ∧
    ((∀ khz, s.dev.lastKhz = some khz → khzOut khz = false)) ∧
    (s.dev.clk.seen = true) ∧
    (s.dev.tb.openEntry = none) ∧
    (s.dev.tb.acc < 2 ^ 96) ∧
    ∃ (g : Nat),
    (g < 4)) ∧
  (∃ (s : State) (gap : Nat) (phase : Int),
    (s.dev.fore.off = false) ∧
    (s.dev.clksOk = false) ∧
    ((∀ khz, s.dev.lastKhz = some khz → khzOut khz = false)) ∧
    (s.dev.clk.seen = false)) ∧
  (∃ (s : State) (i : Fin 44),
    (s.dev.fore.off = false) ∧
    (s.dev.flag Reg.top_ISL_PLL_LOCK = true) ∧
    (s.dev.flag Reg.top_CAL_LOADED = true)) ∧
  (∃ (s : State) (i : Fin 44),
    (s.dev.fore.off = false) ∧
    (s.dev.islLocked i = false) ∧
    (bitAt s.dev.clk.slowRelock i = false) ∧
    (bitAt (KMap.at s.dev.fore.degraded 0 5) 4 = true)) ∧
  (∃ (s : State) (i : Fin 44),
    (s.dev.fore.off = false) ∧
    (s.dev.islLocked i = false) ∧
    (bitAt s.dev.clk.slowRelock i = true)) ∧
  (∃ (s : State) (src : IslSource),
    (s.dev.fore.off = false) ∧
    (s.dev.fget Reg.clk_FORCE = 0) ∧
    (s.dev.fget Reg.clk_ISLREF_SRC = src.code) ∧
    let ok := fun (k : Nat) => k != src.code && KMap.at s.dev.clk.srcValid false k
    let new := if ok 0 then 0 else if ok 1 then 1 else if ok 2 then 2 else 3
    (new ≠ 3)) ∧
  (∃ (s : State) (src : IslSource),
    (s.dev.fore.off = false) ∧
    (s.dev.fget Reg.clk_FORCE = 0) ∧
    (s.dev.fget Reg.clk_ISLREF_SRC = src.code) ∧
    let ok := fun (k : Nat) => k != src.code && KMap.at s.dev.clk.srcValid false k
    let new := if ok 0 then 0 else if ok 1 then 1 else if ok 2 then 2 else 3
    (new = 3)) ∧
  (∃ (s : State) (src : IslSource),
    (s.dev.fore.off = false) ∧
    (s.dev.fget Reg.clk_FORCE = 0) ∧
    (s.dev.fget Reg.clk_ISLREF_SRC = s.dev.islrefSelect) ∧
    (src.code < s.dev.fget Reg.clk_ISLREF_SRC)) ∧
  (∃ (s : State),
    (s.dev.fore.off = false) ∧
    (s.dev.fget Reg.clk_ISLREF_SRC ≠ 3)) ∧
  (∃ (s : State) (khz : Nat),
    (s.dev.fore.off = false) ∧
    (s.dev.fget Reg.clk_ISLREF_SRC ≠ 3) ∧
    (s.dev.assay.runs = []) ∧
    (s.dev.assay.fg = []) ∧
    (s.dev.assay.fgKhz = []) ∧
    (khzOut khz = false) ∧
    ∃ (g : Nat),
    (g < 4) ∧
    ((s.dev.dll g).phase = .searching) ∧
    ((s.dev.dll g).measuring = true)) ∧
  (∃ (s : State) (khz : Nat),
    (s.dev.fore.off = false) ∧
    (s.dev.fget Reg.clk_ISLREF_SRC ≠ 3) ∧
    (s.dev.assay.runs = []) ∧
    (s.dev.assay.fg = []) ∧
    (s.dev.assay.fgKhz = []) ∧
    (khzOut khz = false) ∧
    ∃ (g : Nat),
    (g < 4) ∧
    ((s.dev.dll g).phase ≠ .locked ∨ s.dev.clk.gates.headD khz = khz)) ∧
  (∃ (s : State) (khz : Nat),
    (s.dev.fore.off = false) ∧
    (s.dev.fget Reg.clk_ISLREF_SRC ≠ 3) ∧
    (s.dev.assay.runs = []) ∧
    (s.dev.assay.fg = []) ∧
    (s.dev.assay.fgKhz = []) ∧
    (khzOut khz = false) ∧
    ∃ (g : Nat),
    (g < 4) ∧
    ((s.dev.dll g).phase = .locked) ∧
    (s.dev.clk.gates.headD khz ≠ khz)) ∧
  (∃ (s : State) (khz : Nat),
    (s.dev.fore.off = false) ∧
    (s.dev.fget Reg.clk_ISLREF_SRC ≠ 3) ∧
    (khzOut khz = true) ∧
    (s.dev.clksOk = true)) := by
  refine ⟨⟨(stateAt 1), ?_, ?_, 0, ?_⟩,
    ⟨(stateAt 1), ?_⟩,
    ⟨(wit fun d => { ((upDev d).fset Reg.clk_ISLREF_SRC 0).fbit Reg.clk_ISLREF_HOLDOVER false with clk.gates := [3000000] }), ?_, ?_, ?_, 0, ?_⟩,
    ⟨(wit fun d => { ((upDev d).fset Reg.clk_ISLREF_SRC 0).fbit Reg.clk_ISLREF_HOLDOVER false with clk.gates := [3000000] }), ?_⟩,
    ⟨(stateAt 9), 0, 0, ?_⟩,
    ⟨(stateAt 9), 0, 0, ?_, ?_, ?_, ?_, ?_, ?_, 0, ?_⟩,
    ⟨(stateAt 9), 0, 0, ?_, ?_, ?_, ?_, ?_, ?_, 0, ?_⟩,
    ⟨(stateAt 0), 0, 0, ?_⟩,
    ⟨(stateAt 13), 0, ?_⟩,
    ⟨(stateAt 3), 0, ?_⟩,
    ⟨(stateAt 2), 0, ?_⟩,
    ⟨(stateAt 11), (IslSource.refIn), ?_⟩,
    ⟨(stateAt 8), (IslSource.refIn), ?_⟩,
    ⟨(stateAt 0), (IslSource.refIn), ?_⟩,
    ⟨(stateAt 8), ?_⟩,
    ⟨(stateAt 16), 8000000, ?_, ?_, ?_, ?_, ?_, ?_, 0, ?_⟩,
    ⟨(stateAt 8), 8000000, ?_, ?_, ?_, ?_, ?_, ?_, 0, ?_⟩,
    ⟨(stateAt 16), 8000000, ?_, ?_, ?_, ?_, ?_, ?_, 1, ?_⟩,
    ⟨(stateAt 8), 0, ?_⟩⟩ <;>
    first | (unfold Dev.TakesCmd; decide +kernel) | (unfold Dev.AssayIdle; decide +kernel) | (unfold Dev.TakesFrame; decide +kernel) | (unfold Dev.Outstanding; decide +kernel) | (unfold khzOut maxKhz; cases Config.partBE <;> decide +kernel) | decide +kernel

end P07

namespace P08
def rf (k : Nat) (d : Dev) : Dev := ((upDev d).fset Reg.tbase_REF_SEL k).fbit Reg.tbase_REF_VALID true
def pool : List State := [State.reset, wit upDev, wit (frozenAt 6), wit (rf 1), wit (fun d => { (rf 3 d).fbit Reg.tbase_COASTING true with tb.acc := 2^50+99, tb.coast := 2^45}),
 wit (fun d => { (rf 1 d).fbit Reg.tbase_COASTING true with tb.acc := 2^95+99, tb.coast := 2^45}.fset Reg.tbase_EPOCH 65535),
 wit (fun d => {(rf 1 d).fbit Reg.tbase_SLEWING true with tb.slew := -2^70}),
 wit (fun d => {(((expertAt 6 (rf 1 d)).fset Reg.tbase_SET_W0 0x12345678).fset Reg.tbase_SET_W1 7).fset Reg.tbase_SET_W2 0xFFFFFFFF with tb.epochs := 5000 }),
 wit (fun d => ((rf 1 d).fbit Reg.tbase_PPS_ARM true).fset Reg.tbase_PPS_LOAD_W0 0x12345),
 wit (fun d => { (rf 1 d).fbit Reg.tbase_PPS_ARM true with tb.ppsMissing := true, tb.acc := 2^77+5}.fset Reg.tbase_PPS_LOAD_W1 0x12345) , wit (fun d => (upDev d).fset Reg.tbase_REF_SEL 2), wit (fun d => ((upDev d).fset Reg.tbase_REF_SEL 3).fbit Reg.cas_SYNCED true), wit (fun d => ((upDev d).fset Reg.tbase_REF_SEL 1).fbit Reg.tbase_COASTING true), wit (fun d => (rf 3 d).fbit Reg.cas_SYNCED true)]
def stateAt (n : Nat) : State := (pool).getD n State.reset
def nfAt (n : Nat) : State := mod (stateAt n) fun d => d.fset Reg.tbase_NOMINAL_FREQ 8000000

/-- States and operands that meet the hypotheses of Timebase. -/
theorem witness_Timebase :
  (∃ (s : State) (inc : Nat) (phase : Int),
    (s.dev.fore.off = false) ∧
    (s.dev.noSource = false) ∧
    (s.dev.flag Reg.tbase_COASTING = true) ∧
    (s.dev.flag Reg.tbase_REF_VALID = false)) ∧
  (∃ (s : State) (inc : Nat) (phase : Int),
    (s.dev.fore.off = false) ∧
    (s.dev.noSource = false) ∧
    (s.dev.flag Reg.tbase_COASTING = true) ∧
    (s.dev.flag Reg.tbase_REF_VALID = true)) ∧
  (∃ (s : State) (inc : Nat) (phase : Int),
    (s.dev.fore.off = false) ∧
    (s.dev.noSource = false) ∧
    (s.dev.flag Reg.tbase_COASTING = false) ∧
    (s.dev.flag Reg.tbase_REF_VALID = false)) ∧
  (∃ (s : State) (inc : Nat) (phase : Int),
    (s.dev.fore.off = false) ∧
    (s.dev.noSource = false) ∧
    (s.dev.flag Reg.tbase_COASTING = false) ∧
    (s.dev.flag Reg.tbase_REF_VALID = true) ∧
    (s.dev.fget Reg.tbase_REF_SEL = 3)) ∧
  (∃ (s : State) (inc : Nat) (phase : Int),
    (s.dev.fore.off = false) ∧
    (s.dev.noSource = false) ∧
    (s.dev.flag Reg.tbase_COASTING = false) ∧
    (s.dev.flag Reg.tbase_REF_VALID = true) ∧
    (s.dev.fget Reg.tbase_REF_SEL ≠ 3)) ∧
  (∃ (s : State) (inc : Nat) (phase : Int),
    (s.dev.fore.off = false) ∧
    (s.dev.noSource = false) ∧
    (s.dev.flag Reg.tbase_REF_VALID = true)) ∧
  (∃ (s : State) (inc : Nat) (phase : Int),
    (s.dev.fore.off = false) ∧
    (s.dev.noSource = false) ∧
    (s.dev.flag Reg.tbase_REF_VALID = false)) ∧
  (∃ (s : State) (ok : Bool) (inc : Nat) (phase : Int),
    (s.dev.fore.off = false) ∧
    (s.dev.noSource = true)) ∧
  (∃ (s : State),
    (s.dev.fore.off = false) ∧
    (s.dev.flag Reg.tbase_REF_VALID = true)) ∧
  (∃ (s : State) (e : Int),
    (s.dev.fore.off = false) ∧
    (s.dev.flag Reg.tbase_REF_VALID = true) ∧
    (s.dev.flag Reg.tbase_COASTING = true) ∧
    (s.dev.tb.openEntry = none) ∧
    (within100ps e (s.dev.fget Reg.tbase_NOMINAL_FREQ) = true)) ∧
  (∃ (s : State) (e : Int),
    (s.dev.fore.off = false) ∧
    (s.dev.flag Reg.tbase_REF_VALID = true) ∧
    (s.dev.flag Reg.tbase_COASTING = true) ∧
    (s.dev.tb.openEntry = none) ∧
    (within100ps e (s.dev.fget Reg.tbase_NOMINAL_FREQ) = false)) ∧
  (∃ (s : State),
    (s.dev.fore.off = false) ∧
    (s.dev.flag Reg.tbase_SLEWING = true)) ∧
  (∃ (s : State) (who : Requester),
    (s.dev.fore.off = false) ∧
    (s.dev.flag Reg.hdr_FREEZE 6 = false) ∧
    (s.dev.flag Reg.tbase_PPS_ARM = false)) ∧
  (∃ (s : State) (who : Requester),
    (s.dev.fore.off = false) ∧
    (s.dev.flag Reg.hdr_FREEZE 6 = false) ∧
    (s.dev.flag Reg.tbase_PPS_ARM = true)) ∧
  (∃ (s : State),
    (s.dev.fore.off = false) ∧
    (s.dev.flag Reg.tbase_PPS_ARM = false)) ∧
  (∃ (s : State),
    (s.dev.fore.off = false) ∧
    (s.dev.flag Reg.tbase_PPS_ARM = true) ∧
    (s.dev.tb.openEntry = none)) ∧
  (∃ (s : State),
    (s.dev.fore.off = false) ∧
    (s.dev.flag Reg.tbase_PPS_ARM = true) ∧
    (s.dev.tb.ppsMissing = false)) ∧
  (∃ (s : State) (who : Requester),
    (s.dev.fore.off = false) ∧
    (s.dev.flag Reg.hdr_FREEZE 6 = false) ∧
    (s.dev.expertOpen 6 = true) ∧
    (s.dev.tb.openEntry = none)) ∧
  (∃ (s : State) (who : Requester),
    (s.dev.fore.off = false) ∧
    (s.dev.flag Reg.hdr_FREEZE 6 = false) ∧
    (s.dev.expertOpen 6 = false)) ∧
  (∃ (s : State) (who : Requester) (val : Word),
    (s.dev.fore.off = false) ∧
    (s.dev.flag Reg.hdr_FREEZE 6 = false) ∧
    (val.toNat = s.dev.fget Reg.tbase_NOMINAL_FREQ)) ∧
  (∃ (s : State) (who : Requester) (val : Word),
    (s.dev.fore.off = false) ∧
    (s.dev.flag Reg.hdr_FREEZE 6 = false) ∧
    (val.toNat ≠ s.dev.fget Reg.tbase_NOMINAL_FREQ) ∧
    (s.dev.tb.openEntry = none)) := by
  refine ⟨⟨(stateAt 12), 0, 0, ?_⟩,
    ⟨(stateAt 5), 0, 0, ?_⟩,
    ⟨(stateAt 10), 0, 0, ?_⟩,
    ⟨(stateAt 13), 0, 0, ?_⟩,
    ⟨(stateAt 3), 0, 0, ?_⟩,
    ⟨(stateAt 3), 0, 0, ?_⟩,
    ⟨(stateAt 10), 0, 0, ?_⟩,
    ⟨(stateAt 0), (false), 0, 0, ?_⟩,
    ⟨(stateAt 3), ?_⟩,
    ⟨(stateAt 4), 0, ?_⟩,
    ⟨(mod (stateAt 4) fun d => d.fset Reg.tbase_NOMINAL_FREQ 8000000), (-10000000), ?_⟩,
    ⟨(stateAt 6), ?_⟩,
    ⟨(stateAt 0), (Requester.host), ?_⟩,
    ⟨(stateAt 8), (Requester.host), ?_⟩,
    ⟨(stateAt 0), ?_⟩,
    ⟨(stateAt 8), ?_⟩,
    ⟨(stateAt 8), ?_⟩,
    ⟨(stateAt 7), (Requester.host), ?_⟩,
    ⟨(stateAt 0), (Requester.host), ?_⟩,
    ⟨(mod State.reset fun d => d.fset Reg.tbase_NOMINAL_FREQ 8000000), .host, 8000000, ?_⟩,
    ⟨(mod State.reset fun d => d.fset Reg.tbase_NOMINAL_FREQ 8000000), .host, 8000001, ?_⟩⟩ <;>
    first | (unfold Dev.TakesCmd; decide +kernel) | (unfold Dev.AssayIdle; decide +kernel) | (unfold Dev.TakesFrame; decide +kernel) | (unfold Dev.Outstanding; decide +kernel) | (unfold khzOut maxKhz; cases Config.partBE <;> decide +kernel) | decide +kernel

end P08

namespace P09
def raw1 : List (BitVec 12) := (List.range 128).map fun k => BitVec.ofNat 12 (k * 37 + 11)
def raw2 : List (BitVec 12) := List.replicate 128 0x7FF
def td2 : TickData := State.reset.dev.sampleTick raw2
def td : TickData := State.reset.dev.sampleTick raw1
def b1 : Bring := { group := 1, phys := 33, pos := 2, ready := 3, kind := .retire }
def b2 : Bring := { group := 2, phys := 33, pos := 2, ready := 3, kind := .cover, failed := 5 }
def q1 : QuietCheck := { n := 128, sum := 5000, sumSq := 5000*5000, clip := false}
def q2 : QuietCheck := { n := 128, sum := 500000000, sumSq := 10^18, clip := true}
def rol (d : Dev) : Dev := (List.range 4).foldl (fun d g => (d.setRole g 33 3).setRole g 32 1) d
def lk (d : Dev) : Dev := { rol (upDev d) with clk.dlls := (List.range 4).map fun g => (g, {phase := .locked}), loom.everRun := true, loom.run := some 3 }
def up2 (d : Dev) : Dev := { lk d with loom.run := some 70, loom.cur := some td, loom.prev := some td, loom.tick := 9, clk.srcValid := []}
def armd (d : Dev) : Dev := { lk d with loom.run := some 3 }.fbit Reg.acq_ARMED true
def pool : List State := [State.reset, wit upDev, wit (frozenAt 9), wit lk, wit up2, wit (fun d => (up2 d).fset Reg.loom_MODE 1), wit (fun d => {up2 d with loom.run := some 64}), wit (fun d => (up2 d).fset Reg.life_STATE 1),
 wit (fun d => { up2 d with loom.quiet := [(0, q1), (2, q2), (3, {})]}.fset Reg.loom_MODE 2),
 wit (fun d => { up2 d with loom.quiet := [(0, q1)], assay.cmds := [], assay.startup := some 3, assay.fg := [(0,3)], assay.fgWait := 3}.fset Reg.assay_FG_BUSY 3),
 wit (fun d => expertAt 16 (expertAt 12 (lk d))), wit (fun d => { up2 d with loom.brings := [b1]}), wit (fun d => { up2 d with loom.brings := [b2]}),
 wit (fun d => (expertAt 16 (upDev d))), wit (fun d => (List.range 4).foldl (fun d g => (d.setRole g 33 5).setRole g 32 6) (up2 d)), wit armd, wit (fun d => {up2 d with loom.cur := some td2}), wit (fun d => (up2 d).fset Reg.life_STATE 2),
 wit (fun d => (List.range 4).foldl (fun d g => (d.setRole g 33 5).setRole g 32 6) (expertAt 16 (lk d))),
 wit (fun d => { expertAt 16 (lk d) with assay.runs := [(0, ⟨3, some 3, .dc, 5, 0, none, none, false⟩), (3, ⟨3, some 3, .dc, 5, 0, none, none, false⟩)] }),
 wit (fun d => { lk d with loom.run := none }), wit (fun d => ((lk d).setRole 0 0 6).setRole 1 3 6), wit (fun d => (expertAt 12 (lk d)).fset Reg.loom_MODE 2),
 wit (fun d => (lk d).setRole 0 33 6 |>.setRole 3 33 6), wit (fun d => (up2 d).setRole 2 33 1 |>.fset Reg.slice_LOGICAL_POS 9 66)]
def stateAt (n : Nat) : State := (pool).getD n State.reset
def nfAt (n : Nat) : State := mod (stateAt n) fun d => d.fset Reg.tbase_NOMINAL_FREQ 8000000

/-- States and operands that meet the hypotheses of WeftCarriesRawCodes. -/
theorem witness_WeftCarriesRawCodes :
  (∃ (d : Dev) (raw : List (BitVec 12)) (x tick : Nat) (free : Int) (good : KMap (Nat × Int)) (prev : Option TickData) (next : TickData),
    (d.mode < 3) ∧
    ((∀ g < 4, d.flag Reg.loom_CORR_BYPASS g = true)) ∧
    ((∀ g < 4, ∀ p < 32, d.patched g p = false)) ∧
    (x ∈ sampledInputs d.mode) ∧
    ((∀ t, prev = some t → t.samples.length = 128))) ∧
  (∃ (x : Int),
    (-2048 ≤ x) ∧
    (x ≤ 2047)) ∧
  (∃ (x offset : Int) (gain : Nat),
    (-131072 ≤ (2 * ((x * 16 - offset) * gain) + 4194304).fdiv 8388608) ∧
    ((2 * ((x * 16 - offset) * gain) + 4194304).fdiv 8388608 ≤ 131071)) := by
  refine ⟨⟨((List.range 4).foldl (fun d g => d.fbit Reg.loom_CORR_BYPASS true g) State.reset.dev), raw1, 0, 0, 0, [], none, td, ?_⟩,
    ⟨0, ?_⟩,
    ⟨0, 0, 0, ?_⟩⟩ <;>
    first | (unfold Dev.TakesCmd; decide +kernel) | (unfold Dev.AssayIdle; decide +kernel) | (unfold Dev.TakesFrame; decide +kernel) | (unfold Dev.Outstanding; decide +kernel) | (unfold khzOut maxKhz; cases Config.partBE <;> decide +kernel) | decide +kernel

/-- States and operands that meet the hypotheses of WeftEmitTicks. -/
theorem witness_WeftEmitTicks :
  (∃ (s : State) (raw : List (BitVec 12)),
    (s.dev.fore.off = false) ∧
    (s.dev.sliceClock = false)) ∧
  (∃ (s : State) (raw : List (BitVec 12)),
    (s.dev.fore.off = false) ∧
    (s.dev.sliceClock = true) ∧
    (s.dev.loom.run = none) ∧
    ((∀ p ∈ s.dev.clk.dlls, p.2.trims = none))) ∧
  (∃ (s : State) (raw : List (BitVec 12)) (k : Nat),
    (s.dev.fore.off = false) ∧
    (s.dev.sliceClock = true) ∧
    (s.dev.loom.run = some k) ∧
    (s.dev.loom.cur = none) ∧
    ∃ (g : Nat),
    (g < 4)) ∧
  (∃ (s : State) (raw : List (BitVec 12)) (k : Nat) (c : TickData),
    (s.dev.fore.off = false) ∧
    (s.dev.sliceClock = true) ∧
    (s.dev.loom.run = some k) ∧
    (s.dev.loom.cur = some c) ∧
    (k < 65) ∧
    (s.dev.trig.todo = []) ∧
    ((∀ n < 8, (s.dev.ticc n).waiting = false)) ∧
    ((∀ p ∈ s.dev.clk.dlls, p.2.trims = none))) ∧
  (∃ (s : State) (raw : List (BitVec 12)) (k : Nat) (c : TickData),
    (s.dev.fore.off = false) ∧
    (s.dev.sliceClock = true) ∧
    (s.dev.loom.run = some k) ∧
    (s.dev.loom.cur = some c) ∧
    (65 ≤ k) ∧
    (s.dev.trig.todo = []) ∧
    ((∀ n < 8, (s.dev.ticc n).waiting = false)) ∧
    let ws := (sampledInputs s.dev.mode).map fun x =>
      weftOf s.dev.mode x s.dev.loom.tick (toSigned 18 (Config.freeValue s.dev.freeCtr)) s.dev.loom.lastGood s.dev.loom.prev c (s.dev.sampleTick raw)
    ((ws.any fun w => w.clip) = true)) ∧
  (∃ (s : State) (raw : List (BitVec 12)) (k : Nat) (c : TickData),
    (s.dev.fore.off = false) ∧
    (s.dev.sliceClock = true) ∧
    (s.dev.loom.run = some k) ∧
    (s.dev.loom.cur = some c) ∧
    (65 ≤ k) ∧
    (s.dev.trig.todo = []) ∧
    ((∀ n < 8, (s.dev.ticc n).waiting = false)) ∧
    ((∀ r < 4, (s.dev.ring r).writing = false)) ∧
    ((∀ n < 8, s.dev.chainOn n = false))) := by
  refine ⟨⟨(stateAt 0), ((progB 12 11 37 128)), ?_⟩,
    ⟨(stateAt 20), ((progB 12 11 37 128)), ?_⟩,
    ⟨(stateAt 3), ((progB 12 11 37 128)), 3, ?_, ?_, ?_, ?_, 0, ?_⟩,
    ⟨(stateAt 6), raw1, 64, td, ?_⟩,
    ⟨(stateAt 16), raw1, 70, td2, ?_, ?_, ?_, ?_, ?_, ?_, ?_, ?_⟩,
    ⟨(stateAt 4), raw1, 70, td, ?_⟩⟩ <;>
    first | (unfold Dev.TakesCmd; decide +kernel) | (unfold Dev.AssayIdle; decide +kernel) | (unfold Dev.TakesFrame; decide +kernel) | (unfold Dev.Outstanding; decide +kernel) | (unfold khzOut maxKhz; cases Config.partBE <;> decide +kernel) | decide +kernel

/-- States and operands that meet the hypotheses of InputModesAndQuietChecks. -/
theorem witness_InputModesAndQuietChecks :
  (∃ (s : State) (who : Requester) (val : Word),
    (s.dev.fore.off = false) ∧
    (s.dev.flag Reg.hdr_FREEZE 12 = false) ∧
    (val.toNat % 4 ≠ s.dev.mode) ∧
    (s.dev.armed = true ∨ val.toNat % 4 = 3)) ∧
  (∃ (s : State) (who : Requester) (val : Word),
    (s.dev.fore.off = false) ∧
    (s.dev.flag Reg.hdr_FREEZE 12 = false) ∧
    (val.toNat % 4 = s.dev.mode) ∧
    (s.dev.expertOpen 12 = true)) ∧
  (∃ (s : State) (who : Requester) (val : Word),
    (s.dev.fore.off = false) ∧
    (s.dev.flag Reg.hdr_FREEZE 12 = false) ∧
    (val.toNat % 4 ≠ s.dev.mode) ∧
    (s.dev.armed = false) ∧
    (val.toNat % 4 ≠ 3) ∧
    (s.dev.trig.todo = []) ∧
    ∃ (x : Nat),
    (x < 4)) ∧
  (∃ (s : State) (who : Requester) (val : Word),
    (s.dev.fore.off = false) ∧
    (s.dev.flag Reg.hdr_FREEZE 12 = false) ∧
    (val.toNat % 4 ≠ s.dev.mode) ∧
    (s.dev.armed = false) ∧
    (val.toNat % 4 ≠ 3) ∧
    (s.dev.trig.todo = []) ∧
    ∃ (b : _),
    (b ∈ [Part.tctl, .bus, .tally, .vern, .tic, .bench, .mem, .cas, .aux])) ∧
  (∃ (s : State) (who : Requester) (val : Word),
    (s.dev.fore.off = false) ∧
    (s.dev.flag Reg.hdr_FREEZE 12 = false) ∧
    (val.toNat % 4 ≠ s.dev.mode) ∧
    (s.dev.armed = false) ∧
    (val.toNat % 4 ≠ 3) ∧
    (s.dev.trig.todo = []) ∧
    (s.dev.loom.cur = none) ∧
    ∃ (b : _),
    (b ∈ [Part.clk, .tb, .tabs])) ∧
  (∃ (s : State) (k : Nat),
    (s.dev.fore.off = false) ∧
    (s.dev.loom.run = some k) ∧
    (64 ≤ k) ∧
    (s.dev.assay.startupWait = false)) ∧
  (∃ (s : State) (who : Requester) (x : Fin 4) (val : Word),
    (s.dev.fore.off = false) ∧
    (s.dev.flag Reg.hdr_FREEZE (8 + x) = false) ∧
    (rwlOpen (s.dev.fget Reg.life_STATE) = true) ∧
    ∃ (k : _),
    (k ≠ 4 * x.val + s.dev.mode)) ∧
  (∃ (s : State) (who : Requester) (x : Fin 4) (val : Word),
    (s.dev.fore.off = false) ∧
    (s.dev.flag Reg.hdr_FREEZE (8 + x) = false) ∧
    (rwlOpen (s.dev.fget Reg.life_STATE) = false)) ∧
  (∃ (s : State) (who : Requester) (x : Fin 4),
    (s.dev.fore.off = false) ∧
    (s.dev.flag Reg.hdr_FREEZE (8 + x) = false) ∧
    (x.val ∉ sampledInputs s.dev.mode)) ∧
  (∃ (s : State) (who : Requester) (x : Fin 4),
    (s.dev.fore.off = false) ∧
    (s.dev.flag Reg.hdr_FREEZE (8 + x) = false) ∧
    (x.val ∈ sampledInputs s.dev.mode) ∧
    ((KMap.find s.dev.loom.quiet x).isSome = true)) ∧
  (∃ (s : State) (who : Requester) (x : Fin 4),
    (s.dev.fore.off = false) ∧
    (s.dev.flag Reg.hdr_FREEZE (8 + x) = false) ∧
    (x.val ∈ sampledInputs s.dev.mode) ∧
    (KMap.find s.dev.loom.quiet x = none) ∧
    (s.dev.clksOk = true)) ∧
  (∃ (s : State) (who : Requester) (x : Fin 4),
    (s.dev.fore.off = false) ∧
    (s.dev.flag Reg.hdr_FREEZE (8 + x) = false) ∧
    (x.val ∈ sampledInputs s.dev.mode) ∧
    (KMap.find s.dev.loom.quiet x = none) ∧
    (s.dev.clksOk = false)) ∧
  (∃ (s : State) (x : Fin 4) (q : QuietCheck),
    (s.dev.fore.off = false) ∧
    (KMap.find s.dev.loom.quiet x = some q) ∧
    (q.assayer = false) ∧
    (q.n = 0)) ∧
  (∃ (s : State) (x : Fin 4) (q : QuietCheck),
    (s.dev.fore.off = false) ∧
    (KMap.find s.dev.loom.quiet x = some q) ∧
    (q.assayer = false) ∧
    (q.n ≠ 0) ∧
    let mOk := q.meanOk (s.dev.fget Reg.fe_MEAN_LIMIT x)
    let nOk := q.noiseOk (s.dev.fget Reg.fe_RMS_LIMIT x)
    ((mOk && nOk && !q.clip) = false)) := by
  refine ⟨⟨(stateAt 0), (Requester.host), (3#32), ?_⟩,
    ⟨(stateAt 10), (Requester.host), (0#32), ?_⟩,
    ⟨(stateAt 0), (Requester.host), (1#32), ?_, ?_, ?_, ?_, ?_, ?_, 0, ?_⟩,
    ⟨(stateAt 0), (Requester.host), (1#32), ?_, ?_, ?_, ?_, ?_, ?_, (Part.tctl), ?_⟩,
    ⟨(stateAt 0), (Requester.host), (1#32), ?_, ?_, ?_, ?_, ?_, ?_, ?_, (Part.clk), ?_⟩,
    ⟨(stateAt 4), 70, ?_⟩,
    ⟨(stateAt 0), (Requester.host), 0, (0#32), ?_, ?_, ?_, 1, ?_⟩,
    ⟨(stateAt 17), (Requester.host), 0, (0#32), ?_⟩,
    ⟨(stateAt 0), (Requester.host), 1, ?_⟩,
    ⟨(stateAt 8), (Requester.host), 0, ?_⟩,
    ⟨(stateAt 1), (Requester.host), 0, ?_⟩,
    ⟨(stateAt 0), (Requester.host), 0, ?_⟩,
    ⟨(stateAt 8), 3, ({ n := 0, sum := 0, sumSq := 0, clip := false, assayer := false }), ?_⟩,
    ⟨(stateAt 8), 2, ({ n := 128, sum := 500000000, sumSq := 1000000000000000000, clip := true, assayer := false }), ?_⟩⟩ <;>
    first | (unfold Dev.TakesCmd; decide +kernel) | (unfold Dev.AssayIdle; decide +kernel) | (unfold Dev.TakesFrame; decide +kernel) | (unfold Dev.Outstanding; decide +kernel) | (unfold khzOut maxKhz; cases Config.partBE <;> decide +kernel) | decide +kernel

/-- States and operands that meet the hypotheses of SlicesRetiredAndFailed. -/
theorem witness_SlicesRetiredAndFailed :
  (∃ (s : State) (who : Requester) (n : BitVec 8) (st : Nat),
    (s.dev.fore.off = false) ∧
    (s.dev.flag Reg.hdr_FREEZE 16 = false) ∧
    (s.dev.expertOpen 16 = true) ∧
    (n.toNat ≤ 135) ∧
    let g := n.toNat / 34
    let i := n.toNat % 34
    (s.dev.role g i = 0) ∧
    (s.dev.freeSpare g 3 = some st) ∧
    (s.dev.retiring g = false) ∧
    (KMap.find s.dev.assay.runs g = none)) ∧
  (∃ (s : State) (who : Requester) (n : BitVec 8) (st : Nat),
    (s.dev.fore.off = false) ∧
    (s.dev.flag Reg.hdr_FREEZE 16 = false) ∧
    (s.dev.expertOpen 16 = true) ∧
    (n.toNat ≤ 135) ∧
    let g := n.toNat / 34
    let i := n.toNat % 34
    (s.dev.role g i = 0) ∧
    (s.dev.freeSpare g 3 = some st) ∧
    (s.dev.retiring g = false) ∧
    ∃ (r : _),
    (KMap.find s.dev.assay.runs g = some r) ∧
    (r.pos.isSome = true)) ∧
  (∃ (s : State) (who : Requester) (n : BitVec 8),
    (s.dev.fore.off = false) ∧
    (s.dev.flag Reg.hdr_FREEZE 16 = false) ∧
    (s.dev.expertOpen 16 = true) ∧
    (135 < n.toNat)) ∧
  (∃ (s : State) (who : Requester) (n : BitVec 8),
    (s.dev.fore.off = false) ∧
    (s.dev.flag Reg.hdr_FREEZE 16 = false) ∧
    (s.dev.expertOpen 16 = true) ∧
    (n.toNat ≤ 135) ∧
    ((s.dev.role (n.toNat / 34) (n.toNat % 34) ≠ 0 ∨ s.dev.freeSpare (n.toNat / 34) 3 = none ∨ s.dev.retiring (n.toNat / 34) = true))) ∧
  (∃ (s : State) (who : Requester) (n : BitVec 8),
    (s.dev.fore.off = false) ∧
    (s.dev.flag Reg.hdr_FREEZE 16 = false) ∧
    (s.dev.expertOpen 16 = false)) ∧
  (∃ (s : State) (g : Fin 4) (b : Bring),
    (s.dev.fore.off = false) ∧
    (s.dev.fore.injecting = false) ∧
    (s.dev.loom.brings = [b]) ∧
    (b.group = g) ∧
    (b.kind = .retire) ∧
    (b.ready ≤ s.dev.sampTick) ∧
    (b.pos < 32) ∧
    (b.phys < 34) ∧
    (s.dev.AssayIdle g) ∧
    let old := s.dev.alloc g b.pos
    (old < 34) ∧
    (old ≠ b.phys) ∧
    ∃ (p : Nat),
    (p < 32) ∧
    (p ≠ b.pos)) ∧
  (∃ (s : State) (n : Fin 136) (st : Nat),
    (s.dev.fore.off = false) ∧
    let g := n.val / 34
    let i := n.val % 34
    (s.dev.role g i = 0) ∧
    (s.dev.freeSpare g 3 = some st) ∧
    (s.dev.retiring g = false) ∧
    (s.dev.AssayIdle g)) ∧
  (∃ (s : State) (n : Fin 136),
    (s.dev.fore.off = false) ∧
    let g := n.val / 34
    let i := n.val % 34
    let p := s.dev.posOf g i
    (s.dev.role g i = 0) ∧
    (p < 32) ∧
    (s.dev.freeSpare g 3 = none) ∧
    (s.dev.freeSpare g 1 = none) ∧
    (s.dev.withRole g 2 = []) ∧
    (s.dev.retiring g = false) ∧
    (s.dev.AssayIdle g)) ∧
  (∃ (s : State) (g : Fin 4) (pos : Fin 32) (b : Bring),
    (s.dev.fore.off = false) ∧
    (s.dev.fore.injecting = false) ∧
    (s.dev.fore.marks = []) ∧
    (s.dev.loom.brings = [b]) ∧
    (b.group = g) ∧
    (b.pos = pos) ∧
    (b.kind = .cover) ∧
    (b.ready ≤ s.dev.sampTick) ∧
    (b.phys < 34) ∧
    (b.failed < 34) ∧
    ∃ (p : Nat),
    (p < 32) ∧
    (p ≠ pos.val)) ∧
  (∃ (s : State) (g : Fin 4) (pos : Fin 32) (b : Bring),
    (s.dev.fore.off = false) ∧
    (s.dev.fore.injecting = false) ∧
    (s.dev.fore.marks = []) ∧
    (s.dev.loom.brings = [b]) ∧
    (b.group = g) ∧
    (b.pos = pos) ∧
    (b.kind = .cover) ∧
    (b.ready ≤ s.dev.sampTick) ∧
    (b.phys < 34) ∧
    (b.failed < 34) ∧
    (s.dev.role g b.phys = 3)) ∧
  (∃ (s : State) (n : Fin 136),
    (s.dev.fore.off = false) ∧
    let g := n.val / 34
    (s.dev.role g (n.val % 34) = 3) ∧
    (s.dev.AssayIdle g) ∧
    (s.dev.loom.brings = [])) ∧
  (∃ (s : State) (n : Fin 136),
    (s.dev.fore.off = false) ∧
    let g := n.val / 34
    let i := n.val % 34
    (s.dev.role g i = 1) ∧
    (s.dev.AssayIdle g) ∧
    (s.dev.loom.brings = []) ∧
    ∃ (st : _),
    (s.dev.freeSpare g 3 = some st)) ∧
  (∃ (s : State) (n : Fin 136),
    (s.dev.fore.off = false) ∧
    let g := n.val / 34
    let i := n.val % 34
    (s.dev.role g i = 1) ∧
    (s.dev.AssayIdle g) ∧
    (s.dev.loom.brings = []) ∧
    (s.dev.freeSpare g 3 = none)) := by
  refine ⟨⟨(stateAt 10), (Requester.host), (0#8), 33, ?_⟩,
    ⟨(stateAt 19), (Requester.host), (0#8), 33, ?_, ?_, ?_, ?_, ?_, ?_, ?_, ({ phys := 3, pos := some 3, phase := RunPhase.dc, temp := 5, khz := 0, dc := none, fine := none, results := false }), ?_⟩,
    ⟨(stateAt 10), (Requester.host), (0x88#8), ?_⟩,
    ⟨(stateAt 10), (Requester.host), (0x21#8), ?_⟩,
    ⟨(stateAt 0), (Requester.host), (0#8), ?_⟩,
    ⟨(stateAt 11), 1, ({ group := 1, phys := 33, pos := 2, ready := 3, kind := BringKind.retire, failed := 0 }), ?_, ?_, ?_, ?_, ?_, ?_, ?_, ?_, ?_, ?_, ?_, 0, ?_⟩,
    ⟨(stateAt 0), 0, 33, ?_⟩,
    ⟨(stateAt 14), 0, ?_⟩,
    ⟨(stateAt 12), 2, 2, ({ group := 2, phys := 33, pos := 2, ready := 3, kind := BringKind.cover, failed := 5 }), ?_, ?_, ?_, ?_, ?_, ?_, ?_, ?_, ?_, ?_, 0, ?_⟩,
    ⟨(stateAt 12), 2, 2, ({ group := 2, phys := 33, pos := 2, ready := 3, kind := BringKind.cover, failed := 5 }), ?_⟩,
    ⟨(stateAt 0), 33, ?_⟩,
    ⟨(stateAt 0), 32, ?_, ?_, ?_, ?_, 33, ?_⟩,
    ⟨(stateAt 23), 32, ?_⟩⟩ <;>
    first | (unfold Dev.TakesCmd; decide +kernel) | (unfold Dev.AssayIdle; decide +kernel) | (unfold Dev.TakesFrame; decide +kernel) | (unfold Dev.Outstanding; decide +kernel) | (unfold khzOut maxKhz; cases Config.partBE <;> decide +kernel) | decide +kernel

end P09

namespace P10
def rB : AssayRun := { phys := 4, pos := some 4, phase := .live, temp := 5, dc := some (3, 4000000) }
def rI : AssayRun := { phys := 33, pos := none, phase := .returning, temp := 5, dc := some (-32768, 4194304) }
def cmd4 : Cmd := ⟨4, 0x20, 0, 1, 7, 6, [], none⟩
def b3 : Bring := { group := 1, phys := 32, pos := 4, ready := 3, kind := .borrow }
def b4 : Bring := { group := 1, phys := 4, pos := 4, ready := 3, kind := .giveBack }
def cA : Commit := { target := 1, step := 0, retried := false, serves := [], image := {seq := 9} }
def rol (d : Dev) : Dev := (List.range 4).foldl (fun d g => ((d.setRole g 33 3).setRole g 32 1)) d
def lk (d : Dev) : Dev := { rol (upDev d) with clk.dlls := (List.range 4).map fun g => (g, {phase := .locked}), loom.everRun := true, loom.run := some 70, loom.tick := 9, assay.loaded := some {seq := 3} }.fbit Reg.clk_STEADY true
def due (d : Dev) : Dev := (lk d).setQuality 5 1 (2000 + 65536 * 9000) |>.setQuality (34+7) 1 (2000 + 65536 * 8000)
def pool : List State := [State.reset, wit lk, wit due, wit (fun d => (due d).fset Reg.clk_ISLREF_SRC 0), wit (frozenAt 17)]
 ++ ([rB, rI, {rB with phase := .dc}, {rB with phase := .waitSteady}, {rI with phase := .live}, {rB with phase := .bringing}, {rB with phase := .returning, results := true, fine := some (5, [1])}, {rI with results := true, fine := some (-300, [])}, {rI with results := true, phys := 4, dc := none}, {rI with results := true, phys := 4, fine := some (5,[1])},  {rB with phase := .returning}] : List AssayRun).map (fun r => wit (fun d => { (due d).fset Reg.clk_ISLREF_SRC 0 with assay.runs := [(0, r), (1, r)]}))
 ++ ([rB, rI, {rB with phase := .dc}, {rB with phase := .waitSteady}, {rI with phase := .live}, {rB with phase := .bringing}, {rB with phase := .returning, results := true, fine := some (5, [1])}, {rI with results := true, fine := some (-300, [])}, {rI with results := true, phys := 4, dc := none}, {rI with results := true, phys := 4, fine := some (5,[1])},  {rB with phase := .returning}] : List AssayRun).map (fun r => wit (fun d => { (due d).fset Reg.clk_ISLREF_SRC 0 |>.fbit Reg.clk_STEADY false with assay.runs := [(1, r)], loom.brings := [b3]}))
 ++ ([rB, rI, {rB with phase := .dc}, {rB with phase := .waitSteady}, {rI with phase := .live}, {rB with phase := .bringing}, {rB with phase := .returning, results := true, fine := some (5, [1])}, {rI with results := true, fine := some (-300, [])}, {rI with results := true, phys := 4, dc := none}, {rI with results := true, phys := 4, fine := some (5,[1])},  {rB with phase := .returning}] : List AssayRun).flatMap (fun r => [wit (fun d => { (due d).fset Reg.clk_ISLREF_SRC 0 |>.fbit Reg.clk_ISLREF_HOLDOVER false with assay.runs := [(0, r), (1, r)]}), wit (fun d => { (due d).fset Reg.clk_ISLREF_SRC 0 |>.fbit Reg.clk_ISLREF_HOLDOVER false |>.fbit Reg.clk_STEADY false with assay.runs := [(1, r)], loom.brings := [b3]})])
 ++ ([cA, {cA with step := 5, target := 0}, {cA with step := 512}, {cA with retried := true}, {cA with step := 512, target := 0, retried := true}] : List Commit).map (fun r => wit (fun d => { (due d) with assay.commit := some r}.fset Reg.assay_ACTIVE 1))
 ++ [wit (fun d => (lk d).fbit Reg.acq_ARMED true), wit (fun d => (lk d).fset Reg.loom_MODE 1 |>.fset Reg.assay_PENDING 9), wit (fun d => { lk d with assay.fg := [(0, 4), (3, 0)]}.fset Reg.loom_MODE 2 |>.fset Reg.assay_FG_BUSY 9),
  wit (fun d => { lk d with assay.commitReq := true}), wit (fun d => { lk d with assay.commitReq := true}.fset Reg.assay_ACTIVE 1 |>.fbit Reg.assay_CALB0_FAILED true),
  wit (fun d => { lk d with assay.commitReq := true, assay.commitManual := true}.fset Reg.assay_MANUAL 5 |>.tset 12 0 0 4 77 |>.tset 12 0 0 2 78),
  wit (fun d => { lk d with assay.cmds := [{cmd := 4, groups := 3}], qm.cmds := [cmd4], qm.ctx := [(1, { typ := 2, cls := 1, log2 := 4, state := 1, head := 17, tail := 20, base := 4096 })] }.fset Reg.assay_PENDING 3),
  wit (fun d => { lk d with assay.fg := [(0, 33)]}.fset Reg.assay_FG_BUSY 1), wit (fun d => { lk d with assay.fg := [(1, 4)]}.fbit Reg.assay_WAIT_STEADY true 1 |>.fset Reg.clk_ISLREF_SRC 0 |>.fbit Reg.clk_ISLREF_HOLDOVER false),
  wit (fun d => (due d).fbit Reg.loom_BORROW_STOPPED true 0), wit (fun d => (due d).fset Reg.assay_BLACKOUT 3),  wit (fun d => ((lk d).setQuality 32 1 (2000 + 65536 * 9000))),
  wit (fun d => { due d with assay.commit := some {cA with retried := true} }.fbit Reg.assay_CALB0_FAILED true)]
  ++ [wit (fun d => { (due d).setRole 1 32 2 |>.setRole 1 4 4 |>.fbit Reg.loom_CAL_SPARE_BUSY true 1 |>.fset Reg.assay_MANUAL 15 with assay.runs := [(1, {rB with phase := .returning, results := true, fine := some (5, [1])})], loom.brings := [b4]})]
  ++ ([rB, rI, {rB with phase := .dc}, {rB with phase := .waitSteady}, {rI with phase := .live}, {rB with phase := .bringing}, {rB with phase := .returning, results := true, fine := some (5, [1])}, {rI with results := true, fine := some (-300, [])}, {rI with results := true, phys := 4, dc := none}, {rI with results := true, phys := 4, fine := some (5,[1])},  {rB with phase := .returning}] : List AssayRun).map (fun r => wit (fun d => { (due d).setRole 1 32 2 |>.setRole 1 4 4 |>.fbit Reg.loom_CAL_SPARE_BUSY true 1 with assay.runs := [(1, r)], loom.brings := [b4]}))
def stateAt (n : Nat) : State := (pool).getD n State.reset
def nfAt (n : Nat) : State := mod (stateAt n) fun d => d.fset Reg.tbase_NOMINAL_FREQ 8000000

/-- States and operands that meet the hypotheses of BackgroundRuns. -/
theorem witness_BackgroundRuns :
  (∃ (s : State) (temps : List Int),
    (s.dev.fore.off = false) ∧
    (temps.length = 136) ∧
    ∃ (n : Nat),
    (n < 136)) ∧
  (∃ (s : State) (g : Fin 4) (i : Nat),
    (s.dev.fore.off = false) ∧
    (s.dev.groupFree g = true) ∧
    (s.dev.romRecovery = false) ∧
    (s.dev.nextRun g = some i) ∧
    (i < 34) ∧
    (s.dev.role g i = 0) ∧
    (s.dev.flag Reg.loom_BORROW_STOPPED g = false) ∧
    ∃ (cs : _),
    (s.dev.freeSpare g 1 = some cs)) ∧
  (∃ (s : State) (g : Fin 4) (i : Nat),
    (s.dev.fore.off = false) ∧
    (s.dev.groupFree g = true) ∧
    (s.dev.romRecovery = false) ∧
    (s.dev.nextRun g = some i) ∧
    (i < 34) ∧
    (s.dev.role g i ≠ 0)) ∧
  (∃ (s : State) (g : Fin 4) (i : Nat),
    (s.dev.fore.off = false) ∧
    (s.dev.groupFree g = true) ∧
    (s.dev.romRecovery = false) ∧
    (s.dev.nextRun g = some i) ∧
    (i < 34) ∧
    (s.dev.role g i = 0) ∧
    (s.dev.flag Reg.loom_BORROW_STOPPED g = true)) ∧
  (∃ (s : State) (g : Fin 4) (i : Nat),
    (s.dev.fore.off = false) ∧
    (s.dev.groupFree g = true) ∧
    (s.dev.romRecovery = false) ∧
    (s.dev.nextRun g = some i) ∧
    (i < 34) ∧
    (s.dev.blackout g = true)) ∧
  (∃ (s : State) (g : Fin 4) (r : AssayRun) (below above : List Int),
    (s.dev.fore.off = false) ∧
    (KMap.find s.dev.assay.runs g = some r) ∧
    (r.phase = .dc)) ∧
  (∃ (a : Int) (free : Nat),
    (-2047 ≤ a) ∧
    (a ≤ 2047)) ∧
  (∃ (s : State) (g : Fin 4) (r : AssayRun) (stdErr : Nat) (trim : Int) (fir : List Int) (nb : Option (Int × Int)),
    (s.dev.fore.off = false) ∧
    (KMap.find s.dev.assay.runs g = some r) ∧
    (r.phase = .live) ∧
    (r.pos = none)) ∧
  (∃ (s : State) (g : Fin 4) (r : AssayRun) (stdErr : Nat) (trim : Int) (fir : List Int) (nb : Option (Int × Int)),
    (s.dev.fore.off = false) ∧
    (KMap.find s.dev.assay.runs g = some r) ∧
    (r.phase = .live) ∧
    ∃ (p : _),
    (r.pos = some p)) ∧
  (∃ (s : State) (g : Fin 4) (r : AssayRun) (f : QualityFigures),
    (s.dev.fore.off = false) ∧
    (KMap.find s.dev.assay.runs g = some r) ∧
    (r.phase = .returning) ∧
    (r.results = true) ∧
    (r.pos = none) ∧
    (s.dev.owns g = true) ∧
    (KMap.find s.dev.assay.bgOnly g = none) ∧
    (bitAt s.dev.assay.fgDue g = false) ∧
    (KMap.find s.dev.loom.retireWait g = none) ∧
    (r.phys < 34) ∧
    ((s.dev.tctlOf (12 + g) 0).bank < 2) ∧
    ∃ (offset gain : _),
    (r.dc = some (offset, gain)) ∧
    (-32768 ≤ offset) ∧
    (offset ≤ 32767) ∧
    (0 ≤ gain) ∧
    (gain < 2 ^ 24)) ∧
  (∃ (s : State) (g : Fin 4) (r : AssayRun) (f : QualityFigures),
    (s.dev.fore.off = false) ∧
    (KMap.find s.dev.assay.runs g = some r) ∧
    (r.phase = .returning) ∧
    (r.results = true) ∧
    (r.pos = none) ∧
    (s.dev.owns g = true) ∧
    (KMap.find s.dev.assay.bgOnly g = none) ∧
    (bitAt s.dev.assay.fgDue g = false) ∧
    (KMap.find s.dev.loom.retireWait g = none) ∧
    (r.phys < 34) ∧
    ((s.dev.tctlOf (12 + g) 0).bank < 2) ∧
    (r.dc = none)) ∧
  (∃ (s : State) (g : Fin 4) (r : AssayRun) (f : QualityFigures),
    (s.dev.fore.off = false) ∧
    (KMap.find s.dev.assay.runs g = some r) ∧
    (r.phase = .returning) ∧
    (r.results = true) ∧
    (r.pos = none) ∧
    (s.dev.owns g = true) ∧
    (KMap.find s.dev.assay.bgOnly g = none) ∧
    (bitAt s.dev.assay.fgDue g = false) ∧
    (KMap.find s.dev.loom.retireWait g = none) ∧
    (r.phys < 34) ∧
    ((s.dev.tctlOf (12 + g) 0).bank < 2) ∧
    ∃ (trim fir : _),
    (r.fine = some (trim, fir)) ∧
    (s.dev.posOf g r.phys < 32)) ∧
  (∃ (s : State) (g : Fin 4) (r : AssayRun) (f : QualityFigures),
    (s.dev.fore.off = false) ∧
    (KMap.find s.dev.assay.runs g = some r) ∧
    (r.phase = .returning) ∧
    (r.results = true) ∧
    (r.pos = none) ∧
    (s.dev.owns g = true) ∧
    (KMap.find s.dev.assay.bgOnly g = none) ∧
    (bitAt s.dev.assay.fgDue g = false) ∧
    (KMap.find s.dev.loom.retireWait g = none) ∧
    (r.phys < 34) ∧
    ((s.dev.tctlOf (12 + g) 0).bank < 2) ∧
    let n := 34 * g.val + r.phys
    (s.dev.residOut f = true) ∧
    (bitAt (s.dev.quality n 3) 2 = false)) ∧
  (∃ (s : State) (g : Fin 4) (r : AssayRun) (f : QualityFigures) (b : Bring) (p cs : Nat),
    (s.dev.fore.off = false) ∧
    (KMap.find s.dev.assay.runs g = some r) ∧
    (r.phase = .returning) ∧
    (r.results = true) ∧
    (r.pos = some p) ∧
    (s.dev.loom.brings = [b]) ∧
    (b.group = g) ∧
    (b.kind = .giveBack) ∧
    (b.ready ≤ s.dev.sampTick) ∧
    (s.dev.withRole g 2 = [cs]) ∧
    (r.phys < 34) ∧
    (r.phys ≠ cs) ∧
    (KMap.find s.dev.loom.coverWait g = none) ∧
    (KMap.find s.dev.assay.bgOnly g = none) ∧
    (bitAt s.dev.assay.fgDue g = false) ∧
    (KMap.find s.dev.loom.retireWait g = none) ∧
    (s.dev.owns g = false) ∧
    ∃ (a : Nat),
    (a < 544)) ∧
  (∃ (s : State) (g : Fin 4) (b : Bring) (r : AssayRun),
    (s.dev.fore.off = false) ∧
    (s.dev.loom.brings = [b]) ∧
    (b.group = g) ∧
    (b.kind = .borrow) ∧
    (b.ready ≤ s.dev.sampTick) ∧
    (KMap.find s.dev.assay.runs g = some r) ∧
    (b.phys < 34) ∧
    (r.phys < 34) ∧
    (b.phys ≠ r.phys) ∧
    (b.pos < 32)) ∧
  (∃ (s : State) (g : Fin 4) (b : Bring) (r : AssayRun) (cs : Nat),
    (s.dev.fore.off = false) ∧
    (s.dev.loom.brings = [b]) ∧
    (b.group = g) ∧
    (b.kind = .giveBack) ∧
    (b.ready ≤ s.dev.sampTick) ∧
    (KMap.find s.dev.assay.runs g = some r) ∧
    (r.results = false) ∧
    (b.phys < 34) ∧
    (s.dev.withRole g 2 = [cs]) ∧
    (b.phys ≠ cs) ∧
    (KMap.find s.dev.loom.coverWait g = none) ∧
    (bitAt s.dev.assay.fgDue g = false) ∧
    (KMap.find s.dev.loom.retireWait g = none)) ∧
  (∃ (s : State) (g : Fin 4) (r : AssayRun) (p : Nat),
    (s.dev.fore.off = false) ∧
    (KMap.find s.dev.assay.runs g = some r) ∧
    (r.phys < 34) ∧
    (r.pos = some p) ∧
    (r.phase ≠ .bringing) ∧
    (r.phase = .returning)) ∧
  (∃ (s : State) (g : Fin 4) (r : AssayRun) (p : Nat),
    (s.dev.fore.off = false) ∧
    (KMap.find s.dev.assay.runs g = some r) ∧
    (r.phys < 34) ∧
    (r.pos = some p) ∧
    (r.phase ≠ .bringing) ∧
    (r.phase ≠ .returning)) ∧
  (∃ (s : State) (g : Fin 4) (r : AssayRun),
    (s.dev.fore.off = false) ∧
    (KMap.find s.dev.assay.runs g = some r) ∧
    (r.phase = .waitSteady) ∧
    (s.dev.steadyAgain = true)) ∧
  (∃ (s : State) (g : Fin 4) (i : Nat),
    (s.dev.fore.off = false) ∧
    (KMap.find s.dev.assay.runs g = none) ∧
    (KMap.find s.dev.assay.fg g = some i) ∧
    (i < 34) ∧
    (s.dev.flag Reg.assay_WAIT_STEADY g = true) ∧
    (s.dev.steadyAgain = true)) ∧
  (∃ (s : State) (g : Fin 4) (trims : List Int) (map : List Nat),
    (s.dev.fore.off = false) ∧
    (trims.length = 16) ∧
    (map.length = 8) ∧
    ((∀ k < 16, -128 ≤ trims.getD k 0 ∧ trims.getD k 0 ≤ 127)) ∧
    ((s.dev.dll g).tapBad = false) ∧
    (s.dev.gatherOk = true) ∧
    ∃ (k : Nat),
    (k < 16)) ∧
  (∃ (s : State) (g : Fin 4) (trims : List Int) (map : List Nat),
    (s.dev.fore.off = false) ∧
    (trims.length = 16) ∧
    (map.length = 8) ∧
    ((∀ k < 16, -128 ≤ trims.getD k 0 ∧ trims.getD k 0 ≤ 127)) ∧
    ((s.dev.dll g).tapBad = false) ∧
    (s.dev.gatherOk = true) ∧
    ∃ (k : Nat),
    (k < 8)) ∧
  (∃ (s : State) (g : Fin 4) (trims : List Int) (map : List Nat),
    (s.dev.fore.off = false) ∧
    (trims.length = 16) ∧
    (map.length = 8) ∧
    ((∀ k < 16, -128 ≤ trims.getD k 0 ∧ trims.getD k 0 ≤ 127)) ∧
    ((s.dev.dll g).tapBad = true ∨ s.dev.gatherOk = false)) ∧
  (∃ (s : State) (g : Fin 4) (trims : List Int) (map : List Nat),
    (s.dev.fore.off = false) ∧
    (trims.length = 16) ∧
    (map.length = 8) ∧
    ((∀ k < 16, -128 ≤ trims.getD k 0 ∧ trims.getD k 0 ≤ 127)) ∧
    ∃ (k : Nat),
    (k < 4) ∧
    (k ≠ g.val)) := by
  refine ⟨⟨(stateAt 0), ((progI (-400) 37 136)), ?_, ?_, 0, ?_⟩,
    ⟨(stateAt 2), 0, 5, ?_, ?_, ?_, ?_, ?_, ?_, ?_, 32, ?_⟩,
    ⟨(stateAt 65), 0, 32, ?_⟩,
    ⟨(stateAt 63), 0, 5, ?_⟩,
    ⟨(stateAt 64), 0, 5, ?_⟩,
    ⟨(stateAt 7), 0, ({ phys := 4, pos := some 4, phase := RunPhase.dc, temp := 5, khz := 0, dc := some (3, 4000000), fine := none, results := false }), (List.replicate 4 (-400)), (List.replicate 5 37), ?_⟩,
    ⟨0, 0, ?_⟩,
    ⟨(stateAt 9), 0, ({ phys := 33, pos := none, phase := RunPhase.live, temp := 5, khz := 0, dc := some (-32768, 4194304), fine := none, results := false }), 0, 0, ((progI (-400) 37 136)), (none), ?_⟩,
    ⟨(stateAt 5), 0, rB, 0, 0, [], none, ?_, ?_, ?_, 4, ?_⟩,
    ⟨(stateAt 12), 0, {rI with results := true, fine := some (-300, [])}, ⟨1,2,3⟩, ?_, ?_, ?_, ?_, ?_, ?_, ?_, ?_, ?_, ?_, ?_, (-32768), 4194304, ?_⟩,
    ⟨(stateAt 13), 0, {rI with results := true, phys := 4, dc := none}, ⟨1,2,3⟩, ?_⟩,
    ⟨(stateAt 14), 0, {rI with results := true, phys := 4, fine := some (5, [1])}, ⟨1,2,3⟩, ?_, ?_, ?_, ?_, ?_, ?_, ?_, ?_, ?_, ?_, ?_, 5, [1], ?_⟩,
    ⟨(stateAt 13), 0, {rI with results := true, phys := 4, dc := none}, ⟨-30000,30000,-3⟩, ?_⟩,
    ⟨(stateAt 67), 1, {rB with phase := .returning, results := true, fine := some (5, [1])}, ⟨1,2,3⟩, b4, 4, 32, ?_, ?_, ?_, ?_, ?_, ?_, ?_, ?_, ?_, ?_, ?_, ?_, ?_, ?_, ?_, ?_, ?_, 0, ?_⟩,
    ⟨(stateAt 16), 1, ({ group := 1, phys := 32, pos := 4, ready := 3, kind := BringKind.borrow, failed := 0 }), ({ phys := 4, pos := some 4, phase := RunPhase.live, temp := 5, khz := 0, dc := some (3, 4000000), fine := none, results := false }), ?_⟩,
    ⟨(stateAt 68), 1, ({ group := 1, phys := 4, pos := 4, ready := 3, kind := BringKind.giveBack, failed := 0 }), ({ phys := 4, pos := some 4, phase := RunPhase.live, temp := 5, khz := 0, dc := some (3, 4000000), fine := none, results := false }), 32, ?_⟩,
    ⟨(stateAt 11), 0, ({ phys := 4, pos := some 4, phase := RunPhase.returning, temp := 5, khz := 0, dc := some (3, 4000000), fine := some (5, [1]), results := true }), 4, ?_⟩,
    ⟨(stateAt 5), 0, ({ phys := 4, pos := some 4, phase := RunPhase.live, temp := 5, khz := 0, dc := some (3, 4000000), fine := none, results := false }), 4, ?_⟩,
    ⟨(stateAt 8), 0, ({ phys := 4, pos := some 4, phase := RunPhase.waitSteady, temp := 5, khz := 0, dc := some (3, 4000000), fine := none, results := false }), ?_⟩,
    ⟨(stateAt 62), 1, 4, ?_⟩,
    ⟨(stateAt 1), 0, ([-128, -111, -94, -77, -60, -43, -26, -9, 8, 25, 42, 59, 76, 93, 110, 127]), ([2147483648, 2147483685, 2147483722, 2147483759, 2147483796, 2147483833, 2147483870, 2147483907]), ?_, ?_, ?_, ?_, ?_, ?_, 0, ?_⟩,
    ⟨(stateAt 1), 0, ([-128, -111, -94, -77, -60, -43, -26, -9, 8, 25, 42, 59, 76, 93, 110, 127]), ([2147483648, 2147483685, 2147483722, 2147483759, 2147483796, 2147483833, 2147483870, 2147483907]), ?_, ?_, ?_, ?_, ?_, ?_, 0, ?_⟩,
    ⟨(stateAt 0), 0, ([-128, -111, -94, -77, -60, -43, -26, -9, 8, 25, 42, 59, 76, 93, 110, 127]), ([2147483648, 2147483685, 2147483722, 2147483759, 2147483796, 2147483833, 2147483870, 2147483907]), ?_⟩,
    ⟨(stateAt 0), 0, ([-128, -111, -94, -77, -60, -43, -26, -9, 8, 25, 42, 59, 76, 93, 110, 127]), ([2147483648, 2147483685, 2147483722, 2147483759, 2147483796, 2147483833, 2147483870, 2147483907]), ?_, ?_, ?_, ?_, 1, ?_⟩⟩ <;>
    first | (unfold Dev.TakesCmd; decide +kernel) | (unfold Dev.AssayIdle; decide +kernel) | (unfold Dev.TakesFrame; decide +kernel) | (unfold Dev.Outstanding; decide +kernel) | (unfold khzOut maxKhz; cases Config.partBE <;> decide +kernel) | decide +kernel

/-- States and operands that meet the hypotheses of ForegroundRuns. -/
theorem witness_ForegroundRuns :
  (∃ (s : State) (who : Requester) (gs : BitVec 4),
    (s.dev.fore.off = false) ∧
    (s.dev.flag Reg.hdr_FREEZE 17 = false) ∧
    (s.dev.clksOk = true) ∧
    (gs = 0 ∨ s.dev.armed = true ∨ s.dev.fget Reg.assay_FG_BUSY &&& gs.toNat ≠ 0)) ∧
  (∃ (s : State) (who : Requester) (gs : BitVec 4),
    (s.dev.fore.off = false) ∧
    (s.dev.flag Reg.hdr_FREEZE 17 = false) ∧
    (s.dev.clksOk = true) ∧
    (gs ≠ 0) ∧
    (s.dev.armed = false) ∧
    (s.dev.fget Reg.assay_FG_BUSY &&& gs.toNat = 0) ∧
    ∃ (g : Nat),
    (g < 4) ∧
    (gs.toNat.testBit g = true)) ∧
  (∃ (s : State) (g : Fin 4) (c : SliceCoeffs) (f : QualityFigures) (i k : Nat),
    (s.dev.fore.off = false) ∧
    (KMap.find s.dev.assay.fg g = some i) ∧
    (i < 34) ∧
    (s.dev.role g i ≠ 5) ∧
    (s.dev.role g i ≠ 6) ∧
    (s.dev.flag Reg.assay_WAIT_STEADY g = false) ∧
    (s.dev.owns g = true) ∧
    (s.dev.fgNext g i = some k) ∧
    (k < 34) ∧
    (-32768 ≤ c.offset) ∧
    (c.offset ≤ 32767) ∧
    (0 ≤ c.gain) ∧
    (c.gain < 2 ^ 24) ∧
    (s.dev.posOf g i < 32) ∧
    ((s.dev.tctlOf (12 + g) 0).bank < 2)) ∧
  (∃ (s : State) (g : Fin 4) (c : SliceCoeffs) (f : QualityFigures) (i : Nat),
    (s.dev.fore.off = false) ∧
    (KMap.find s.dev.assay.fg g = some i) ∧
    (s.dev.flag Reg.assay_WAIT_STEADY g = false) ∧
    (s.dev.fgNext g i = none) ∧
    (s.dev.assay.cmds = []) ∧
    (s.dev.assay.startup = none)) ∧
  (∃ (s : State),
    (s.dev.fore.off = false) ∧
    (s.dev.clksOk = true) ∧
    ∃ (g : Nat),
    (g < 4) ∧
    (bitAt (s.dev.fget Reg.assay_PENDING) g = true)) ∧
  (∃ (s : State) (who : Requester),
    (s.dev.fore.off = false) ∧
    (s.dev.flag Reg.hdr_FREEZE 17 = false) ∧
    (s.dev.assay.cmds = [])) ∧
  (∃ (s : State) (who : Requester) (k : CalCmd) (c : Cmd),
    (s.dev.fore.off = false) ∧
    (s.dev.flag Reg.hdr_FREEZE 17 = false) ∧
    (s.dev.assay.cmds = [k]) ∧
    (k.cmd = c.id) ∧
    (s.dev.Outstanding c)) := by
  refine ⟨⟨(stateAt 1), (Requester.host), (0#4), ?_⟩,
    ⟨(stateAt 1), (Requester.host), (1#4), ?_, ?_, ?_, ?_, ?_, ?_, 0, ?_⟩,
    ⟨(stateAt 56), 0, ({ offset := 1, gain := 2, trim := 3, fir := [4] }), ({ offsetResid := 1, gainResid := 2, skewResid := 3 }), 4, 5, ?_⟩,
    ⟨(stateAt 61), 0, ({ offset := 1, gain := 2, trim := 3, fir := [4] }), ({ offsetResid := 1, gainResid := 2, skewResid := 3 }), 33, ?_⟩,
    ⟨(stateAt 55), ?_, ?_, 0, ?_⟩,
    ⟨(stateAt 0), (Requester.host), ?_⟩,
    ⟨(stateAt 60), (Requester.host), ({ cmd := 4, groups := 3, doneGroups := 0, background := 0 }), ({ id := 4, opcode := 32, sq := 0, cq := 1, tag := 7, sqHead := 6, entry := [], result := none }), ?_⟩⟩ <;>
    first | (unfold Dev.TakesCmd; decide +kernel) | (unfold Dev.AssayIdle; decide +kernel) | (unfold Dev.TakesFrame; decide +kernel) | (unfold Dev.Outstanding; decide +kernel) | (unfold khzOut maxKhz; cases Config.partBE <;> decide +kernel) | decide +kernel

/-- States and operands that meet the hypotheses of BankCommits. -/
theorem witness_BankCommits :
  (∃ (s : State) (who : Requester),
    (s.dev.fore.off = false) ∧
    (s.dev.flag Reg.hdr_FREEZE 17 = false)) ∧
  (∃ (s : State) (b : Nat),
    (s.dev.fore.off = false) ∧
    (s.dev.assay.commit = none) ∧
    (s.dev.assay.commitReq = true) ∧
    (s.dev.commitGapOver = true) ∧
    (s.dev.assay.loaded.isSome = true) ∧
    (s.dev.commitTarget = some b) ∧
    ∃ (g : Nat),
    (g < 4) ∧
    ∃ (i : Nat),
    (i < 34) ∧
    ∃ (v : _),
    (KMap.find s.dev.tabs (tkey (12 + g) 0 (s.dev.tctlOf (12 + g) 0).bank (2 * i)) = some v) ∧
    (bitAt (s.dev.fget Reg.assay_MANUAL) g = false ∨ s.dev.assay.commitManual = true)) ∧
  (∃ (s : State) (c : Commit),
    (s.dev.fore.off = false) ∧
    (s.dev.assay.commit = some c) ∧
    (c.target < 2) ∧
    (c.serves = []) ∧
    (c.step = 0)) ∧
  (∃ (s : State) (c : Commit),
    (s.dev.fore.off = false) ∧
    (s.dev.assay.commit = some c) ∧
    (c.target < 2) ∧
    (c.serves = []) ∧
    (0 < c.step) ∧
    (c.step < 512)) ∧
  (∃ (s : State) (c : Commit),
    (s.dev.fore.off = false) ∧
    (s.dev.assay.commit = some c) ∧
    (c.target < 2) ∧
    (c.serves = []) ∧
    (c.step < 512)) ∧
  (∃ (s : State) (c : Commit),
    (s.dev.fore.off = false) ∧
    (s.dev.assay.commit = some c) ∧
    (c.target < 2) ∧
    (c.serves = []) ∧
    (512 ≤ c.step)) ∧
  (∃ (s : State) (c : Commit),
    (s.dev.fore.off = false) ∧
    (s.dev.assay.commit = some c) ∧
    (c.target < 2) ∧
    (c.retried = false)) ∧
  (∃ (s : State) (c : Commit),
    (s.dev.fore.off = false) ∧
    (s.dev.assay.commit = some c) ∧
    (c.target < 2) ∧
    (c.retried = true) ∧
    (s.dev.bankFailed (1 - c.target) = false)) ∧
  (∃ (s : State) (c : Commit),
    (s.dev.fore.off = false) ∧
    (s.dev.assay.commit = some c) ∧
    (c.target < 2) ∧
    (c.retried = true) ∧
    (s.dev.bankFailed (1 - c.target) = true) ∧
    (c.serves = [])) := by
  refine ⟨⟨(stateAt 0), (Requester.host), ?_⟩,
    ⟨(stateAt 59), 1, ?_, ?_, ?_, ?_, ?_, ?_, 0, ?_, 1, ?_, 78, ?_⟩,
    ⟨(stateAt 49), ({ target := 1, step := 0, retried := false, serves := [], image := { words := [], base := BankBase.factory, seq := 9, valid := true } }), ?_⟩,
    ⟨(stateAt 50), ({ target := 0, step := 5, retried := false, serves := [], image := { words := [], base := BankBase.factory, seq := 9, valid := true } }), ?_⟩,
    ⟨(stateAt 49), ({ target := 1, step := 0, retried := false, serves := [], image := { words := [], base := BankBase.factory, seq := 9, valid := true } }), ?_⟩,
    ⟨(stateAt 51), ({ target := 1, step := 512, retried := false, serves := [], image := { words := [], base := BankBase.factory, seq := 9, valid := true } }), ?_⟩,
    ⟨(stateAt 49), ({ target := 1, step := 0, retried := false, serves := [], image := { words := [], base := BankBase.factory, seq := 9, valid := true } }), ?_⟩,
    ⟨(stateAt 52), ({ target := 1, step := 0, retried := true, serves := [], image := { words := [], base := BankBase.factory, seq := 9, valid := true } }), ?_⟩,
    ⟨(stateAt 66), ({ target := 1, step := 0, retried := true, serves := [], image := { words := [], base := BankBase.factory, seq := 9, valid := true } }), ?_⟩⟩ <;>
    first | (unfold Dev.TakesCmd; decide +kernel) | (unfold Dev.AssayIdle; decide +kernel) | (unfold Dev.TakesFrame; decide +kernel) | (unfold Dev.Outstanding; decide +kernel) | (unfold khzOut maxKhz; cases Config.partBE <;> decide +kernel) | decide +kernel

end P10

namespace P11
def e1 : Edge := { id := 7, src := 1, rising := true, tick := 9, tu := 33, acc := 2^33, inc := 2^32, epochs := 1}
def p1 : Prov := { id := 1, kind := .prov, seg := some 3, deadline := 65536*3, origin := 0, seqT := 2, stamp := 77}
def pu : Pulse := { start := 70, stop := 78}
def tv : TicEv := { isB := true, at32 := -9000000000000, rising := true, edge := none, time := 2^50 + 12345, epochs := 1, slewing := false, slews := 0, unlock := false }
def tw : TicEv := { tv with isB := false, time := 2^40, at32 := -9000000000000 }
def lk (d : Dev) : Dev := { upDev d with clk.dlls := (List.range 4).map fun g => (g, {phase := .locked}), loom.everRun := true, loom.run := some 70, loom.tick := 9, tb.acc := 2^70 }
def on (d : Dev) : Dev := (List.range 4).foldl (fun d k => (d.fbit Reg.trig_cmp_EN true k).fbit Reg.trig_tin_EN true k) (lk d)
def cx (d : Dev) : Dev := { on d with trig.levels := 0xF3, trig.srcs := [(0,{slope := 1}), (2, {thresh := 5, hyst := 3, slope := 0}), (4, {slope := 0}), (3, {slope := 1})] }
def vj (d : Dev) : Dev := { lk d with vern.jobs := [(1, {edge := 7, tic := false}), (33, {edge := 7, tic := false})], vern.edges := [e1], vern.nextEdge := 8, vern.timeouts := [(33, 1)] }
def au (d : Dev) : Dev := { (((cx d).fbit Reg.trig_cond_AUTO_EN true 2).fset Reg.trig_cond_PCT 64 2).fset Reg.trig_cond_POL_HI 300 2 with trig.auto := [(2, {ext := some (-1000, 2047), level := some 4})] }
def au2 (d : Dev) : Dev := { (((cx d).fbit Reg.trig_cond_AUTO_EN true 2).fset Reg.trig_cond_PCT 64 2).fset Reg.trig_cond_POL_HI 300 2 with trig.auto := [(2, {ext := some (0, 5), level := none})] }
def st (d : Dev) : Dev := { (lk d).tset 19 1 0 0 4 |>.tset 19 1 0 1 (128 + 3) with acq.evaluating := true, tseq.now := 5, tseq.hold := some {until16 := 2^30} }
def pv (d : Dev) : Dev := { lk d with tseq.provs := [p1], tseq.now := 3, trig.pulses := [(0,[pu,pu]),(1,[pu])], trig.pulsing := [(1,true)] }
def tic (m : Nat) (d : Dev) : Dev := { (((on d).fset Reg.tic_ch_MODE m 3).fset Reg.tic_ch_WINDOW 5 3).fset Reg.tic_ch_SRC_A 1 3 |>.fset Reg.tic_RUNNING 8 with
   tic.ch := [(3, { running := true, total := 77, lapsed := true, refEpochs := 1, ref := 2^40, evs := if m = 6 ∨ m = 10 then [tv] else if m = 8 then [ownEv .gate (-9000000000000) 3] else if m = 9 then [ownEv .lapse (-9000000000000) 0] else [], pend := some tw, fifo := [(2^40+5,0x1001),(3,4)] })] }
def pool : List State := [State.reset, wit on, wit cx, wit vj, wit (fun d => { vj d with fore.degraded := [(20, 1)] }), wit (frozenAt 18), wit (fun d => (cx d).fset Reg.loom_MODE 1), wit au, wit au2, wit (fun d => { cx d with trig.auto := [(17, {ext := some (-1000, 2047), level := some 4}), (16, {ext := some (-3, 2), level := none})] }.fbit Reg.trig_cmp_AUTO_EN true 1 |>.fbit Reg.trig_cmp_AUTO_EN true 0), wit (fun d => (((cx d).fbit Reg.trig_cond_EN true 2).fset Reg.trig_cond_TYPE 1 3).fset Reg.trig_cond_SRC 9 1), wit st, wit pv,
 wit (tic 5), wit (tic 6), wit (fun d => (tic 10 d).fset Reg.tic_ch_MODE 0 3), wit (fun d => (tic 8 d).fset Reg.tic_ch_MODE 5 3), wit (tic 9), wit (tic 0), wit (tic 7)]
def stateAt (n : Nat) : State := (pool).getD n State.reset
def nfAt (n : Nat) : State := mod (stateAt n) fun d => d.fset Reg.tbase_NOMINAL_FREQ 8000000

/-- States and operands that meet the hypotheses of StateSources. -/
theorem witness_StateSources :
  (∃ (s : State) (x : Fin 4) (rising : Bool) (tu : Fin 128),
    (s.dev.fore.off = false) ∧
    (s.dev.srcOn x = false ∨ bitAt s.dev.trig.levels x = rising ∨ s.dev.loom.run = none)) ∧
  (∃ (s : State) (k : Fin 8) (rising : Bool) (tu : Fin 128),
    (s.dev.fore.off = false) ∧
    (s.dev.srcOn k = true) ∧
    (bitAt s.dev.trig.levels k = !rising) ∧
    (s.dev.loom.run.isSome = true) ∧
    ((∀ n < 8, (s.dev.ticc n).running = false)) ∧
    let taken := slopeTakes (s.dev.srcInForce k).slope rising
    (taken = false)) ∧
  (∃ (s : State) (k : Fin 8) (rising : Bool) (tu : Fin 128),
    (s.dev.fore.off = false) ∧
    (s.dev.srcOn k = true) ∧
    (bitAt s.dev.trig.levels k = !rising) ∧
    (s.dev.loom.run.isSome = true) ∧
    ((∀ n < 8, (s.dev.ticc n).running = false)) ∧
    let taken := slopeTakes (s.dev.srcInForce k).slope rising
    (taken = true) ∧
    (KMap.find s.dev.vern.lastConv k = none) ∧
    (s.dev.vernMay false = true) ∧
    (s.dev.vern.edges = [])) ∧
  (∃ (s : State) (k : Fin 8) (input : Option Bool),
    (s.dev.fore.off = false) ∧
    ∃ (j : Nat),
    (j < 8) ∧
    (j ≠ k.val)) := by
  refine ⟨⟨(stateAt 0), 0, (false), 0, ?_⟩,
    ⟨(stateAt 2), 3, (true), 0, ?_⟩,
    ⟨(stateAt 1), 0, (true), 0, ?_⟩,
    ⟨(stateAt 0), 0, (none), ?_, 1, ?_⟩⟩ <;>
    first | (unfold Dev.TakesCmd; decide +kernel) | (unfold Dev.AssayIdle; decide +kernel) | (unfold Dev.TakesFrame; decide +kernel) | (unfold Dev.Outstanding; decide +kernel) | (unfold khzOut maxKhz; cases Config.partBE <;> decide +kernel) | decide +kernel

/-- States and operands that meet the hypotheses of VernierPool. -/
theorem witness_VernierPool :
  (∃ (s : State) (u : Fin 64) (code : Nat) (j : VernJob) (e : Edge),
    (s.dev.fore.off = false) ∧
    (s.dev.trig.todo = []) ∧
    (KMap.find s.dev.vern.jobs u = some j) ∧
    (j.tic = false) ∧
    (s.dev.vern.edges = [e]) ∧
    (e.id = j.edge) ∧
    (s.dev.loom.tick ≤ e.tick)) ∧
  (∃ (s : State) (u : Fin 64) (j : VernJob) (e : Edge),
    (s.dev.fore.off = false) ∧
    (s.dev.trig.todo = []) ∧
    (KMap.find s.dev.vern.jobs u = some j) ∧
    (j.tic = false) ∧
    (s.dev.vern.edges = [e]) ∧
    (e.id = j.edge) ∧
    (s.dev.loom.tick ≤ e.tick) ∧
    let n := KMap.at s.dev.vern.timeouts 0 u
    (n = 0)) ∧
  (∃ (s : State) (u : Fin 64) (j : VernJob) (e : Edge),
    (s.dev.fore.off = false) ∧
    (s.dev.trig.todo = []) ∧
    (KMap.find s.dev.vern.jobs u = some j) ∧
    (j.tic = false) ∧
    (s.dev.vern.edges = [e]) ∧
    (e.id = j.edge) ∧
    (s.dev.loom.tick ≤ e.tick) ∧
    let n := KMap.at s.dev.vern.timeouts 0 u
    (0 < n) ∧
    (s.dev.isDegraded 20 = true)) ∧
  (∃ (s : State) (u : Fin 64) (pa pb : Nat) (err : Int),
    (s.dev.fore.off = false) ∧
    (KMap.find s.dev.vern.jobs u = none) ∧
    (bitAt s.dev.vern.retired u = false) ∧
    (pa < 2 ^ 31) ∧
    (pb < 2 ^ 31) ∧
    ((s.dev.tctlOf 17 3).bank < 2) ∧
    let sq := ((List.range 64).map fun k => (if k = u.val then err else KMap.at s.dev.assay.vernErr 0 k).natAbs ^ 2).sum
    (sq < 2 ^ 134)) ∧
  (∃ (s : State) (u : Fin 64),
    (s.dev.fore.off = false)) := by
  refine ⟨⟨(stateAt 3), 1, 0, ({ edge := 7, tic := false, offset := 0 }), ({ id := 7, src := 1, rising := true, tick := 9, tu := 33, acc := 8589934592, inc := 4294967296, epochs := 1, slewing := false, slews := 0, unlock := false, unitT := none, instT := none, unitC := none, instC := none }), ?_⟩,
    ⟨(stateAt 3), 1, ({ edge := 7, tic := false, offset := 0 }), ({ id := 7, src := 1, rising := true, tick := 9, tu := 33, acc := 8589934592, inc := 4294967296, epochs := 1, slewing := false, slews := 0, unlock := false, unitT := none, instT := none, unitC := none, instC := none }), ?_⟩,
    ⟨(stateAt 4), 33, ({ edge := 7, tic := false, offset := 0 }), ({ id := 7, src := 1, rising := true, tick := 9, tu := 33, acc := 8589934592, inc := 4294967296, epochs := 1, slewing := false, slews := 0, unlock := false, unitT := none, instT := none, unitC := none, instC := none }), ?_⟩,
    ⟨(stateAt 0), 0, 0, 0, (-9000000000000), ?_⟩,
    ⟨(stateAt 0), 0, ?_⟩⟩ <;>
    first | (unfold Dev.TakesCmd; decide +kernel) | (unfold Dev.AssayIdle; decide +kernel) | (unfold Dev.TakesFrame; decide +kernel) | (unfold Dev.Outstanding; decide +kernel) | (unfold khzOut maxKhz; cases Config.partBE <;> decide +kernel) | decide +kernel

/-- States and operands that meet the hypotheses of ConditionsAndAutoLevels. -/
theorem witness_ConditionsAndAutoLevels :
  (∃ (s : State) (who : Requester) (n : Fin 16) (val : Word),
    (s.dev.fore.off = false) ∧
    (s.dev.flag Reg.hdr_FREEZE 18 = false) ∧
    ∃ (f : _),
    (condVerdict n val.toNat s.dev = some f)) ∧
  (∃ (s : State) (who : Requester) (n : Fin 16) (val : Word),
    (s.dev.fore.off = false) ∧
    (s.dev.flag Reg.hdr_FREEZE 18 = false) ∧
    (condVerdict n val.toNat s.dev = none)) ∧
  (∃ (s : State) (who : Requester) (n : Fin 20) (val : Word),
    (s.dev.fore.off = false) ∧
    (s.dev.flag Reg.hdr_FREEZE 18 = false) ∧
    let en := bitAt val.toNat 0
    (en = true) ∧
    (s.dev.autoListed n = false)) ∧
  (∃ (s : State) (who : Requester) (n : Fin 20) (val : Word),
    (s.dev.fore.off = false) ∧
    (s.dev.flag Reg.hdr_FREEZE 18 = false) ∧
    let en := bitAt val.toNat 0
    (en = false ∨ s.dev.autoListed n = true) ∧
    (en = false)) ∧
  (∃ (s : State) (n : Fin 20) (mn mx : Int),
    (s.dev.fore.off = false) ∧
    (s.dev.autoOn n = true) ∧
    (s.dev.autoListed n = true) ∧
    (s.dev.autoInput n ∈ sampledInputs s.dev.mode) ∧
    ((KMap.at s.dev.trig.auto {} n).ext = some (mn, mx)) ∧
    let h := s.dev.autoH n
    (mx - mn < 2 * h + 8)) ∧
  (∃ (s : State) (n : Fin 20) (mn mx : Int),
    (s.dev.fore.off = false) ∧
    (s.dev.autoOn n = true) ∧
    (s.dev.autoListed n = true) ∧
    (s.dev.autoInput n ∈ sampledInputs s.dev.mode) ∧
    ((KMap.at s.dev.trig.auto {} n).ext = some (mn, mx)) ∧
    let h := s.dev.autoH n
    (2 * h + 8 ≤ mx - mn)) := by
  refine ⟨⟨(stateAt 0), (Requester.host), 0, (0x14521#32), ?_, ?_, ({ base := 73984, stride := 32, count := 16, blk := 0, lsb := 5, width := 4, acc := Access.rw, reset := Reset.val 0, level := Level.b }), ?_⟩,
    ⟨(stateAt 0), (Requester.host), 0, (0#32), ?_⟩,
    ⟨(stateAt 10), (Requester.host), 1, (1#32), ?_⟩,
    ⟨(stateAt 0), (Requester.host), 0, (0#32), ?_⟩,
    ⟨(stateAt 8), 2, 0, 5, ?_⟩,
    ⟨(stateAt 7), 2, (-1000), 2047, ?_⟩⟩ <;>
    first | (unfold Dev.TakesCmd; decide +kernel) | (unfold Dev.AssayIdle; decide +kernel) | (unfold Dev.TakesFrame; decide +kernel) | (unfold Dev.Outstanding; decide +kernel) | (unfold khzOut maxKhz; cases Config.partBE <;> decide +kernel) | decide +kernel

/-- States and operands that meet the hypotheses of SequencerTimersAndOutputs. -/
theorem witness_SequencerTimersAndOutputs :
  (∃ (s : State),
    (s.dev.fore.off = false) ∧
    (s.dev.acq.evaluating = true) ∧
    (s.dev.stateDue s.dev.tseq.now = true) ∧
    let w := s.dev.seqWord 1 (2 * s.dev.tseq.state + 1)
    (bitField w 4 3 = 0)) ∧
  (∃ (s : State) (who : Requester),
    (s.dev.fore.off = false) ∧
    (s.dev.flag Reg.hdr_FREEZE 19 = false)) ∧
  (∃ (s : State) (p : Prov) (n : Nat),
    (s.dev.fore.off = false) ∧
    (s.dev.tseq.provs = [p]) ∧
    (p.seg = some n) ∧
    (p.kind = .prov) ∧
    (p.deadline ≤ s.dev.tseq.now * 65536) ∧
    (s.dev.seg n = none) ∧
    (s.dev.flag Reg.cas_TRIG_TX = false) ∧
    ((∀ o < 2, s.dev.outSel o ≠ 5)) ∧
    (s.dev.till.parts = []) ∧
    (s.dev.bench.tickets = [])) ∧
  (∃ (s : State) (n : Fin 2) (p : Pulse) (ps : List Pulse),
    (s.dev.fore.off = false) ∧
    (KMap.find s.dev.trig.pulses n = some (p :: ps)) ∧
    (KMap.at s.dev.trig.pulsing false n = false) ∧
    (p.start < 8 * (s.dev.loom.tick + 1))) ∧
  (∃ (s : State) (n : Fin 2) (p : Pulse) (ps : List Pulse),
    (s.dev.fore.off = false) ∧
    (KMap.find s.dev.trig.pulses n = some (p :: ps)) ∧
    (KMap.at s.dev.trig.pulsing false n = true) ∧
    (p.stop < 8 * (s.dev.loom.tick + 1)) ∧
    (s.dev.outSel n ≠ 2)) := by
  refine ⟨⟨(stateAt 11), ?_⟩,
    ⟨(stateAt 0), (Requester.host), ?_⟩,
    ⟨(stateAt 12), ({ id := 1, kind := ProvKind.prov, seg := some 3, deadline := 196608, origin := 0, seqT := 2, stamp := 77 }), 3, ?_⟩,
    ⟨(stateAt 12), 0, ({ start := 70, stop := 78, told := false }), ([{ start := 70, stop := 78, told := false }]), ?_⟩,
    ⟨(stateAt 12), 1, ({ start := 70, stop := 78, told := false }), ([]), ?_⟩⟩ <;>
    first | (unfold Dev.TakesCmd; decide +kernel) | (unfold Dev.AssayIdle; decide +kernel) | (unfold Dev.TakesFrame; decide +kernel) | (unfold Dev.Outstanding; decide +kernel) | (unfold khzOut maxKhz; cases Config.partBE <;> decide +kernel) | decide +kernel

/-- States and operands that meet the hypotheses of TimeIntervalCounter. -/
theorem witness_TimeIntervalCounter :
  (∃ (s : State) (who : Requester) (n : Fin 8),
    (s.dev.fore.off = false) ∧
    (s.dev.flag Reg.hdr_FREEZE 21 = false) ∧
    ∃ (f : _),
    (s.dev.ticRefused n = some f)) ∧
  (∃ (s : State) (who : Requester) (n : Fin 8),
    (s.dev.fore.off = false) ∧
    (s.dev.flag Reg.hdr_FREEZE 21 = false) ∧
    (s.dev.ticRefused n = none) ∧
    ∃ (k : Nat),
    (k < 8) ∧
    (k ≠ n.val)) ∧
  (∃ (s : State) (who : Requester) (mask : BitVec 8),
    (s.dev.fore.off = false) ∧
    (s.dev.flag Reg.hdr_FREEZE 21 = false) ∧
    ∃ (k : Nat),
    (k < 8) ∧
    (bitAt mask.toNat k = true)) ∧
  (∃ (s : State) (who : Requester) (mask : BitVec 8),
    (s.dev.fore.off = false) ∧
    (s.dev.flag Reg.hdr_FREEZE 21 = false) ∧
    ∃ (k : Nat),
    (k < 8) ∧
    (bitAt mask.toNat k = false)) ∧
  (∃ (s : State) (n : Fin 8) (e a : TicEv),
    (s.dev.fore.off = false) ∧
    ((s.dev.ticc n).running = true) ∧
    ((s.dev.ticc n).evs = [e]) ∧
    (e.kind = .edge) ∧
    (e.edge = none) ∧
    (e.coarse = false) ∧
    (a.coarse = false) ∧
    (e.epochs = a.epochs) ∧
    (e.at32 + 2048 * 2 ^ 32 ≤ s.dev.now32) ∧
    (s.dev.flag Reg.tic_ch_TO_QUEUE n = false) ∧
    ((s.dev.ticc n).fifo.length < 64) ∧
    (s.dev.ticDepth n = (s.dev.ticc n).fifo.length) ∧
    (s.dev.ticMode n = 6 ∧ a.time = (s.dev.ticc n).ref ∧ a.epochs = (s.dev.ticc n).refEpochs ∨ s.dev.ticMode n = 0 ∧ e.isB = true ∧ (s.dev.ticc n).pend = some a) ∧
    let v := s.dev.ticValue (e.time - a.time)
    (32 ≤ v) ∧
    (v < 2 ^ 63) ∧
    ∃ (k : Nat),
    (k < 8) ∧
    (k ≠ n.val)) ∧
  (∃ (s : State) (n : Fin 8),
    (s.dev.fore.off = false) ∧
    ((s.dev.ticc n).running = true) ∧
    (s.dev.ticMode n = 5) ∧
    ∃ (k : Nat),
    (k < 8) ∧
    (k ≠ n.val)) ∧
  (∃ (s : State) (n : Fin 8) (at32 : Int) (total : Nat),
    (s.dev.fore.off = false) ∧
    ((s.dev.ticc n).running = true) ∧
    ((s.dev.ticc n).evs = [ownEv .gate at32 total]) ∧
    (at32 + 2048 * 2 ^ 32 ≤ s.dev.now32) ∧
    (s.dev.flag Reg.tic_ch_TO_QUEUE n = false) ∧
    (s.dev.ticDepth n < 64) ∧
    ∃ (k : Nat),
    (k < 8) ∧
    (k ≠ n.val)) ∧
  (∃ (s : State) (n : Fin 8),
    (s.dev.fore.off = false) ∧
    ((s.dev.ticc n).running = true) ∧
    ((s.dev.ticc n).lapsed = true) ∧
    (s.dev.flag Reg.tic_ch_TO_QUEUE n = false) ∧
    ((s.dev.ticc n).fifo.length < 64)) ∧
  (∃ (s : State) (n : Fin 8) (a : TicEv),
    (s.dev.fore.off = false) ∧
    ((s.dev.ticc n).running = true) ∧
    ((s.dev.ticc n).pend = some a) ∧
    ((s.dev.ticc n).evs = []) ∧
    let w := s.dev.fget Reg.tic_ch_WINDOW n
    (0 < w) ∧
    (a.at32 + (w * 2 ^ 32 : Nat) ≤ s.dev.now32) ∧
    ∃ (k : Nat),
    (k < 8) ∧
    (k ≠ n.val)) ∧
  (∃ (s : State) (n : Fin 8) (at32 : Int) (a : TicEv),
    (s.dev.fore.off = false) ∧
    ((s.dev.ticc n).running = true) ∧
    ((s.dev.ticc n).pend = some a) ∧
    ((s.dev.ticc n).evs = [ownEv .lapse at32 0]) ∧
    (at32 + 2048 * 2 ^ 32 ≤ s.dev.now32) ∧
    ∃ (k : Nat),
    (k < 8) ∧
    (k ≠ n.val)) ∧
  (∃ (s : State) (who : Requester) (n : Fin 8),
    (s.dev.fore.off = false) ∧
    let r := (s.dev.ticc n).fifo.headD (0, 0)
    (r.1 < 2 ^ 64) ∧
    (r.2 < 2 ^ 32) ∧
    ∃ (k : Nat),
    (k < 8) ∧
    (k ≠ n.val)) := by
  refine ⟨⟨(stateAt 0), (Requester.host), 0, ?_, ?_, ({ base := 86272, stride := 80, count := 8, blk := 0, lsb := 4, width := 4, acc := Access.rw, reset := Reset.val 0, level := Level.b }), ?_⟩,
    ⟨(stateAt 1), (Requester.host), 0, ?_, ?_, ?_, 1, ?_⟩,
    ⟨(stateAt 0), (Requester.host), (1#8), ?_, ?_, 0, ?_⟩,
    ⟨(stateAt 0), (Requester.host), (0#8), ?_, ?_, 0, ?_⟩,
    ⟨(nfAt 14), 3, ({ kind := TicKind.edge, isB := true, rising := true, edge := none, at32 := -9000000000000, time := 1125899906854969, epochs := 1, slewing := false, slews := 0, unlock := false, coarse := false, n := 0 }), ({ kind := TicKind.edge, isB := false, rising := true, edge := none, at32 := -9000000000000, time := 1099511627776, epochs := 1, slewing := false, slews := 0, unlock := false, coarse := false, n := 0 }), ?_, ?_, ?_, ?_, ?_, ?_, ?_, ?_, ?_, ?_, ?_, ?_, ?_, ?_, ?_, 0, ?_⟩,
    ⟨(stateAt 13), 3, ?_, ?_, ?_, 0, ?_⟩,
    ⟨(stateAt 16), 3, (-9000000000000), 3, ?_, ?_, ?_, ?_, ?_, ?_, 0, ?_⟩,
    ⟨(stateAt 13), 3, ?_⟩,
    ⟨(stateAt 13), 3, ({ kind := TicKind.edge, isB := false, rising := true, edge := none, at32 := -9000000000000, time := 1099511627776, epochs := 1, slewing := false, slews := 0, unlock := false, coarse := false, n := 0 }), ?_, ?_, ?_, ?_, ?_, ?_, 0, ?_⟩,
    ⟨(stateAt 17), 3, (-9000000000000), ({ kind := TicKind.edge, isB := false, rising := true, edge := none, at32 := -9000000000000, time := 1099511627776, epochs := 1, slewing := false, slews := 0, unlock := false, coarse := false, n := 0 }), ?_, ?_, ?_, ?_, ?_, 0, ?_⟩,
    ⟨(stateAt 0), (Requester.host), 0, ?_, ?_, ?_, 1, ?_⟩⟩ <;>
    first | (unfold Dev.TakesCmd; decide +kernel) | (unfold Dev.AssayIdle; decide +kernel) | (unfold Dev.TakesFrame; decide +kernel) | (unfold Dev.Outstanding; decide +kernel) | (unfold khzOut maxKhz; cases Config.partBE <;> decide +kernel) | decide +kernel

end P11

namespace P12
def bl : RingBlock := { first := 128, count := 128, off := 192, bytes := some ((List.range 192).map fun k => BitVec.ofNat 8 k) }
def sg : Segment := { num := 3, start := 70, odd := true, ring := 0, rings := 1, length := 100, trigIndex := -5, first := 130, last := 229, stamp := [1,2,3], cause := 9, flags := 0, auxSeq := 4 }
def sgs : List Segment := [sg, {sg with state := 1, readers := 1}, {sg with state := 1, written := true, readers := 1, num := 7}, {sg with state := 2}, {sg with state := 1, held := false}, {sg with state := 1, flags := 5}]
def rdy (d : Dev) : Dev := { (((upDev d).fbit Reg.top_READY true).fbit Reg.loom_MODE_READY true).fset Reg.acq_ring_SIZE 16 0 |>.fset Reg.acq_SEG_RINGS 1 |>.fset Reg.ledg_BASE 1000 |>.fset Reg.ledg_RES_LOG2 16 with
   loom.run := some 70, loom.everRun := true, loom.tick := 9, clk.dlls := (List.range 4).map fun g => (g, {phase := .locked}) }
def rg (d : Dev) : Dev := { rdy d with acq.rings := [(0, {issued := 9*128, write := 3*128, pos := 640, writing := true, buf := [bl, bl], fresh := false, armFirst := 5}), (3, {buf := [{bl with bytes := none, first := 5}]})] }
def poolA : List State := [wit (fun d => { (rg d).fbit Reg.acq_AUTO_SPILL true with acq.segs := [(3, {sg with state := 1, length := 2^21, last := 129+2^21})]}.fset Reg.acq_PIN_MARK 0 |>.fset Reg.acq_ring_SIZE 1 0 |>.fset Reg.ledg_SEGSPILL_SIZE 1), State.reset, wit upDev, wit rdy, wit rg, wit (frozenAt 22), wit (fun d => (rdy d).fset Reg.acq_SEG_RINGS 3), wit (fun d => (rdy d).fset Reg.acq_POST_LEN_W1 3), wit (fun d => ((rdy d).fset Reg.acq_ring_SIZE 16 5).fset Reg.acq_ring_BASE 0 5),
 wit (fun d => { rg d with acq.armPending := true}.fbit Reg.acq_ARMED true),  wit (fun d => { rg d with acq.evaluating := true}.fbit Reg.acq_ARMED true |>.fbit Reg.acq_STOPPING true),
 wit (fun d => { rdy d with acq.stopTaken := true, acq.evaluating := false}.fbit Reg.acq_ARMED true |>.fbit Reg.acq_STOPPING true)] ++
 sgs.map (fun g => wit fun d => { (rg d).fbit Reg.acq_AUTO_RELEASE true with acq.segs := [(g.num, g)], bus.staged := [(stageKey .host 0x17064, 0), (stageKey .smbus 0x17064, 0), (stageKey .host 0x1706C, 0)]}) ++
 sgs.map (fun g => wit fun d => { (rg d).fbit Reg.acq_AUTO_SPILL true with acq.segs := [(g.num, g)], bus.staged := [(stageKey .host 0x1706C, 5)]}.fset Reg.acq_PIN_MARK 0 |>.fset Reg.acq_ring_SIZE 1 0 |>.fset Reg.ledg_SEGSPILL_SIZE 1) ++
 sgs.map (fun g => wit fun d => { (rg d).fbit Reg.acq_AUTO_SPILL true with acq.segs := [(g.num, g)], acq.spilling := some (g.num, 2^20, 65)}.fset Reg.ledg_SEGSPILL_SIZE 1) ++
 [wit (fun d => (rg d).fbit Reg.acq_ring_STREAM_EN true 0 |>.fset Reg.acq_ring_SPILL_SIZE 1 0), {wit rg with hbm := [(193, 5), (200, 6), (500, 4), (65536*1000 + 192, 9)]}]
def ext (d : Dev) : Dev := (((d.tset 23 0 0 2 1).tset 23 0 0 3 3).tset 23 0 0 0 4096).tset 23 0 0 6 5 |>.tset 23 0 0 7 1
def pool2 : List State := (poolA.map fun s => { s with dev := (ext s.dev).fbit Reg.ledg_SPILL_LEDGER_EN true }) ++ (sgs.map fun g => wit fun d => { rg d with acq.nextSeg := 9, acq.segs := [(g.num, {g with staged := true, last := 500, first := 400})], acq.stale := [7]}.fbit Reg.ledg_SPILL_LEDGER_EN true) ++ (sgs.map fun g => wit fun d => { rg d with acq.nextSeg := 9, acq.segs := [(g.num, {g with last := 200, copyDue := true})], acq.stale := [3, 4]}) ++ [wit fun d => { rg d with acq.nextSeg := 9, acq.stale := [4], acq.spilling := some (3,2^20,65)}.fbit Reg.ledg_SPILL_LEDGER_EN true]
def pool : List State := poolA ++ pool2
def stateAt (n : Nat) : State := (pool).getD n State.reset
def nfAt (n : Nat) : State := mod (stateAt n) fun d => d.fset Reg.tbase_NOMINAL_FREQ 8000000

/-- States and operands that meet the hypotheses of ArmingAndStopping. -/
theorem witness_ArmingAndStopping :
  (∃ (s : State) (who : Requester),
    (s.dev.fore.off = false) ∧
    (s.dev.flag Reg.hdr_FREEZE 22 = false) ∧
    (s.dev.armed = true)) ∧
  (∃ (s : State) (who : Requester),
    (s.dev.fore.off = false) ∧
    (s.dev.flag Reg.hdr_FREEZE 22 = false) ∧
    (s.dev.armed = false) ∧
    (s.dev.armReady = false)) ∧
  (∃ (s : State) (who : Requester),
    (s.dev.fore.off = false) ∧
    (s.dev.flag Reg.hdr_FREEZE 22 = false) ∧
    let d := s.dev.takeHorizon
    (s.dev.armed = false) ∧
    (s.dev.armReady = true) ∧
    (d.armFault.isSome = true)) ∧
  (∃ (s : State) (who : Requester),
    (s.dev.fore.off = false) ∧
    (s.dev.flag Reg.hdr_FREEZE 22 = false) ∧
    let d := s.dev.takeHorizon
    (s.dev.armed = false) ∧
    (s.dev.armReady = true) ∧
    (d.armFault.isSome = false) ∧
    (s.dev.assay.fgDue = 0)) ∧
  (∃ (s : State),
    (s.dev.fore.off = false) ∧
    (s.dev.acq.armPending = true) ∧
    (s.dev.loom.run.isSome = true) ∧
    (s.dev.flag Reg.acq_STOPPING = false) ∧
    (s.dev.acq.armCmds = []) ∧
    ((∀ n < 8, (s.dev.ticc n).waiting = false)) ∧
    let i := samplesPer s.dev.mode * s.dev.loom.tick
    (i < 2 ^ 64) ∧
    ∃ (r : Nat),
    (r < 12)) ∧
  (∃ (s : State),
    (s.dev.fore.off = false) ∧
    (s.dev.acq.armPending = true) ∧
    (s.dev.loom.run.isSome = true) ∧
    (s.dev.flag Reg.acq_STOPPING = false) ∧
    (s.dev.acq.armCmds = []) ∧
    ((∀ n < 8, (s.dev.ticc n).waiting = false)) ∧
    let i := samplesPer s.dev.mode * s.dev.loom.tick
    (i < 2 ^ 64) ∧
    ∃ (r : Nat),
    (r < 4) ∧
    (s.dev.ringOn r = true)) ∧
  (∃ (s : State) (who : Requester),
    (s.dev.fore.off = false) ∧
    (s.dev.flag Reg.hdr_FREEZE 22 = false) ∧
    (s.dev.armed = true)) ∧
  (∃ (s : State),
    (s.dev.fore.off = false) ∧
    (s.dev.flag Reg.acq_STOPPING = true) ∧
    (s.dev.acq.armPending = false) ∧
    (s.dev.acq.stopTaken = false)) ∧
  (∃ (s : State),
    (s.dev.fore.off = false) ∧
    (s.dev.acq.stopTaken = true) ∧
    (s.dev.ringsStopped = true) ∧
    (s.dev.windowsDone = true) ∧
    (s.dev.acq.stopCmds = [])) := by
  refine ⟨⟨(stateAt 9), (Requester.host), ?_⟩,
    ⟨(stateAt 1), (Requester.host), ?_⟩,
    ⟨(stateAt 0), (Requester.host), ?_⟩,
    ⟨(stateAt 3), (Requester.host), ?_⟩,
    ⟨(stateAt 9), ?_, ?_, ?_, ?_, ?_, ?_, ?_, 0, ?_⟩,
    ⟨(stateAt 9), ?_, ?_, ?_, ?_, ?_, ?_, ?_, 0, ?_⟩,
    ⟨(stateAt 9), (Requester.host), ?_⟩,
    ⟨(stateAt 10), ?_⟩,
    ⟨(stateAt 11), ?_⟩⟩ <;>
    first | (unfold Dev.TakesCmd; decide +kernel) | (unfold Dev.AssayIdle; decide +kernel) | (unfold Dev.TakesFrame; decide +kernel) | (unfold Dev.Outstanding; decide +kernel) | (unfold khzOut maxKhz; cases Config.partBE <;> decide +kernel) | decide +kernel

/-- States and operands that meet the hypotheses of CaptureAndLedger. -/
theorem witness_CaptureAndLedger :
  (∃ (s : State) (r : Fin 12) (b : RingBlock) (rest : List RingBlock),
    (s.dev.fore.off = false) ∧
    ((s.dev.ring r).buf = b :: rest) ∧
    (b.drops = []) ∧
    ((∀ c < 8, (s.dev.chain c).waiting = [])) ∧
    (s.dev.till.parts = []) ∧
    ∃ (q : Nat),
    (q < 12) ∧
    (q ≠ r.val)) ∧
  (∃ (s : State) (r : Fin 12) (b : RingBlock) (rest : List RingBlock),
    (s.dev.fore.off = false) ∧
    ((s.dev.ring r).buf = b :: rest) ∧
    (b.drops = []) ∧
    ((∀ c < 8, (s.dev.chain c).waiting = [])) ∧
    (s.dev.till.parts = []) ∧
    ∃ (g : _),
    (s.dev.acq.segs = [(g.num, g)]) ∧
    (g.written = false)) ∧
  (∃ (s : State) (r : Fin 12) (b : RingBlock) (rest : List RingBlock),
    (s.dev.fore.off = false) ∧
    ((s.dev.ring r).buf = b :: rest) ∧
    (b.drops = []) ∧
    ((∀ c < 8, (s.dev.chain c).waiting = [])) ∧
    (s.dev.till.parts = []) ∧
    ∃ (bs : _),
    (b.bytes = some bs)) ∧
  (∃ (s : State) (r : Fin 12) (b : RingBlock) (rest : List RingBlock),
    (s.dev.fore.off = false) ∧
    ((s.dev.ring r).buf = b :: rest) ∧
    (b.drops = []) ∧
    ((∀ c < 8, (s.dev.chain c).waiting = [])) ∧
    (s.dev.till.parts = []) ∧
    (b.bytes = none)) ∧
  (∃ (s : State) (g : Segment),
    (s.dev.fore.off = false) ∧
    (s.dev.acq.segs = [(g.num, g)]) ∧
    (g.final = true) ∧
    (g.written = false) ∧
    (s.dev.holding = false) ∧
    (g.held = true) ∧
    let copy := s.dev.flag Reg.ledg_SPILL_LEDGER_EN
    (copy = true)) ∧
  (∃ (s : State) (who : Requester) (val : Word) (g : Segment),
    (s.dev.fore.off = false) ∧
    (s.dev.flag Reg.hdr_FREEZE 23 = false) ∧
    (KMap.find s.dev.bus.staged (stageKey who 0x17064) = some 0) ∧
    (s.dev.acq.segs = [(g.num, g)]) ∧
    (g.written = false) ∧
    (val.toNat = g.num) ∧
    (g.held = true)) ∧
  (∃ (s : State) (who : Requester) (val : Word) (g : Segment),
    (s.dev.fore.off = false) ∧
    (s.dev.flag Reg.hdr_FREEZE 23 = false) ∧
    (KMap.find s.dev.bus.staged (stageKey who 0x17064) = some 0) ∧
    (s.dev.acq.segs = [(g.num, g)]) ∧
    (g.written = false) ∧
    (val.toNat ≠ g.num ∨ g.held = false)) ∧
  (∃ (s : State) (who : Requester) (val : Word) (g : Segment),
    (s.dev.fore.off = false) ∧
    (s.dev.flag Reg.hdr_FREEZE 23 = false) ∧
    (KMap.find s.dev.bus.staged (stageKey who 0x1706C) = some 0) ∧
    (s.dev.acq.segs = [(g.num, g)]) ∧
    (g.written = false)) ∧
  (∃ (s : State) (g : Segment),
    (s.dev.fore.off = false) ∧
    (s.dev.acq.segs = [(g.num, g)]) ∧
    (g.written = false) ∧
    (g.held = true) ∧
    (s.dev.flag Reg.acq_AUTO_RELEASE = true) ∧
    (g.state = 1) ∧
    (g.readers = 0)) ∧
  (∃ (s : State) (g : Segment),
    (s.dev.fore.off = false) ∧
    (s.dev.acq.segs = [(g.num, g)]) ∧
    (g.written = false) ∧
    (g.held = true) ∧
    (s.dev.flag Reg.acq_AUTO_RELEASE = false ∨ g.state ≠ 1 ∨ 0 < g.readers)) ∧
  (∃ (s : State) (who : Requester) (r : Fin 12) (val : Word),
    (s.dev.fore.off = false) ∧
    (s.dev.flag Reg.hdr_FREEZE 22 = false) ∧
    (s.dev.acq.segs = []) ∧
    (val.toNat < 2 ^ 20) ∧
    (s.dev.armed = true)) ∧
  (∃ (s : State) (who : Requester) (r : Fin 12) (val : Word),
    (s.dev.fore.off = false) ∧
    (s.dev.flag Reg.hdr_FREEZE 22 = false) ∧
    (s.dev.acq.segs = []) ∧
    (val.toNat < 2 ^ 20) ∧
    let size := if val.toNat = 0 then 0 else max 1024 val.toNat
    (s.dev.armed = false) ∧
    (size ≠ s.dev.fget Reg.acq_ring_SIZE r)) ∧
  (∃ (s : State) (who : Requester) (r : Fin 12) (val : Word),
    (s.dev.fore.off = false) ∧
    (s.dev.flag Reg.hdr_FREEZE 22 = false) ∧
    (s.dev.acq.segs = []) ∧
    (val.toNat < 2 ^ 20) ∧
    (s.dev.armed = false) ∧
    ∃ (q : Nat),
    (q < 12) ∧
    (q ≠ r.val)) ∧
  (∃ (s : State) (who : Requester) (c : Fin 8) (val : Word),
    (s.dev.fore.off = false) ∧
    (s.dev.flag Reg.hdr_FREEZE 24 = false) ∧
    (s.dev.acq.segs = []) ∧
    (s.dev.armed = true) ∧
    (val.toNat ≠ s.dev.fget Reg.deci_dch_RATIO_M1 c)) ∧
  (∃ (s : State) (who : Requester) (c : Fin 8) (val : Word),
    (s.dev.fore.off = false) ∧
    (s.dev.flag Reg.hdr_FREEZE 24 = false) ∧
    (s.dev.acq.segs = []) ∧
    (s.dev.armed = false)) := by
  refine ⟨⟨(stateAt 0), 0, ({ first := 128, count := 128, off := 192, bytes := some (progB 8 0 1 192), drops := [] }), ([{ first := 128, count := 128, off := 192, bytes := some (progB 8 0 1 192), drops := [] }]), ?_, ?_, ?_, ?_, ?_, 1, ?_⟩,
    ⟨(stateAt 12), 0, ({ first := 128, count := 128, off := 192, bytes := some (progB 8 0 1 192), drops := [] }), ([{ first := 128, count := 128, off := 192, bytes := some (progB 8 0 1 192), drops := [] }]), ?_, ?_, ?_, ?_, ?_, ({ num := 3, start := 70, odd := true, spilled := false, ring := 0, state := 0, rings := 1, length := 100, trigIndex := -5, first := 130, last := 229, stamp := [1, 2, 3], cause := 9, flags := 0, auxSeq := 4, anchors := [], held := true, readers := 0, staged := true, written := false, copied := false, copyDue := false }), ?_⟩,
    ⟨(stateAt 0), 0, ({ first := 128, count := 128, off := 192, bytes := some (progB 8 0 1 192), drops := [] }), ([{ first := 128, count := 128, off := 192, bytes := some (progB 8 0 1 192), drops := [] }]), ?_, ?_, ?_, ?_, ?_, ((progB 8 0 1 192)), ?_⟩,
    ⟨(stateAt 0), 3, ({ first := 5, count := 128, off := 192, bytes := none, drops := [] }), ([]), ?_⟩,
    ⟨(stateAt 45), ({ num := 3, start := 70, odd := true, spilled := false, ring := 0, state := 1, rings := 1, length := 100, trigIndex := -5, first := 130, last := 229, stamp := [1, 2, 3], cause := 9, flags := 0, auxSeq := 4, anchors := [], held := true, readers := 1, staged := true, written := false, copied := false, copyDue := false }), ?_⟩,
    ⟨(stateAt 12), (Requester.host), (3#32), ({ num := 3, start := 70, odd := true, spilled := false, ring := 0, state := 0, rings := 1, length := 100, trigIndex := -5, first := 130, last := 229, stamp := [1, 2, 3], cause := 9, flags := 0, auxSeq := 4, anchors := [], held := true, readers := 0, staged := true, written := false, copied := false, copyDue := false }), ?_⟩,
    ⟨(stateAt 12), (Requester.host), (0#32), ({ num := 3, start := 70, odd := true, spilled := false, ring := 0, state := 0, rings := 1, length := 100, trigIndex := -5, first := 130, last := 229, stamp := [1, 2, 3], cause := 9, flags := 0, auxSeq := 4, anchors := [], held := true, readers := 0, staged := true, written := false, copied := false, copyDue := false }), ?_⟩,
    ⟨(stateAt 12), (Requester.host), (0#32), ({ num := 3, start := 70, odd := true, spilled := false, ring := 0, state := 0, rings := 1, length := 100, trigIndex := -5, first := 130, last := 229, stamp := [1, 2, 3], cause := 9, flags := 0, auxSeq := 4, anchors := [], held := true, readers := 0, staged := true, written := false, copied := false, copyDue := false }), ?_⟩,
    ⟨(stateAt 17), ({ num := 3, start := 70, odd := true, spilled := false, ring := 0, state := 1, rings := 1, length := 100, trigIndex := -5, first := 130, last := 229, stamp := [1, 2, 3], cause := 9, flags := 5, auxSeq := 4, anchors := [], held := true, readers := 0, staged := true, written := false, copied := false, copyDue := false }), ?_⟩,
    ⟨(stateAt 12), ({ num := 3, start := 70, odd := true, spilled := false, ring := 0, state := 0, rings := 1, length := 100, trigIndex := -5, first := 130, last := 229, stamp := [1, 2, 3], cause := 9, flags := 0, auxSeq := 4, anchors := [], held := true, readers := 0, staged := true, written := false, copied := false, copyDue := false }), ?_⟩,
    ⟨(stateAt 9), (Requester.host), 0, (0#32), ?_⟩,
    ⟨(stateAt 1), (Requester.host), 0, (1#32), ?_⟩,
    ⟨(stateAt 1), (Requester.host), 0, (0#32), ?_, ?_, ?_, ?_, ?_, 1, ?_⟩,
    ⟨(stateAt 9), (Requester.host), 0, (1#32), ?_⟩,
    ⟨(stateAt 1), (Requester.host), 0, (0#32), ?_⟩⟩ <;>
    first | (unfold Dev.TakesCmd; decide +kernel) | (unfold Dev.AssayIdle; decide +kernel) | (unfold Dev.TakesFrame; decide +kernel) | (unfold Dev.Outstanding; decide +kernel) | (unfold khzOut maxKhz; cases Config.partBE <;> decide +kernel) | decide +kernel

/-- States and operands that meet the hypotheses of SpillTier. -/
theorem witness_SpillTier :
  (∃ (a len off : Nat) (ns : Bool) (rest : List (Nat × Nat × Bool)) (bs : List Nat),
    (bs ≠ []) ∧
    (off + bs.length ≤ len)) ∧
  (∃ (a len off : Nat) (ns : Bool) (rest : List (Nat × Nat × Bool)) (bs : List Nat),
    (bs ≠ []) ∧
    (off < len) ∧
    (len < off + bs.length)) ∧
  (∃ (a len off : Nat) (ns : Bool) (rest : List (Nat × Nat × Bool)) (bs : List Nat),
    (bs ≠ []) ∧
    (len ≤ off)) ∧
  (∃ (s : State) (r : Nat) (g : Segment),
    (s.dev.fore.off = false) ∧
    (s.dev.flag Reg.acq_AUTO_SPILL = true) ∧
    (s.dev.acq.spilling = none) ∧
    (s.dev.holding = false) ∧
    (s.dev.fget Reg.ledg_SEGSPILL_SIZE ≠ 0) ∧
    (s.dev.spillBusy 12 = false) ∧
    (((List.range 12).filter s.dev.pinNear).head? = some r) ∧
    (s.dev.oldestSeg r = some g) ∧
    (g.state = 1) ∧
    let n := ((ringsOf g.rings).map (s.dev.copyLines g)).sum * 64
    (n < s.dev.segSpillFree)) ∧
  (∃ (s : State) (r : Nat) (g : Segment),
    (s.dev.fore.off = false) ∧
    (s.dev.flag Reg.acq_AUTO_SPILL = true) ∧
    (s.dev.acq.spilling = none) ∧
    (s.dev.holding = false) ∧
    (s.dev.fget Reg.ledg_SEGSPILL_SIZE ≠ 0) ∧
    (s.dev.spillBusy 12 = false) ∧
    (((List.range 12).filter s.dev.pinNear).head? = some r) ∧
    (s.dev.oldestSeg r = some g) ∧
    (g.state = 1) ∧
    let n := ((ringsOf g.rings).map (s.dev.copyLines g)).sum * 64
    (s.dev.segSpillFree ≤ n)) ∧
  (∃ (s : State) (n off len : Nat) (g : Segment),
    (s.dev.fore.off = false) ∧
    (s.dev.acq.spilling = some (n, off, len)) ∧
    (s.dev.holding = false) ∧
    (s.dev.spillBusy 12 = false) ∧
    (s.dev.acq.segs = [(n, g)]) ∧
    (g.num = n) ∧
    (g.final = true) ∧
    (g.written = true) ∧
    (s.dev.flag Reg.ledg_SPILL_LEDGER_EN = false) ∧
    (0 < g.readers) ∧
    let g1 := { g with
      start := off + g.start % 64
      spilled := true
      flags := g.flags ||| 8
      held := false }
    (g1.final = true)) ∧
  (∃ (s : State) (r : Fin 12) (count : Nat),
    (s.dev.fore.off = false) ∧
    (s.dev.flag Reg.acq_ring_STREAM_EN r = true) ∧
    (s.dev.holding = false) ∧
    (s.dev.spillBusy r = false) ∧
    ((s.dev.ring r).past = []) ∧
    ((s.dev.ring r).fresh = false) ∧
    (s.dev.spillBlocks r ≠ 0) ∧
    let x := s.dev.ring r
    let (b, bytes) := s.dev.blockOf r
    let n := min (count / b) ((x.write - x.spill) / b)
    (0 < n)) ∧
  (∃ (s : State) (r : Fin 12) (count : Nat),
    (s.dev.fore.off = false) ∧
    ((s.dev.ring r).past = []) ∧
    let n := s.dev.spillCount r count * (s.dev.blockOf r).1
    (0 < n) ∧
    ∃ (q : Nat),
    (q < 12) ∧
    (q ≠ r.val)) ∧
  (∃ (s : State) (x : Nat × Nat × Nat),
    (s.dev.fore.off = false) ∧
    (s.dev.acq.spilling = some x) ∧
    (s.dev.acq.segs = [])) ∧
  (∃ (s : State) (n : Nat),
    (s.dev.fore.off = false) ∧
    (s.dev.flag Reg.ledg_SPILL_LEDGER_EN = true) ∧
    (n < s.dev.acq.nextSeg) ∧
    (n ∉ s.dev.acq.stale) ∧
    (s.dev.seg n = none)) := by
  refine ⟨⟨0, 3, 0, (false), ([]), ([1, 2, 3]), ?_⟩,
    ⟨0, 1, 0, (false), ([]), ([1, 2, 3]), ?_⟩,
    ⟨0, 0, 0, (false), ([]), ([1, 2, 3]), ?_⟩,
    ⟨(stateAt 19), 0, ({ num := 3, start := 70, odd := true, spilled := false, ring := 0, state := 1, rings := 1, length := 100, trigIndex := -5, first := 130, last := 229, stamp := [1, 2, 3], cause := 9, flags := 0, auxSeq := 4, anchors := [], held := true, readers := 1, staged := true, written := false, copied := false, copyDue := false }), ?_⟩,
    ⟨(stateAt 0), 0, {sg with state := 1, length := 2^21, last := 129+2^21}, ?_⟩,
    ⟨(stateAt 26), 7, 1048576, 65, ({ num := 7, start := 70, odd := true, spilled := false, ring := 0, state := 1, rings := 1, length := 100, trigIndex := -5, first := 130, last := 229, stamp := [1, 2, 3], cause := 9, flags := 0, auxSeq := 4, anchors := [], held := true, readers := 1, staged := true, written := true, copied := false, copyDue := false }), ?_⟩,
    ⟨(stateAt 30), 0, 1048576, ?_⟩,
    ⟨(stateAt 30), 0, 1048576, ?_, ?_, ?_, 1, ?_⟩,
    ⟨(stateAt 76), ((3, 1048576, 65)), ?_⟩,
    ⟨(stateAt 64), 0, ?_⟩⟩ <;>
    first | (unfold Dev.TakesCmd; decide +kernel) | (unfold Dev.AssayIdle; decide +kernel) | (unfold Dev.TakesFrame; decide +kernel) | (unfold Dev.Outstanding; decide +kernel) | (unfold khzOut maxKhz; cases Config.partBE <;> decide +kernel) | decide +kernel

end P12

namespace P13
def sg : Segment := { num := 3, start := 70, odd := true, ring := 0, rings := 1, length := 5, trigIndex := -5, first := 130, last := 132, stamp := [1,2,3], cause := 9, flags := 0, auxSeq := 4, state := 1, readers := 2 }
def sgs : List Segment := [sg, {sg with flags := 0x120}]
def rc : TillRec := { seg := 3, next := 0 }
def dm : TillDump := { header := (List.range 16).map (· * 7777777), image := [1,2,2^33,4], slot := 70000 }
def cfg (m : Nat) (d : Dev) : Dev := (List.range 16).foldl (fun d k => (((d.fset Reg.accu_part_MODE m k).fset Reg.accu_part_POINTS 20 k).fset Reg.accu_part_UNITS 1 k).fset Reg.accu_part_BASE_UNIT k k |>.fset Reg.accu_part_RECORDS 5 k) (upDev d)
def run (m : Nat) (d : Dev) : Dev := (List.range 16).foldl (fun d k => (d.partState k 1).fbit Reg.accu_part_RUN true k) (cfg m d)
def rd (g : Segment) (c : Option TillRec) (d : Dev) : Dev := { (run 0 d).fset Reg.acq_ring_SIZE 1024 0 with acq.segs := [(3, g)], till.parts := [(2, {bound := [3], cur := c}), (5, {bound := [3], cur := c})], acq.rings := [(0, {issued := 1000, write := 1000})] }.fbit Reg.accu_part_EXCL_CLIPPED true 2
def du (c : Bool) (m : Nat) (d : Dev) : Dev := { run m d with till.parts := [(2, {due := some (true, c), range := some (3,5)}), (4, {sweep := some dm}), (5, {bound := [3], cur := some rc, due := some (false, c)})], till.banks := [(2*262144, 77), (2*262144+1, 78), (2*262144+5, 79)] }.fset Reg.accu_part_DUMP_SLOTS 3 2 |>.fset Reg.accu_part_DUMP_HEAD 2 2|>.fset Reg.accu_part_DUMP_SLOTS 3 4
def drn (d : Dev) : Dev := (((run 0 d).partState 3 2).partState 4 3)
def pool : List State := [State.reset, wit (cfg 0), wit (cfg 1), wit (fun d => {cfg 0 d with till.corrected := [(1, List.replicate 17 0), (257, List.replicate 16 0)]}.fset Reg.accu_SPARE_BANKS 0), wit (fun d => {cfg 0 d with fore.degraded := [(25, 15)], till.corrected := [(1, List.replicate 17 0), (257, List.replicate 16 0)]}.fset Reg.accu_SPARE_BANKS 0), wit (fun d => {cfg 0 d with till.corrected := [(1, List.replicate 17 0), (257, List.replicate 16 0)]}.fset Reg.accu_SPARE_BANKS 0x1111),  wit (cfg 3), wit (cfg 4), wit (run 0), wit (frozenAt 25), wit drn, {wit (rd sg (some rc)) with hbm := (List.range 600).map fun k => (k, BitVec.ofNat 8 (k*37))}, {wit (rd sg (some {rc with next := 2})) with hbm := (List.range 600).map fun k => (k, BitVec.ofNat 8 (k*37))},
  wit (rd {sg with flags := 0x120} none), wit (du false 0), wit (du true 1), wit (du true 3),
  wit (fun d => {cfg 0 d with till.corrected := [(1, List.replicate 17 0), (257, List.replicate 16 0)]}), wit (fun d => (cfg 0 d).fset Reg.accu_part_POINTS 4 2),
  (let d := ((cfg 0 State.reset.dev).fset Reg.accu_part_POINTS 4 2); let img := [1,2,3,4]; let h0 := [0,0,0,0,0,0,9,4,0,0,0,0,0,0,crc32c img]; {State.reset with dev := d, hbm := Memory.writeWords [] 0 (h0 ++ [crc32c h0] ++ img)})]
def stateAt (n : Nat) : State := (pool ++ []).getD n State.reset
def nfAt (n : Nat) : State := mod (stateAt n) fun d => d.fset Reg.tbase_NOMINAL_FREQ 8000000

/-- States and operands that meet the hypotheses of TillPartitions. -/
theorem witness_TillPartitions :
  (∃ (s : State) (who : Requester) (k : Fin 16) (val : Word),
    (s.dev.fore.off = false) ∧
    (s.dev.flag Reg.hdr_FREEZE 25 = false) ∧
    let v := val.toNat ||| 1
    (s.dev.partIs k = 0) ∧
    (s.dev.runFault k v = none)) ∧
  (∃ (s : State) (who : Requester) (k : Fin 16) (val : Word),
    (s.dev.fore.off = false) ∧
    (s.dev.flag Reg.hdr_FREEZE 25 = false) ∧
    let v := val.toNat ||| 1
    (s.dev.partIs k = 0) ∧
    ∃ (f : _),
    (s.dev.runFault k v = some f)) ∧
  (∃ (s : State) (who : Requester) (k : Fin 16) (val : Word),
    (s.dev.fore.off = false) ∧
    (s.dev.flag Reg.hdr_FREEZE 25 = false) ∧
    (s.dev.partIs k ≠ 0)) ∧
  (∃ (s : State) (who : Requester) (k : Fin 16) (val : Word),
    (s.dev.fore.off = false) ∧
    (s.dev.flag Reg.hdr_FREEZE 25 = false) ∧
    (s.dev.partIs k = 1) ∧
    (s.dev.flag Reg.accu_part_RUN k = true) ∧
    (andNot val.toNat 1 % 2 ^ 18 + 1 = s.dev.partCfg k)) ∧
  (∃ (s : State) (who : Requester) (k : Fin 16) (val : Word),
    (s.dev.fore.off = false) ∧
    (s.dev.flag Reg.hdr_FREEZE 25 = false) ∧
    (s.dev.partIs k = 1) ∧
    (s.dev.flag Reg.accu_part_RUN k = true) ∧
    (andNot val.toNat 1 % 2 ^ 18 + 1 ≠ s.dev.partCfg k)) ∧
  (∃ (s : State) (who : Requester) (k : Fin 16),
    (s.dev.fore.off = false) ∧
    (s.dev.flag Reg.hdr_FREEZE 25 = false) ∧
    (s.dev.partIs k ≠ 0)) ∧
  (∃ (s : State) (who : Requester) (k : Fin 16),
    (s.dev.fore.off = false) ∧
    (s.dev.flag Reg.hdr_FREEZE 25 = false) ∧
    let sh := s.dev.shape k
    (s.dev.partIs k = 0) ∧
    (sh.mode = 4 ∨ sh.points ≤ sh.capacity) ∧
    ∃ (w : Nat),
    (w < sh.words)) ∧
  (∃ (s : State) (who : Requester) (k : Fin 16),
    (s.dev.fore.off = false) ∧
    (s.dev.flag Reg.hdr_FREEZE 25 = false) ∧
    let sh := s.dev.shape k
    (s.dev.partIs k = 0) ∧
    (sh.mode = 4 ∨ sh.points ≤ sh.capacity) ∧
    ∃ (j : Nat),
    (j < 16) ∧
    (j ≠ k.val)) ∧
  (∃ (s : State) (k : Fin 16),
    (s.dev.fore.off = false) ∧
    (s.dev.partIs k = 3)) ∧
  (∃ (s : State) (k : Fin 16),
    (s.dev.fore.off = false) ∧
    (s.dev.partIs k ≠ 3)) ∧
  (∃ (s : State) (who : Requester) (k : Fin 16) (clear : Bool),
    (s.dev.fore.off = false) ∧
    (s.dev.flag Reg.hdr_FREEZE 25 = false) ∧
    (s.dev.partIs k ≠ 3) ∧
    ((s.dev.part k).due = none) ∧
    ((s.dev.part k).sweep = none) ∧
    ∃ (j : Nat),
    (j < 16) ∧
    (j ≠ k.val)) ∧
  (∃ (s : State) (who : Requester) (k : Fin 16),
    (s.dev.fore.off = false) ∧
    (s.dev.flag Reg.hdr_FREEZE 25 = false) ∧
    ((s.dev.part k).bound = []) ∧
    ((s.dev.part k).snap = none)) ∧
  (∃ (s : State) (k : Fin 16) (n : Nat) (g : Segment) (c : TillRec),
    (s.dev.fore.off = false) ∧
    ((s.dev.part k).due = none) ∧
    (s.dev.fget Reg.pwr_STAGE ≠ 3) ∧
    ((s.dev.part k).bound = [n]) ∧
    (s.dev.seg n = some g) ∧
    (g.num = n) ∧
    ((s.dev.part k).cur = some c) ∧
    let sh := s.dev.shape k
    (sh.mode = 0) ∧
    (sh.points ≤ sh.capacity) ∧
    (c.next < s.dev.needed k sh g) ∧
    (s.dev.readable k g c.next = true) ∧
    ((s.dev.part k).sweep = none) ∧
    ((s.dev.part k).snap = none) ∧
    (s.dev.flag Reg.accu_part_AUTO_DUMP k = false) ∧
    (1 < g.readers) ∧
    (s.dev.partIs k = 1) ∧
    (c.next + 1 < s.dev.needed k sh g)) ∧
  (∃ (s : State) (k : Fin 16) (n : Nat) (g : Segment) (c : TillRec),
    (s.dev.fore.off = false) ∧
    ((s.dev.part k).due = none) ∧
    (s.dev.fget Reg.pwr_STAGE ≠ 3) ∧
    ((s.dev.part k).bound = [n]) ∧
    (s.dev.seg n = some g) ∧
    (g.num = n) ∧
    ((s.dev.part k).cur = some c) ∧
    let sh := s.dev.shape k
    (sh.mode = 0) ∧
    (sh.points ≤ sh.capacity) ∧
    (c.next < s.dev.needed k sh g) ∧
    (s.dev.readable k g c.next = true) ∧
    ((s.dev.part k).sweep = none) ∧
    ((s.dev.part k).snap = none) ∧
    (s.dev.flag Reg.accu_part_AUTO_DUMP k = false) ∧
    (1 < g.readers) ∧
    (s.dev.partIs k = 1) ∧
    (s.dev.needed k sh g ≤ c.next + 1)) ∧
  (∃ (s : State) (k : Fin 16) (n : Nat) (g : Segment) (count : Nat),
    (s.dev.fore.off = false) ∧
    ((s.dev.part k).due = none) ∧
    (s.dev.fget Reg.pwr_STAGE ≠ 3) ∧
    ((s.dev.part k).bound = [n]) ∧
    (s.dev.seg n = some g) ∧
    ((s.dev.part k).cur = none) ∧
    (g.final = true) ∧
    (s.dev.excluded k g = true) ∧
    (s.dev.partIs k = 1)) ∧
  (∃ (s : State) (k : Fin 16) (count : Nat),
    (s.dev.fore.off = false) ∧
    ((s.dev.part k).due = none) ∧
    (s.dev.fget Reg.pwr_STAGE ≠ 3) ∧
    ((s.dev.part k).bound = []) ∧
    ((s.dev.part k).sweep = none) ∧
    (s.dev.partIs k = 2)) := by
  refine ⟨⟨(stateAt 0), (Requester.host), 0, (0#32), ?_⟩,
    ⟨(stateAt 0), (Requester.host), 0, (7#32), ?_, ?_, ?_, 3116, ?_⟩,
    ⟨(stateAt 8), (Requester.host), 0, (0#32), ?_⟩,
    ⟨(stateAt 8), (Requester.host), 0, (0#32), ?_⟩,
    ⟨(stateAt 8), (Requester.host), 0, (0x41#32), ?_⟩,
    ⟨(stateAt 8), (Requester.host), 0, ?_⟩,
    ⟨(stateAt 0), (Requester.host), 0, ?_, ?_, ?_, ?_, 0, ?_⟩,
    ⟨(stateAt 0), (Requester.host), 0, ?_, ?_, ?_, ?_, 1, ?_⟩,
    ⟨(stateAt 10), 4, ?_⟩,
    ⟨(stateAt 0), 0, ?_⟩,
    ⟨(stateAt 0), (Requester.host), 0, (false), ?_, ?_, ?_, ?_, ?_, 1, ?_⟩,
    ⟨(stateAt 0), (Requester.host), 0, ?_⟩,
    ⟨(stateAt 11), 2, 3, ({ num := 3, start := 70, odd := true, spilled := false, ring := 0, state := 1, rings := 1, length := 5, trigIndex := -5, first := 130, last := 132, stamp := [1, 2, 3], cause := 9, flags := 0, auxSeq := 4, anchors := [], held := true, readers := 2, staged := true, written := false, copied := false, copyDue := false }), ({ seg := 3, next := 0, fails := 0, firstFail := none, m0 := none, m1 := none, sum := 0, sat := false }), ?_⟩,
    ⟨(stateAt 12), 2, 3, ({ num := 3, start := 70, odd := true, spilled := false, ring := 0, state := 1, rings := 1, length := 5, trigIndex := -5, first := 130, last := 132, stamp := [1, 2, 3], cause := 9, flags := 0, auxSeq := 4, anchors := [], held := true, readers := 2, staged := true, written := false, copied := false, copyDue := false }), ({ seg := 3, next := 2, fails := 0, firstFail := none, m0 := none, m1 := none, sum := 0, sat := false }), ?_⟩,
    ⟨(stateAt 13), 2, 3, ({ num := 3, start := 70, odd := true, spilled := false, ring := 0, state := 1, rings := 1, length := 5, trigIndex := -5, first := 130, last := 132, stamp := [1, 2, 3], cause := 9, flags := 288, auxSeq := 4, anchors := [], held := true, readers := 2, staged := true, written := false, copied := false, copyDue := false }), 0, ?_⟩,
    ⟨(stateAt 10), 3, 0, ?_⟩⟩ <;>
    first | (unfold Dev.TakesCmd; decide +kernel) | (unfold Dev.AssayIdle; decide +kernel) | (unfold Dev.TakesFrame; decide +kernel) | (unfold Dev.Outstanding; decide +kernel) | (unfold khzOut maxKhz; cases Config.partBE <;> decide +kernel) | decide +kernel

/-- States and operands that meet the hypotheses of TillDumpsAndLoads. -/
theorem witness_TillDumpsAndLoads :
  (∃ (s : State) (k : Fin 16) (auto clear : Bool),
    (s.dev.fore.off = false) ∧
    ((s.dev.part k).due = some (auto, clear)) ∧
    ((s.dev.part k).sweep = none) ∧
    let sh := s.dev.shape k
    (sh.mode = 4 ∨ sh.points ≤ sh.capacity) ∧
    ∃ (j : Nat),
    (j < 16) ∧
    (j ≠ k.val)) ∧
  (∃ (s : State) (k : Fin 16) (auto clear : Bool),
    (s.dev.fore.off = false) ∧
    ((s.dev.part k).due = some (auto, clear)) ∧
    ((s.dev.part k).sweep = none) ∧
    let sh := s.dev.shape k
    (sh.mode = 4 ∨ sh.points ≤ sh.capacity) ∧
    (clear = false)) ∧
  (∃ (s : State) (k : Fin 16) (auto clear : Bool),
    (s.dev.fore.off = false) ∧
    ((s.dev.part k).due = some (auto, clear)) ∧
    ((s.dev.part k).sweep = none) ∧
    let sh := s.dev.shape k
    (sh.mode = 4 ∨ sh.points ≤ sh.capacity) ∧
    (clear = true) ∧
    ∃ (w : Nat),
    (w < sh.words)) ∧
  (∃ (s : State) (k : Fin 16) (w : TillDump),
    (s.dev.fore.off = false) ∧
    ((s.dev.part k).sweep = some w) ∧
    (w.header.length = 16) ∧
    ((s.dev.part k).snap = none) ∧
    (s.dev.partIs k ≠ 2) ∧
    (bitAt (s.dev.xaccWord k) 0 = false) ∧
    let slots := s.dev.fget Reg.accu_part_DUMP_SLOTS k
    (0 < slots) ∧
    (slots < 2 ^ 8)) ∧
  (∃ (s : State) (who : Requester) (k : Fin 16) (slot : BitVec 8),
    (s.dev.fore.off = false) ∧
    (s.dev.flag Reg.hdr_FREEZE 25 = false) ∧
    (s.dev.partIs k = 0) ∧
    let sh := s.dev.shape k
    let a := s.dev.fget Reg.accu_part_DUMP_BASE k * 65536 + slot.toNat * sh.slotBytes
    let ok := loadOk sh (s.dev.headerPoints k sh) (s.hbmWords a 16) (s.hbmWords (a + 64) sh.words)
    (ok = false)) ∧
  (∃ (s : State) (who : Requester) (k : Fin 16) (slot : BitVec 8),
    (s.dev.fore.off = false) ∧
    (s.dev.flag Reg.hdr_FREEZE 25 = false) ∧
    (s.dev.partIs k = 0) ∧
    let sh := s.dev.shape k
    let a := s.dev.fget Reg.accu_part_DUMP_BASE k * 65536 + slot.toNat * sh.slotBytes
    let ok := loadOk sh (s.dev.headerPoints k sh) (s.hbmWords a 16) (s.hbmWords (a + 64) sh.words)
    (ok = true) ∧
    (sh.mode = 4 ∨ sh.points ≤ sh.capacity) ∧
    ∃ (w : Nat),
    (w < sh.words)) ∧
  (∃ (s : State) (island : Fin 4) (bank : Nat),
    (s.dev.fore.off = false) ∧
    let now := s.dev.ticksToUs s.dev.nowTick
    let n := ((KMap.at s.dev.till.corrected [] (island * 256 + bank % 256)).filter fun u => decide (now < u + 1000000)).length
    (n < 16)) ∧
  (∃ (s : State) (island : Fin 4) (bank : Nat),
    (s.dev.fore.off = false) ∧
    let now := s.dev.ticksToUs s.dev.nowTick
    let n := ((KMap.at s.dev.till.corrected [] (island * 256 + bank % 256)).filter fun u => decide (now < u + 1000000)).length
    let spare := bitField (s.dev.fget Reg.accu_SPARE_BANKS) (4 * island) 4
    (16 ≤ n) ∧
    (spare = 0) ∧
    (bitAt (KMap.at s.dev.fore.degraded 0 25) island = true)) ∧
  (∃ (s : State) (island : Fin 4) (bank : Nat),
    (s.dev.fore.off = false) ∧
    let now := s.dev.ticksToUs s.dev.nowTick
    let n := ((KMap.at s.dev.till.corrected [] (island * 256 + bank % 256)).filter fun u => decide (now < u + 1000000)).length
    let spare := bitField (s.dev.fget Reg.accu_SPARE_BANKS) (4 * island) 4
    (16 ≤ n) ∧
    (0 < spare) ∧
    (spare = 1)) ∧
  (∃ (s : State) (k : Fin 16) (point : Nat),
    (s.dev.fore.off = false) ∧
    let sh := s.dev.shape k
    (sh.mode = 0 ∨ sh.mode = 1) ∧
    (point < sh.points) ∧
    (sh.points ≤ sh.capacity)) := by
  refine ⟨⟨(stateAt 14), 2, (true), (false), ?_, ?_, ?_, ?_, 0, ?_⟩,
    ⟨(stateAt 14), 2, (true), (false), ?_⟩,
    ⟨(stateAt 15), 2, (true), (true), ?_, ?_, ?_, ?_, ?_, 0, ?_⟩,
    ⟨(stateAt 14), 4, ({ header := [0, 7777777, 15555554, 23333331, 31111108, 38888885, 46666662, 54444439, 62222216, 69999993, 77777770, 85555547, 93333324, 101111101, 108888878, 116666655], image := [1, 2, 8589934592, 4], slot := 70000, auto := false }), ?_⟩,
    ⟨({ stateAt 19 with hbm := Memory.writeWords (stateAt 19).hbm 0 [1] }), .host, 2, 0, ?_⟩,
    ⟨(stateAt 19), (Requester.host), 2, (0#8), ?_, ?_, ?_, ?_, ?_, 0, ?_⟩,
    ⟨(nfAt 0), 0, 0, ?_⟩,
    ⟨(nfAt 4), 0, 1, ?_⟩,
    ⟨(nfAt 5), 0, 1, ?_⟩,
    ⟨(stateAt 0), 0, 0, ?_⟩⟩ <;>
    first | (unfold Dev.TakesCmd; decide +kernel) | (unfold Dev.AssayIdle; decide +kernel) | (unfold Dev.TakesFrame; decide +kernel) | (unfold Dev.Outstanding; decide +kernel) | (unfold khzOut maxKhz; cases Config.partBE <;> decide +kernel) | decide +kernel

end P13

namespace P14
def tk (w : List Nat) : List Nat := (List.range 16).map fun k => w.getD k 0
def w0 : List Nat := tk [0x80 + 7*65536, 0, 3, 0, 1 + 0, 2]
def wN : List Nat := tk [0x80 + 9*65536, 1, 0, 0, 0, 2, 0x40000]
def wP : List Nat := tk [0x80 + 9*65536 + 512, 0, 0, 0, 0, 2]
def x0 : Ticket := { id := 1, words := w0, sq := 4, sqHead := 6, seq := 0 }
def xN : Ticket := { id := 3, words := wN, sq := 4, sqHead := 6, seq := 0 }
def xP : Ticket := { id := 5, words := wP, sq := 4, sqHead := 6, seq := 0 }
def o0 : TicketOut := { status := 0, result := 9, outputs := [[1,2,3,4],[5,6,7,8]] }
def c7 : Cmd := { id := 1, opcode := 1, sq := 1, tag := 3, sqHead := 5, cq := 2, entry := [], result := none }
def bq (d : Dev) : Dev := ((upDev d).qset 2 { typ := 2, state := 1, base := 4096, log2 := 4, tail := 17, head := 10 }).qset 1 { typ := 1, state := 1, base := 8192, log2 := 4, cq := 2, head := 3, tail := 5, cls := 1 } |>.fset Reg.benchg_RECIPE_BASE 1 |>.fset Reg.benchg_SCRATCH_BASE 8
  |>.fset Reg.benchg_SLOTS 2 |>.fset Reg.benchg_SLOT_UNITS 1
def neigh (d : Dev) : Dev := d.tsetWords 29 0 0 0 [0x00020100, 0xFF] |>.tsetWords 29 0 0 8 [0xFF020001]
def bt (ts : List Ticket) (ds : List (Nat × List Nat)) (d : Dev) : Dev :=
  let d := neigh (bq d)
  { d with bench.tickets := ts, bench.deques := ds, bench.nextId := 9 }
def img (w0 : Nat) (ops : List Nat) (gen : Nat := 0) : List Nat :=
  let body := (List.range 1008).map fun k => ops.getD k 0
  let ic := crc32c body
  let h := [w0, 1,0,5,7,gen,0,0,1,0,0,0,0,0, ic]
  h ++ [crc32c h] ++ body
def m0 (a b : List Nat) : List Host.Cell := (((List.range (4096+ 4 * b.length)).zip ((a ++ List.replicate (1024 - a.length) 0 ++ b).flatMap wordBytes)).filter fun p => p.2 != 0).map fun p => (65536 + p.1, p.2)
def good0 := img 0x10001 [0]
def goodP := img 0x10001 [0x39]
def mA := m0 good0 good0
def mB := m0 good0 goodP
def mC := m0 [1] [2]
def mD := m0 [1,2,3] goodP
def mE := m0 [1,2,3] (img 0x10001 [0x39, 9])
def run1 (d : Dev) : Dev := (d.jmStatus 1).jmStatus 17
def pool : List State := [State.reset, wit bq, wit (fun d => (bq d).fbit Reg.pcie_BME true), wit (fun d => { bq d with bench.offered := [(3, w0)] }.fbit Reg.pcie_BME true),  wit (fun d => { bq d with bench.offered := [(1, w0)] }), wit (fun d => { bq d with bench.offered := [(3, [])] }),
  { wit (fun d => { bq d with bench.offered := [(1, tk [0x80,1,0,0,0,2])], bench.tickets := [x0] }) with hbm := mA },
  { wit (fun d => bt [x0, xN] [] d |>.fbit Reg.benchg_DISPATCH_EN true) with hbm := [] },
  { wit (fun d => bt [xP, xN] [] d |>.fbit Reg.benchg_DISPATCH_EN true |>.fset Reg.benchg_PIN 6 0 |>.fset Reg.benchg_IN_SERVICE 1) with hbm := [] },
  { wit (fun d => bt [{xN with place := .deque 1}, xN] [(1,[3])] d |>.fbit Reg.benchg_DISPATCH_EN true) with hbm := mB },
  { wit (fun d => bt [{xN with place := .deque 1}, xN] [(1,[3])] d |>.fset Reg.benchg_SLOTS 0) with hbm := mB },
  { wit (fun d => bt [{x0 with place := .deque 1}, xN] [(1,[1, 3])] d) with hbm := mC },
  { wit (fun d => bt [{x0 with place := .deque 33}, xN] [(33,[1, 3])] d |>.fbit Reg.benchg_XSTEAL_EN true) with hbm := mC },
  { wit (fun d => run1 (bt [{xN with place := .running 17, slot := some 0, timeouts := 2}, {xP with place := .running 1, slot := some 1, timeouts := 1, attempt := 3}, {x0 with place := .deque 1}] [(1,[1])] d)) with hbm := mB },
  { wit (fun d => run1 (bt [{xP with place := .running 1, slot := some 1, timeouts := 1, attempt := 3}] [] d)) with hbm := mB },
  { wit (fun d => run1 { bt [{xN with place := .running 17, slot := some 0, timeouts := 2}, {xP with place := .running 1, slot := some 1, timeouts := 1, attempt := 3}, {x0 with place := .deque 1}] [(1,[1])] d with bench.jmTimes := [(1,[0]), (17,[2])] }) with hbm := mB },
  { wit (fun d => run1 { bt [{xN with place := .running 17, slot := some 0, timeouts := 2}, {xP with place := .running 1, slot := some 1, timeouts := 1, attempt := 3}, {x0 with place := .deque 1}] [(1,[1])] d with bench.jmTimes := [(1,[0]), (17,[2])], fore.marks := [(29, 1)] } |>.fset Reg.bench_RETIRED 0xFFFD |>.fset Reg.bench_RETIRED 0xFFFF 2|>.fset Reg.benchg_IN_SERVICE 0xFFFFFFFD |>.fbit Reg.pwr_STAGE false) with hbm := mB },
  wit (fun d => { bt [] [] d with fore.marks := [(29, 1)] } |>.fset Reg.benchg_IN_SERVICE 0xFFFFFFF9|>.fset Reg.benchg_ISOLATED 6 |>.fset Reg.bench_REJOIN_FAILS 2 2),
  { wit (fun d => run1 { bt [{xN with place := .running 17, slot := some 0, timeouts := 2}, {xP with place := .running 1, slot := some 1, timeouts := 1, attempt := 3}, {x0 with place := .deque 1}] [(1,[1])] d with bench.jmTimes := [(1,[0]), (17,[2])], fore.degraded := [(32,1), (33,1), (29,1)] }) with hbm := mB },
  wit (fun d => (run1 (bt [{xP with place := .running 1, slot := some 1}] [] d)).fset Reg.pwr_STAGE 3),
  { wit (fun d => bt [{x0 with out := some {o0 with status := 3}}, {xN with out := some o0}, {xP with out := some o0}] [] d) with hbm := mB },
  { wit (fun d => bt [{x0 with out := some o0}, {xN with out := some o0}, {xP with out := some o0}] [] d) with hbm := mB },
  { wit (fun d => bt [{xN with out := some o0}, {xP with out := some o0}] [] d) with hbm := mB },
  { wit (fun d => bt [{xN with out := some o0, words := tk [0x80+9*65536,1,0,0,0,2,0x10]}, {xP with out := some o0}] [] d) with hbm := mB },
  { wit (fun d => {bq d with qm.cmds := [c7], bench.loading := [(0, 1), (1, 7)]}) with hbm := mB },
  { wit (fun d => {bq d with qm.cmds := [c7], bench.loading := [(0, 1), (1, 7)], bench.gen := [(0, 4)] }) with hbm := mD },
  { wit (fun d => {bq d with qm.cmds := [c7], bench.loading := [(1, 1)]}) with hbm := mE }]
def stateAt (n : Nat) : State := (pool ++ (pool.take 5 ++ pool.drop 9).map fatS).getD n State.reset
def nfAt (n : Nat) : State := mod (stateAt n) fun d => d.fset Reg.tbase_NOMINAL_FREQ 8000000

/-- States and operands that meet the hypotheses of TicketsAdmittedAndDispatched. -/
theorem witness_TicketsAdmittedAndDispatched :
  (∃ (s : State) (q : Nat) (entry : List Word),
    (s.dev.fore.off = false) ∧
    let c := s.dev.qctx q
    let ok := (isWork q = true ∨ c.typ = 1 ∧ c.state = 1 ∧ c.used ≠ 0 ∧ s.dev.fetches q = true) ∧ (entry.map BitVec.toNat).headD 0 % 256 = 0x80 ∧ ∀ p ∈ s.dev.bench.offered, p.1 ≠ q
    (¬ ok)) ∧
  (∃ (s : State) (q : Nat) (entry : List Word),
    (s.dev.fore.off = false) ∧
    let c := s.dev.qctx q
    let ok := (isWork q = true ∨ c.typ = 1 ∧ c.state = 1 ∧ c.used ≠ 0 ∧ s.dev.fetches q = true) ∧ (entry.map BitVec.toNat).headD 0 % 256 = 0x80 ∧ ∀ p ∈ s.dev.bench.offered, p.1 ≠ q
    (ok)) ∧
  (∃ (s : State) (q : Nat) (ws : List Nat),
    (s.dev.fore.off = false) ∧
    (s.dev.bench.offered = [(q, ws)]) ∧
    let w : TicketWords := { ws := ws }
    (s.dev.admitWaits w.destQ = false)) ∧
  (∃ (s : State),
    (s.dev.fore.off = false) ∧
    (s.dev.flag Reg.benchg_DISPATCH_EN = false ∨ s.dev.nextTicket = none)) := by
  refine ⟨⟨(stateAt 0), 0, ([0x80#32, 1#32]), ?_⟩,
    ⟨(stateAt 2), 1, ([0x80#32, 1#32]), ?_⟩,
    ⟨(stateAt 3), 3, ([458880, 0, 3, 0, 1, 2, 0, 0, 0, 0, 0, 0, 0, 0, 0, 0]), ?_⟩,
    ⟨(stateAt 0), ?_⟩⟩ <;>
    first | (unfold Dev.TakesCmd; decide +kernel) | (unfold Dev.AssayIdle; decide +kernel) | (unfold Dev.TakesFrame; decide +kernel) | (unfold Dev.Outstanding; decide +kernel) | (unfold khzOut maxKhz; cases Config.partBE <;> decide +kernel) | decide +kernel

/-- States and operands that meet the hypotheses of TicketAttemptsAndCommits. -/
theorem witness_TicketAttemptsAndCommits :
  (∃ (s : State) (jm : Fin 512),
    (s.dev.fore.off = false) ∧
    (s.dev.fget Reg.pwr_STAGE ≠ 3) ∧
    (s.dev.benchTakes (jm / 16) = true) ∧
    (s.dev.jmRetired jm = false) ∧
    (s.dev.executing jm = none) ∧
    ∃ (id : Nat) (ids : List Nat),
    (s.dev.deque jm = id :: ids) ∧
    ∃ (x : Ticket),
    (s.dev.ticket id = some x)) ∧
  (∃ (s : State) (jm : Fin 512),
    (s.dev.fore.off = false) ∧
    (s.dev.fget Reg.pwr_STAGE ≠ 3) ∧
    (s.dev.benchTakes (jm / 16) = true) ∧
    (s.dev.jmRetired jm = false) ∧
    (s.dev.executing jm = none) ∧
    ∃ (id : Nat) (ids : List Nat),
    (s.dev.deque jm = id :: ids) ∧
    ∃ (x : Ticket),
    (s.dev.ticket id = some x) ∧
    (s.dev.freeSlot = none)) ∧
  (∃ (s : State) (jm : Fin 512),
    (s.dev.fore.off = false) ∧
    (s.dev.fget Reg.pwr_STAGE ≠ 3) ∧
    (s.dev.benchTakes (jm / 16) = true) ∧
    (s.dev.jmRetired jm = false) ∧
    (s.dev.executing jm = none) ∧
    ∃ (id : Nat) (ids : List Nat),
    (s.dev.deque jm = id :: ids) ∧
    ∃ (x : Ticket),
    (s.dev.ticket id = some x) ∧
    ∃ (n : _),
    (s.dev.freeSlot = some n)) ∧
  (∃ (s : State) (jm : Fin 512),
    (s.dev.fore.off = false) ∧
    (s.dev.benchTakes (jm / 16) = true) ∧
    (s.dev.jmRetired jm = false) ∧
    (s.dev.executing jm = none) ∧
    (s.dev.deque jm = []) ∧
    ∃ (v : Nat),
    (s.dev.victim jm = some v) ∧
    (v ≠ jm) ∧
    (v < 512) ∧
    ∃ (id : Nat) (ids : List Nat),
    (s.dev.deque v = id :: ids) ∧
    ∃ (x : Ticket),
    (s.dev.ticket id = some x) ∧
    ∃ (k : _),
    (k ≠ v) ∧
    (k ≠ jm.val)) ∧
  (∃ (s : State) (jm : Fin 512),
    (s.dev.fore.off = false) ∧
    (s.dev.benchTakes (jm / 16) = true) ∧
    (s.dev.jmRetired jm = false) ∧
    (s.dev.executing jm = none) ∧
    (s.dev.deque jm = []) ∧
    ∃ (v : Nat),
    (s.dev.victim jm = some v) ∧
    (v ≠ jm) ∧
    (v < 512) ∧
    ∃ (id : Nat) (ids : List Nat),
    (s.dev.deque v = id :: ids) ∧
    ∃ (x : Ticket),
    (s.dev.ticket id = some x) ∧
    (v / 16 ≠ jm / 16)) ∧
  (∃ (s : State) (jm : Fin 512) (id attempt : Nat),
    (s.dev.fore.off = false) ∧
    (s.dev.ticket id = none)) ∧
  (∃ (s : State) (jm : Fin 512) (id attempt : Nat),
    (s.dev.fore.off = false) ∧
    ∃ (x : _),
    (s.dev.ticket id = some x) ∧
    (x.place ≠ .running jm ∨ x.attempt ≠ attempt ∨ s.dev.benchIn (jm / 16) = false)) ∧
  (∃ (s : State) (id : Nat) (x : Ticket) (o : TicketOut),
    (s.dev.fore.off = false) ∧
    (s.dev.ticket id = some x) ∧
    (x.out = some o) ∧
    (s.dev.committable x = true) ∧
    (x.place = .store) ∧
    (x.holds = []) ∧
    (x.made = 0) ∧
    (x.t.noCompletion = false) ∧
    ((s.dev.qctx x.t.destQ).typ = 2) ∧
    (s.dev.qroom x.t.destQ 1 = true) ∧
    (s.dev.holding = false) ∧
    let r := recipeOf (s.recipeWords x.t.recipe)
    let pubs := r.ops.filter RecipeOp.isPublish
    let good := x.checked || s.publishable x o r
    (o.status ≠ 0 ∨ good = false ∨ pubs = [])) ∧
  (∃ (s : State) (id : Nat) (x : Ticket),
    (s.dev.fore.off = false) ∧
    (s.dev.ticket id = some x) ∧
    (s.dev.committable x = false)) ∧
  (∃ (s : State) (slot : Fin 1024),
    (s.dev.fore.off = false) ∧
    (KMap.find s.dev.bench.loading slot = none)) ∧
  (∃ (s : State) (slot : Fin 1024),
    (s.dev.fore.off = false) ∧
    ∃ (c : Cmd),
    (KMap.find s.dev.bench.loading slot = some c.id) ∧
    (s.dev.Outstanding c)) ∧
  (∃ (s : State) (slot : Fin 1024),
    (s.dev.fore.off = false) ∧
    ∃ (c : Cmd),
    (KMap.find s.dev.bench.loading slot = some c.id) ∧
    (s.dev.Outstanding c)) := by
  refine ⟨⟨(stateAt 11), 1, ?_, ?_, ?_, ?_, ?_, 1, ([3]), ?_, ({ id := 1, words := [458880, 0, 3, 0, 1, 2, 0, 0, 0, 0, 0, 0, 0, 0, 0, 0], sq := 4, sqHead := 6, seq := 0, attempt := 0, timeouts := 0, place := TicketAt.deque 1, out := none, slot := none, slotWait := false, started := 0, holds := [], checked := false, made := 0, sent := 0 }), ?_⟩,
    ⟨(stateAt 10), 1, ?_, ?_, ?_, ?_, ?_, 3, ([]), ?_, ({ id := 3, words := [589952, 1, 0, 0, 0, 2, 262144, 0, 0, 0, 0, 0, 0, 0, 0, 0], sq := 4, sqHead := 6, seq := 0, attempt := 0, timeouts := 0, place := TicketAt.deque 1, out := none, slot := none, slotWait := false, started := 0, holds := [], checked := false, made := 0, sent := 0 }), ?_⟩,
    ⟨(stateAt 9), 1, ?_, ?_, ?_, ?_, ?_, 3, ([]), ?_, ({ id := 3, words := [589952, 1, 0, 0, 0, 2, 262144, 0, 0, 0, 0, 0, 0, 0, 0, 0], sq := 4, sqHead := 6, seq := 0, attempt := 0, timeouts := 0, place := TicketAt.deque 1, out := none, slot := none, slotWait := false, started := 0, holds := [], checked := false, made := 0, sent := 0 }), ?_, 0, ?_⟩,
    ⟨(stateAt 9), 0, ?_, ?_, ?_, ?_, ?_, 1, ?_, ?_, ?_, 3, ([]), ?_, ({ id := 3, words := [589952, 1, 0, 0, 0, 2, 262144, 0, 0, 0, 0, 0, 0, 0, 0, 0], sq := 4, sqHead := 6, seq := 0, attempt := 0, timeouts := 0, place := TicketAt.deque 1, out := none, slot := none, slotWait := false, started := 0, holds := [], checked := false, made := 0, sent := 0 }), ?_, 2, ?_⟩,
    ⟨(stateAt 11), 17, ?_, ?_, ?_, ?_, ?_, 1, ?_, ?_, ?_, 1, ([3]), ?_, ({ id := 1, words := [458880, 0, 3, 0, 1, 2, 0, 0, 0, 0, 0, 0, 0, 0, 0, 0], sq := 4, sqHead := 6, seq := 0, attempt := 0, timeouts := 0, place := TicketAt.deque 1, out := none, slot := none, slotWait := false, started := 0, holds := [], checked := false, made := 0, sent := 0 }), ?_⟩,
    ⟨(stateAt 0), 0, 0, 0, ?_⟩,
    ⟨(stateAt 6), 0, 1, 0, ?_, ({ id := 1, words := [458880, 0, 3, 0, 1, 2, 0, 0, 0, 0, 0, 0, 0, 0, 0, 0], sq := 4, sqHead := 6, seq := 0, attempt := 0, timeouts := 0, place := TicketAt.store, out := none, slot := none, slotWait := false, started := 0, holds := [], checked := false, made := 0, sent := 0 }), ?_⟩,
    ⟨(stateAt 20), 1, ({ id := 1, words := [458880, 0, 3, 0, 1, 2, 0, 0, 0, 0, 0, 0, 0, 0, 0, 0], sq := 4, sqHead := 6, seq := 0, attempt := 0, timeouts := 0, place := TicketAt.store, out := some { status := 3, result := 9, outputs := [[1, 2, 3, 4], [5, 6, 7, 8]] }, slot := none, slotWait := false, started := 0, holds := [], checked := false, made := 0, sent := 0 }), ({ status := 3, result := 9, outputs := [[1, 2, 3, 4], [5, 6, 7, 8]] }), ?_⟩,
    ⟨(stateAt 6), 1, ({ id := 1, words := [458880, 0, 3, 0, 1, 2, 0, 0, 0, 0, 0, 0, 0, 0, 0, 0], sq := 4, sqHead := 6, seq := 0, attempt := 0, timeouts := 0, place := TicketAt.store, out := none, slot := none, slotWait := false, started := 0, holds := [], checked := false, made := 0, sent := 0 }), ?_⟩,
    ⟨(stateAt 0), 0, ?_⟩,
    ⟨(stateAt 24), 0, ?_, ({ id := 1, opcode := 1, sq := 1, cq := 2, tag := 3, sqHead := 5, entry := [], result := none }), ?_⟩,
    ⟨(stateAt 25), 0, ?_, ({ id := 1, opcode := 1, sq := 1, cq := 2, tag := 3, sqHead := 5, entry := [], result := none }), ?_⟩⟩ <;>
    first | (unfold Dev.TakesCmd; decide +kernel) | (unfold Dev.AssayIdle; decide +kernel) | (unfold Dev.TakesFrame; decide +kernel) | (unfold Dev.Outstanding; decide +kernel) | (unfold khzOut maxKhz; cases Config.partBE <;> decide +kernel) | decide +kernel

/-- States and operands that meet the hypotheses of BenchFailures. -/
theorem witness_BenchFailures :
  (∃ (s : State) (jm : Fin 512) (atMs : Nat) (x : Ticket),
    (s.dev.fore.off = false) ∧
    (s.dev.executing jm = some x) ∧
    (s.dev.fget Reg.pwr_STAGE = 3)) ∧
  (∃ (s : State) (jm : Fin 512) (atMs : Nat) (x : Ticket),
    (s.dev.fore.off = false) ∧
    (s.dev.executing jm = some x) ∧
    (s.dev.fget Reg.pwr_STAGE ≠ 3) ∧
    (2 ≤ x.timeouts)) ∧
  (∃ (s : State) (jm : Fin 512) (atMs : Nat) (x : Ticket),
    (s.dev.fore.off = false) ∧
    (s.dev.executing jm = some x) ∧
    (s.dev.fget Reg.pwr_STAGE ≠ 3) ∧
    (x.timeouts < 2)) ∧
  (∃ (s : State) (jm : Fin 512) (atMs : Nat) (x : Ticket),
    (s.dev.fore.off = false) ∧
    (s.dev.executing jm = some x) ∧
    let times := (atMs :: (KMap.at s.dev.bench.jmTimes [] jm).filter fun u => decide (atMs < u + 1000)).take 2
    let retire := times.length = 2 ∧ s.dev.jmRetired jm = false
    (s.dev.fget Reg.pwr_STAGE ≠ 3) ∧
    (¬ retire)) ∧
  (∃ (s : State) (jm : Fin 512) (atMs : Nat) (x : Ticket),
    (s.dev.fore.off = false) ∧
    (s.dev.executing jm = some x) ∧
    let b := jm.val / 16
    let times := (atMs :: (KMap.at s.dev.bench.jmTimes [] jm).filter fun u => decide (atMs < u + 1000)).take 2
    let retire := times.length = 2 ∧ s.dev.jmRetired jm = false
    (s.dev.fget Reg.pwr_STAGE ≠ 3) ∧
    (retire) ∧
    (s.dev.isDegraded (32 + b) = true)) ∧
  (∃ (s : State) (b : Fin 32),
    (s.dev.fore.off = false) ∧
    (s.dev.benchIn b = false)) ∧
  (∃ (s : State) (b : Fin 32),
    (s.dev.fore.off = false) ∧
    (s.dev.benchIn b = true) ∧
    ∃ (j : _),
    (j / 16 = b.val)) ∧
  (∃ (s : State) (b : Fin 32),
    (s.dev.fore.off = false) ∧
    (s.dev.benchIn b = true) ∧
    (s.dev.isDegraded 29 = true)) ∧
  (∃ (s : State) (b : Fin 32) (pass : Bool),
    (s.dev.fore.off = false) ∧
    let skip := s.dev.benchIn b || bitAt s.dev.bench.shut b || s.dev.romRecovery
    (skip = true)) ∧
  (∃ (s : State) (b : Fin 32) (pass : Bool),
    (s.dev.fore.off = false) ∧
    let skip := s.dev.benchIn b || bitAt s.dev.bench.shut b || s.dev.romRecovery
    (skip = false) ∧
    (pass = true)) ∧
  (∃ (s : State) (b : Fin 32) (pass : Bool),
    (s.dev.fore.off = false) ∧
    let n := s.dev.fget Reg.bench_REJOIN_FAILS b + 1
    let skip := s.dev.benchIn b || bitAt s.dev.bench.shut b || s.dev.romRecovery
    (skip = false) ∧
    (pass = false) ∧
    (3 ≤ n)) := by
  refine ⟨⟨(stateAt 19), 1, 0, ({ id := 5, words := [590464, 0, 0, 0, 0, 2, 0, 0, 0, 0, 0, 0, 0, 0, 0, 0], sq := 4, sqHead := 6, seq := 0, attempt := 0, timeouts := 0, place := TicketAt.running 1, out := none, slot := some 1, slotWait := false, started := 0, holds := [], checked := false, made := 0, sent := 0 }), ?_⟩,
    ⟨(stateAt 13), 17, 0, ({ id := 3, words := [589952, 1, 0, 0, 0, 2, 262144, 0, 0, 0, 0, 0, 0, 0, 0, 0], sq := 4, sqHead := 6, seq := 0, attempt := 0, timeouts := 2, place := TicketAt.running 17, out := none, slot := some 0, slotWait := false, started := 0, holds := [], checked := false, made := 0, sent := 0 }), ?_⟩,
    ⟨(stateAt 13), 1, 0, ({ id := 5, words := [590464, 0, 0, 0, 0, 2, 0, 0, 0, 0, 0, 0, 0, 0, 0, 0], sq := 4, sqHead := 6, seq := 0, attempt := 3, timeouts := 1, place := TicketAt.running 1, out := none, slot := some 1, slotWait := false, started := 0, holds := [], checked := false, made := 0, sent := 0 }), ?_⟩,
    ⟨(stateAt 13), 1, 0, ({ id := 5, words := [590464, 0, 0, 0, 0, 2, 0, 0, 0, 0, 0, 0, 0, 0, 0, 0], sq := 4, sqHead := 6, seq := 0, attempt := 3, timeouts := 1, place := TicketAt.running 1, out := none, slot := some 1, slotWait := false, started := 0, holds := [], checked := false, made := 0, sent := 0 }), ?_⟩,
    ⟨(stateAt 18), 1, 0, ({ id := 5, words := [590464, 0, 0, 0, 0, 2, 0, 0, 0, 0, 0, 0, 0, 0, 0, 0], sq := 4, sqHead := 6, seq := 0, attempt := 3, timeouts := 1, place := TicketAt.running 1, out := none, slot := some 1, slotWait := false, started := 0, holds := [], checked := false, made := 0, sent := 0 }), ?_⟩,
    ⟨(stateAt 8), 1, ?_⟩,
    ⟨(stateAt 0), 0, ?_, ?_, 0, ?_⟩,
    ⟨(stateAt 18), 0, ?_⟩,
    ⟨(stateAt 0), 0, (false), ?_⟩,
    ⟨(stateAt 8), 1, (true), ?_⟩,
    ⟨(stateAt 17), 2, (false), ?_⟩⟩ <;>
    first | (unfold Dev.TakesCmd; decide +kernel) | (unfold Dev.AssayIdle; decide +kernel) | (unfold Dev.TakesFrame; decide +kernel) | (unfold Dev.Outstanding; decide +kernel) | (unfold khzOut maxKhz; cases Config.partBE <;> decide +kernel) | decide +kernel

end P14

namespace P15
def e (l : List Nat) : List Word := l.map (BitVec.ofNat 32)
def q0 : QCtx := { typ := 1, cls := 1, log2 := 4, state := 1, head := 5, tail := 8, cq := 1 }
def q1 : QCtx := { typ := 2, cls := 1, log2 := 4, state := 1, head := 17, tail := 20, base := 4096, irqEn := true, irqArmed := true, vector := 3 }
def q5 : QCtx := { typ := 2, cls := 1, log2 := 4, state := 1, head := 3, tail := 7, base := 8192, irqEn := true, vector := 4, unsignalled := 2 }
def q6 : QCtx := { q5 with typ := 4, esize := 6, head := 3, tail := 7, irqArmed := true }
def q7 : QCtx := { q6 with lost := 4, seq := 9, wbAddr := 64 }
def q8 : QCtx := { q0 with cq := 5 }
def q9 : QCtx := { q5 with typ := 3, coalUs := 4, coalCnt := 9, irqArmed := true }
def q10 : QCtx := { q0 with cls := 2, cq := 1, state := 1 }
def ctxs (a : Nat) : KMap QCtx := [(0, q0), (1, q1), (5, q5), (6, { q6 with state := a }), (7, {q7 with state := a}), (8, q8), (9, q9), (10, q10)]
def qd (d : Dev) : Dev := { upDev d with qm.ctx := ctxs 1, fore.running := true }.fbit Reg.pcie_BME true
def sg : Segment := { num := 3, start := 70, odd := true, ring := 0, rings := 1, length := 5, trigIndex := -5, first := 130, last := 132, stamp := [1,2,3], cause := 9, flags := 0, auxSeq := 4, state := 1, readers := 2, held := true }
def sr : StreamRec := { kind := 2, source := 5, source2 := 6, payload := [1,2,3] }
def cD : Cmd := ⟨4, 0x30, 0, 1, 7, 6, [], some (3, 2^33+5)⟩
def rdy (d : Dev) : Dev := ((((qd d).fbit Reg.top_READY true).fbit Reg.loom_MODE_READY true))
def clkd (d : Dev) : Dev := (List.range 4).foldl (fun (d : Dev) (_ : Nat) => d) (rdy d)
def held1 (d : Dev) : Dev := { qd d with pcie.holdFrom := 0, pcie.lost := 5, pcie.adminOnly := true, pcie.egress := [.hostWrite 8 [1], .hostWrite 16 [2]] , qm.ctx := ctxs 3 }.fbit Reg.pcie_HOLD true |>.fset Reg.pcie_EGRESS_LEVEL 8
def pool : List State := [State.reset, wit upDev, wit qd, wit rdy, wit (fun d => (rdy d).fset Reg.acq_SEG_RINGS 1), wit (frozenAt 28), wit (fun d => (qd d).fbit Reg.acq_ARMED true), wit (fun d => ((qd d).fbit Reg.acq_ARMED true).fbit Reg.acq_STOPPING true),
  wit (fun d => { qd d with acq.armPending := true }.fbit Reg.acq_ARMED true), wit (fun d => (rdy d).fbit Reg.top_FAILED true), wit (fun d => (rdy d).fset Reg.acq_ring_SIZE 64 0 |>.fset Reg.acq_SEG_RINGS 1 |>.fset Reg.acq_POST_LEN_W0 50),
  wit (fun d => { qd d with acq.segs := [(3, sg)] }), wit (fun d => { qd d with acq.segs := [(3, {sg with held := false})] }), wit (fun d => (qd d).fset Reg.assay_FG_BUSY 1),
  wit (fun d => { qd d with clk.dlls := (List.range 4).map fun g => (g, {phase := .locked}), loom.everRun := true, loom.run := some 70, loom.tick := 9 }.fbit Reg.clk_STEADY true),
  wit (fun d => { qd d with bench.loading := [(2, 1)] }), {wit qd with nv := { State.reset.nv with logNext := 3, log := [(0, List.range 8), (1, List.range 8), (2, List.range 8)] }}, wit held1,
  wit (fun d => { qd d with qm.cmds := [cD], qm.nextId := 5}), wit (fun d => { qd d with qm.cmds := [{cD with cq := 5}], qm.nextId := 5, qm.ctx := [(5, {q5 with tail := 19})]}),
  wit (fun d => { qd d with qm.streams := [(6, [sr]), (7, [sr])], pcie.msixWords := [(19, 0), (15, 0)] }), wit (fun d => { qd d with qm.ctx := ctxs 2, qm.streams := [(6, [sr]), (7, [sr])]}),
  wit (fun d => (qd d).fbit Reg.qmgr_EN true), wit (fun d => { qd d with qm.cmds := [cD]}.fbit Reg.qmgr_EN true), wit (fun d => { qd d with pcie.msixWords := [(15, 0), (19, 0)] }), wit (fun d => (upDev d).fset Reg.qmgr_ASQ_BASE_W0 4100), wit (fun d => (qd d).fset Reg.life_STATE 4),
  wit (fun d => (qd d).tset 30 0 0 (28*4) 0xFFFFFFFF), wit (fun d => (qd d).fbit Reg.pcie_BME false),
  wit (fun d => (qd d).fbit Reg.aux_QUEUE_EN true |>.fset Reg.aux_QUEUE 9),
  wit (fun d => (rdy d).fset Reg.acq_ring_SIZE 64 0 |>.fset Reg.acq_SEG_RINGS 1 |>.fset Reg.acq_POST_LEN_W0 50 |>.fset Reg.ledg_BASE 1000 |>.fset Reg.ledg_RES_LOG2 16),
  wit (fun d => { qd d with qm.cmds := [{cD with cq := 5}], qm.nextId := 5}), wit (fun d => { qd d with qm.cmds := [{cD with cq := 5}], qm.nextId := 5, qm.ctx := [(5, {q5 with tail := 18})]})]
def stateAt (n : Nat) : State := (pool).getD n State.reset
def nfAt (n : Nat) : State := mod (stateAt n) fun d => d.fset Reg.tbase_NOMINAL_FREQ 8000000

/-- States and operands that meet the hypotheses of QueueAdministration. -/
theorem witness_QueueAdministration :
  (∃ (s : State) (q : BitVec 16) (entry : List Word),
    (s.dev.fore.off = false) ∧
    let ws := entryWords entry
    let n := ws.getD 8 0
    let c := contextOf ws
    (s.dev.TakesCmd q.toNat 0x01 ws) ∧
    (s.dev.createOk n c = true)) ∧
  (∃ (s : State) (q : BitVec 16) (entry : List Word),
    (s.dev.fore.off = false) ∧
    let ws := entryWords entry
    let n := ws.getD 8 0
    let c := contextOf ws
    (s.dev.TakesCmd q.toNat 0x01 ws) ∧
    (s.dev.createOk n c = false)) ∧
  (∃ (s : State) (q : BitVec 16) (entry : List Word),
    (s.dev.fore.off = false) ∧
    let ws := entryWords entry
    let n := ws.getD 1 0
    let gone := (s.dev.qctx n).typ = 0 ∨ n ≤ 1 ∨ ((s.dev.qctx n).typ = 2 ∧ ∃ p ∈ s.dev.qm.ctx, p.2.typ = 1 ∧ p.2.cq = n)
    (s.dev.TakesCmd q.toNat 0x02 ws) ∧
    (n ≠ q.toNat) ∧
    (n ≠ (s.dev.qctx q.toNat).cq) ∧
    (gone)) ∧
  (∃ (s : State) (q : BitVec 16) (entry : List Word),
    (s.dev.fore.off = false) ∧
    let ws := entryWords entry
    let n := ws.getD 1 0
    let gone := (s.dev.qctx n).typ = 0 ∨ n ≤ 1 ∨ ((s.dev.qctx n).typ = 2 ∧ ∃ p ∈ s.dev.qm.ctx, p.2.typ = 1 ∧ p.2.cq = n)
    (s.dev.TakesCmd q.toNat 0x02 ws) ∧
    (n ≠ q.toNat) ∧
    (n ≠ (s.dev.qctx q.toNat).cq) ∧
    (¬ gone) ∧
    (s.dev.queueInUse n = true)) ∧
  (∃ (s : State) (q : BitVec 16) (entry : List Word),
    (s.dev.fore.off = false) ∧
    let ws := entryWords entry
    let n := ws.getD 1 0
    let gone := (s.dev.qctx n).typ = 0 ∨ n ≤ 1 ∨ ((s.dev.qctx n).typ = 2 ∧ ∃ p ∈ s.dev.qm.ctx, p.2.typ = 1 ∧ p.2.cq = n)
    (s.dev.TakesCmd q.toNat 0x02 ws) ∧
    (n ≠ q.toNat) ∧
    (n ≠ (s.dev.qctx q.toNat).cq) ∧
    (¬ gone) ∧
    (s.dev.queueInUse n = false)) ∧
  (∃ (s : State) (q : BitVec 16) (entry : List Word),
    (s.dev.fore.off = false) ∧
    let ws := entryWords entry
    let n := ws.getD 1 0
    (s.dev.TakesCmd q.toNat 0x03 ws) ∧
    (n ≠ q.toNat) ∧
    (n ≠ (s.dev.qctx q.toNat).cq) ∧
    ∃ (m : _),
    (m ≠ n) ∧
    (m ≠ q.toNat) ∧
    (m ≠ (s.dev.qctx q.toNat).cq)) ∧
  (∃ (s : State) (who : Requester) (val : Word),
    (s.dev.fore.off = false) ∧
    (s.dev.flag Reg.hdr_FREEZE 28 = false) ∧
    (s.dev.flag Reg.qmgr_EN = false) ∧
    let v := val.toNat
    (bitAt v 0 = false)) ∧
  (∃ (s : State) (who : Requester) (val : Word),
    (s.dev.fore.off = false) ∧
    (s.dev.flag Reg.hdr_FREEZE 28 = false) ∧
    (s.dev.flag Reg.qmgr_EN = false) ∧
    let v := val.toNat
    let ok := 4 ≤ bitField v 4 5 ∧ bitField v 4 5 ≤ 16 ∧ 4 ≤ bitField v 9 5 ∧ bitField v 9 5 ≤ 16 ∧
      s.dev.fget Reg.qmgr_ASQ_BASE_W0 % 4096 = 0 ∧ s.dev.fget Reg.qmgr_ACQ_BASE_W0 % 4096 = 0
    (bitAt v 0 = true) ∧
    (ok)) ∧
  (∃ (s : State) (who : Requester) (val : Word),
    (s.dev.fore.off = false) ∧
    (s.dev.flag Reg.hdr_FREEZE 28 = false) ∧
    (s.dev.flag Reg.qmgr_EN = false) ∧
    let v := val.toNat
    let ok := 4 ≤ bitField v 4 5 ∧ bitField v 4 5 ≤ 16 ∧ 4 ≤ bitField v 9 5 ∧ bitField v 9 5 ≤ 16 ∧
      s.dev.fget Reg.qmgr_ASQ_BASE_W0 % 4096 = 0 ∧ s.dev.fget Reg.qmgr_ACQ_BASE_W0 % 4096 = 0
    (bitAt v 0 = true) ∧
    (¬ ok)) ∧
  (∃ (s : State) (who : Requester) (val : Word),
    (s.dev.fore.off = false) ∧
    (s.dev.flag Reg.hdr_FREEZE 28 = false) ∧
    (s.dev.flag Reg.qmgr_EN = true) ∧
    (bitAt val.toNat 0 = false) ∧
    (s.dev.qm.cmds = [])) ∧
  (∃ (s : State) (who : Requester) (val : Word),
    (s.dev.fore.off = false) ∧
    (s.dev.flag Reg.hdr_FREEZE 28 = false) ∧
    (s.dev.flag Reg.qmgr_EN = true) ∧
    (bitAt val.toNat 0 = false) ∧
    (s.dev.qm.cmds ≠ [])) := by
  refine ⟨⟨(stateAt 2), (0#16), ([0x70001#32, 0x411#32, 0x1000#32, 1#32, 0x8000001#32, 0#32, 0#32, 0#32, 0x2c#32]), ?_⟩,
    ⟨(stateAt 2), (0#16), ([0x70001#32, 0x411#32, 0x1000#32, 1#32, 9#32, 0#32, 0#32, 0#32, 0x2c#32]), ?_⟩,
    ⟨(stateAt 2), (0#16), ([0x70002#32, 5#32]), ?_⟩,
    ⟨(stateAt 29), (0#16), ([0x70002#32, 9#32]), ?_⟩,
    ⟨(stateAt 2), (0#16), ([0x70002#32, 6#32]), ?_⟩,
    ⟨(stateAt 2), (0#16), ([0x70003#32, 6#32]), ?_, ?_, ?_, ?_, 3, ?_⟩,
    ⟨(stateAt 0), (Requester.host), (0#32), ?_⟩,
    ⟨(stateAt 0), (Requester.host), (0x50a51#32), ?_⟩,
    ⟨(stateAt 0), (Requester.host), (1#32), ?_⟩,
    ⟨(stateAt 22), (Requester.host), (0#32), ?_⟩,
    ⟨(stateAt 23), (Requester.host), (0#32), ?_⟩⟩ <;>
    first | (unfold Dev.TakesCmd; decide +kernel) | (unfold Dev.AssayIdle; decide +kernel) | (unfold Dev.TakesFrame; decide +kernel) | (unfold Dev.Outstanding; decide +kernel) | (unfold khzOut maxKhz; cases Config.partBE <;> decide +kernel) | decide +kernel

/-- States and operands that meet the hypotheses of AcquisitionCommands. -/
theorem witness_AcquisitionCommands :
  (∃ (s : State) (q : BitVec 16) (entry : List Word),
    (s.dev.fore.off = false) ∧
    let ws := entryWords entry
    (s.dev.TakesCmd q.toNat 0x10 ws) ∧
    (s.dev.armed = true) ∧
    (s.dev.flag Reg.acq_STOPPING = true)) ∧
  (∃ (s : State) (q : BitVec 16) (entry : List Word),
    (s.dev.fore.off = false) ∧
    let ws := entryWords entry
    (s.dev.TakesCmd q.toNat 0x10 ws) ∧
    (s.dev.armed = true) ∧
    (s.dev.flag Reg.acq_STOPPING = false) ∧
    (s.dev.acq.armPending = true)) ∧
  (∃ (s : State) (q : BitVec 16) (entry : List Word),
    (s.dev.fore.off = false) ∧
    let ws := entryWords entry
    (s.dev.TakesCmd q.toNat 0x10 ws) ∧
    (s.dev.armed = true) ∧
    (s.dev.flag Reg.acq_STOPPING = false) ∧
    (s.dev.acq.armPending = false)) ∧
  (∃ (s : State) (q : BitVec 16) (entry : List Word),
    (s.dev.fore.off = false) ∧
    let ws := entryWords entry
    (s.dev.TakesCmd q.toNat 0x10 ws) ∧
    (s.dev.armed = false) ∧
    (s.dev.flag Reg.top_FAILED = true)) ∧
  (∃ (s : State) (q : BitVec 16) (entry : List Word),
    (s.dev.fore.off = false) ∧
    let ws := entryWords entry
    (s.dev.TakesCmd q.toNat 0x10 ws) ∧
    (s.dev.armed = false) ∧
    (s.dev.flag Reg.top_FAILED = false) ∧
    (s.dev.armReady = false)) ∧
  (∃ (s : State) (q : BitVec 16) (entry : List Word),
    (s.dev.fore.off = false) ∧
    let ws := entryWords entry
    (s.dev.TakesCmd q.toNat 0x10 ws) ∧
    let d := s.dev.takeHorizon
    (s.dev.armed = false) ∧
    (s.dev.flag Reg.top_FAILED = false) ∧
    (s.dev.armReady = true) ∧
    (d.armFault.isSome = true)) ∧
  (∃ (s : State) (q : BitVec 16) (entry : List Word),
    (s.dev.fore.off = false) ∧
    let ws := entryWords entry
    (s.dev.TakesCmd q.toNat 0x10 ws) ∧
    let d := s.dev.takeHorizon
    (s.dev.armed = false) ∧
    (s.dev.flag Reg.top_FAILED = false) ∧
    (s.dev.armReady = true) ∧
    (d.armFault.isSome = false) ∧
    (s.dev.assay.fgDue = 0)) ∧
  (∃ (s : State) (q : BitVec 16) (entry : List Word),
    (s.dev.fore.off = false) ∧
    let ws := entryWords entry
    (s.dev.TakesCmd q.toNat 0x11 ws) ∧
    (s.dev.armed = false)) ∧
  (∃ (s : State) (q : BitVec 16) (entry : List Word),
    (s.dev.fore.off = false) ∧
    let ws := entryWords entry
    (s.dev.TakesCmd q.toNat 0x11 ws) ∧
    (s.dev.armed = true)) ∧
  (∃ (s : State) (q : BitVec 16) (entry : List Word) (g : Segment),
    (s.dev.fore.off = false) ∧
    let ws := entryWords entry
    (s.dev.TakesCmd q.toNat 0x12 ws) ∧
    (s.dev.acq.segs = [(g.num, g)]) ∧
    (g.written = false) ∧
    (ws.getD 3 0 = 0)) ∧
  (∃ (s : State) (q : BitVec 16) (entry : List Word) (g : Segment),
    (s.dev.fore.off = false) ∧
    let ws := entryWords entry
    let first := ws.getD 1 0 + 2 ^ 32 * ws.getD 2 0
    (s.dev.TakesCmd q.toNat 0x12 ws) ∧
    (s.dev.acq.segs = [(g.num, g)]) ∧
    (g.written = false) ∧
    (ws.getD 3 0 = 1) ∧
    (first = g.num) ∧
    (g.held = true)) ∧
  (∃ (s : State) (q : BitVec 16) (entry : List Word) (g : Segment),
    (s.dev.fore.off = false) ∧
    let ws := entryWords entry
    let first := ws.getD 1 0 + 2 ^ 32 * ws.getD 2 0
    (s.dev.TakesCmd q.toNat 0x12 ws) ∧
    (s.dev.acq.segs = [(g.num, g)]) ∧
    (g.written = false) ∧
    (ws.getD 3 0 = 1) ∧
    (first ≠ g.num ∨ g.held = false)) ∧
  (∃ (s : State) (q : BitVec 16) (entry : List Word),
    (s.dev.fore.off = false) ∧
    let ws := entryWords entry
    let gs := ws.getD 1 0
    (s.dev.TakesCmd q.toNat 0x20 ws) ∧
    (gs = 0)) ∧
  (∃ (s : State) (q : BitVec 16) (entry : List Word),
    (s.dev.fore.off = false) ∧
    let ws := entryWords entry
    let gs := ws.getD 1 0
    (s.dev.TakesCmd q.toNat 0x20 ws) ∧
    (gs ≠ 0) ∧
    (s.dev.armed = true)) ∧
  (∃ (s : State) (q : BitVec 16) (entry : List Word),
    (s.dev.fore.off = false) ∧
    let ws := entryWords entry
    let gs := ws.getD 1 0
    (s.dev.TakesCmd q.toNat 0x20 ws) ∧
    (gs ≠ 0) ∧
    (s.dev.armed = false) ∧
    (s.dev.fget Reg.assay_FG_BUSY &&& gs ≠ 0)) ∧
  (∃ (s : State) (q : BitVec 16) (entry : List Word),
    (s.dev.fore.off = false) ∧
    let ws := entryWords entry
    let gs := ws.getD 1 0
    (s.dev.TakesCmd q.toNat 0x20 ws) ∧
    (gs ≠ 0) ∧
    (s.dev.armed = false) ∧
    (s.dev.fget Reg.assay_FG_BUSY = 0) ∧
    (s.dev.sliceClock = true) ∧
    ∃ (g : Nat),
    (g < 4) ∧
    (bitAt gs g = true)) ∧
  (∃ (s : State) (q : BitVec 16) (entry : List Word),
    (s.dev.fore.off = false) ∧
    (s.dev.TakesCmd q.toNat 0x21 (entryWords entry))) := by
  refine ⟨⟨(stateAt 7), (0#16), ([0x70010#32]), ?_⟩,
    ⟨(stateAt 8), (0#16), ([0x70010#32]), ?_⟩,
    ⟨(stateAt 6), (0#16), ([0x70010#32]), ?_⟩,
    ⟨(stateAt 9), (0#16), ([0x70010#32]), ?_⟩,
    ⟨(stateAt 2), (0#16), ([0x70010#32]), ?_⟩,
    ⟨(stateAt 3), (0#16), ([0x70010#32]), ?_⟩,
    ⟨(stateAt 30), (0#16), ([0x70010#32]), ?_⟩,
    ⟨(stateAt 2), (0#16), ([0x70011#32]), ?_⟩,
    ⟨(stateAt 6), (0#16), ([0x70011#32]), ?_⟩,
    ⟨(stateAt 11), (0#16), ([0x70012#32, 3#32, 0#32, 0#32]), ({ num := 3, start := 70, odd := true, spilled := false, ring := 0, state := 1, rings := 1, length := 5, trigIndex := -5, first := 130, last := 132, stamp := [1, 2, 3], cause := 9, flags := 0, auxSeq := 4, anchors := [], held := true, readers := 2, staged := true, written := false, copied := false, copyDue := false }), ?_⟩,
    ⟨(stateAt 11), (0#16), ([0x70012#32, 3#32, 0#32, 1#32]), ({ num := 3, start := 70, odd := true, spilled := false, ring := 0, state := 1, rings := 1, length := 5, trigIndex := -5, first := 130, last := 132, stamp := [1, 2, 3], cause := 9, flags := 0, auxSeq := 4, anchors := [], held := true, readers := 2, staged := true, written := false, copied := false, copyDue := false }), ?_⟩,
    ⟨(stateAt 11), (0#16), ([0x70012#32, 4#32, 1#32, 1#32]), ({ num := 3, start := 70, odd := true, spilled := false, ring := 0, state := 1, rings := 1, length := 5, trigIndex := -5, first := 130, last := 132, stamp := [1, 2, 3], cause := 9, flags := 0, auxSeq := 4, anchors := [], held := true, readers := 2, staged := true, written := false, copied := false, copyDue := false }), ?_⟩,
    ⟨(stateAt 2), (0#16), ([0x70020#32, 0#32]), ?_⟩,
    ⟨(stateAt 6), (0#16), ([0x70020#32, 5#32]), ?_⟩,
    ⟨(stateAt 13), (0#16), ([0x70020#32, 5#32]), ?_⟩,
    ⟨(stateAt 14), (0#16), ([0x70020#32, 5#32]), ?_, ?_, ?_, ?_, ?_, ?_, 0, ?_⟩,
    ⟨(stateAt 2), (0#16), ([0x70021#32]), ?_⟩⟩ <;>
    first | (unfold Dev.TakesCmd; decide +kernel) | (unfold Dev.AssayIdle; decide +kernel) | (unfold Dev.TakesFrame; decide +kernel) | (unfold Dev.Outstanding; decide +kernel) | (unfold khzOut maxKhz; cases Config.partBE <;> decide +kernel) | decide +kernel

/-- States and operands that meet the hypotheses of DoorbellWrites. -/
theorem witness_DoorbellWrites :
  (∃ (s : State) (q : BitVec 16) (low high : Option Word),
    (s.dev.fore.off = false) ∧
    (low = none) ∧
    (high = none)) ∧
  (∃ (s : State) (q : BitVec 16) (low high : Option Word),
    (s.dev.fore.off = false) ∧
    let n := q.toNat
    let c := s.dev.qctx n
    (low ≠ none ∨ high ≠ none) ∧
    (c.typ = 0 ∨ c.cls = 0)) ∧
  (∃ (s : State) (q : BitVec 16) (low high : Option Word),
    (s.dev.fore.off = false) ∧
    let n := q.toNat
    let c := s.dev.qctx n
    (low ≠ none ∨ high ≠ none) ∧
    (c.typ ≠ 0) ∧
    (c.cls ≠ 0) ∧
    (c.state = 2)) ∧
  (∃ (s : State) (q : BitVec 16) (low high : Option Word),
    (s.dev.fore.off = false) ∧
    let n := q.toNat
    let c := s.dev.qctx n
    let bad := fun (v : Nat) => if c.typ = 1 then 2 ^ c.log2 < (v + 2 ^ 32 - c.head) % 2 ^ 32 else
      (c.tail + 2 ^ 32 - c.head) % 2 ^ 32 < (v + 2 ^ 32 - c.head) % 2 ^ 32
    ∃ (v : _),
    (low = some v) ∧
    (c.typ ≠ 0) ∧
    (c.cls ≠ 0) ∧
    (c.state ≠ 2) ∧
    (bad v.toNat)) ∧
  (∃ (s : State) (q : BitVec 16) (low high : Option Word),
    (s.dev.fore.off = false) ∧
    let n := q.toNat
    let c := s.dev.qctx n
    let bad := fun (v : Nat) => if c.typ = 1 then 2 ^ c.log2 < (v + 2 ^ 32 - c.head) % 2 ^ 32 else
      (c.tail + 2 ^ 32 - c.head) % 2 ^ 32 < (v + 2 ^ 32 - c.head) % 2 ^ 32
    (low ≠ none ∨ high ≠ none) ∧
    (c.typ ≠ 0) ∧
    (c.cls ≠ 0) ∧
    (c.state ≠ 2) ∧
    ((∀ v, low = some v → ¬ bad v.toNat)) ∧
    ∃ (m : _),
    (m ≠ n)) ∧
  (∃ (s : State) (q : BitVec 16) (low high : Option Word),
    (s.dev.fore.off = false) ∧
    let n := q.toNat
    let c := s.dev.qctx n
    let bad := fun (v : Nat) => if c.typ = 1 then 2 ^ c.log2 < (v + 2 ^ 32 - c.head) % 2 ^ 32 else
      (c.tail + 2 ^ 32 - c.head) % 2 ^ 32 < (v + 2 ^ 32 - c.head) % 2 ^ 32
    let c1 := { c with
      tail := if c.typ = 1 then (low.map BitVec.toNat).getD c.tail else c.tail
      head := if c.typ = 1 then c.head else (low.map BitVec.toNat).getD c.head
      irqArmed := c.irqArmed || (high.map fun (w : Word) => bitAt w.toNat 0).getD false }
    let due := c.irqEn && c1.irqArmed && c.unsignalled != 0 && (decide (max 1 c.coalCnt ≤ c.unsignalled) || c.coalUs == 0 || c.late)
    (low ≠ none ∨ high ≠ none) ∧
    (c.typ ≠ 0) ∧
    (c.cls ≠ 0) ∧
    (c.state ≠ 2) ∧
    ((∀ v, low = some v → ¬ bad v.toNat)) ∧
    (due = false)) ∧
  (∃ (s : State) (q : BitVec 16) (low high : Option Word),
    (s.dev.fore.off = false) ∧
    let n := q.toNat
    let c := s.dev.qctx n
    let bad := fun (v : Nat) => if c.typ = 1 then 2 ^ c.log2 < (v + 2 ^ 32 - c.head) % 2 ^ 32 else
      (c.tail + 2 ^ 32 - c.head) % 2 ^ 32 < (v + 2 ^ 32 - c.head) % 2 ^ 32
    let c1 := { c with
      tail := if c.typ = 1 then (low.map BitVec.toNat).getD c.tail else c.tail
      head := if c.typ = 1 then c.head else (low.map BitVec.toNat).getD c.head
      irqArmed := c.irqArmed || (high.map fun (w : Word) => bitAt w.toNat 0).getD false }
    let due := c.irqEn && c1.irqArmed && c.unsignalled != 0 && (decide (max 1 c.coalCnt ≤ c.unsignalled) || c.coalUs == 0 || c.late)
    (low ≠ none ∨ high ≠ none) ∧
    (c.typ ≠ 0) ∧
    (c.cls ≠ 0) ∧
    (c.state ≠ 2) ∧
    ((∀ v, low = some v → ¬ bad v.toNat)) ∧
    (due = true)) := by
  refine ⟨⟨(stateAt 0), (0#16), (none), (none), ?_⟩,
    ⟨(stateAt 0), (0#16), (none), (some 0#32), ?_⟩,
    ⟨(stateAt 21), (6#16), (none), (some 0#32), ?_⟩,
    ⟨(stateAt 2), (0#16), (some 0#32), (none), ?_, (0#32), ?_⟩,
    ⟨(stateAt 2), 0, (none), (some 0), ?_, ?_, ?_, ?_, ?_, nofun, 1, ?_⟩,
    ⟨(stateAt 2), 0, (none), (some 0), ?_, ?_, ?_, ?_, ?_, nofun, ?_⟩,
    ⟨(stateAt 2), 5, (none), (some 1), ?_, ?_, ?_, ?_, ?_, nofun, ?_⟩⟩ <;>
    first | (unfold Dev.TakesCmd; decide +kernel) | (unfold Dev.AssayIdle; decide +kernel) | (unfold Dev.TakesFrame; decide +kernel) | (unfold Dev.Outstanding; decide +kernel) | (unfold khzOut maxKhz; cases Config.partBE <;> decide +kernel) | decide +kernel

/-- States and operands that meet the hypotheses of Delivery. -/
theorem witness_Delivery :
  (∃ (s : State) (q : BitVec 16),
    (s.dev.fore.off = false) ∧
    ∃ (m : _),
    (m ≠ q.toNat)) ∧
  (∃ (s : State) (q : BitVec 16),
    (s.dev.fore.off = false) ∧
    let c := s.dev.qctx q.toNat
    let due := c.irqEn && c.irqArmed && c.unsignalled != 0
    (due = false)) ∧
  (∃ (s : State) (q : BitVec 16),
    (s.dev.fore.off = false) ∧
    let c := s.dev.qctx q.toNat
    let due := c.irqEn && c.irqArmed && c.unsignalled != 0
    (due = true)) ∧
  (∃ (s : State) (c : Cmd) (st r : Nat),
    (s.dev.fore.off = false) ∧
    (s.dev.qm.cmds = [c]) ∧
    (c.result = some (st, r)) ∧
    (s.dev.bench.tickets = []) ∧
    (s.dev.holding = false) ∧
    ((s.dev.qctx c.cq).typ = 2) ∧
    (s.dev.qroom c.cq 1 = true)) ∧
  (∃ (s : State) (c : Cmd) (st r : Nat),
    (s.dev.fore.off = false) ∧
    (s.dev.qm.cmds = [c]) ∧
    (c.result = some (st, r)) ∧
    (s.dev.bench.tickets = []) ∧
    (s.dev.holding = false) ∧
    ((s.dev.qctx c.cq).typ = 2) ∧
    (s.dev.qroom c.cq 1 = false)) ∧
  (∃ (s : State) (q : BitVec 16) (r : StreamRec),
    (s.dev.fore.off = false) ∧
    (s.dev.holding = false) ∧
    let n := q.toNat
    (KMap.find s.dev.qm.streams n = some [r]) ∧
    (s.dev.recordFits n r.bytes = false)) ∧
  (∃ (s : State) (q : BitVec 16) (r : StreamRec),
    (s.dev.fore.off = false) ∧
    (s.dev.holding = false) ∧
    let n := q.toNat
    let c := s.dev.qctx n
    (KMap.find s.dev.qm.streams n = some [r]) ∧
    (s.dev.recordFits n r.bytes = true) ∧
    (c.lost = 0)) ∧
  (∃ (s : State) (q : BitVec 16) (r : StreamRec),
    (s.dev.fore.off = false) ∧
    (s.dev.holding = false) ∧
    let n := q.toNat
    let c := s.dev.qctx n
    (KMap.find s.dev.qm.streams n = some [r]) ∧
    (s.dev.recordFits n r.bytes = true) ∧
    (c.lost ≠ 0)) ∧
  (∃ (s : State) (q : BitVec 16),
    (s.dev.fore.off = false) ∧
    let n := q.toNat
    let c := s.dev.qctx n
    (c.typ = 0)) ∧
  (∃ (s : State) (q : BitVec 16),
    (s.dev.fore.off = false) ∧
    let n := q.toNat
    let c := s.dev.qctx n
    (c.typ ≠ 0)) := by
  refine ⟨⟨(stateAt 0), (0#16), ?_, 1, ?_⟩,
    ⟨(stateAt 0), (0#16), ?_⟩,
    ⟨(stateAt 2), (6#16), ?_⟩,
    ⟨(stateAt 18), ({ id := 4, opcode := 48, sq := 0, cq := 1, tag := 7, sqHead := 6, entry := [], result := some (3, 8589934597) }), 3, 8589934597, ?_⟩,
    ⟨(stateAt 19), ({ id := 4, opcode := 48, sq := 0, cq := 5, tag := 7, sqHead := 6, entry := [], result := some (3, 8589934597) }), 3, 8589934597, ?_⟩,
    ⟨(stateAt 21), (6#16), ({ kind := 2, source := 5, source2 := 6, payload := [1, 2, 3], len := none }), ?_⟩,
    ⟨(stateAt 20), (6#16), ({ kind := 2, source := 5, source2 := 6, payload := [1, 2, 3], len := none }), ?_⟩,
    ⟨(stateAt 20), (7#16), ({ kind := 2, source := 5, source2 := 6, payload := [1, 2, 3], len := none }), ?_⟩,
    ⟨(stateAt 0), (0#16), ?_⟩,
    ⟨(stateAt 2), (0#16), ?_⟩⟩ <;>
    first | (unfold Dev.TakesCmd; decide +kernel) | (unfold Dev.AssayIdle; decide +kernel) | (unfold Dev.TakesFrame; decide +kernel) | (unfold Dev.Outstanding; decide +kernel) | (unfold khzOut maxKhz; cases Config.partBE <;> decide +kernel) | decide +kernel

/-- States and operands that meet the hypotheses of EntriesAndTransfers. -/
theorem witness_EntriesAndTransfers :
  (∃ (s : State) (q : BitVec 16) (entry : List Word) (data : HostData),
    (s.dev.fore.off = false) ∧
    let ws := entryWords entry
    let op := ws.headD 0 % 256
    (op ≠ 0x80) ∧
    (s.dev.mayConsume q.toNat = false)) ∧
  (∃ (s : State) (q : BitVec 16) (entry : List Word) (data : HostData),
    (s.dev.fore.off = false) ∧
    let ws := entryWords entry
    let op := ws.headD 0 % 256
    let c := s.dev.qctx q.toNat
    let refused := classAllows q.toNat c.cls op = false ∨ s.dev.servesCmd q.toNat op = false
    let bad := opDefined op = false ∨ operandsOk op ws = false
    (op ≠ 0x80) ∧
    (s.dev.mayConsume q.toNat = true) ∧
    (s.dev.qm.cmds = []) ∧
    (s.dev.holding = false) ∧
    ((s.dev.qctx c.cq).typ = 2) ∧
    (s.dev.qroom c.cq 1 = true) ∧
    (refused ∨ bad)) ∧
  (∃ (s : State) (q : BitVec 16) (entry : List Word) (data : HostData),
    (s.dev.fore.off = false) ∧
    let ws := entryWords entry
    (s.dev.TakesCmd q.toNat 0x21 ws)) ∧
  (∃ (s : State) (q : BitVec 16) (entry : List Word) (data : HostData),
    (s.dev.fore.off = false) ∧
    let ws := entryWords entry
    let op := ws.headD 0 % 256
    (op = 0x80) ∧
    (s.dev.holding = false)) ∧
  (∃ (s : State) (q : BitVec 16) (entry : List Word) (data : HostData),
    let op := (entryWords entry).headD 0 % 256
    (op = 0x01)) ∧
  (∃ (s : State) (q : BitVec 16) (entry : List Word) (data : HostData),
    let op := (entryWords entry).headD 0 % 256
    (op = 0x02)) ∧
  (∃ (s : State) (q : BitVec 16) (entry : List Word) (data : HostData),
    let op := (entryWords entry).headD 0 % 256
    (op = 0x03)) ∧
  (∃ (s : State) (q : BitVec 16) (entry : List Word) (data : HostData),
    let op := (entryWords entry).headD 0 % 256
    (op = 0x10)) ∧
  (∃ (s : State) (q : BitVec 16) (entry : List Word) (data : HostData),
    let op := (entryWords entry).headD 0 % 256
    (op = 0x11)) ∧
  (∃ (s : State) (q : BitVec 16) (entry : List Word) (data : HostData),
    let op := (entryWords entry).headD 0 % 256
    (op = 0x12)) ∧
  (∃ (s : State) (q : BitVec 16) (entry : List Word) (data : HostData),
    let op := (entryWords entry).headD 0 % 256
    (op = 0x20)) ∧
  (∃ (s : State) (q : BitVec 16) (entry : List Word) (data : HostData),
    let op := (entryWords entry).headD 0 % 256
    (op = 0x21)) ∧
  (∃ (s : State) (q : BitVec 16) (entry : List Word) (data : HostData),
    let op := (entryWords entry).headD 0 % 256
    (op = 0x30)) ∧
  (∃ (s : State) (q : BitVec 16) (entry : List Word) (data : HostData),
    let op := (entryWords entry).headD 0 % 256
    (op = 0x31)) ∧
  (∃ (s : State) (q : BitVec 16) (entry : List Word) (data : HostData),
    let op := (entryWords entry).headD 0 % 256
    (op = 0x40)) ∧
  (∃ (s : State) (q : BitVec 16) (entry : List Word) (data : HostData),
    let op := (entryWords entry).headD 0 % 256
    (op = 0x41)) ∧
  (∃ (s : State) (q : BitVec 16) (entry image : List Word),
    (s.dev.fore.off = false) ∧
    let ws := entryWords entry
    (s.dev.TakesCmd q.toNat 0x31 ws) ∧
    (image.length < 1024)) ∧
  (∃ (s : State) (q : BitVec 16) (entry image : List Word),
    (s.dev.fore.off = false) ∧
    let ws := entryWords entry
    let slot := ws.getD 3 0
    (s.dev.TakesCmd q.toNat 0x31 ws) ∧
    (1024 ≤ image.length) ∧
    (s.dev.slotNamed slot = true ∨ (KMap.find s.dev.bench.loading slot).isSome = true)) ∧
  (∃ (s : State) (q : BitVec 16) (entry image : List Word),
    (s.dev.fore.off = false) ∧
    let ws := entryWords entry
    let slot := ws.getD 3 0
    (s.dev.TakesCmd q.toNat 0x31 ws) ∧
    (1024 ≤ image.length) ∧
    (s.dev.slotNamed slot = false) ∧
    (KMap.find s.dev.bench.loading slot = none)) ∧
  (∃ (s : State) (q : BitVec 16) (entry : List Word),
    (s.dev.fore.off = false) ∧
    let ws := entryWords entry
    (s.dev.TakesCmd q.toNat 0x40 ws) ∧
    (ws.getD 3 0 < 32)) ∧
  (∃ (s : State) (q : BitVec 16) (entry : List Word),
    (s.dev.fore.off = false) ∧
    let ws := entryWords entry
    let cls := (s.dev.qctx q.toNat).cls
    let r := getLogWords s.dev s.nv cls (ws.getD 3 0)
    (s.dev.TakesCmd q.toNat 0x40 ws) ∧
    (32 ≤ ws.getD 3 0) ∧
    (r.1 ≠ [])) ∧
  (∃ (s : State) (q : BitVec 16) (entry : List Word),
    (s.dev.fore.off = false) ∧
    (s.dev.TakesCmd q.toNat 0x41 (entryWords entry))) ∧
  (∃ (s : State) (entry : List Word),
    (s.dev.fore.off = false) ∧
    let ws := entryWords entry
    let c := s.dev.qctx (s.dev.qctx 0).cq
    (ws.headD 0 % 256 = 0x41) ∧
    (s.dev.mayConsume 0 = true) ∧
    (s.dev.holding = true) ∧
    (s.dev.servesCmd 0 0x41 = true) ∧
    (operandsOk 0x41 ws = true) ∧
    (s.dev.qm.cmds = []) ∧
    (c.typ = 2) ∧
    (c.state = 1) ∧
    (c.fits 1 = true) ∧
    (s.dev.qm.streams = [])) := by
  refine ⟨⟨(stateAt 0), (0#16), ([0x70001#32, 0x411#32, 0x1000#32, 1#32, 0x8000001#32, 0#32, 0#32, 0#32, 0x2c#32]), ({ words := [], req := none, image := none }), ?_⟩,
    ⟨(stateAt 2), (0#16), ([0x70099#32]), ({ words := [], req := none, image := none }), ?_⟩,
    ⟨(stateAt 2), (0#16), ([0x70021#32]), ({ words := [], req := none, image := none }), ?_⟩,
    ⟨(stateAt 0), (0#16), ([0x70080#32, 1#32, 2#32, 3#32]), ({ words := [], req := none, image := none }), ?_⟩,
    ⟨(stateAt 0), (0#16), ([0x70001#32, 0x411#32, 0x1000#32, 1#32, 0x8000001#32, 0#32, 0#32, 0#32, 0x2c#32]), ({ words := [], req := none, image := none }), ?_⟩,
    ⟨(stateAt 0), (0#16), ([0x70002#32, 5#32]), ({ words := [], req := none, image := none }), ?_⟩,
    ⟨(stateAt 0), (0#16), ([0x70003#32, 6#32]), ({ words := [], req := none, image := none }), ?_⟩,
    ⟨(stateAt 0), (0#16), ([0x70010#32]), ({ words := [], req := none, image := none }), ?_⟩,
    ⟨(stateAt 0), (0#16), ([0x70011#32]), ({ words := [], req := none, image := none }), ?_⟩,
    ⟨(stateAt 0), (0#16), ([0x70012#32, 3#32, 0#32, 0#32]), ({ words := [], req := none, image := none }), ?_⟩,
    ⟨(stateAt 0), (0#16), ([0x70020#32, 0#32]), ({ words := [], req := none, image := none }), ?_⟩,
    ⟨(stateAt 0), (0#16), ([0x70021#32]), ({ words := [], req := none, image := none }), ?_⟩,
    ⟨(stateAt 0), (0#16), ([0x70030#32, 0x9000#32, 1#32]), ({ words := [], req := none, image := none }), ?_⟩,
    ⟨(stateAt 0), (0#16), ([0x70031#32, 0#32, 0#32, 1#32]), ({ words := [], req := none, image := none }), ?_⟩,
    ⟨(stateAt 0), (0#16), ([0x70040#32, 0x9000#32, 1#32, 0x10#32]), ({ words := [], req := none, image := none }), ?_⟩,
    ⟨(stateAt 0), (0#16), ([0x70041#32]), ({ words := [], req := none, image := none }), ?_⟩,
    ⟨(stateAt 2), (0#16), ([0x70031#32, 0#32, 0#32, 1#32]), ([0x70001#32, 0x411#32, 0x1000#32, 1#32, 0x8000001#32, 0#32, 0#32, 0#32, 0x2c#32]), ?_⟩,
    ⟨(stateAt 15), (0#16), ([0x70031#32, 0#32, 0#32, 2#32]), ((progB 32 1 1 1024)), ?_⟩,
    ⟨(stateAt 2), (0#16), ([0x70031#32, 0#32, 0#32, 1#32]), ((progB 32 1 1 1024)), ?_⟩,
    ⟨(stateAt 2), (0#16), ([0x70040#32, 0x9000#32, 1#32, 0x10#32]), ?_⟩,
    ⟨(stateAt 16), (0#16), ([0x70040#32, 0x9000#32, 1#32, 0x40#32]), ?_⟩,
    ⟨(stateAt 2), (0#16), ([0x70041#32]), ?_⟩,
    ⟨(stateAt 17), ([0x70041#32]), ?_⟩⟩ <;>
    first | (unfold Dev.TakesCmd; decide +kernel) | (unfold Dev.AssayIdle; decide +kernel) | (unfold Dev.TakesFrame; decide +kernel) | (unfold Dev.Outstanding; decide +kernel) | (unfold khzOut maxKhz; cases Config.partBE <;> decide +kernel) | decide +kernel

end P15

namespace P16
def ey (n : Nat) : LaneEye := ⟨n, n+3, 300 + n, n+5⟩
def rq (src : HbmSource) (b r l : Nat) : HbmReq := ⟨src, b, r, l⟩
def u (d : Dev) : Dev := (upDev d).fset Reg.memt_EYE_MIN 40 |>.fbit Reg.mems_TRAINING false
def tr (d : Dev) : Dev := (u d).fbit Reg.mems_TRAINING true
def pool : List State := [State.reset, wit u, wit tr, wit (fun d => { tr d with mem.rateHeld := true }), wit (fun d => (tr d).fbit Reg.mems_RATE_PENDING true |>.fset Reg.mems_RATE 2), wit (fun d => ((tr d).fset Reg.mems_SPARES_0 0).fset Reg.mems_SPARES_1 0 |>.fset Reg.mems_RATE_PENDING 0),
  wit (fun d => (u d).fbit Reg.acq_ARMED true), wit (frozenAt 66), wit (fun d => { u d with mem.retrain := [(0, {pc := 5})] }.fbit Reg.mems_RETRAIN true), wit (fun d => { u d with mem.retrain := [(0, {pc := 5, swept := true, old := [1,2,3,4,5,6,7,8]}), (1, {pc := 36})], mem.rowsDue := [rowKey 5 1 3, rowKey 6 1 3] }.fset Reg.mems_SPARES_0 1 |>.fset Reg.mems_SPARES_1 1),
  wit (fun d => ((u d).fset Reg.mems_SPARES_0 0).fset Reg.mems_SPARES_1 0), wit (fun d => { u d with mem.owed := [(5, 3), (49, 7), (1536, 2)], mem.window := [(0, 8191)], mem.rows := [(0, [(3, 4)]), (1, [(3, 5000), (5, 1)]), (5, (List.range 64).map fun k => (k + 40, k + 500))] }.fset Reg.memc_TIER 1 0 |>.fset Reg.memc_MULT 1 0),
  wit (fun d => (u d).fset Reg.memc_TIER 3 0 |>.fset Reg.memc_MULT 3 0 |>.fset Reg.memc_POL_MAX 2 0 |>.fset Reg.age_REF_FLOOR_0 2), wit (fun d => (u d).fbit Reg.memc_PD_ADAPT true 0 |>.fbit Reg.memc_PD_ADAPT true 1 |>.fset Reg.memc_PD_NOW 1001 0|>.fset Reg.memc_PD_POL_MAX 20 1), wit (fun d => (u d).fbit Reg.memc_PD_ADAPT true 0 |>.fbit Reg.memc_PD_ADAPT true 1 |>.fset Reg.memc_PD_NOW 1001 0|>.fset Reg.memc_PD_NOW 1002 1 |>.fset Reg.memc_TIER 3 0),
  wit (fun d => { u d with mem.corrected := (List.range 8).map fun p => (rowKey p 1 3, [0,0,0]), mem.rowsUsed := [(49, 8), (48*4+1, 3)], mem.alerts := [(5, [0,0]), (36, [0])], mem.timeouts := [(5, 2), (36, 1)] }),
  wit (fun d => { u d with mem.rebuild := [(0, 5), (1, 36)], mem.replaced := 1 }.fset Reg.mems_FROZEN_W0 (2^5 + 2^1) |>.fset Reg.mems_FROZEN_W1 (2^4)), wit (fun d => { u d with mem.rebuild := [(0, 5)], fore.marks := [(66, 5)] }.fset Reg.mems_FROZEN_W0 (2^5)),
  wit (fun d => { u d with mem.rebuild := [(0, 5)], mem.waiting := [1] }.fset Reg.mems_FROZEN_W0 (2^5)), wit (fun d => (u d).fset Reg.mems_FROZEN_W0 (2^5))]
def busyD (d : Dev) : Dev := { u d with mem.reqs := [(0, [rq .capture 1 3 7, rq (.bench 4) 5 3 8]), (5, [rq .bar6 1 33 7, rq .ledger 1 5 9])], mem.openRows := [(1, {row := 3, since := 0, auto := false}), (48*5+1, {row := 33, since := 5, auto := true})], mem.acts := [(actKey 4 0 (rq (.bench 4) 5 3 8), 15), (actKey 36 4 (rq .bar6 1 33 7), 3), (actKey 4 36 (rq .bar6 5 3 8), 3)], mem.rows := [(48*4 + 1, [(33, 2047), (3, 2047)])], mem.owed := [(1,7), (5, 3), (48*5+1, 2)], mem.powerDown := 0xFFFF }
def pool' : List State := pool ++ [wit busyD, wit (fun d => (busyD d).fset Reg.memc_ACT_LIMIT 4 0)]
def stateAt (n : Nat) : State := (pool' ++ pool'.map fatS).getD n State.reset
def nfAt (n : Nat) : State := mod (stateAt n) fun d => d.fset Reg.tbase_NOMINAL_FREQ 8000000

/-- States and operands that meet the hypotheses of HbmTrainingAndRetrains. -/
theorem witness_HbmTrainingAndRetrains :
  (∃ (s : State),
    (s.dev.fore.off = false) ∧
    (s.dev.flag Reg.mems_TRAINING = true) ∧
    (s.dev.flag Reg.top_FAILED = false) ∧
    ∃ (e : Nat),
    (e < 256)) ∧
  (∃ (s : State),
    (s.dev.fore.off = false) ∧
    (s.dev.flag Reg.mems_TRAINING = true) ∧
    (s.dev.flag Reg.top_FAILED = false) ∧
    (s.dev.mem.rateHeld = false) ∧
    (s.dev.flag Reg.mems_RATE_PENDING = true)) ∧
  (∃ (s : State) (r : TrainResult),
    (s.dev.fore.off = false) ∧
    (s.dev.flag Reg.mems_TRAINING = true) ∧
    (s.dev.flag Reg.top_FAILED = false) ∧
    (s.dev.mem.rateHeld = false) ∧
    (s.dev.flag Reg.mems_RATE_PENDING = false) ∧
    (r.pc < 64) ∧
    (r.lanes.length = 4) ∧
    (r.cmdOk = true) ∧
    ((∀ e ∈ r.lanes, s.dev.fget Reg.memt_EYE_MIN ≤ e.rd ∧ s.dev.fget Reg.memt_EYE_MIN ≤ e.wr)) ∧
    ∃ (n : Nat),
    (n < 4)) ∧
  (∃ (s : State) (r : TrainResult),
    (s.dev.fore.off = false) ∧
    (s.dev.flag Reg.mems_TRAINING = true) ∧
    (s.dev.flag Reg.top_FAILED = false) ∧
    (s.dev.mem.rateHeld = false) ∧
    (s.dev.flag Reg.mems_RATE_PENDING = false) ∧
    (r.pc < 64) ∧
    (r.lanes.length = 4) ∧
    let m := r.pc / 32
    (r.cmdOk = false) ∧
    (0 < s.dev.spares m) ∧
    (s.dev.spares m < 4)) ∧
  (∃ (s : State) (r : TrainResult),
    (s.dev.fore.off = false) ∧
    (s.dev.flag Reg.mems_TRAINING = true) ∧
    (s.dev.flag Reg.top_FAILED = false) ∧
    (s.dev.mem.rateHeld = false) ∧
    (s.dev.flag Reg.mems_RATE_PENDING = false) ∧
    (r.pc < 64) ∧
    (r.lanes.length = 4) ∧
    let m := r.pc / 32
    (r.cmdOk = false) ∧
    (s.dev.spares m = 0)) ∧
  (∃ (s : State) (who : Requester) (val : Word),
    (s.dev.fore.off = false) ∧
    (s.dev.flag Reg.hdr_FREEZE 66 = false) ∧
    let v := val.toNat % 4
    (v = s.dev.fget Reg.mems_RATE)) ∧
  (∃ (s : State) (who : Requester) (val : Word),
    (s.dev.fore.off = false) ∧
    (s.dev.flag Reg.hdr_FREEZE 66 = false) ∧
    let v := val.toNat % 4
    (v ≠ s.dev.fget Reg.mems_RATE) ∧
    (s.dev.rateOk = false ∨ v = 3)) ∧
  (∃ (s : State) (who : Requester) (val : Word),
    (s.dev.fore.off = false) ∧
    (s.dev.flag Reg.hdr_FREEZE 66 = false) ∧
    let v := val.toNat % 4
    (v ≠ s.dev.fget Reg.mems_RATE) ∧
    (s.dev.rateOk = true) ∧
    (v ≠ 3) ∧
    (s.dev.flag Reg.mems_TRAINING = false) ∧
    (s.dev.flag Reg.mems_RETRAIN = false)) ∧
  (∃ (s : State) (who : Requester) (val : Word),
    (s.dev.fore.off = false) ∧
    (s.dev.flag Reg.hdr_FREEZE 66 = false) ∧
    let v := val.toNat % 4
    (v ≠ s.dev.fget Reg.mems_RATE) ∧
    (s.dev.rateOk = true) ∧
    (v ≠ 3) ∧
    (s.dev.flag Reg.mems_TRAINING = true ∨ s.dev.flag Reg.mems_RETRAIN = true)) ∧
  (∃ (s : State) (pc : Fin 64),
    (s.dev.fore.off = false) ∧
    let m := pc.val / 32
    let busy := s.dev.frozen pc = true ∨ s.dev.flag Reg.mems_TRAINING = true ∨ (KMap.find s.dev.mem.retrain m).isSome = true ∨
      (groupMembers (pc % 4)).any s.dev.pcOut = true ∨
      ([0, 1].any fun n => (KMap.find s.dev.mem.retrain n).any fun r => decide (r.pc % 4 = pc.val % 4)) = true
    (busy)) ∧
  (∃ (s : State) (pc : Fin 64),
    (s.dev.fore.off = false) ∧
    let m := pc.val / 32
    let busy := s.dev.frozen pc = true ∨ s.dev.flag Reg.mems_TRAINING = true ∨ (KMap.find s.dev.mem.retrain m).isSome = true ∨
      (groupMembers (pc % 4)).any s.dev.pcOut = true ∨
      ([0, 1].any fun n => (KMap.find s.dev.mem.retrain n).any fun r => decide (r.pc % 4 = pc.val % 4)) = true
    (¬ busy) ∧
    (s.dev.spares m = 0)) ∧
  (∃ (s : State) (pc : Fin 64),
    (s.dev.fore.off = false) ∧
    let m := pc.val / 32
    let busy := s.dev.frozen pc = true ∨ s.dev.flag Reg.mems_TRAINING = true ∨ (KMap.find s.dev.mem.retrain m).isSome = true ∨
      (groupMembers (pc % 4)).any s.dev.pcOut = true ∨
      ([0, 1].any fun n => (KMap.find s.dev.mem.retrain n).any fun r => decide (r.pc % 4 = pc.val % 4)) = true
    (¬ busy) ∧
    (0 < s.dev.spares m) ∧
    (s.dev.spares m < 4)) ∧
  (∃ (s : State) (pc : Fin 64) (eyes : List LaneEye) (r : Retrain),
    (s.dev.fore.off = false) ∧
    (KMap.find s.dev.mem.retrain (pc / 32) = some r) ∧
    (r.pc = pc) ∧
    (r.swept = false) ∧
    (eyes.length = 4) ∧
    (s.dev.frozen pc = false) ∧
    ((∃ e ∈ eyes, e.rd < s.dev.fget Reg.memt_EYE_MIN ∨ e.wr < s.dev.fget Reg.memt_EYE_MIN))) ∧
  (∃ (s : State) (pc : Fin 64) (eyes : List LaneEye) (r : Retrain),
    (s.dev.fore.off = false) ∧
    (KMap.find s.dev.mem.retrain (pc / 32) = some r) ∧
    (r.pc = pc) ∧
    (r.swept = false) ∧
    (eyes.length = 4) ∧
    (s.dev.frozen pc = false) ∧
    ((∀ e ∈ eyes, s.dev.fget Reg.memt_EYE_MIN ≤ e.rd ∧ s.dev.fget Reg.memt_EYE_MIN ≤ e.wr)) ∧
    ∃ (n : Nat),
    (n < 4)) ∧
  (∃ (s : State) (pc : Fin 64) (r : Retrain),
    (s.dev.fore.off = false) ∧
    (KMap.find s.dev.mem.retrain (pc / 32) = some r) ∧
    (r.pc ≠ pc ∨ r.swept = false)) ∧
  (∃ (s : State) (pc : Fin 64) (r : Retrain),
    (s.dev.fore.off = false) ∧
    (KMap.find s.dev.mem.retrain (pc / 32) = some r) ∧
    (r.pc = pc) ∧
    (r.swept = true) ∧
    (s.dev.spares (pc / 32) < 3)) := by
  refine ⟨⟨(stateAt 0), ?_, ?_, ?_, 0, ?_⟩,
    ⟨(stateAt 4), ?_⟩,
    ⟨(stateAt 0), ({ pc := 5, cmdOk := true, lanes := [{ rd := 90, wr := 93, rdCode := 390, wrCode := 95 }, { rd := 91, wr := 94, rdCode := 391, wrCode := 96 }, { rd := 92, wr := 95, rdCode := 392, wrCode := 97 }, { rd := 93, wr := 96, rdCode := 393, wrCode := 98 }], spare := [], region := [] }), ?_, ?_, ?_, ?_, ?_, ?_, ?_, ?_, ?_, 0, ?_⟩,
    ⟨(stateAt 0), ({ pc := 36, cmdOk := false, lanes := [{ rd := 90, wr := 93, rdCode := 390, wrCode := 95 }, { rd := 91, wr := 94, rdCode := 391, wrCode := 96 }, { rd := 92, wr := 95, rdCode := 392, wrCode := 97 }, { rd := 93, wr := 96, rdCode := 393, wrCode := 98 }], spare := [{ rd := 3, wr := 6, rdCode := 303, wrCode := 8 }], region := [{ rd := 50, wr := 53, rdCode := 350, wrCode := 55 }, { rd := 51, wr := 54, rdCode := 351, wrCode := 56 }, { rd := 52, wr := 55, rdCode := 352, wrCode := 57 }, { rd := 53, wr := 56, rdCode := 353, wrCode := 58 }] }), ?_⟩,
    ⟨(stateAt 5), ({ pc := 36, cmdOk := false, lanes := [{ rd := 90, wr := 93, rdCode := 390, wrCode := 95 }, { rd := 91, wr := 94, rdCode := 391, wrCode := 96 }, { rd := 92, wr := 95, rdCode := 392, wrCode := 97 }, { rd := 93, wr := 96, rdCode := 393, wrCode := 98 }], spare := [{ rd := 3, wr := 6, rdCode := 303, wrCode := 8 }], region := [{ rd := 50, wr := 53, rdCode := 350, wrCode := 55 }, { rd := 51, wr := 54, rdCode := 351, wrCode := 56 }, { rd := 52, wr := 55, rdCode := 352, wrCode := 57 }, { rd := 53, wr := 56, rdCode := 353, wrCode := 58 }] }), ?_⟩,
    ⟨(stateAt 0), (Requester.host), (0#32), ?_⟩,
    ⟨(stateAt 0), (Requester.host), (3#32), ?_⟩,
    ⟨(stateAt 1), (Requester.host), (1#32), ?_⟩,
    ⟨(stateAt 0), (Requester.host), (1#32), ?_⟩,
    ⟨(stateAt 0), 0, ?_⟩,
    ⟨(stateAt 10), 0, ?_⟩,
    ⟨(stateAt 1), 0, ?_⟩,
    ⟨(stateAt 8), 5, ([{ rd := 90, wr := 93, rdCode := 390, wrCode := 95 }, { rd := 1, wr := 4, rdCode := 301, wrCode := 6 }, { rd := 92, wr := 95, rdCode := 392, wrCode := 97 }, { rd := 93, wr := 96, rdCode := 393, wrCode := 98 }]), ({ pc := 5, swept := false, old := [] }), ?_⟩,
    ⟨(stateAt 8), 5, ([{ rd := 90, wr := 93, rdCode := 390, wrCode := 95 }, { rd := 91, wr := 94, rdCode := 391, wrCode := 96 }, { rd := 92, wr := 95, rdCode := 392, wrCode := 97 }, { rd := 93, wr := 96, rdCode := 393, wrCode := 98 }]), ({ pc := 5, swept := false, old := [] }), ?_, ?_, ?_, ?_, ?_, ?_, ?_, 0, ?_⟩,
    ⟨(stateAt 8), 0, ({ pc := 5, swept := false, old := [] }), ?_⟩,
    ⟨(stateAt 9), 5, ({ pc := 5, swept := true, old := [1, 2, 3, 4, 5, 6, 7, 8] }), ?_⟩⟩ <;>
    first | (unfold Dev.TakesCmd; decide +kernel) | (unfold Dev.AssayIdle; decide +kernel) | (unfold Dev.TakesFrame; decide +kernel) | (unfold Dev.Outstanding; decide +kernel) | (unfold khzOut maxKhz; cases Config.partBE <;> decide +kernel) | decide +kernel

/-- States and operands that meet the hypotheses of HbmRefreshAndRows. -/
theorem witness_HbmRefreshAndRows :
  (∃ (s : State) (m : Fin 2) (temp tj : Int) (parts : List (Nat × Nat)),
    (s.dev.fore.off = false) ∧
    let cur := s.dev.fget Reg.memc_TIER m
    let up := if 13500 < tj then 3 else if 10500 ≤ temp then 2 else if 8500 ≤ temp then 1 else 0
    let down := if 13300 < tj then 3 else if 10300 < temp then 2 else if 8300 < temp then 1 else 0
    let new := max up (min cur down)
    (new = cur)) ∧
  (∃ (s : State) (m : Fin 2) (temp tj : Int) (parts : List (Nat × Nat)),
    (s.dev.fore.off = false) ∧
    let cur := s.dev.fget Reg.memc_TIER m
    let up := if 13500 < tj then 3 else if 10500 ≤ temp then 2 else if 8500 ≤ temp then 1 else 0
    let down := if 13300 < tj then 3 else if 10300 < temp then 2 else if 8300 < temp then 1 else 0
    let new := max up (min cur down)
    (new ≠ cur) ∧
    (new = 3)) ∧
  (∃ (s : State) (m : Fin 2) (temp tj : Int) (parts : List (Nat × Nat)),
    (s.dev.fore.off = false) ∧
    let cur := s.dev.fget Reg.memc_TIER m
    let up := if 13500 < tj then 3 else if 10500 ≤ temp then 2 else if 8500 ≤ temp then 1 else 0
    let down := if 13300 < tj then 3 else if 10300 < temp then 2 else if 8300 < temp then 1 else 0
    let new := max up (min cur down)
    (new ≠ cur) ∧
    ∃ (b : Nat),
    (b < 1536) ∧
    let k := 1536 * m + b
    (KMap.at s.dev.mem.owed 0 k ≠ 0)) ∧
  (∃ (s : State) (pc : Fin 64) (bank : Fin 48) (reqs : List HbmReq) (served : Nat),
    (s.dev.fore.off = false) ∧
    let d := s.dev.hbmTraffic pc reqs served
    let k := 48 * pc.val + bank.val
    let o := KMap.at d.mem.owed 0 k + 1
    let late := ((d.waiting pc).any fun r => decide (r.bank = bank ∧ reqClass r.source ≤ 3)) = true ∧ o < 8
    (late)) ∧
  (∃ (s : State) (pc : Fin 64) (bank : Fin 48) (reqs : List HbmReq) (served : Nat),
    (s.dev.fore.off = false) ∧
    let d := s.dev.hbmTraffic pc reqs served
    let k := 48 * pc.val + bank.val
    let o := KMap.at d.mem.owed 0 k + 1
    let late := ((d.waiting pc).any fun r => decide (r.bank = bank ∧ reqClass r.source ≤ 3)) = true ∧ o < 8
    (¬ late)) ∧
  (∃ (s : State) (m : Fin 2) (q bank : Nat) (pc : Fin 64) (r : HbmReq),
    (s.dev.fore.off = false) ∧
    (r.bank = bank % 48)) ∧
  (∃ (s : State) (m : Fin 2) (l : List (Fin 64 × Nat)) (pc : Fin 64) (n : Nat),
    (s.dev.fore.off = false) ∧
    (pc.val / 32 ≠ m)) ∧
  (∃ (s : State) (m : Fin 2) (l : List (Fin 64 × Nat)) (pc : Fin 64) (n : Nat),
    (s.dev.fore.off = false) ∧
    (pc.val / 32 = m)) ∧
  (∃ (s : State) (pc : Fin 64),
    (s.dev.fore.off = false) ∧
    (s.dev.armed = true ∨ s.dev.flag Reg.mems_TRAINING = true ∨ s.dev.waiting pc ≠ [])) ∧
  (∃ (s : State) (pc : Fin 64),
    (s.dev.fore.off = false) ∧
    (s.dev.armed = false) ∧
    (s.dev.flag Reg.mems_TRAINING = false) ∧
    (s.dev.waiting pc = [])) ∧
  (∃ (s : State) (m : Fin 2) (hits total : Nat),
    (s.dev.fore.off = false) ∧
    (s.dev.flag Reg.memc_PD_ADAPT m = true) ∧
    let hi := min (if 2 ≤ s.dev.fget Reg.memc_TIER m then 2000 else 65535) (s.dev.fget Reg.memc_PD_POL_MAX m)
    let lo := max 25 (s.dev.fget Reg.memc_PD_POL_MIN m)
    (lo ≤ hi) ∧
    (total < 100 * hits)) ∧
  (∃ (s : State) (m : Fin 2) (hits total : Nat),
    (s.dev.fore.off = false) ∧
    (s.dev.flag Reg.memc_PD_ADAPT m = true) ∧
    let hi := min (if 2 ≤ s.dev.fget Reg.memc_TIER m then 2000 else 65535) (s.dev.fget Reg.memc_PD_POL_MAX m)
    let lo := max 25 (s.dev.fget Reg.memc_PD_POL_MIN m)
    (lo ≤ hi) ∧
    (100 * hits ≤ total) ∧
    (1000 * hits < total)) ∧
  (∃ (s : State) (m : Fin 2) (hits total : Nat),
    (s.dev.fore.off = false) ∧
    (s.dev.flag Reg.memc_PD_ADAPT m = true) ∧
    let hi := min (if 2 ≤ s.dev.fget Reg.memc_TIER m then 2000 else 65535) (s.dev.fget Reg.memc_PD_POL_MAX m)
    let lo := max 25 (s.dev.fget Reg.memc_PD_POL_MIN m)
    (lo ≤ hi) ∧
    (100 * hits ≤ total) ∧
    (total ≤ 1000 * hits)) ∧
  (∃ (s : State) (m : Fin 2) (hits total : Nat),
    (s.dev.fore.off = false) ∧
    (s.dev.flag Reg.memc_PD_ADAPT m = true) ∧
    let hi := min (if 2 ≤ s.dev.fget Reg.memc_TIER m then 2000 else 65535) (s.dev.fget Reg.memc_PD_POL_MAX m)
    let lo := max 25 (s.dev.fget Reg.memc_PD_POL_MIN m)
    (hi < lo) ∧
    (s.dev.flag Reg.memc_OVERRIDDEN_PD m = false)) ∧
  (∃ (s : State) (pc : Fin 64) (reqs : List HbmReq),
    (s.dev.fore.off = false) ∧
    (s.dev.flag Reg.mems_TRAINING = false) ∧
    (s.dev.frozen pc = false) ∧
    (reqs ≠ []) ∧
    ∃ (p : Nat),
    (p < 64) ∧
    (p ≠ pc.val)) ∧
  (∃ (d : Dev) (pc : Nat) (r x : HbmReq),
    (d.nextReq pc = some r) ∧
    (x ∈ d.readyAfter pc [] (d.waiting pc)) ∧
    (d.rowOpen pc x = true) ∧
    (d.rowOpen pc r = false)) ∧
  (∃ (d : Dev) (pc : Nat) (a b : HbmReq) (l m : List HbmReq),
    (d.waiting pc = l ++ a :: m) ∧
    (b ∉ l) ∧
    (b ≠ a) ∧
    (sameLine a b = true)) ∧
  (∃ (s : State) (pc : Fin 64) (r : HbmReq),
    (s.dev.fore.off = false) ∧
    (s.dev.flag Reg.mems_TRAINING = false) ∧
    (s.dev.frozen pc = false) ∧
    (s.dev.waiting pc = []) ∧
    (s.dev.throttled pc r = false) ∧
    (r.source ≠ .refresh) ∧
    (r.bank < 48) ∧
    (KMap.find s.dev.mem.openRows (48 * pc.val + r.bank) = none) ∧
    let k := 48 * pc.val + r.bank
    let m := pc.val / 32
    let tbl := activateRow (KMap.at s.dev.mem.rows [] k) r.row
    let full := ∃ e ∈ tbl, e.1 = r.row ∧ clampNat 256 2048 (s.dev.fget Reg.memc_HAMMER_THRESH m) ≤ e.2
    (full)) ∧
  (∃ (s : State) (pc : Fin 64) (r : HbmReq),
    (s.dev.fore.off = false) ∧
    (s.dev.flag Reg.mems_TRAINING = false) ∧
    (s.dev.frozen pc = false) ∧
    (s.dev.waiting pc = []) ∧
    (s.dev.throttled pc r = false) ∧
    (r.source ≠ .refresh) ∧
    (r.bank < 48) ∧
    (KMap.find s.dev.mem.openRows (48 * pc.val + r.bank) = none) ∧
    let m := pc.val / 32
    ∃ (q : _),
    (reqFrom r.source = some q) ∧
    (KMap.at s.dev.mem.acts 0 (actKey q pc r) + 1 = s.dev.actLimit m)) := by
  refine ⟨⟨(stateAt 0), 0, 0, 0, ([]), ?_⟩,
    ⟨(stateAt 0), 0, 0, 13501, ([]), ?_⟩,
    ⟨(stateAt 11), 0, 0, 0, ([]), ?_, ?_, 5, ?_⟩,
    ⟨(stateAt 1), 0, 1, ([{ source := HbmSource.capture, bank := 1, row := 3, line := 7 }, { source := HbmSource.bench 4, bank := 1, row := 3, line := 7 }]), 0, ?_⟩,
    ⟨(stateAt 0), 0, 0, ([]), 0, ?_⟩,
    ⟨(stateAt 0), 0, 0, 1, 0, ({ source := HbmSource.bar6, bank := 1, row := 33, line := 8 }), ?_⟩,
    ⟨(stateAt 0), 0, ([]), 32, 1, ?_⟩,
    ⟨(stateAt 0), 0, ([(0, 1)]), 31, 1, ?_⟩,
    ⟨(stateAt 0), 0, ?_⟩,
    ⟨(stateAt 1), 0, ?_⟩,
    ⟨(stateAt 0), 0, 1, 0, ?_⟩,
    ⟨(stateAt 0), 0, 0, 1, ?_⟩,
    ⟨(stateAt 0), 0, 0, 0, ?_⟩,
    ⟨(stateAt 13), 1, 0, 0, ?_⟩,
    ⟨(stateAt 1), 0, ([{ source := HbmSource.capture, bank := 1, row := 3, line := 7 }, { source := HbmSource.bench 4, bank := 1, row := 3, line := 7 }]), ?_, ?_, ?_, ?_, 1, ?_⟩,
    ⟨{State.reset.dev with mem.reqs := [(0,[rq .bar6 1 33 8, rq .capture 1 3 7])], mem.openRows := [(1, {row := 33, since := 0, auto := false})]}, 0, rq .capture 1 3 7, rq .bar6 1 33 8, ?_⟩,
    ⟨{State.reset.dev with mem.reqs := [(0,[rq .bar6 1 33 7]), (1, [rq .capture 1 3 7, rq (.bench 4) 1 3 7])]}, 0, rq .bar6 1 33 7, rq .capture 1 3 7, [], [], ?_⟩,
    ⟨(stateAt 11), 0, ({ source := HbmSource.capture, bank := 1, row := 3, line := 7 }), ?_⟩,
    ⟨(stateAt 21), 4, ({ source := HbmSource.bar6, bank := 1, row := 33, line := 8 }), ?_, ?_, ?_, ?_, ?_, ?_, ?_, ?_, 36, ?_⟩⟩ <;>
    first | (unfold Dev.TakesCmd; decide +kernel) | (unfold Dev.AssayIdle; decide +kernel) | (unfold Dev.TakesFrame; decide +kernel) | (unfold Dev.Outstanding; decide +kernel) | (unfold khzOut maxKhz; cases Config.partBE <;> decide +kernel) | decide +kernel

/-- States and operands that meet the hypotheses of HbmErrors. -/
theorem witness_HbmErrors :
  (∃ (s : State) (pc : Fin 64) (bank : Fin 48) (row : Nat),
    (s.dev.fore.off = false) ∧
    let k := rowKey pc bank row
    let ts := ((s.dev.nowUs :: KMap.at s.dev.mem.corrected [] k).filter fun u => decide (s.dev.nowUs < u + 86400000000)).take 4
    (ts.length < 4)) ∧
  (∃ (s : State) (pc : Fin 64) (bank : Fin 48) (row : Nat),
    (s.dev.fore.off = false) ∧
    let k := rowKey pc bank row
    let ts := ((s.dev.nowUs :: KMap.at s.dev.mem.corrected [] k).filter fun u => decide (s.dev.nowUs < u + 86400000000)).take 4
    (ts.length = 4) ∧
    (k ∉ s.dev.mem.rowsKept) ∧
    (KMap.at s.dev.mem.rowsUsed 0 (48 * pc.val + bank) < 8)) ∧
  (∃ (s : State) (pc : Fin 64) (bank : Fin 48) (row : Nat),
    (s.dev.fore.off = false) ∧
    let k := rowKey pc bank row
    let ts := ((s.dev.nowUs :: KMap.at s.dev.mem.corrected [] k).filter fun u => decide (s.dev.nowUs < u + 86400000000)).take 4
    (ts.length = 4) ∧
    (k ∉ s.dev.mem.rowsDue) ∧
    (8 ≤ KMap.at s.dev.mem.rowsUsed 0 (48 * pc.val + bank))) ∧
  (∃ (s : State) (pc : Fin 64),
    (s.dev.fore.off = false) ∧
    (s.dev.frozen pc = false) ∧
    let ts := ((s.dev.nowUs :: KMap.at s.dev.mem.alerts [] pc).filter fun u => decide (s.dev.nowUs < u + 1000)).take 3
    (ts.length < 3)) ∧
  (∃ (s : State) (pc : Fin 64),
    (s.dev.fore.off = false) ∧
    (s.dev.frozen pc = false) ∧
    let ts := ((s.dev.nowUs :: KMap.at s.dev.mem.alerts [] pc).filter fun u => decide (s.dev.nowUs < u + 1000)).take 3
    (ts.length = 3)) ∧
  (∃ (s : State) (pc : Fin 64) (again : Bool),
    (s.dev.fore.off = false) ∧
    (s.dev.frozen pc = false) ∧
    let n := if again then KMap.at s.dev.mem.timeouts 0 pc + 1 else 1
    (n < 3)) ∧
  (∃ (s : State) (pc : Fin 64) (again : Bool),
    (s.dev.fore.off = false) ∧
    (s.dev.frozen pc = false) ∧
    let n := if again then KMap.at s.dev.mem.timeouts 0 pc + 1 else 1
    (3 ≤ n)) ∧
  (∃ (s : State) (pc : Fin 64) (line : Nat),
    (s.dev.fore.off = false) ∧
    let lost := ((groupMembers (pc % 4)).any fun p => decide (p ≠ pc.val) && s.dev.pcOut p) = true
    (lost)) ∧
  (∃ (s : State) (pc : Fin 64) (line : Nat),
    (s.dev.fore.off = false) ∧
    let lost := ((groupMembers (pc % 4)).any fun p => decide (p ≠ pc.val) && s.dev.pcOut p) = true
    (¬ lost) ∧
    (s.dev.frozen pc = true)) ∧
  (∃ (s : State) (pc : Fin 64) (line : Nat),
    (s.dev.fore.off = false) ∧
    let lost := ((groupMembers (pc % 4)).any fun p => decide (p ≠ pc.val) && s.dev.pcOut p) = true
    (¬ lost) ∧
    (s.dev.frozen pc = false) ∧
    (0 < s.dev.spares (pc / 32)) ∧
    (s.dev.spares (pc / 32) < 4) ∧
    (KMap.find s.dev.mem.rebuild (pc / 32) = none) ∧
    (s.dev.mem.retrain = [])) ∧
  (∃ (s : State) (m : Fin 2),
    (s.dev.fore.off = false) ∧
    (KMap.find s.dev.mem.rebuild m = none)) ∧
  (∃ (s : State) (m : Fin 2),
    (s.dev.fore.off = false) ∧
    ∃ (pc : _),
    (KMap.find s.dev.mem.rebuild m = some pc) ∧
    (s.dev.mem.waiting = [])) := by
  refine ⟨⟨(nfAt 0), 0, 0, 0, ?_⟩,
    ⟨(nfAt 15), 0, 1, 3, ?_⟩,
    ⟨(nfAt 15), 1, 1, 3, ?_⟩,
    ⟨(nfAt 0), 0, ?_⟩,
    ⟨(nfAt 15), 5, ?_⟩,
    ⟨(nfAt 0), 0, (false), ?_⟩,
    ⟨(nfAt 15), 5, (true), ?_⟩,
    ⟨(nfAt 16), 0, 0, ?_⟩,
    ⟨(nfAt 16), 36, 0, ?_⟩,
    ⟨(nfAt 0), 0, 0, ?_⟩,
    ⟨(nfAt 0), 0, ?_⟩,
    ⟨(nfAt 16), 0, ?_, 5, ?_⟩⟩ <;>
    first | (unfold Dev.TakesCmd; decide +kernel) | (unfold Dev.AssayIdle; decide +kernel) | (unfold Dev.TakesFrame; decide +kernel) | (unfold Dev.Outstanding; decide +kernel) | (unfold khzOut maxKhz; cases Config.partBE <;> decide +kernel) | decide +kernel

end P16

namespace P17
def u (d : Dev) : Dev := (upDev d).fbit Reg.pcie_DL_UP true |>.fset Reg.pcie_SPEED 4 |>.fset Reg.pcie_WIDTH 16
def q6 : QCtx := { typ := 4, cls := 1, log2 := 4, esize := 6, state := 1 }
def hl (d : Dev) : Dev := { u d with qm.ctx := [(0, {q6 with typ := 1}), (1, {q6 with typ := 2}), (6, {q6 with state := 3})], pcie.holdFrom := 5, pcie.egress := [.hostWrite 8 [1]], qm.cmds := [⟨4, 0x30, 0, 1, 7, 6, [], some (3, 2^33+5)⟩] }.fbit Reg.pcie_HOLD true |>.fset Reg.pcie_EGRESS_LEVEL 4 |>.fbit Reg.qmgr_EN true
def pool : List State := [State.reset, wit u, wit (fun d => { u d with qm.ctx := [(6, q6), (7, {q6 with typ := 3})] }), wit hl, wit (fun d => { u d with pcie.perstN := true}), wit (fun d => { upDev d with pcie.perstN := true}), wit (fun d => (upDev d).fset Reg.pcie_SPEED_CAP 3), wit (frozenAt 68),
 wit (fun d => { u d with pcie.ptmBusy := true}.fbit Reg.pcie_PTM_EN true), wit (fun d => (u d).fbit Reg.pcie_PTM_EN true), wit (fun d => { u d with pcie.ptmBusy := true}), wit (fun d => ((u d).fbit Reg.acq_ARMED true).fbit Reg.acq_ring_STREAM_EN true 3), wit (fun d => (u d).fbit Reg.acq_ARMED true),
 wit (fun d => { u d with pcie.marginTodo := [3,4]}.fbit Reg.pcie_IN_L1 true), { wit (fun d => { u d with mem.powerDown := 7 }.fbit Reg.pcie_IN_L1 true) with hbm := [(2, 5), (64, 7)] }, wit (fun d => (u d).fbit Reg.mems_TRAINING true), wit (fun d => (u d).fbit Reg.life_ROM_RECOVERY true), wit (fun d => (u d).fbit Reg.mems_TRAINING false), { wit (fun d => { u d with mem.powerDown := 7 }.fbit Reg.pcie_IN_L1 true |>.fbit Reg.mems_TRAINING false) with hbm := [(2, 5), (64, 7)] }]
def stateAt (n : Nat) : State := (pool).getD n State.reset
def nfAt (n : Nat) : State := mod (stateAt n) fun d => d.fset Reg.tbase_NOMINAL_FREQ 8000000

/-- States and operands that meet the hypotheses of HostLink. -/
theorem witness_HostLink :
  (∃ (s : State),
    (s.dev.fore.off = false) ∧
    (s.dev.flag Reg.pcie_DL_UP = false)) ∧
  (∃ (s : State),
    (s.dev.fore.off = false) ∧
    (s.dev.flag Reg.pcie_DL_UP = true) ∧
    (s.dev.pcie.perstN = true)) ∧
  (∃ (s : State),
    (s.dev.fore.off = false) ∧
    (s.dev.flag Reg.pcie_DL_UP = true) ∧
    (s.dev.pcie.perstN = false) ∧
    (s.dev.holding = false)) ∧
  (∃ (s : State),
    (s.dev.fore.off = false) ∧
    (s.dev.flag Reg.pcie_DL_UP = true) ∧
    (s.dev.pcie.perstN = false) ∧
    (s.dev.holding = true)) ∧
  (∃ (s : State) (speed : Fin 6) (width : Fin 32) (refclk : Fin 3),
    (s.dev.fore.off = false) ∧
    (s.dev.flag Reg.pcie_DL_UP = false)) ∧
  (∃ (s : State) (speed : Fin 6) (width : Fin 32) (refclk : Fin 3),
    (s.dev.fore.off = false) ∧
    let cap := clampNat 1 5 (s.dev.fget Reg.pcie_SPEED_CAP)
    (s.dev.flag Reg.pcie_DL_UP = true) ∧
    (s.dev.fget Reg.pcie_SPEED = clampNat 1 cap speed) ∧
    (s.dev.fget Reg.pcie_WIDTH = width)) ∧
  (∃ (s : State) (speed : Fin 6) (width : Fin 32) (refclk : Fin 3),
    (s.dev.fore.off = false) ∧
    let cap := clampNat 1 5 (s.dev.fget Reg.pcie_SPEED_CAP)
    (s.dev.flag Reg.pcie_DL_UP = true) ∧
    (s.dev.fget Reg.pcie_SPEED ≠ clampNat 1 cap speed ∨ s.dev.fget Reg.pcie_WIDTH ≠ width)) ∧
  (∃ (s : State) (ptm : Bool),
    (s.dev.fore.off = false) ∧
    (s.dev.flag Reg.pcie_DL_UP = false)) ∧
  (∃ (s : State) (ptm : Bool),
    (s.dev.fore.off = false) ∧
    (s.dev.flag Reg.pcie_DL_UP = true)) ∧
  (∃ (s : State) (who : Requester),
    (s.dev.fore.off = false) ∧
    (s.dev.flag Reg.hdr_FREEZE 68 = false) ∧
    (s.dev.holding = false)) ∧
  (∃ (s : State) (who : Requester),
    (s.dev.fore.off = false) ∧
    (s.dev.flag Reg.hdr_FREEZE 68 = false) ∧
    (s.dev.holding = true) ∧
    ∃ (q : Nat),
    (q < 65536)) ∧
  (∃ (s : State) (who : Requester),
    (s.dev.fore.off = false) ∧
    (s.dev.flag Reg.hdr_FREEZE 68 = false) ∧
    (s.dev.pcie.ptmBusy = true)) ∧
  (∃ (s : State) (who : Requester),
    (s.dev.fore.off = false) ∧
    (s.dev.flag Reg.hdr_FREEZE 68 = false) ∧
    (s.dev.pcie.ptmBusy = false) ∧
    (s.dev.flag Reg.pcie_PTM_EN = false)) ∧
  (∃ (s : State) (who : Requester),
    (s.dev.fore.off = false) ∧
    (s.dev.flag Reg.hdr_FREEZE 68 = false) ∧
    (s.dev.pcie.ptmBusy = false) ∧
    (s.dev.flag Reg.pcie_PTM_EN = true)) ∧
  (∃ (s : State) (ok : Bool) (hostNs devTs : Nat),
    (s.dev.fore.off = false) ∧
    (hostNs < 2 ^ 64) ∧
    (devTs < 2 ^ 96) ∧
    (s.dev.pcie.ptmBusy = false)) ∧
  (∃ (s : State) (ok : Bool) (hostNs devTs : Nat),
    (s.dev.fore.off = false) ∧
    (hostNs < 2 ^ 64) ∧
    (devTs < 2 ^ 96) ∧
    (s.dev.pcie.ptmBusy = true) ∧
    (ok = false ∨ s.dev.flag Reg.pcie_PTM_EN = false)) ∧
  (∃ (s : State) (ok : Bool) (hostNs devTs : Nat),
    (s.dev.fore.off = false) ∧
    (hostNs < 2 ^ 64) ∧
    (devTs < 2 ^ 96) ∧
    (s.dev.pcie.ptmBusy = true) ∧
    (ok = true) ∧
    (s.dev.flag Reg.pcie_PTM_EN = true)) ∧
  (∃ (s : State) (d3hot : Bool),
    (s.dev.fore.off = false) ∧
    (d3hot = true) ∧
    (s.dev.flag Reg.pcie_DL_UP = true)) ∧
  (∃ (s : State) (d3hot : Bool),
    (s.dev.fore.off = false) ∧
    let idle := s.dev.flag Reg.pcie_DL_UP = true ∧ s.dev.pcie.egress = [] ∧ (s.dev.armed = false ∨ ∀ r < 12, s.dev.flag Reg.acq_ring_STREAM_EN r = false)
    (d3hot = false) ∧
    (idle)) ∧
  (∃ (s : State) (d3hot : Bool),
    (s.dev.fore.off = false) ∧
    let idle := s.dev.flag Reg.pcie_DL_UP = true ∧ s.dev.pcie.egress = [] ∧ (s.dev.armed = false ∨ ∀ r < 12, s.dev.flag Reg.acq_ring_STREAM_EN r = false)
    (s.dev.flag Reg.pcie_DL_UP = false ∨ (d3hot = false ∧ ¬ idle))) ∧
  (∃ (s : State) (results : List (Fin 16 × Word)) (lane : Fin 16),
    (s.dev.fore.off = false) ∧
    (s.dev.pcie.marginTodo = [])) ∧
  (∃ (s : State) (results : List (Fin 16 × Word)) (lane : Fin 16),
    (s.dev.fore.off = false) ∧
    (s.dev.pcie.marginTodo ≠ []) ∧
    ∃ (w : _),
    (results = [(lane, w)])) ∧
  (∃ (s : State) (off len : Nat),
    (s.dev.fore.off = false) ∧
    (0 < len) ∧
    (off + len ≤ 2 ^ 36) ∧
    let out := hbmSize < off + len
    (out)) ∧
  (∃ (s : State) (off len : Nat),
    (s.dev.fore.off = false) ∧
    (0 < len) ∧
    (off + len ≤ 2 ^ 36) ∧
    (s.dev.flag Reg.mems_TRAINING = true) ∧
    (off < hbmSize)) ∧
  (∃ (s : State) (off len : Nat),
    (s.dev.fore.off = false) ∧
    (0 < len) ∧
    (off + len ≤ 2 ^ 36) ∧
    (s.dev.flag Reg.mems_TRAINING = false ∨ hbmSize ≤ off) ∧
    ∃ (k : Nat),
    (k < len)) ∧
  (∃ (s : State) (off : Nat) (bytes : List Byte),
    (s.dev.fore.off = false) ∧
    (bytes ≠ []) ∧
    (off + bytes.length ≤ 2 ^ 36) ∧
    let out := hbmSize < off + bytes.length
    (out)) ∧
  (∃ (s : State) (off : Nat) (bytes : List Byte),
    (s.dev.fore.off = false) ∧
    (bytes ≠ []) ∧
    (off + bytes.length ≤ 2 ^ 36) ∧
    (s.dev.flag Reg.mems_TRAINING = true) ∧
    (off < hbmSize)) ∧
  (∃ (s : State) (off : Nat) (bytes : List Byte),
    (s.dev.fore.off = false) ∧
    (bytes ≠ []) ∧
    (off + bytes.length ≤ 2 ^ 36) ∧
    (s.dev.flag Reg.mems_TRAINING = false ∨ hbmSize ≤ off) ∧
    (s.dev.mem.powerDown = 0)) := by
  refine ⟨⟨(stateAt 0), ?_⟩,
    ⟨(stateAt 4), ?_⟩,
    ⟨(stateAt 1), ?_⟩,
    ⟨(stateAt 3), ?_⟩,
    ⟨(stateAt 0), 0, 1, 0, ?_⟩,
    ⟨(stateAt 1), 4, 16, 0, ?_⟩,
    ⟨(stateAt 1), 0, 1, 0, ?_⟩,
    ⟨(stateAt 0), (false), ?_⟩,
    ⟨(stateAt 1), (false), ?_⟩,
    ⟨(stateAt 0), (Requester.host), ?_⟩,
    ⟨(stateAt 3), (Requester.host), ?_, ?_, ?_, 0, ?_⟩,
    ⟨(stateAt 8), (Requester.host), ?_⟩,
    ⟨(stateAt 0), (Requester.host), ?_⟩,
    ⟨(stateAt 9), (Requester.host), ?_⟩,
    ⟨(stateAt 0), (false), 0, 0, ?_⟩,
    ⟨(stateAt 8), (false), 0, 0, ?_⟩,
    ⟨(stateAt 8), (true), 0, 0, ?_⟩,
    ⟨(stateAt 1), (true), ?_⟩,
    ⟨(stateAt 1), (false), ?_⟩,
    ⟨(stateAt 0), (false), ?_⟩,
    ⟨(stateAt 0), ([]), 0, ?_⟩,
    ⟨(stateAt 13), ([(3, 5#32)]), 3, ?_, ?_, (5#32), ?_⟩,
    ⟨(stateAt 0), 0, 48318382085, ?_⟩,
    ⟨(stateAt 0), 0, 1, ?_⟩,
    ⟨(stateAt 0), 48318382085, 1, ?_, ?_, ?_, ?_, 0, ?_⟩,
    ⟨(stateAt 0), 48318382078, ([1#8, 2#8, 3#8, 4#8]), ?_⟩,
    ⟨(stateAt 0), 0, ([1#8, 2#8, 3#8, 4#8]), ?_⟩,
    ⟨(stateAt 0), 48318382085, ([1#8, 2#8, 3#8, 4#8]), ?_⟩⟩ <;>
    first | (unfold Dev.TakesCmd; decide +kernel) | (unfold Dev.AssayIdle; decide +kernel) | (unfold Dev.TakesFrame; decide +kernel) | (unfold Dev.Outstanding; decide +kernel) | (unfold khzOut maxKhz; cases Config.partBE <;> decide +kernel) | decide +kernel

end P17

namespace P18
def mf : MgmtFrame := { devId := 7, root := true, depth := some 0, rootId := 7, otherRoot := none, hopsMax := 3, horizon := 100, below := [(9, 1)], hops := 1, alternates := false }
def hf : HeldFrame := ⟨1, 3, 4, .mgmt mf⟩
def hf2 : HeldFrame := ⟨0, 2, 4, .words 1 2 [3]⟩
def hf3 : HeldFrame := { hf with port := 2 }
def fw : Forward := ⟨[1, 3], .words 1 2 [3]⟩
def mg : Merge := { id := 4, stamp := 2, epoch := 3, origin := 4, seqT := 5, loc := false, t := 130, cause := 9, fb := false, prov := true }
def pv : Prov := { id := 4, kind := .remote, seg := none, deadline := 2, origin := 4, seqT := 5, stamp := 3 }
def ports (st : List Nat) (roles : List Nat) (d : Dev) : Dev := (List.range 4).foldl (fun d n => ((((d.fset Reg.cas_port_STATE (st.getD n 0) n).fset Reg.cas_port_ROLE (roles.getD n 0) n).fset Reg.cas_port_ASYM 5 n).fbit Reg.cas_port_PRSNT true n)) ((upDev d).fbit Reg.cas_EN true)
def a (d : Dev) : Dev := { ports [3,3,2,3] [1,2,3,3] d with cas.ports := [(0, {peer := some mf, exchanges := 99}), (1, {peer := some {mf with devId := 12}, exchanges := 63, delaySum := 1000}), (2, {peer := some {mf with devId := 5}}), (3, {peer := some {mf with devId := 9, below := [(10, 1)]}, exchanges := 5})], cas.rx := [(1*16+3, [7]), (2*16+4,[7]), (2*16+1,[7]), (3*16+2, [7])], cas.tx := [(1, 8), (18, 9)] }
def ar (d : Dev) : Dev := { (a d).fbit Reg.acq_ARMED true with tb.acc := 2^30 * 65536 , loom.tick := 20000}.fbit Reg.cas_TRIG_RX true |>.fset Reg.cas_H_TICKS 16000
def seg1 (d : Dev) : Dev := ((ar d).fset Reg.acq_SEG_RINGS 1).fset Reg.acq_POST_LEN_W0 1 |>.fset Reg.acq_ring_SIZE 64 0
def img1 : List Nat := [0,0,0,0,0,0,9,4,0,0,0,0,0,16,crc32c [1,2,3,4]] ++ [0] ++ [1,2,3,4]
def cp (d : Dev) : Dev := (((a d).fbit Reg.mems_TRAINING false).fset Reg.ledg_BASE 100000).fset Reg.cas_XFER_LEN 128
def pool : List State := [wit cp, wit (fun d => { (a d).fset Reg.cas_port_STATE 0 2 with cas.held := [hf3] }), { wit (fun d => { cp d with cas.xfer := some (4, 64, 8, 0) }.fbit Reg.cas_BUSY true) with hbm := [(5, 3), (64, 8)] }, wit (fun d => {(((cp d).fset Reg.accu_part_MODE 0 4).fset Reg.accu_part_POINTS 4 4).fset Reg.accu_part_UNITS 1 4 with cas.images := [(3*16+4, img1), (2*16+3, img1)], till.banks := [(4*262144+1, 5)] }), wit (fun d => {(((cp d).fset Reg.accu_part_MODE 0 4).fset Reg.accu_part_POINTS 4 4).fset Reg.accu_part_UNITS 1 4 with cas.images := [(3*16+4, img1), (2*16+3, img1)], till.banks := [(4*262144+1, 5)], till.parts := [(4, {bound := [3], cur := some {seg := 3, next := 2}})] }.fset Reg.accu_part_STATE 1 4), wit (fun d => let d := cp d; { d with cas.ports := [(0, {peer := some mf, exchanges := 63, frames := 99}), (1, {peer := some mf, exchanges := 63, frames := 99, delaySum := 1000})] }), State.reset, wit a, wit (ports [0,0,0,0] [1,2,3,0]), wit (ports [1,1,2,2] [1,2,3,3]), wit (fun d => (ports [1,1,2,2] [3,3,3,3] d).fbit Reg.cas_ROOT true), wit (frozenAt 69),
  wit (fun d => { a d with cas.held := [hf] }), wit (fun d => { a d with cas.held := [hf2] }), wit (fun d => { (a d).fset Reg.cas_port_STATE 1 0 with cas.held := [hf2] }), wit (fun d => ((a d).fset Reg.tbase_REF_SEL 3).fbit Reg.tbase_REF_VALID true |>.fbit Reg.cas_SYNCED true), wit (fun d => { (a d).fbit Reg.cas_ROOT true with cas.yields := true }), wit (fun d => ((a d).fbit Reg.cas_ROOT true).fbit Reg.tbase_REF_VALID true |>.fset Reg.cas_DEV_ID 900), wit (fun d => { ar d with cas.passed := [(3,5,0), (4,5,1)] }), wit (fun d => { (a d).fbit Reg.cas_ALT_ACTIVE true with fore.degraded := [(69, 1)]}),
  wit (fun d => { (a d).fbit Reg.cas_ROOT true with cas.conflict := true }.fset Reg.cas_DEV_ID 8), wit (fun d => (a d).fset Reg.cas_port_STATE 0 1),
  wit ar, wit (fun d => (ar d).fset Reg.cas_H_TICKS 20), wit (fun d => { ar d with cas.msgs := [⟨3, 5, 0, 2^30⟩] }), wit (fun d => { ar d with cas.forward := [fw] }),
  wit (fun d => { ar d with tseq.merge := [mg] }), wit (fun d => { ar d with tseq.merge := [{mg with stamp := 2^40}] }), wit (fun d => { ar d with tseq.merge := [{mg with confirmed := some false}] }), wit (fun d => { seg1 d with tseq.merge := [{mg with loc := true}] }), wit (fun d => { (seg1 d).fbit Reg.acq_SEG_MODE true with tseq.merge := [{mg with loc := true}], acq.prevWindow := some (129, 131) }),
  wit (fun d => { ar d with tseq.provs := [pv], tseq.merge := [mg] }), wit (fun d => { ar d with tseq.provs := [{pv with deadline := 2^40}] }),
  wit (fun d => { a d with cas.images := [(9*16+2, [8,8])] }), wit (fun d => {(((a d).fset Reg.accu_part_MODE 0 4).fset Reg.accu_part_POINTS 4 4).fset Reg.accu_part_UNITS 1 4 with cas.images := [(3*16+4, img1), (2*16+3, img1)], till.banks := [(4*262144+1, 5)] }),
  wit (fun d => (a d).fset Reg.cas_XFER_LEN 128), wit (fun d => ((a d).fset Reg.cas_XFER_LEN 128).fset Reg.cas_XFER_SRC_W0 4), wit (fun d => ((a d).fset Reg.cas_XFER_LEN 128).fset Reg.cas_XFER_DST_W0 64|>.fset Reg.cas_DEV_ID 7), wit (fun d => ((a d).fset Reg.cas_XFER_LEN 100)), wit (fun d => (a d).fbit Reg.cas_BUSY true),
  { wit (fun d => { a d with cas.xfer := some (4, 64, 8, 0) }.fbit Reg.cas_BUSY true) with hbm := [(5, 3), (64, 8)] }, wit (fun d => { a d with cas.xfer := some (4, 64, 3, 4) })]
--#eval pool.map fun s => (s.dev.tseq.merge.map fun m => s.dev.windowAt m.t)
def stateAt (n : Nat) : State := (pool).getD n State.reset
def nfAt (n : Nat) : State := mod (stateAt n) fun d => d.fset Reg.tbase_NOMINAL_FREQ 8000000

/-- States and operands that meet the hypotheses of CascadePortsAndTime. -/
theorem witness_CascadePortsAndTime :
  (∃ (s : State) (n : Fin 4) (c : FrameCheck),
    (s.dev.fore.off = false)) ∧
  (∃ (s : State) (n : Fin 4),
    (s.dev.fore.off = false) ∧
    (s.dev.fget Reg.cas_port_STATE n ≠ 2)) ∧
  (∃ (s : State) (n : Fin 4),
    (s.dev.fore.off = false) ∧
    (s.dev.fget Reg.cas_port_STATE n = 2)) ∧
  (∃ (s : State) (n : Fin 4) (present : Bool),
    (s.dev.fore.off = false) ∧
    (present = false)) ∧
  (∃ (s : State) (n : Fin 4) (present : Bool),
    (s.dev.fore.off = false) ∧
    (s.dev.fget Reg.cas_port_STATE n = 0)) ∧
  (∃ (s : State) (n : Fin 4) (present : Bool),
    (s.dev.fore.off = false) ∧
    (s.dev.fget Reg.cas_port_STATE n ≠ 0) ∧
    (s.dev.portUp n = true)) ∧
  (∃ (s : State) (n : Fin 4) (present : Bool),
    (s.dev.fore.off = false) ∧
    let src := s.dev.portUp n && s.dev.activeUplink == some n.val
    (s.dev.fget Reg.cas_port_STATE n ≠ 0) ∧
    (src = true)) ∧
  (∃ (s : State) (n : Fin 4) (present : Bool),
    (s.dev.fore.off = false) ∧
    let src := s.dev.portUp n && s.dev.activeUplink == some n.val
    (s.dev.fget Reg.cas_port_STATE n ≠ 0) ∧
    (src = false) ∧
    (s.dev.cas.held = [])) ∧
  (∃ (s : State) (n : Fin 4) (c : FrameCheck) (m : MgmtFrame),
    (s.dev.fore.off = false) ∧
    (s.dev.TakesFrame n 3 2 c) ∧
    (s.dev.cas.held = []) ∧
    (m.devId < 1024) ∧
    (m.devId = s.dev.fget Reg.cas_DEV_ID)) ∧
  (∃ (s : State) (n : Fin 4) (c : FrameCheck) (m : MgmtFrame),
    (s.dev.fore.off = false) ∧
    (s.dev.TakesFrame n 3 2 c) ∧
    (s.dev.cas.held = []) ∧
    (m.devId < 1024) ∧
    (m.devId ≠ s.dev.fget Reg.cas_DEV_ID) ∧
    (s.dev.flag Reg.cas_ROOT = false) ∧
    (s.dev.activeUplink = some n.val) ∧
    ∃ (k : _),
    (m.depth = some k)) ∧
  (∃ (s : State) (n : Fin 4) (cls seq : Nat),
    (s.dev.fore.off = false) ∧
    ((∀ h ∈ s.dev.cas.held, h.port = n.val → h.cls = cls → h.seq ≠ seq))) ∧
  (∃ (s : State) (n : Fin 4) (cls seq : Nat),
    (s.dev.fore.off = false) ∧
    ∃ (h : _),
    (s.dev.cas.held = [h]) ∧
    (h.port = n.val) ∧
    (h.cls = cls) ∧
    (h.seq = seq) ∧
    (seq < 2 ^ 32) ∧
    (s.dev.resendPort n = none)) ∧
  (∃ (s : State) (n : Fin 4) (cls seq : Nat),
    (s.dev.fore.off = false) ∧
    ∃ (h : _),
    (s.dev.cas.held = [h]) ∧
    (h.port = n.val) ∧
    (h.cls = cls) ∧
    (h.seq = seq) ∧
    (seq < 2 ^ 32) ∧
    (s.dev.resendPort n = some n.val)) ∧
  (∃ (s : State) (n : Fin 4) (cls seq : Nat),
    (s.dev.fore.off = false) ∧
    ∃ (h : _),
    (s.dev.cas.held = [h]) ∧
    (h.port = n.val) ∧
    (h.cls = cls) ∧
    (h.seq = seq) ∧
    (seq < 2 ^ 32) ∧
    ∃ (k : _),
    (s.dev.resendPort n = some k) ∧
    (k ≠ n.val)) ∧
  (∃ (s : State) (departs : List Nat),
    (s.dev.fore.off = false) ∧
    let yields := s.dev.cas.yields
    (yields = true)) ∧
  (∃ (s : State) (departs : List Nat),
    (s.dev.fore.off = false) ∧
    let yields := s.dev.cas.yields
    (yields = false) ∧
    ∃ (n : Nat),
    (n < 4) ∧
    (s.dev.fget Reg.cas_port_STATE n = 2 ∨ s.dev.fget Reg.cas_port_STATE n = 3)) ∧
  (∃ (s : State) (n : Fin 4) (c : FrameCheck) (y : SyncTimes),
    (s.dev.fore.off = false) ∧
    (s.dev.TakesFrame n 1 2 c) ∧
    let p := s.dev.casPort n
    (p.exchanges < 64)) ∧
  (∃ (s : State) (n : Fin 4) (c : FrameCheck) (y : SyncTimes),
    (s.dev.fore.off = false) ∧
    (s.dev.TakesFrame n 1 2 c) ∧
    let p := s.dev.casPort n
    (p.exchanges = 63)) ∧
  (∃ (s : State) (n : Fin 4) (c : FrameCheck) (y : SyncTimes),
    (s.dev.fore.off = false) ∧
    (s.dev.TakesFrame n 1 2 c) ∧
    let p := s.dev.casPort n
    let child := s.dev.fget Reg.cas_port_ROLE n = 1 ∨ s.dev.fget Reg.cas_port_ROLE n = 2
    (s.dev.flag Reg.cas_ROOT = false) ∧
    (child) ∧
    (s.dev.activeUplink = some n.val) ∧
    (99 ≤ p.frames) ∧
    (63 ≤ p.exchanges)) ∧
  (∃ (s : State) (n : Fin 4) (c : FrameCheck) (y : SyncTimes),
    (s.dev.fore.off = false) ∧
    (s.dev.TakesFrame n 1 2 c) ∧
    let child := s.dev.fget Reg.cas_port_ROLE n = 1 ∨ s.dev.fget Reg.cas_port_ROLE n = 2
    let fed := s.dev.flag Reg.cas_ROOT = false ∧ child ∧ s.dev.activeUplink = some n.val ∧ s.dev.fget Reg.tbase_REF_SEL = 3
    (fed)) ∧
  (∃ (s : State) (n : Fin 4) (c : FrameCheck) (y : SyncTimes),
    (s.dev.fore.off = false) ∧
    (s.dev.TakesFrame n 1 2 c) ∧
    let child := s.dev.fget Reg.cas_port_ROLE n = 1 ∨ s.dev.fget Reg.cas_port_ROLE n = 2
    let fed := s.dev.flag Reg.cas_ROOT = false ∧ child ∧ s.dev.activeUplink = some n.val ∧ s.dev.fget Reg.tbase_REF_SEL = 3
    let tracked := fed ∧ s.dev.flag Reg.tbase_REF_VALID = true ∧ s.dev.flag Reg.tbase_COASTING = false
    (tracked)) ∧
  (∃ (s : State) (n : Fin 4) (c : FrameCheck) (y : SyncTimes),
    (s.dev.fore.off = false) ∧
    (s.dev.TakesFrame n 1 2 c) ∧
    let child := s.dev.fget Reg.cas_port_ROLE n = 1 ∨ s.dev.fget Reg.cas_port_ROLE n = 2
    let fed := s.dev.flag Reg.cas_ROOT = false ∧ child ∧ s.dev.activeUplink = some n.val ∧ s.dev.fget Reg.tbase_REF_SEL = 3
    let tracked := fed ∧ s.dev.flag Reg.tbase_REF_VALID = true ∧ s.dev.flag Reg.tbase_COASTING = false
    (¬ tracked)) ∧
  (∃ (s : State) (n : Fin 4) (c : FrameCheck) (y : SyncTimes),
    (s.dev.fore.off = false) ∧
    (s.dev.TakesFrame n 1 2 c) ∧
    let child := s.dev.fget Reg.cas_port_ROLE n = 1 ∨ s.dev.fget Reg.cas_port_ROLE n = 2
    (s.dev.flag Reg.cas_ROOT = true ∨ ¬ child)) ∧
  (∃ (s : State),
    (s.dev.fore.off = false) ∧
    let off := s.dev.flag Reg.cas_ROOT = true ∨ s.dev.flag Reg.cas_ALT_ACTIVE = true
    (off)) ∧
  (∃ (s : State),
    (s.dev.fore.off = false) ∧
    let off := s.dev.flag Reg.cas_ROOT = true ∨ s.dev.flag Reg.cas_ALT_ACTIVE = true
    (¬ off) ∧
    (s.dev.fget Reg.tbase_REF_SEL = 3) ∧
    (s.dev.flag Reg.tbase_REF_VALID = true)) ∧
  (∃ (s : State),
    (s.dev.fore.off = false) ∧
    let off := s.dev.flag Reg.cas_ROOT = true ∨ s.dev.flag Reg.cas_ALT_ACTIVE = true
    let alt := (s.dev.uplink 2).filter s.dev.portUp
    (¬ off) ∧
    ∃ (n : _),
    (alt = some n)) ∧
  (∃ (s : State),
    (s.dev.fore.off = false) ∧
    let back := s.dev.flag Reg.cas_ALT_ACTIVE && ((s.dev.uplink 1).filter s.dev.portUp).isSome
    (back = false)) ∧
  (∃ (s : State),
    (s.dev.fore.off = false) ∧
    let back := s.dev.flag Reg.cas_ALT_ACTIVE && ((s.dev.uplink 1).filter s.dev.portUp).isSome
    (back = true) ∧
    ∃ (n : _),
    ((s.dev.uplink 1).filter s.dev.portUp = some n)) := by
  refine ⟨⟨(stateAt 0), 0, ({ seq := 5, crcOk := true }), ?_⟩,
    ⟨(stateAt 0), 0, ?_⟩,
    ⟨(stateAt 0), 2, ?_⟩,
    ⟨(stateAt 0), 0, (false), ?_⟩,
    ⟨(stateAt 1), 2, (false), ?_⟩,
    ⟨(stateAt 0), 0, (false), ?_⟩,
    ⟨(stateAt 0), 0, (false), ?_⟩,
    ⟨(stateAt 0), 1, (false), ?_⟩,
    ⟨(stateAt 0), 0, ({ seq := 5, crcOk := true }), ({ devId := 0, root := true, depth := some 20, rootId := 3, otherRoot := none, hopsMax := 3, horizon := 20000, below := [(9, 1)], hops := 1, alternates := true }), ?_⟩,
    ⟨(stateAt 0), 0, ({ seq := 5, crcOk := true }), ({ devId := 7, root := true, depth := some 0, rootId := 7, otherRoot := none, hopsMax := 3, horizon := 100, below := [(9, 1)], hops := 1, alternates := false }), ?_, ?_, ?_, ?_, ?_, ?_, ?_, 0, ?_⟩,
    ⟨(stateAt 0), 0, 0, 0, ?_⟩,
    ⟨(stateAt 1), 2, 3, 4, ?_, ({ port := 2, cls := 3, seq := 4, what := FrameContent.mgmt { devId := 7, root := true, depth := some 0, rootId := 7, otherRoot := none, hopsMax := 3, horizon := 100, below := [(9, 1)], hops := 1, alternates := false } }), ?_⟩,
    ⟨(stateAt 12), 1, 3, 4, ?_, ({ port := 1, cls := 3, seq := 4, what := FrameContent.mgmt { devId := 7, root := true, depth := some 0, rootId := 7, otherRoot := none, hopsMax := 3, horizon := 100, below := [(9, 1)], hops := 1, alternates := false } }), ?_⟩,
    ⟨(stateAt 13), 0, 2, 4, ?_, ({ port := 0, cls := 2, seq := 4, what := FrameContent.words 1 2 [3] }), ?_, ?_, ?_, ?_, ?_, 1, ?_⟩,
    ⟨(stateAt 16), ([]), ?_⟩,
    ⟨(stateAt 0), ([]), ?_, ?_, 0, ?_⟩,
    ⟨(stateAt 0), 1, ({ seq := 5, crcOk := true }), ({ t1 := 1000, t2 := 2100, t3 := 5000, t4 := 5900 }), ?_⟩,
    ⟨(stateAt 0), 1, ({ seq := 5, crcOk := true }), ({ t1 := 1000, t2 := 2100, t3 := 5000, t4 := 5900 }), ?_⟩,
    ⟨(stateAt 5), 0, ({ seq := 5, crcOk := true }), ({ t1 := 1000, t2 := 2100, t3 := 5000, t4 := 5900 }), ?_⟩,
    ⟨(stateAt 15), 0, ({ seq := 5, crcOk := true }), ({ t1 := 1000, t2 := 2100, t3 := 5000, t4 := 5900 }), ?_⟩,
    ⟨(stateAt 15), 0, ({ seq := 5, crcOk := true }), ({ t1 := 1000, t2 := 2100, t3 := 5000, t4 := 5900 }), ?_⟩,
    ⟨(stateAt 0), 0, ({ seq := 5, crcOk := true }), ({ t1 := 1000, t2 := 2100, t3 := 5000, t4 := 5900 }), ?_⟩,
    ⟨(stateAt 0), 2, ({ seq := 5, crcOk := true }), ({ t1 := 1000, t2 := 2100, t3 := 5000, t4 := 5900 }), ?_⟩,
    ⟨(stateAt 10), ?_⟩,
    ⟨(stateAt 15), ?_⟩,
    ⟨(stateAt 0), ?_, ?_, 1, ?_⟩,
    ⟨(stateAt 0), ?_⟩,
    ⟨(stateAt 19), ?_, ?_, 0, ?_⟩⟩ <;>
    first | (unfold Dev.TakesCmd; decide +kernel) | (unfold Dev.AssayIdle; decide +kernel) | (unfold Dev.TakesFrame; decide +kernel) | (unfold Dev.Outstanding; decide +kernel) | (unfold khzOut maxKhz; cases Config.partBE <;> decide +kernel) | decide +kernel

/-- States and operands that meet the hypotheses of CascadeTriggersAndData. -/
theorem witness_CascadeTriggersAndData :
  (∃ (s : State) (n : Fin 4) (c : FrameCheck) (m : TrigMessage),
    (s.dev.fore.off = false) ∧
    (s.dev.TakesFrame n 2 3 c) ∧
    let handled := s.dev.flag Reg.cas_TRIG_RX = true ∧ s.dev.armed = true ∧ s.dev.acq.stopAt = none
    (¬ handled) ∧
    (s.dev.acq.stopAt = none)) ∧
  (∃ (s : State) (n : Fin 4) (c : FrameCheck) (m : TrigMessage),
    (s.dev.fore.off = false) ∧
    (s.dev.TakesFrame n 2 3 c) ∧
    let stamp := rebuildTick (s.dev.nowStamp16 / 65536) m.tickLo.toNat * 65536 + m.frac.toNat
    let handled := s.dev.flag Reg.cas_TRIG_RX = true ∧ s.dev.armed = true ∧ s.dev.acq.stopAt = none
    let late := stamp + s.dev.fget Reg.cas_H_TICKS * 65536 < s.dev.nowStamp16
    (handled) ∧
    (m.typ = 0) ∧
    (late)) ∧
  (∃ (s : State) (n : Fin 4) (c : FrameCheck) (m : TrigMessage),
    (s.dev.fore.off = false) ∧
    (s.dev.TakesFrame n 2 3 c) ∧
    let stamp := rebuildTick (s.dev.nowStamp16 / 65536) m.tickLo.toNat * 65536 + m.frac.toNat
    let handled := s.dev.flag Reg.cas_TRIG_RX = true ∧ s.dev.armed = true ∧ s.dev.acq.stopAt = none
    let late := stamp + s.dev.fget Reg.cas_H_TICKS * 65536 < s.dev.nowStamp16
    (handled) ∧
    (m.typ = 0 ∨ m.typ = 1) ∧
    (¬ late) ∧
    (s.dev.cas.msgs = []) ∧
    (s.dev.tseq.provs = [])) ∧
  (∃ (s : State) (n : Fin 4) (c : FrameCheck) (m : TrigMessage),
    (s.dev.fore.off = false) ∧
    (s.dev.TakesFrame n 2 3 c) ∧
    let stamp := rebuildTick (s.dev.nowStamp16 / 65536) m.tickLo.toNat * 65536 + m.frac.toNat
    let handled := s.dev.flag Reg.cas_TRIG_RX = true ∧ s.dev.armed = true ∧ s.dev.acq.stopAt = none
    let late := stamp + s.dev.fget Reg.cas_H_TICKS * 65536 < s.dev.nowStamp16
    (handled) ∧
    (m.typ = 0) ∧
    (¬ late) ∧
    ∃ (x : _),
    (s.dev.cas.msgs = [x]) ∧
    (x.origin = m.origin.toNat) ∧
    (x.seqT = m.seqT.toNat) ∧
    (x.typ = 0) ∧
    (s.dev.nowStamp16 ≤ x.at16)) ∧
  (∃ (s : State),
    (s.dev.fore.off = false) ∧
    (s.dev.cas.forward = [])) ∧
  (∃ (s : State),
    (s.dev.fore.off = false) ∧
    ∃ (f rest : _),
    (s.dev.cas.forward = f :: rest) ∧
    (f.ports.Nodup) ∧
    ∃ (n : _),
    (n ∈ f.ports) ∧
    (s.dev.portUp n = true)) ∧
  (∃ (s : State) (m : Merge) (w : Nat × Nat),
    (s.dev.fore.off = false) ∧
    (s.dev.tseq.merge = [m]) ∧
    (s.dev.tseq.provs = []) ∧
    (s.dev.nowStamp16 < m.stamp + s.dev.fget Reg.cas_H_TICKS * 65536)) ∧
  (∃ (s : State) (m : Merge) (w : Nat × Nat),
    (s.dev.fore.off = false) ∧
    (s.dev.tseq.merge = [m]) ∧
    (s.dev.tseq.provs = []) ∧
    (m.stamp + s.dev.fget Reg.cas_H_TICKS * 65536 ≤ s.dev.nowStamp16) ∧
    (m.confirmed = some false)) ∧
  (∃ (s : State) (p : Prov),
    (s.dev.fore.off = false) ∧
    (s.dev.tseq.provs = [p]) ∧
    (p.kind = .remote) ∧
    (p.seg = none) ∧
    (s.dev.nowStamp16 < p.deadline)) ∧
  (∃ (s : State) (p : Prov),
    (s.dev.fore.off = false) ∧
    (s.dev.tseq.provs = [p]) ∧
    (p.kind = .remote) ∧
    (p.seg = none) ∧
    (p.deadline ≤ s.dev.nowStamp16)) ∧
  (∃ (s : State) (n : Fin 4) (c : FrameCheck) (f : DataFrame),
    (s.dev.fore.off = false) ∧
    (s.dev.TakesFrame n 4 3 c) ∧
    let me := s.dev.fget Reg.cas_DEV_ID
    (f.dst ≠ me) ∧
    ∃ (k : _),
    (s.dev.pathTo f.dst = some k)) ∧
  (∃ (s : State) (n : Fin 4) (c : FrameCheck) (f : DataFrame),
    (s.dev.fore.off = false) ∧
    (s.dev.TakesFrame n 4 3 c) ∧
    let me := s.dev.fget Reg.cas_DEV_ID
    (f.dst = me) ∧
    ∃ (k first ws : _),
    (f.part = .image k first ws) ∧
    (first = 0)) ∧
  (∃ (s : State) (n : Fin 4) (c : FrameCheck) (f : DataFrame),
    (s.dev.fore.off = false) ∧
    (s.dev.TakesFrame n 4 3 c) ∧
    let me := s.dev.fget Reg.cas_DEV_ID
    (f.dst = me) ∧
    ∃ (k first ws : _),
    (f.part = .image k first ws) ∧
    (0 < first) ∧
    ∃ (got : _),
    (KMap.find s.dev.cas.images (f.src * 16 + k % 16) = some got) ∧
    (got.length = first)) ∧
  (∃ (s : State) (n : Fin 4) (c : FrameCheck) (f : DataFrame),
    (s.dev.fore.off = false) ∧
    (s.dev.TakesFrame n 4 3 c) ∧
    let me := s.dev.fget Reg.cas_DEV_ID
    (f.dst = me) ∧
    ∃ (dst len ws : _),
    (f.part = .copy dst len 0 ws) ∧
    (s.dev.copyOk dst len = true) ∧
    (len ≤ 4 * ws.length)) ∧
  (∃ (s : State) (n : Fin 4) (c : FrameCheck) (f : DataFrame),
    (s.dev.fore.off = false) ∧
    (s.dev.TakesFrame n 4 3 c) ∧
    let me := s.dev.fget Reg.cas_DEV_ID
    (f.dst = me) ∧
    ∃ (dst len ws : _),
    (f.part = .copy dst len 0 ws) ∧
    (s.dev.copyOk dst len = true) ∧
    (4 * ws.length < len)) ∧
  (∃ (s : State) (n : Fin 4) (c : FrameCheck) (f : DataFrame),
    (s.dev.fore.off = false) ∧
    (s.dev.TakesFrame n 4 3 c) ∧
    let me := s.dev.fget Reg.cas_DEV_ID
    (f.dst = me) ∧
    ∃ (dst len ws : _),
    (f.part = .copy dst len 0 ws) ∧
    (s.dev.copyOk dst len = false) ∧
    ∃ (k : _),
    (s.dev.pathTo f.src = some k)) ∧
  (∃ (s : State) (k : Fin 16) (src : Nat) (ws : List Nat),
    (s.dev.fore.off = false) ∧
    (KMap.find s.dev.cas.images (src * 16 + k) = some ws) ∧
    (16 ≤ ws.length) ∧
    ((ws.getD 13 0) ≤ 4 * (ws.length - 16)) ∧
    ((s.dev.part k).sweep = none) ∧
    let h := ws.take 16
    let image := ws.drop 16
    (s.dev.xaccOk k h image = false)) ∧
  (∃ (s : State) (k : Fin 16) (src : Nat) (ws : List Nat),
    (s.dev.fore.off = false) ∧
    (KMap.find s.dev.cas.images (src * 16 + k) = some ws) ∧
    (16 ≤ ws.length) ∧
    ((ws.getD 13 0) ≤ 4 * (ws.length - 16)) ∧
    ((s.dev.part k).sweep = none) ∧
    let h := ws.take 16
    let image := ws.drop 16
    let sh := s.dev.shape k
    (s.dev.xaccOk k h image = true) ∧
    (sh.mode = 0) ∧
    (sh.points ≤ sh.capacity) ∧
    ((s.dev.part k).snap = none) ∧
    ∃ (w : Nat),
    (w < sh.words)) ∧
  (∃ (s : State) (who : Requester) (val : Word),
    (s.dev.fore.off = false) ∧
    (s.dev.flag Reg.hdr_FREEZE 69 = false) ∧
    (s.dev.flag Reg.cas_BUSY = true)) ∧
  (∃ (s : State) (who : Requester) (val : Word),
    (s.dev.fore.off = false) ∧
    (s.dev.flag Reg.hdr_FREEZE 69 = false) ∧
    let src := s.dev.fget64 Reg.cas_XFER_SRC_W0 Reg.cas_XFER_SRC_W1
    let dst := s.dev.fget64 Reg.cas_XFER_DST_W0 Reg.cas_XFER_DST_W1
    let len := s.dev.xferLen
    let off : Option Field := if src % 64 ≠ 0 then some Reg.cas_XFER_SRC_W0 else if dst % 64 ≠ 0 then some Reg.cas_XFER_DST_W0
      else if len % 64 ≠ 0 then some Reg.cas_XFER_LEN else none
    (s.dev.flag Reg.cas_BUSY = false) ∧
    ∃ (f : _),
    (off = some f)) ∧
  (∃ (s : State) (who : Requester) (val : Word),
    (s.dev.fore.off = false) ∧
    (s.dev.flag Reg.hdr_FREEZE 69 = false) ∧
    let src := s.dev.fget64 Reg.cas_XFER_SRC_W0 Reg.cas_XFER_SRC_W1
    let dst := s.dev.fget64 Reg.cas_XFER_DST_W0 Reg.cas_XFER_DST_W1
    let len := s.dev.xferLen
    let id := val.toNat % 1024
    let off : Option Field := if src % 64 ≠ 0 then some Reg.cas_XFER_SRC_W0 else if dst % 64 ≠ 0 then some Reg.cas_XFER_DST_W0
      else if len % 64 ≠ 0 then some Reg.cas_XFER_LEN else none
    (s.dev.flag Reg.cas_BUSY = false) ∧
    (off = none) ∧
    (id ≠ s.dev.fget Reg.cas_DEV_ID) ∧
    ∃ (k : _),
    (s.dev.pathTo id = some k)) ∧
  (∃ (s : State) (ok : Bool),
    (s.dev.fore.off = false) ∧
    (s.dev.cas.xfer = none)) ∧
  (∃ (s : State) (ok : Bool),
    (s.dev.fore.off = false) ∧
    ∃ (src dst len id : _),
    (s.dev.cas.xfer = some (src, dst, len, id)) ∧
    let here := id == s.dev.fget Reg.cas_DEV_ID
    let good := if here then s.dev.copyOk dst len else ok
    (here = false ∨ good = false)) ∧
  (∃ (s : State) (ok : Bool),
    (s.dev.fore.off = false) ∧
    ∃ (src dst len id : _),
    (s.dev.cas.xfer = some (src, dst, len, id)) ∧
    let here := id == s.dev.fget Reg.cas_DEV_ID
    let good := if here then s.dev.copyOk dst len else ok
    (here = true) ∧
    (good = true)) := by
  refine ⟨⟨(stateAt 0), 0, ({ seq := 5, crcOk := true }), ({ typ := 0#2, origin := 3#10, seqT := 5#12, frac := 7#16, tickLo := 2#24 }), ?_⟩,
    ⟨(stateAt 18), 0, ({ seq := 5, crcOk := true }), ({ typ := 0#2, origin := 3#10, seqT := 5#12, frac := 7#16, tickLo := 2#24 }), ?_⟩,
    ⟨(stateAt 18), 0, ({ seq := 5, crcOk := true }), ({ typ := 0#2, origin := 3#10, seqT := 5#12, frac := 7#16, tickLo := 0xffff00#24 }), ?_⟩,
    ⟨(stateAt 24), 0, ({ seq := 5, crcOk := true }), ({ typ := 0#2, origin := 3#10, seqT := 5#12, frac := 7#16, tickLo := 0xffff00#24 }), ?_, ?_, ?_, ?_, ?_, ({ origin := 3, seqT := 5, typ := 0, at16 := 1073741824 }), ?_⟩,
    ⟨(stateAt 0), ?_⟩,
    ⟨(stateAt 25), ?_, ({ ports := [1, 3], what := FrameContent.words 1 2 [3] }), ([]), ?_, ?_, 1, ?_⟩,
    ⟨(stateAt 27), ({ id := 4, stamp := 1099511627776, epoch := 3, origin := 4, seqT := 5, loc := false, t := 130, cause := 9, fb := false, prov := true, confirmed := none }), ((128, 135)), ?_⟩,
    ⟨(stateAt 28), ({ id := 4, stamp := 2, epoch := 3, origin := 4, seqT := 5, loc := false, t := 130, cause := 9, fb := false, prov := true, confirmed := some false }), ((128, 135)), ?_⟩,
    ⟨(stateAt 32), ({ id := 4, kind := ProvKind.remote, seg := none, deadline := 1099511627776, origin := 4, seqT := 5, stamp := 3 }), ?_⟩,
    ⟨(stateAt 31), ({ id := 4, kind := ProvKind.remote, seg := none, deadline := 2, origin := 4, seqT := 5, stamp := 3 }), ?_⟩,
    ⟨(stateAt 0), 0, ({ seq := 5, crcOk := true }), ({ src := 7, dst := 9, part := DataPart.copyDone true }), ?_, ?_, ?_, 3, ?_⟩,
    ⟨(stateAt 0), 0, ({ seq := 5, crcOk := true }), ({ src := 9, dst := 0, part := DataPart.image 2 0 [1, 2] }), ?_, ?_, ?_, 2, 0, ([1, 2]), ?_⟩,
    ⟨(stateAt 33), 0, ({ seq := 5, crcOk := true }), ({ src := 9, dst := 0, part := DataPart.image 2 2 [3] }), ?_, ?_, ?_, 2, 2, ([3]), ?_, ?_, ([8, 8]), ?_⟩,
    ⟨(stateAt 0), 0, ({ seq := 5, crcOk := true }), ({ src := 7, dst := 0, part := DataPart.copy 128 12 0 [1, 2, 3] }), ?_, ?_, ?_, 128, 12, ([1, 2, 3]), ?_⟩,
    ⟨(stateAt 0), 0, ({ seq := 5, crcOk := true }), ({ src := 7, dst := 0, part := DataPart.copy 128 64 0 [1, 2, 3] }), ?_, ?_, ?_, 128, 64, ([1, 2, 3]), ?_⟩,
    ⟨(stateAt 1), 0, ({ seq := 5, crcOk := true }), ({ src := 7, dst := 0, part := DataPart.copy 128 64 0 [1, 2, 3] }), ?_, ?_, ?_, 128, 64, ([1, 2, 3]), ?_, ?_, 0, ?_⟩,
    ⟨(stateAt 3), 3, 2, ([0, 0, 0, 0, 0, 0, 9, 4, 0, 0, 0, 0, 0, 16, 1928956398, 0, 1, 2, 3, 4]), ?_⟩,
    ⟨(stateAt 3), 4, 3, ([0, 0, 0, 0, 0, 0, 9, 4, 0, 0, 0, 0, 0, 16, 1928956398, 0, 1, 2, 3, 4]), ?_, ?_, ?_, ?_, ?_, ?_, ?_, ?_, ?_, 0, ?_⟩,
    ⟨(stateAt 2), (Requester.host), (0#32), ?_⟩,
    ⟨(stateAt 36), (Requester.host), (0#32), ?_, ?_, ?_, ({ base := 282736, stride := 0, count := 1, blk := 0, lsb := 0, width := 32, acc := Access.rw, reset := Reset.val 0, level := Level.b }), ?_⟩,
    ⟨(stateAt 0), (Requester.host), (9#32), ?_, ?_, ?_, ?_, ?_, 3, ?_⟩,
    ⟨(stateAt 0), (false), ?_⟩,
    ⟨(stateAt 41), (false), ?_, 4, 64, 3, 4, ?_⟩,
    ⟨(stateAt 2), true, ?_, 4, 64, 8, 0, ?_⟩⟩ <;>
    first | (unfold Dev.TakesCmd; decide +kernel) | (unfold Dev.AssayIdle; decide +kernel) | (unfold Dev.TakesFrame; decide +kernel) | (unfold Dev.Outstanding; decide +kernel) | (unfold khzOut maxKhz; cases Config.partBE <;> decide +kernel) | decide +kernel

end P18

namespace P19
def u (d : Dev) : Dev := upDev d
def en (c : Nat) (f : AuxConv → AuxConv) (d : Dev) : Dev := ((d.fbit Reg.aux_auxc_EN true c).fset Reg.aux_auxc_STATE 1 c).setAuxc c (f { busy := true })
def e0 (d : Dev) : Dev := (en 0 id (u d)).fset Reg.aux_auxc_REG_LEN_M1 2 0 |>.fset Reg.aux_auxc_INJ_LEN 2 0 |>.fbit Reg.aux_auxc_SRC_MAIN true 0
def res (a c : Nat) : AuxResult := ⟨a, c, [a, c, 5, 6]⟩
def strq (d : Dev) : Dev := (({ d with qm.ctx := [(3, { typ := 4, state := 1, cls := 0, base := 0x1000, log2 := 6, esize := 8, tail := 62, head := 60, seq := 9, cq := 0 })] }).fbit Reg.aux_QUEUE_EN true).fset Reg.aux_QUEUE 3
def pool : List State := [State.reset, wit u, wit (frozenAt 26), wit (frozenAt 27), wit e0,
  wit (fun d => { e0 d with aux.urgMain := 2 }), wit (fun d => { (e0 d).fbit Reg.aux_auxc_INJ_PENDING true 0 with aux.urgMain := 2 }),
  wit (fun d => { ((e0 d).setAuxc 0 { idle := true }).fset Reg.aux_auxc_REG_PERIOD 9 0 with aux.urgMain := 2 }),
  wit (fun d => { ((e0 d).setAuxc 0 { busy := true, inj := some (1, {}) }).fset Reg.aux_auxc_REG_PERIOD 9 0 with aux.urgMain := 2 }),
  wit (fun d => ((e0 d).tset 26 0 0 0 (3 + 128 * 2)).setAuxc 0 { busy := true, reg := { n := 2, sum := 700 } }),
  wit (fun d => ((e0 d).tset 26 0 0 0 (3 + 128 * 2)).setAuxc 0 { busy := true, reg := { n := 3, sum := 700, split := true } }),
  wit (fun d => (((e0 d).fset Reg.aux_auxc_STEP 2 0).fset Reg.aux_auxc_REG_PERIOD 9 0)),
  wit (fun d => (((e0 d).fset Reg.aux_auxc_STEP 2 0).fset Reg.aux_auxc_REG_PERIOD 9 0).setAuxc 0 { busy := true, due := true }),
  wit (fun d => (en 1 id (e0 d)).fbit Reg.aux_auxc_SYNC true 0 |>.fbit Reg.aux_auxc_SYNC true 1),
  wit (fun d => { u d with aux.waiting := [res 7 1, res 5 2, res 5 1, res 5 3], aux.next := 4097, aux.oldest := 1 }.fbit Reg.aux_HBM_EN true |>.fset Reg.aux_BUF_BASE 2),
  wit (fun d => { strq (u d) with aux.waiting := [res 7 1, res 5 2], aux.batch := [[1,2,3,4]], aux.batchFirst := 8, aux.next := 9 }),
  wit (fun d => { strq (u d) with aux.batch := [] }),
  wit (fun d => { strq (u d) with aux.batch := (List.range 20).map fun k => [k, 2, 3, 4], aux.batchFirst := 2^32 - 1 }),
  wit (fun d => { strq (u d) with aux.waiting := [res 7 1, res 5 2], aux.batch := List.replicate 4096 [1,2,3,4], aux.batchFirst := 8, aux.next := 4104 }),
  wit (fun d => (((u d).fbit Reg.auxf_flt_EN true 1).fset Reg.auxf_flt_CHANNEL 5 1)),
  wit (fun d => (((u d).fbit Reg.auxf_flt_EN true 1).fset Reg.auxf_flt_CHANNEL 5 1).setAuxc 1 { count := 63, integ := [100000, 5000000, 90000000], lastAt := 4 }),
  wit (fun d => (((u d).fbit Reg.auxf_flt_EN true 1).fbit Reg.auxf_flt_ORDER true 1).setAuxc 1 { count := 255, integ := [100000, 5000000, 90000000, 777777777], comb := [5,6,7,8], lastAt := 4 }),
  wit (fun d => (((u d).fbit Reg.auxf_flt_EN true 1).fbit Reg.auxf_flt_ORDER true 1).setAuxc 1 { count := 127, integ := [100000, 5000000, 90000000, 777777777], comb := [5,6,7,8], lastAt := 4 })]
def stateAt (n : Nat) : State := (pool).getD n State.reset
def nfAt (n : Nat) : State := mod (stateAt n) fun d => d.fset Reg.tbase_NOMINAL_FREQ 8000000

/-- States and operands that meet the hypotheses of AuxConverters. -/
theorem witness_AuxConverters :
  (∃ (s : State) (who : Requester) (c : Fin 4),
    (s.dev.fore.off = false) ∧
    (s.dev.flag Reg.hdr_FREEZE 26 = false) ∧
    ∃ (val : Word),
    let v := val.toNat
    (s.dev.auxOn c = false) ∧
    (8 < bitField v 8 4)) ∧
  (∃ (s : State) (who : Requester) (c : Fin 4),
    (s.dev.fore.off = false) ∧
    (s.dev.flag Reg.hdr_FREEZE 26 = false) ∧
    ∃ (val : Word),
    let v := val.toNat
    let old := s.dev.regWord (0x1A100 + 0x20 * c)
    (s.dev.auxOn c = true) ∧
    (v % 2 ^ 18 ≠ old) ∧
    (v % 2 ^ 18 + 1 ≠ old)) ∧
  (∃ (s : State) (who : Requester) (c : Fin 4),
    (s.dev.fore.off = false) ∧
    (s.dev.flag Reg.hdr_FREEZE 26 = false) ∧
    ∃ (val : Word),
    let v := val.toNat
    let old := s.dev.regWord (0x1A100 + 0x20 * c)
    (s.dev.auxOn c = true) ∧
    (v % 2 ^ 18 + 1 = old)) ∧
  (∃ (s : State) (who : Requester) (c : Fin 4),
    (s.dev.fore.off = false) ∧
    (s.dev.flag Reg.hdr_FREEZE 26 = false) ∧
    ∃ (val : Word),
    let v := val.toNat
    (s.dev.auxOn c = false) ∧
    (v % 4 = 1) ∧
    (bitField v 8 4 ≤ 8)) ∧
  (∃ (s : State) (c : Fin 4),
    (s.dev.fore.off = false) ∧
    ((s.dev.auxc c).busy = true) ∧
    ((s.dev.auxc c).inj = none) ∧
    ((s.dev.auxc c).idle = false) ∧
    ((s.dev.auxc c).finished = false) ∧
    (s.dev.flag Reg.aux_auxc_SYNC c = false) ∧
    (s.dev.flag Reg.aux_auxc_INJ_PENDING c = false) ∧
    let x := s.dev.auxc c
    let step := s.dev.fget Reg.aux_auxc_STEP c
    let w := s.dev.auxReg c step
    (bitAt (s.dev.tactive 26 4 (entryChannel w)) 31 = false) ∧
    ∃ (code : Nat),
    (code < 4096) ∧
    (x.reg.n + 1 < entryConvs w)) ∧
  (∃ (s : State) (c : Fin 4),
    (s.dev.fore.off = false) ∧
    ((s.dev.auxc c).busy = true) ∧
    ((s.dev.auxc c).inj = none) ∧
    ((s.dev.auxc c).idle = false) ∧
    ((s.dev.auxc c).finished = false) ∧
    (s.dev.flag Reg.aux_auxc_SYNC c = false) ∧
    (s.dev.flag Reg.aux_auxc_INJ_PENDING c = false) ∧
    let x := s.dev.auxc c
    let step := s.dev.fget Reg.aux_auxc_STEP c
    let w := s.dev.auxReg c step
    (bitAt (s.dev.tactive 26 4 (entryChannel w)) 31 = false) ∧
    ∃ (code : Nat),
    (code < 4096) ∧
    (entryConvs w ≤ x.reg.n + 1) ∧
    (step < s.dev.fget Reg.aux_auxc_REG_LEN_M1 c ∨ s.dev.fget Reg.aux_auxc_REG_PERIOD c = 0 ∨ x.due = true)) ∧
  (∃ (s : State) (c : Fin 4),
    (s.dev.fore.off = false) ∧
    ((s.dev.auxc c).busy = true) ∧
    ((s.dev.auxc c).inj = none) ∧
    ((s.dev.auxc c).idle = false) ∧
    ((s.dev.auxc c).finished = false) ∧
    (s.dev.flag Reg.aux_auxc_SYNC c = false) ∧
    (s.dev.flag Reg.aux_auxc_INJ_PENDING c = false) ∧
    let x := s.dev.auxc c
    let step := s.dev.fget Reg.aux_auxc_STEP c
    let w := s.dev.auxReg c step
    (bitAt (s.dev.tactive 26 4 (entryChannel w)) 31 = false) ∧
    ∃ (code : Nat),
    (code < 4096) ∧
    (entryConvs w ≤ x.reg.n + 1) ∧
    (s.dev.fget Reg.aux_auxc_REG_LEN_M1 c ≤ step) ∧
    (s.dev.fget Reg.aux_auxc_REG_PERIOD c ≠ 0) ∧
    (x.due = false)) ∧
  (∃ (s : State) (c : Fin 4),
    (s.dev.fore.off = false) ∧
    let runs := s.dev.auxOn c = true ∧ s.dev.fltOn c = false ∧ s.dev.fget Reg.aux_auxc_REG_PERIOD c ≠ 0
    (¬ runs)) ∧
  (∃ (s : State) (c : Fin 4),
    (s.dev.fore.off = false) ∧
    let x := s.dev.auxc c
    let runs := s.dev.auxOn c = true ∧ s.dev.fltOn c = false ∧ s.dev.fget Reg.aux_auxc_REG_PERIOD c ≠ 0
    (runs) ∧
    (x.idle = true) ∧
    (x.busy = false) ∧
    (s.dev.flag Reg.aux_auxc_SYNC c = false)) ∧
  (∃ (s : State) (c : Fin 4),
    (s.dev.fore.off = false) ∧
    let x := s.dev.auxc c
    let runs := s.dev.auxOn c = true ∧ s.dev.fltOn c = false ∧ s.dev.fget Reg.aux_auxc_REG_PERIOD c ≠ 0
    (runs) ∧
    (x.idle = false ∨ x.busy = true)) ∧
  (∃ (s : State),
    (s.dev.fore.off = false) ∧
    (0 < s.dev.aux.urgMain) ∧
    ∃ (c : Fin 4),
    (s.dev.auxOn c = true) ∧
    (s.dev.fltOn c = false) ∧
    (s.dev.flag Reg.aux_auxc_SRC_MAIN c = true) ∧
    (s.dev.flag Reg.aux_auxc_SYNC c = false) ∧
    (s.dev.fget Reg.aux_auxc_INJ_LEN c ≠ 0) ∧
    let taken := s.dev.flag Reg.aux_auxc_INJ_PENDING c = true ∨ (s.dev.auxc c).inj ≠ none
    (taken)) ∧
  (∃ (s : State),
    (s.dev.fore.off = false) ∧
    (0 < s.dev.aux.urgMain) ∧
    ∃ (c : Fin 4),
    (s.dev.auxOn c = true) ∧
    (s.dev.fltOn c = false) ∧
    (s.dev.flag Reg.aux_auxc_SRC_MAIN c = true) ∧
    (s.dev.flag Reg.aux_auxc_SYNC c = false) ∧
    (s.dev.fget Reg.aux_auxc_INJ_LEN c ≠ 0) ∧
    let taken := s.dev.flag Reg.aux_auxc_INJ_PENDING c = true ∨ (s.dev.auxc c).inj ≠ none
    (¬ taken) ∧
    ((s.dev.auxc c).busy = true)) ∧
  (∃ (s : State),
    (s.dev.fore.off = false) ∧
    (0 < s.dev.aux.urgMain) ∧
    ∃ (c : Fin 4),
    (s.dev.auxOn c = true) ∧
    (s.dev.fltOn c = false) ∧
    (s.dev.flag Reg.aux_auxc_SRC_MAIN c = true) ∧
    (s.dev.flag Reg.aux_auxc_SYNC c = false) ∧
    (s.dev.fget Reg.aux_auxc_INJ_LEN c ≠ 0) ∧
    let taken := s.dev.flag Reg.aux_auxc_INJ_PENDING c = true ∨ (s.dev.auxc c).inj ≠ none
    (¬ taken) ∧
    ((s.dev.auxc c).busy = false)) ∧
  (∃ (s : State) (c : Fin 4),
    (s.dev.fore.off = false) ∧
    let x := s.dev.auxc c
    (x.busy = false)) ∧
  (∃ (s : State) (c : Fin 4),
    (s.dev.fore.off = false) ∧
    let x := s.dev.auxc c
    (x.busy = true) ∧
    (x.inj = none) ∧
    (x.idle = false) ∧
    (s.dev.flag Reg.aux_auxc_SYNC c = false) ∧
    (s.dev.flag Reg.aux_auxc_INJ_PENDING c = false)) ∧
  (∃ (s : State),
    (s.dev.fore.off = false) ∧
    (s.dev.aux.waiting = [])) ∧
  (∃ (s : State),
    (s.dev.fore.off = false) ∧
    ∃ (r : _),
    (earliestResult s.dev.aux.waiting = some r) ∧
    ∃ (x : _),
    (x ∈ s.dev.aux.waiting)) ∧
  (∃ (s : State),
    (s.dev.fore.off = false) ∧
    let room := s.dev.flag Reg.aux_QUEUE_EN = false ∨ s.dev.aux.batch.length + 1 < min 4096 (max 1 (s.dev.fget Reg.aux_BATCH))
    ∃ (r : _),
    (earliestResult s.dev.aux.waiting = some r) ∧
    (room)) ∧
  (∃ (s : State),
    (s.dev.fore.off = false) ∧
    let hbm := s.dev.flag Reg.aux_HBM_EN
    let room := s.dev.flag Reg.aux_QUEUE_EN = false ∨ s.dev.aux.batch.length + 1 < min 4096 (max 1 (s.dev.fget Reg.aux_BATCH))
    ∃ (r : _),
    (earliestResult s.dev.aux.waiting = some r) ∧
    (hbm = true) ∧
    (room)) ∧
  (∃ (s : State),
    (s.dev.fore.off = false) ∧
    let hbm := s.dev.flag Reg.aux_HBM_EN
    let room := s.dev.flag Reg.aux_QUEUE_EN = false ∨ s.dev.aux.batch.length + 1 < min 4096 (max 1 (s.dev.fget Reg.aux_BATCH))
    ∃ (r : _),
    (earliestResult s.dev.aux.waiting = some r) ∧
    (hbm = false) ∧
    (room)) ∧
  (∃ (s : State),
    (s.dev.fore.off = false) ∧
    let hbm := s.dev.flag Reg.aux_HBM_EN
    ∃ (r : _),
    (earliestResult s.dev.aux.waiting = some r) ∧
    (s.dev.flag Reg.aux_QUEUE_EN = true) ∧
    (4096 ≤ s.dev.aux.batch.length) ∧
    (hbm = false)) ∧
  (∃ (s : State),
    (s.dev.fore.off = false) ∧
    let n := s.dev.fget Reg.aux_QUEUE
    let rs := s.dev.aux.batch.take (max 1 (s.dev.fget Reg.aux_BATCH))
    let idle := s.dev.flag Reg.aux_QUEUE_EN = false ∨ rs = [] ∨ s.dev.recordFits n (16 * rs.length) = false
    (idle)) ∧
  (∃ (s : State),
    (s.dev.fore.off = false) ∧
    let n := s.dev.fget Reg.aux_QUEUE
    let c := s.dev.qctx n
    let rs := s.dev.aux.batch.take (max 1 (s.dev.fget Reg.aux_BATCH))
    let p := rs.flatten
    let idle := s.dev.flag Reg.aux_QUEUE_EN = false ∨ rs = [] ∨ s.dev.recordFits n (16 * rs.length) = false
    (¬ idle) ∧
    (c.lost = 0) ∧
    (s.dev.holding = false) ∧
    (p.length = 4 * rs.length)) ∧
  (∃ (s : State) (who : Requester) (c : Fin 4),
    (s.dev.fore.off = false) ∧
    (s.dev.flag Reg.hdr_FREEZE 27 = false) ∧
    ∃ (val : Word),
    let v := val.toNat
    (s.dev.fltOn c = false) ∧
    (bitField v 2 2 = 3)) ∧
  (∃ (s : State) (who : Requester) (c : Fin 4),
    (s.dev.fore.off = false) ∧
    (s.dev.flag Reg.hdr_FREEZE 27 = false) ∧
    ∃ (val : Word),
    let v := val.toNat
    let old := s.dev.regWord (0x1B100 + 0x10 * c)
    (s.dev.fltOn c = true) ∧
    (v % 2 ^ 11 ≠ old) ∧
    (v % 2 ^ 11 + 1 ≠ old)) ∧
  (∃ (s : State) (who : Requester) (c : Fin 4),
    (s.dev.fore.off = false) ∧
    (s.dev.flag Reg.hdr_FREEZE 27 = false) ∧
    ∃ (val : Word),
    let v := val.toNat
    let old := s.dev.regWord (0x1B100 + 0x10 * c)
    (s.dev.fltOn c = true) ∧
    (s.dev.auxOn c = false) ∧
    (v % 2 ^ 11 + 1 = old)) ∧
  (∃ (s : State) (who : Requester) (c : Fin 4),
    (s.dev.fore.off = false) ∧
    (s.dev.flag Reg.hdr_FREEZE 27 = false) ∧
    ∃ (val : Word),
    let v := val.toNat
    (s.dev.fltOn c = false) ∧
    (v % 2 = 1) ∧
    (bitField v 2 2 ≠ 3) ∧
    (s.dev.fget Reg.aux_auxc_INJ_LEN c = 0)) ∧
  (∃ (s : State) (c : Fin 4),
    (s.dev.fore.off = false) ∧
    (s.dev.flag Reg.aux_auxc_INJ_PENDING c = false) ∧
    ∃ (code : Nat),
    (code < 4096) ∧
    (s.dev.fltOn c = false)) ∧
  (∃ (s : State) (c : Fin 4),
    (s.dev.fore.off = false) ∧
    (s.dev.flag Reg.aux_auxc_INJ_PENDING c = false) ∧
    ∃ (code : Nat),
    (code < 4096) ∧
    let x := s.dev.auxc c
    let ch := s.dev.fget Reg.auxf_flt_CHANNEL c
    (s.dev.fltOn c = true) ∧
    (bitAt (s.dev.tactive 26 4 ch) 31 = false) ∧
    ((x.count + 1) % 64 ≠ 0)) ∧
  (∃ (s : State) (c : Fin 4),
    (s.dev.fore.off = false) ∧
    (s.dev.flag Reg.aux_auxc_INJ_PENDING c = false) ∧
    ∃ (code : Nat),
    (code < 4096) ∧
    let k := s.dev.filterOrder c
    let x := s.dev.auxc c
    let ch := s.dev.fget Reg.auxf_flt_CHANNEL c
    let out := (x.count + 1) / 64
    (s.dev.fltOn c = true) ∧
    (bitAt (s.dev.tactive 26 4 ch) 31 = false) ∧
    ((x.count + 1) % 64 = 0) ∧
    (out ≠ k)) ∧
  (∃ (s : State) (c : Fin 4),
    (s.dev.fore.off = false) ∧
    (s.dev.flag Reg.aux_auxc_INJ_PENDING c = false) ∧
    ∃ (code : Nat),
    (code < 4096) ∧
    let k := s.dev.filterOrder c
    let x := s.dev.auxc c
    let ch := s.dev.fget Reg.auxf_flt_CHANNEL c
    let out := (x.count + 1) / 64
    (s.dev.fltOn c = true) ∧
    (bitAt (s.dev.tactive 26 4 ch) 31 = false) ∧
    ((x.count + 1) % 64 = 0) ∧
    (out = k)) := by
  refine ⟨⟨(stateAt 0), (Requester.host), 0, ?_, ?_, (0x901#32), ?_⟩,
    ⟨(stateAt 4), (Requester.host), 0, ?_, ?_, (0#32), ?_⟩,
    ⟨(stateAt 13), (Requester.host), 1, ?_, ?_, (2#32), ?_⟩,
    ⟨(stateAt 0), (Requester.host), 0, ?_, ?_, (1#32), ?_⟩,
    ⟨(stateAt 9), 0, ?_, ?_, ?_, ?_, ?_, ?_, ?_, ?_, 0, ?_⟩,
    ⟨(stateAt 4), 0, ?_, ?_, ?_, ?_, ?_, ?_, ?_, ?_, 0, ?_⟩,
    ⟨(stateAt 11), 0, ?_, ?_, ?_, ?_, ?_, ?_, ?_, ?_, 0, ?_⟩,
    ⟨(stateAt 0), 0, ?_⟩,
    ⟨(stateAt 7), 0, ?_⟩,
    ⟨(stateAt 8), 0, ?_⟩,
    ⟨(stateAt 6), ?_, ?_, 0, ?_⟩,
    ⟨(stateAt 5), ?_, ?_, 0, ?_⟩,
    ⟨(stateAt 7), ?_, ?_, 0, ?_⟩,
    ⟨(stateAt 0), 0, ?_⟩,
    ⟨(stateAt 4), 0, ?_⟩,
    ⟨(stateAt 0), ?_⟩,
    ⟨(stateAt 14), ?_, ({ at16 := 5, conv := 1, words := [5, 1, 5, 6] }), ?_, ({ at16 := 7, conv := 1, words := [7, 1, 5, 6] }), ?_⟩,
    ⟨(stateAt 14), ?_, ({ at16 := 5, conv := 1, words := [5, 1, 5, 6] }), ?_⟩,
    ⟨(stateAt 14), ?_, ({ at16 := 5, conv := 1, words := [5, 1, 5, 6] }), ?_⟩,
    ⟨(stateAt 15), ?_, ({ at16 := 5, conv := 2, words := [5, 2, 5, 6] }), ?_⟩,
    ⟨(stateAt 18), ?_, ({ at16 := 5, conv := 2, words := [5, 2, 5, 6] }), ?_⟩,
    ⟨(stateAt 0), ?_⟩,
    ⟨(stateAt 15), ?_⟩,
    ⟨(stateAt 0), (Requester.host), 0, ?_, ?_, (0xc#32), ?_⟩,
    ⟨(stateAt 19), (Requester.host), 1, ?_, ?_, (0#32), ?_⟩,
    ⟨(stateAt 19), (Requester.host), 1, ?_, ?_, (0x50#32), ?_⟩,
    ⟨(stateAt 0), (Requester.host), 0, ?_, ?_, (1#32), ?_⟩,
    ⟨(stateAt 0), 0, ?_, ?_, 0, ?_⟩,
    ⟨(stateAt 19), 1, ?_, ?_, 0, ?_⟩,
    ⟨(stateAt 20), 1, ?_, ?_, 0, ?_⟩,
    ⟨(stateAt 21), 1, ?_, ?_, 0, ?_⟩⟩ <;>
    first | (unfold Dev.TakesCmd; decide +kernel) | (unfold Dev.AssayIdle; decide +kernel) | (unfold Dev.TakesFrame; decide +kernel) | (unfold Dev.Outstanding; decide +kernel) | (unfold khzOut maxKhz; cases Config.partBE <;> decide +kernel) | decide +kernel

end P19

namespace P20

def u (d : Dev) : Dev := upDev d
def arm (d : Dev) : Dev := (u d).fbit Reg.inj_ARMED true
def tk (d : Dev) : Dev := { u d with clk.dlls := [(2, {phase := .searching})] }
def pool : List State := [wit tk, wit (fun d => { (tk d).fset Reg.grp_PRIV 5 4 with tally.filter := [(1, {priv := 2}), (0, {}), (3, {priv := 4})], tally.epoch := [(3, 255)], tally.count := [(0, 2^48-1000), (192, 5), (64,3)], tally.thresh := [(0, 20), (64, 4), (192, 1000)] }),State.reset, wit u, wit (frozenAt 7), wit arm, wit (fun d => (arm d).fset Reg.inj_PAGE 9 |>.fset Reg.inj_ELEMENT 1), wit (fun d => (arm d).fset Reg.inj_PAGE 10), wit (fun d => sndDev (arm d)), wit (fun d => (arm d).raise 9 2),
  wit (fun d => ((arm d).degrade 12 0 true).degrade 14 0 true |>.fset Reg.loom_SPARES_LEFT 1 0),
  wit (fun d => ((((arm d).degrade 12 0 true).degrade 14 0 true).fset Reg.loom_SPARES_LEFT 1 0).fset Reg.inj_PAGE 12 |>.fset Reg.inj_ELEMENT 77),
  wit (fun d => (u d).fbit Reg.life_INJECT_PERMIT true), wit (fun d => (arm d).raise 3 Ev.pwr_THERM_WARN), wit (fun d => { (arm d).raise 3 Ev.pwr_THERM_WARN with fore.pwrOk := true, fore.badSupplies := 0}), wit (fun d => { d with fore.pwrOk := true, fore.badSupplies := 0, fore.contained := [(3,1)] }),
  wit (fun d => { u d with tally.resetDue := true }), wit (fun d => { ((d.fset Reg.grp_PRIV 5 3).fset Reg.grp_ADDR_LO_W1 7 4).tset 70 0 0 7 0x12345678 with tally.resetDue := true, tally.filter := [(3, {priv := 4})] }),
  wit (fun d => { (d.fset Reg.grp_PRIV 5 3).fset Reg.grp_ADDR_LO_W1 7 4 with tally.filter := [(1, {priv := 2}), (0, {})], tally.epoch := [(3, 255)], tally.count := [(65, 2^48 - 2^47), (105, 99)], tally.thresh := [(65, 2^48-3), (105, 101)] }),
  wit (fun d => { (u ((d.fset Reg.grp_PRIV 5 3).fset Reg.grp_ADDR_LO_W1 7 4)) with tally.filter := [(1, {priv := 2}), (0, {})], tally.epoch := [(3, 255)], tally.count := [(65, 2^48 - 2^47), (128, 2^48 - 5), (105, 99)], tally.thresh := [(65, 2^48-3), (105, 101), (128, 3)] }),
  wit (fun d => { d with tally.filter := [(1, {priv := 7})], tally.count := [(65, 2^48 - 4), (0, 5), (105, 99)], tally.thresh := [(65, 2^48-3), (105, 101)] })]
def stateAt (n : Nat) : State := (pool).getD n State.reset
def nfAt (n : Nat) : State := mod (stateAt n) fun d => d.fset Reg.tbase_NOMINAL_FREQ 8000000

/-- States and operands that meet the hypotheses of Injection. -/
theorem witness_Injection :
  (∃ (s : State) (who : Requester) (p : Fin 128) (e : Fin 32),
    (s.dev.fore.off = false) ∧
    (hasHeader p = true) ∧
    (s.dev.flag Reg.hdr_FREEZE p = false) ∧
    (s.dev.flag Reg.inj_ARMED = false ∨ bitAt (injMapWord p) e = false)) ∧
  (∃ (s : State) (who : Requester) (p : Fin 128),
    (s.dev.fore.off = false) ∧
    (12 ≤ p.val) ∧
    (p.val < 16) ∧
    (s.dev.flag Reg.hdr_FREEZE p = false) ∧
    (s.dev.flag Reg.inj_ARMED = true) ∧
    (s.dev.isDegraded p = true) ∧
    (s.dev.fget Reg.loom_SPARES_LEFT (p - 12) ≤ 1) ∧
    (s.dev.flag Reg.inj_FORCE = false) ∧
    (s.injElement p 0 0 = none)) ∧
  (∃ (s : State) (who : Requester) (p : Fin 128),
    (s.dev.fore.off = false) ∧
    (12 ≤ p.val) ∧
    (p.val < 16) ∧
    (s.dev.flag Reg.hdr_FREEZE p = false) ∧
    (s.dev.flag Reg.inj_ARMED = true) ∧
    (s.dev.isDegraded p = true) ∧
    (s.dev.fget Reg.loom_SPARES_LEFT (p - 12) ≤ 1) ∧
    (s.dev.flag Reg.inj_FORCE = false) ∧
    (s.injElement p 0 0 ≠ none)) ∧
  (∃ (s : State) (who : Requester) (p : Fin 128),
    (s.dev.fore.off = false) ∧
    (8 ≤ p.val) ∧
    (p.val < 12) ∧
    (s.dev.flag Reg.hdr_FREEZE p = false) ∧
    (s.dev.flag Reg.inj_ARMED = true) ∧
    (s.dev.fore.injecting = false) ∧
    let elsewhere := s.dev.fget Reg.inj_PAGE = p ∧ s.dev.fget Reg.inj_ELEMENT ≠ 0
    (elsewhere)) ∧
  (∃ (s : State) (who : Requester) (p : Fin 128),
    (s.dev.fore.off = false) ∧
    (8 ≤ p.val) ∧
    (p.val < 12) ∧
    (s.dev.flag Reg.hdr_FREEZE p = false) ∧
    (s.dev.flag Reg.inj_ARMED = true) ∧
    (s.dev.fore.injecting = false) ∧
    let elsewhere := s.dev.fget Reg.inj_PAGE = p ∧ s.dev.fget Reg.inj_ELEMENT ≠ 0
    (¬ elsewhere) ∧
    (s.dev.fget Reg.hdr_EVENT p = 0)) ∧
  (∃ (s : State) (who : Requester),
    (s.dev.fore.off = false) ∧
    (s.dev.flag Reg.hdr_FREEZE 7 = false) ∧
    (s.dev.flag Reg.life_INJECT_PERMIT = true)) ∧
  (∃ (s : State) (who : Requester),
    (s.dev.fore.off = false) ∧
    (s.dev.flag Reg.hdr_FREEZE 7 = false) ∧
    (s.dev.flag Reg.life_INJECT_PERMIT = false)) ∧
  (∃ (s : State) (who : Requester),
    (s.dev.fore.off = false) ∧
    (s.dev.flag Reg.hdr_FREEZE 7 = false) ∧
    (s.dev.flag Reg.inj_ARMED = false)) ∧
  (∃ (s : State) (who : Requester),
    (s.dev.fore.off = false) ∧
    (s.dev.flag Reg.hdr_FREEZE 7 = false) ∧
    (s.dev.flag Reg.inj_ARMED = true)) ∧
  (∃ (s : State),
    (s.dev.fore.off = false) ∧
    (s.dev.flag Reg.inj_ARMED = false)) ∧
  (∃ (s : State),
    (s.dev.fore.off = false) ∧
    (s.dev.flag Reg.inj_ARMED = true)) := by
  refine ⟨⟨(stateAt 0), (Requester.host), 0, 0, ?_⟩,
    ⟨(stateAt 11), (Requester.host), 12, ?_⟩,
    ⟨(stateAt 10), (Requester.host), 12, ?_⟩,
    ⟨(stateAt 6), (Requester.host), 9, ?_⟩,
    ⟨(stateAt 5), (Requester.host), 8, ?_⟩,
    ⟨(stateAt 12), (Requester.host), ?_⟩,
    ⟨(stateAt 0), (Requester.host), ?_⟩,
    ⟨(stateAt 0), (Requester.host), ?_⟩,
    ⟨(stateAt 5), (Requester.host), ?_⟩,
    ⟨(stateAt 0), ?_⟩,
    ⟨(stateAt 5), ?_⟩⟩ <;>
    first | (unfold Dev.TakesCmd; decide +kernel) | (unfold Dev.AssayIdle; decide +kernel) | (unfold Dev.TakesFrame; decide +kernel) | (unfold Dev.Outstanding; decide +kernel) | (unfold khzOut maxKhz; cases Config.partBE <;> decide +kernel) | decide +kernel

/-- States and operands that meet the hypotheses of SmbusTarget. -/
theorem witness_SmbusTarget :
  (∃ (s : State) (off : Nat) (val : Word),
    (s.dev.fore.off = false) ∧
    let reaches := off % 4 = 0 ∧ (off / 4096 ≤ 70 ∨ (72 ≤ off / 4096 ∧ off / 4096 < 78))
    (reaches)) ∧
  (∃ (s : State) (off : Nat) (val : Word),
    (s.dev.fore.off = false) ∧
    let reaches := off % 4 = 0 ∧ (off / 4096 ≤ 70 ∨ (72 ≤ off / 4096 ∧ off / 4096 < 78))
    (¬ reaches)) ∧
  (∃ (s : State) (off : Nat),
    (s.dev.fore.off = false) ∧
    (off % 4 ≠ 0 ∨ off / 4096 = 71 ∨ 78 ≤ off / 4096)) ∧
  (∃ (s : State) (p : Nat),
    (s.dev.fore.off = false) ∧
    (p ≤ 70)) ∧
  (∃ (s : State),
    (s.dev.fore.off = false) ∧
    (s.dev.alertLow = false)) ∧
  (∃ (s : State),
    (s.dev.fore.off = false) ∧
    (s.dev.alertLow = true)) := by
  refine ⟨⟨(stateAt 0), 0, (0#32), ?_⟩,
    ⟨(stateAt 0), 3, (0#32), ?_⟩,
    ⟨(stateAt 0), 3, ?_⟩,
    ⟨(stateAt 0), 0, ?_⟩,
    ⟨(stateAt 0), ?_⟩,
    ⟨(stateAt 13), ?_⟩⟩ <;>
    first | (unfold Dev.TakesCmd; decide +kernel) | (unfold Dev.AssayIdle; decide +kernel) | (unfold Dev.TakesFrame; decide +kernel) | (unfold Dev.Outstanding; decide +kernel) | (unfold khzOut maxKhz; cases Config.partBE <;> decide +kernel) | decide +kernel

/-- States and operands that meet the hypotheses of CounterGroups. -/
theorem witness_CounterGroups :
  (∃ (s : State),
    (s.dev.fore.off = false) ∧
    (s.dev.tally.resetDue = false) ∧
    (s.dev.fore.injecting = false) ∧
    ∃ (g : Nat),
    (g < 24)) ∧
  (∃ (s : State),
    (s.dev.fore.off = false) ∧
    (s.dev.tally.resetDue = false) ∧
    (s.dev.fore.injecting = false) ∧
    ∃ (c : Nat),
    (c < 1536) ∧
    (c % 64 ≠ 0 ∨ s.dev.sliceClock = false)) ∧
  (∃ (s : State),
    (s.dev.fore.off = false) ∧
    (s.dev.tally.resetDue = false) ∧
    (s.dev.fore.injecting = false) ∧
    (s.dev.sliceClock = true) ∧
    ∃ (g : Nat),
    (g < 24) ∧
    (s.dev.groupFilter g = {})) ∧
  (∃ (s : State),
    (s.dev.fore.off = false) ∧
    (s.dev.tally.resetDue = false) ∧
    (s.dev.fore.injecting = false) ∧
    (s.dev.sliceClock = true) ∧
    ∃ (g : Nat),
    (g < 24) ∧
    ((s.dev.groupFilter g).priv ≠ 7)) ∧
  (∃ (s : State),
    (s.dev.fore.off = false) ∧
    (s.dev.tally.resetDue = false) ∧
    (s.dev.fore.injecting = false) ∧
    (s.dev.sliceClock = false)) ∧
  (∃ (s : State),
    (s.dev.fore.off = false) ∧
    (s.dev.tally.resetDue = true) ∧
    (s.dev.sliceClock = false) ∧
    ∃ (g : Nat),
    (g < 24)) ∧
  (∃ (s : State),
    (s.dev.fore.off = false) ∧
    (s.dev.tally.resetDue = true) ∧
    (s.dev.sliceClock = false) ∧
    ∃ (c : Nat),
    (c < 1536)) ∧
  (∃ (s : State),
    (s.dev.fore.off = false) ∧
    (s.dev.tally.resetDue = false) ∧
    (s.dev.sliceClock = false) ∧
    (s.dev.fore.injecting = false) ∧
    ∃ (e : TallyEvent),
    let c := e.counter.val
    let g := c / 64
    let f := s.dev.groupFilter g
    (f.masterKind = 0) ∧
    (f.addrLo = 0) ∧
    (f.addrHi = 0xFFFFFFFFF) ∧
    (f.subclass = 0xFFFF) ∧
    ∃ (k : Nat),
    (k < 1536) ∧
    (k ≠ c)) ∧
  (∃ (s : State),
    (s.dev.fore.off = false) ∧
    (s.dev.tally.resetDue = false) ∧
    (s.dev.sliceClock = false) ∧
    (s.dev.fore.injecting = false) ∧
    ∃ (e : TallyEvent),
    let c := e.counter.val
    let g := c / 64
    let f := s.dev.groupFilter g
    let privOk := f.priv = 7 ∨ e.attr.priv.any (bitAt f.priv) = true
    (f.masterKind = 0) ∧
    (f.addrLo = 0) ∧
    (f.addrHi = 0xFFFFFFFFF) ∧
    (f.subclass = 0xFFFF) ∧
    (¬ privOk)) ∧
  (∃ (s : State),
    (s.dev.fore.off = false) ∧
    (s.dev.tally.resetDue = false) ∧
    (s.dev.sliceClock = false) ∧
    (s.dev.fore.injecting = false) ∧
    ∃ (e : TallyEvent),
    let c := e.counter.val
    let g := c / 64
    let sum := KMap.at s.dev.tally.count 0 c + e.count
    let thr := KMap.at s.dev.tally.thresh 0 c
    let f := s.dev.groupFilter g
    let privOk := f.priv = 7 ∨ e.attr.priv.any (bitAt f.priv) = true
    (f.masterKind = 0) ∧
    (f.addrLo = 0) ∧
    (f.addrHi = 0xFFFFFFFFF) ∧
    (f.subclass = 0xFFFF) ∧
    (privOk) ∧
    (sum < 2 ^ 48) ∧
    (thr = 0 ∨ sum < thr)) ∧
  (∃ (s : State),
    (s.dev.fore.off = false) ∧
    (s.dev.tally.resetDue = false) ∧
    (s.dev.sliceClock = false) ∧
    (s.dev.fore.injecting = false) ∧
    ∃ (e : TallyEvent),
    let c := e.counter.val
    let g := c / 64
    let sum := KMap.at s.dev.tally.count 0 c + e.count
    let f := s.dev.groupFilter g
    let privOk := f.priv = 7 ∨ e.attr.priv.any (bitAt f.priv) = true
    (f.masterKind = 0) ∧
    (f.addrLo = 0) ∧
    (f.addrHi = 0xFFFFFFFFF) ∧
    (f.subclass = 0xFFFF) ∧
    (privOk) ∧
    (2 ^ 48 ≤ sum)) ∧
  (∃ (s : State),
    (s.dev.fore.off = false) ∧
    (s.dev.tally.resetDue = false) ∧
    (s.dev.sliceClock = false) ∧
    (s.dev.fore.injecting = false) ∧
    ∃ (e : TallyEvent),
    let c := e.counter.val
    let g := c / 64
    let sum := KMap.at s.dev.tally.count 0 c + e.count
    let thr := KMap.at s.dev.tally.thresh 0 c
    let f := s.dev.groupFilter g
    let privOk := f.priv = 7 ∨ e.attr.priv.any (bitAt f.priv) = true
    (f.masterKind = 0) ∧
    (f.addrLo = 0) ∧
    (f.addrHi = 0xFFFFFFFFF) ∧
    (f.subclass = 0xFFFF) ∧
    (privOk) ∧
    (0 < thr) ∧
    (KMap.at s.dev.tally.count 0 c < thr) ∧
    (thr ≤ sum)) := by
  refine ⟨⟨(stateAt 0), ?_, ?_, ?_, 0, ?_⟩,
    ⟨(stateAt 0), ?_, ?_, ?_, 3, ?_⟩,
    ⟨(stateAt 0), ?_, ?_, ?_, ?_, 0, ?_⟩,
    ⟨(stateAt 1), ?_, ?_, ?_, ?_, 3, ?_⟩,
    ⟨(stateAt 2), ?_⟩,
    ⟨(stateAt 16), ?_, ?_, ?_, 0, ?_⟩,
    ⟨(stateAt 16), ?_, ?_, ?_, 0, ?_⟩,
    ⟨(stateAt 2), ?_, ?_, ?_, ?_, ({ counter := 0, count := 5, attr := { priv := none, master := none, line := none, instr := (0, 0) } }), ?_, ?_, ?_, ?_, 3, ?_⟩,
    ⟨(stateAt 18), ?_, ?_, ?_, ?_, ({ counter := 65, count := 5, attr := { priv := some 0, master := none, line := none, instr := (0, 0) } }), ?_⟩,
    ⟨(stateAt 2), ?_, ?_, ?_, ?_, ({ counter := 0, count := 5, attr := { priv := none, master := none, line := none, instr := (0, 0) } }), ?_⟩,
    ⟨(stateAt 18), ?_, ?_, ?_, ?_, ({ counter := 65, count := 140737488355328, attr := { priv := some 1, master := none, line := none, instr := (0, 0) } }), ?_⟩,
    ⟨(stateAt 18), ?_, ?_, ?_, ?_, ({ counter := 65, count := 140737488355328, attr := { priv := some 1, master := none, line := none, instr := (0, 0) } }), ?_⟩⟩ <;>
    first | (unfold Dev.TakesCmd; decide +kernel) | (unfold Dev.AssayIdle; decide +kernel) | (unfold Dev.TakesFrame; decide +kernel) | (unfold Dev.Outstanding; decide +kernel) | (unfold khzOut maxKhz; cases Config.partBE <;> decide +kernel) | decide +kernel

end P20

namespace P21
def u (d : Dev) : Dev := { upDev d with fore.running := true }.fbit Reg.top_ROM_DONE true
def pl (n : Nat) : Plan := ⟨n, 1,2,3,0,30,5,3,[],[]⟩
def nvw (s : State) (f : NonVolatile → NonVolatile) : State := { s with nv := f s.nv }
def pool0 : List State := [State.reset, wit u, wit (frozenAt 4), wit (fun d => (u d).fbit Reg.age_COMPUTING true), nvw (wit (fun d => (u d).fbit Reg.age_COMPUTING true)) (fun n => { n with planA := some (pl 4), planB := some (pl 5) }),
  nvw (wit (fun d => (u d).fbit Reg.age_COMPUTING true |>.tset 4 0 0 5 65000 |>.tset 4 0 0 6 5001 |>.tset 4 0 0 90 7000)) (fun n => { n with planA := some (pl 6), planB := some (pl 5) }),
  nvw (wit (fun d => (u d).fbit Reg.age_COMPUTING true)) (fun n => { n with planA := some (pl 6), hours := 2^32-1, trends := [⟨5, 1, 2, 3⟩, ⟨30*24, 1, 2, 3⟩] }),
  nvw (wit (fun d => (u d))) (fun n => { n with planA := some (pl 6), planB := some (pl 6), hours := 4097*24, trends := [⟨5, 1, 2, 3⟩, ⟨30*24, 1, 2, 3⟩, ⟨24, 1, 2, 3⟩] }),
  wit (fun d => (u d).fbit Reg.pwr_AVS_HOLD true), wit (fun d => (u d).fset Reg.pwr_VCORE_NOW 812 |>.fset Reg.pwr_VCORE_POL_MIN 850 |>.fset Reg.pwr_VCORE_POL_MAX 855 |>.fset Reg.pwr_VSRAM_POL_MIN 900),
  wit (fun d => (u d).fset Reg.pwr_VCORE_POL_MAX 600 |>.fset Reg.pwr_VCORE_POL_MIN 500 |>.fbit Reg.pwr_OVERRIDDEN_SRAM true |>.fset Reg.age_GUARD_CORE 200),
  wit (fun d => (u d).fset Reg.pwr_STAGE 1), wit (fun d => (u d).fset Reg.pwr_STAGE 2 |>.fset Reg.pwr_JM_MHZ 400), wit (fun d => (u d).fset Reg.pwr_STAGE 3 |>.fset Reg.pwr_JM_MHZ 500), wit (fun d => (u d).fset Reg.pwr_TS_VALID 0xFF8 |>.fset Reg.pwr_JM_MHZ 400),
  wit (fun d => (u d).fset Reg.pwr_TS_VALID 0),  wit (fun d => { u d with fore.tj := 2240, fore.outliers := [(3, 9)] } |>.fset Reg.pwr_JM_MHZ 1500), wit (fun d => (u d).fset Reg.age_GUARD_CORE 0 |>.fset Reg.age_GUARD_SRAM 1 |>.fset Reg.pwr_VCORE_NOW 60001)]
def pl2 : List State := [
  nvw (wit (fun d => (u d).fbit Reg.age_COMPUTING true)) (fun n => { n with hours := 10000, trends := [⟨10000, 1, 0, 550⟩, ⟨0, 1, 0, 450⟩] }),
  nvw (wit (fun d => (u d).fbit Reg.age_COMPUTING true)) (fun n => { n with hours := 10000, trends := [⟨10000, 1, 0, 453⟩, ⟨0, 1, 0, 353⟩] }),
  nvw (wit (fun d => (u d).fbit Reg.age_COMPUTING true)) (fun n => { n with hours := 10000, trends := [⟨10000, 1, 0, 453⟩, ⟨0, 1, 0, 353⟩, ⟨10000, 9, 3, 4⟩, ⟨5000, 9, 3, 5⟩, ⟨2000, 9, 3, 6⟩] }),
  nvw (wit (fun d => (u d).fbit Reg.age_COMPUTING true)) (fun n => { n with hours := 10000, trends := [⟨10000, 3, 40, 85⟩, ⟨5000, 3, 40, 60⟩, ⟨10000, 3, 41, 85⟩, ⟨5000, 3, 41, 60⟩] }),
  nvw (wit (fun d => ((u d).fbit Reg.age_COMPUTING true).setRole 1 33 6)) (fun n => { n with hours := 10000, trends := [⟨10000, 3, 40, 85⟩, ⟨5000, 3, 40, 60⟩, ⟨10000, 3, 71, -85⟩, ⟨5000, 3, 71, -60⟩] })]
def pool : List State := pool0 ++ pl2
def stateAt (n : Nat) : State := (pool).getD n State.reset
def nfAt (n : Nat) : State := mod (stateAt n) fun d => d.fset Reg.tbase_NOMINAL_FREQ 8000000

/-- States and operands that meet the hypotheses of AgeingAndPower. -/
theorem witness_AgeingAndPower :
  (∃ (s : State) (f r : Nat),
    (s.dev.fore.off = false) ∧
    (0 < r) ∧
    let num : Int := 1000000 * ((r : Int) - f)
    (num % (r : Int) = 0)) ∧
  (∃ (s : State) (f r : Nat),
    (s.dev.fore.off = false) ∧
    (0 < r) ∧
    let num : Int := 1000000 * ((r : Int) - f)
    (num % (r : Int) ≠ 0)) ∧
  (∃ (s : State) (f r : Nat),
    (s.dev.fore.off = false) ∧
    (0 < r) ∧
    ∃ (k : Nat),
    (k < 95)) ∧
  (∃ (s : State) (values : List (Nat × Nat × Int)),
    (s.dev.fore.off = false) ∧
    (s.dev.fore.running = false)) ∧
  (∃ (s : State) (who : Requester),
    (s.dev.fore.off = false) ∧
    (s.dev.flag Reg.hdr_FREEZE 4 = false)) ∧
  (∃ (s : State),
    (s.dev.fore.off = false) ∧
    (s.dev.fore.running = false)) ∧
  (∃ (s : State),
    (s.dev.fore.off = false) ∧
    (s.dev.fore.running = true)) ∧
  (∃ (s : State) (p : PlanData),
    (s.dev.fore.off = false) ∧
    let on := s.dev.flag Reg.age_COMPUTING = true ∧ s.dev.fore.running = true
    (¬ on)) ∧
  (∃ (s : State) (p : PlanData),
    (s.dev.fore.off = false) ∧
    let on := s.dev.flag Reg.age_COMPUTING = true ∧ s.dev.fore.running = true
    let all := trendCodes.flatMap fun c => s.nv.projections c
    (on) ∧
    (all.isEmpty = false)) ∧
  (∃ (s : State) (p : PlanData),
    (s.dev.fore.off = false) ∧
    let on := s.dev.flag Reg.age_COMPUTING = true ∧ s.dev.fore.running = true
    let all := trendCodes.flatMap fun c => s.nv.projections c
    (on) ∧
    (all = [])) ∧
  (∃ (s : State) (p : PlanData),
    (s.dev.fore.off = false) ∧
    let on := s.dev.flag Reg.age_COMPUTING = true ∧ s.dev.fore.running = true
    (on) ∧
    (s.nv.hours = 10000) ∧
    ∃ (lo : Fin 400),
    (s.nv.trends = [⟨10000, 1, 0, 450 + lo.val⟩, ⟨0, 1, 0, 350 + lo.val⟩])) ∧
  (∃ (s : State) (p : PlanData),
    (s.dev.fore.off = false) ∧
    let on := s.dev.flag Reg.age_COMPUTING = true ∧ s.dev.fore.running = true
    (on) ∧
    ∃ (c : _),
    (c ∈ trendCodes)) ∧
  (∃ (s : State) (p : PlanData),
    (s.dev.fore.off = false) ∧
    let on := s.dev.flag Reg.age_COMPUTING = true ∧ s.dev.fore.running = true
    (on) ∧
    (p.stored = true)) ∧
  (∃ (s : State) (p : PlanData),
    (s.dev.fore.off = false) ∧
    let on := s.dev.flag Reg.age_COMPUTING = true ∧ s.dev.fore.running = true
    (on) ∧
    (p.stored = false)) ∧
  (∃ (s : State) (p : PlanData),
    (s.dev.fore.off = false) ∧
    let on := s.dev.flag Reg.age_COMPUTING = true ∧ s.dev.fore.running = true
    let ask := s.dev.planRetires (s.dev.retireList s.nv)
    (on) ∧
    ∃ (x : _),
    (x ∈ ask)) ∧
  (∃ (s : State) (p : PlanData),
    (s.dev.fore.off = false) ∧
    let on := s.dev.flag Reg.age_COMPUTING = true ∧ s.dev.fore.running = true
    let ask := s.dev.planRetires (s.dev.retireList s.nv)
    (on) ∧
    (ask = [])) ∧
  (∃ (s : State) (sram : Bool) (cpm ma : Nat),
    (s.dev.fore.off = false) ∧
    (cpm < 1000) ∧
    let off := s.dev.flag Reg.top_ROM_DONE = false ∨ s.dev.flag Reg.pwr_AVS_HOLD = true
    (off)) ∧
  (∃ (s : State) (sram : Bool) (cpm ma : Nat),
    (s.dev.fore.off = false) ∧
    (cpm < 1000) ∧
    let off := s.dev.flag Reg.top_ROM_DONE = false ∨ s.dev.flag Reg.pwr_AVS_HOLD = true
    let nowF := if sram then Reg.pwr_VSRAM_NOW else Reg.pwr_VCORE_NOW
    let now := s.dev.fget nowF
    let lo := cpm + s.dev.fget (if sram then Reg.age_GUARD_SRAM else Reg.age_GUARD_CORE)
    let hi : Nat := if sram then 860 else 850
    (¬ off) ∧
    (now < 60000) ∧
    (hi < lo) ∧
    (s.dev.flag Reg.pwr_EXHAUSTED = false)) ∧
  (∃ (s : State) (sram : Bool) (cpm ma : Nat),
    (s.dev.fore.off = false) ∧
    (cpm < 1000) ∧
    let off := s.dev.flag Reg.top_ROM_DONE = false ∨ s.dev.flag Reg.pwr_AVS_HOLD = true
    let nowF := if sram then Reg.pwr_VSRAM_NOW else Reg.pwr_VCORE_NOW
    let now := s.dev.fget nowF
    let polMin := s.dev.fget (if sram then Reg.pwr_VSRAM_POL_MIN else Reg.pwr_VCORE_POL_MIN)
    let polMax := s.dev.fget (if sram then Reg.pwr_VSRAM_POL_MAX else Reg.pwr_VCORE_POL_MAX)
    let lo := cpm + s.dev.fget (if sram then Reg.age_GUARD_SRAM else Reg.age_GUARD_CORE)
    let hi : Nat := if sram then 860 else 850
    (¬ off) ∧
    (now < 60000) ∧
    (lo ≤ hi) ∧
    (max lo polMin ≤ min hi polMax)) ∧
  (∃ (s : State) (sram : Bool) (cpm ma : Nat),
    (s.dev.fore.off = false) ∧
    (cpm < 1000) ∧
    let off := s.dev.flag Reg.top_ROM_DONE = false ∨ s.dev.flag Reg.pwr_AVS_HOLD = true
    let nowF := if sram then Reg.pwr_VSRAM_NOW else Reg.pwr_VCORE_NOW
    let ovF := if sram then Reg.pwr_OVERRIDDEN_SRAM else Reg.pwr_OVERRIDDEN_CORE
    let now := s.dev.fget nowF
    let polMin := s.dev.fget (if sram then Reg.pwr_VSRAM_POL_MIN else Reg.pwr_VCORE_POL_MIN)
    let polMax := s.dev.fget (if sram then Reg.pwr_VSRAM_POL_MAX else Reg.pwr_VCORE_POL_MAX)
    let lo := cpm + s.dev.fget (if sram then Reg.age_GUARD_SRAM else Reg.age_GUARD_CORE)
    let hi : Nat := if sram then 860 else 850
    (¬ off) ∧
    (now < 60000) ∧
    (lo ≤ hi) ∧
    (min hi polMax < max lo polMin) ∧
    (s.dev.flag ovF = false)) ∧
  (∃ (s : State) (sram : Bool),
    (s.dev.fore.off = false) ∧
    (s.dev.flag Reg.pwr_AVS_HOLD = true)) ∧
  (∃ (s : State) (sram : Bool),
    (s.dev.fore.off = false) ∧
    (s.dev.flag Reg.pwr_AVS_HOLD = false)) ∧
  (∃ (s : State) (ok : Bool),
    (s.dev.fore.off = false) ∧
    let held := s.dev.flag Reg.pwr_AVS_HOLD = true ∧ ok = true
    (¬ held)) ∧
  (∃ (s : State) (ok : Bool),
    (s.dev.fore.off = false) ∧
    let held := s.dev.flag Reg.pwr_AVS_HOLD = true ∧ ok = true
    (held)) ∧
  (∃ (s : State),
    (s.dev.fore.off = false) ∧
    ∃ (temp : Int),
    (-880 ≤ temp) ∧
    (temp ≤ 2800) ∧
    ((∃ i : Fin 12, s.dev.sensorOn i = true)) ∧
    (temp % 4 = 0)) ∧
  (∃ (s : State),
    (s.dev.fore.off = false) ∧
    ∃ (temp : Int),
    (-880 ≤ temp) ∧
    (temp ≤ 2800) ∧
    ((∃ i : Fin 12, s.dev.sensorOn i = true)) ∧
    (2320 ≤ temp)) ∧
  (∃ (s : State),
    (s.dev.fore.off = false) ∧
    ∃ (temp : Int),
    (-880 ≤ temp) ∧
    (temp ≤ 2800) ∧
    ((∃ i : Fin 12, s.dev.sensorOn i = true)) ∧
    let thr : Int := 16 * s.dev.fget Reg.pwr_THROTTLE_TJ
    let old := s.dev.fget Reg.pwr_STAGE
    (temp < 2320) ∧
    (temp < thr) ∧
    (old = 0)) ∧
  (∃ (s : State),
    (s.dev.fore.off = false) ∧
    ∃ (temp : Int),
    (-880 ≤ temp) ∧
    (temp ≤ 2800) ∧
    ((∃ i : Fin 12, s.dev.sensorOn i = true)) ∧
    let thr : Int := 16 * s.dev.fget Reg.pwr_THROTTLE_TJ
    (temp ≤ 2272) ∧
    (thr ≤ temp) ∧
    (temp ≤ thr + 80)) ∧
  (∃ (s : State),
    (s.dev.fore.off = false) ∧
    ∃ (temp : Int),
    (-880 ≤ temp) ∧
    (temp ≤ 2800) ∧
    ((∃ i : Fin 12, s.dev.sensorOn i = true)) ∧
    let thr : Int := 16 * s.dev.fget Reg.pwr_THROTTLE_TJ
    (temp ≤ 2272) ∧
    (thr + 128 ≤ temp) ∧
    (s.dev.fget Reg.pwr_JM_MHZ = 400)) ∧
  (∃ (s : State),
    (s.dev.fore.off = false) ∧
    ∃ (temp : Int),
    (-880 ≤ temp) ∧
    (temp ≤ 2800) ∧
    ((∃ i : Fin 12, s.dev.sensorOn i = true)) ∧
    let thr : Int := 16 * s.dev.fget Reg.pwr_THROTTLE_TJ
    (temp ≤ 2272) ∧
    (temp ≤ thr - 48)) ∧
  (∃ (s : State),
    (s.dev.fore.off = false) ∧
    ∃ (temp : Int),
    (-880 ≤ temp) ∧
    (temp ≤ 2800) ∧
    ((∃ i : Fin 12, s.dev.sensorOn i = true)) ∧
    (2240 ≤ temp) ∧
    (s.dev.fore.tj < 2240)) ∧
  (∃ (s : State) (i : Fin 12) (temp : Int),
    (s.dev.fore.off = false) ∧
    (s.dev.sensorOn i = true) ∧
    (temp < -880 ∨ 2800 < temp) ∧
    ∃ (j : Fin 12),
    (j ≠ i)) ∧
  (∃ (s : State),
    (s.dev.fore.off = false) ∧
    (s.dev.fget Reg.pwr_JM_MHZ < 60000)) ∧
  (∃ (s : State) (n : Fin 12),
    (s.dev.fore.off = false) ∧
    (s.dev.sensorOn n = false)) ∧
  (∃ (s : State) (n : Fin 12),
    (s.dev.fore.off = false) ∧
    (s.dev.sensorOn n = true) ∧
    (s.dev.fore.tj < 2240)) ∧
  (∃ (s : State) (lo : Fin 400),
    (s.dev.flag Reg.age_COMPUTING = true) ∧
    (s.dev.fore.running = true) ∧
    (s.nv.hours = 10000) ∧
    (s.nv.trends = [⟨10000, 1, 0, 450 + lo.val⟩, ⟨0, 1, 0, 350 + lo.val⟩])) := by
  refine ⟨⟨(stateAt 0), 0, 1, ?_⟩,
    ⟨(stateAt 0), 1, 999, ?_⟩,
    ⟨(stateAt 0), 0, 1, ?_, ?_, 0, ?_⟩,
    ⟨(stateAt 0), ([]), ?_⟩,
    ⟨(stateAt 0), (Requester.host), ?_⟩,
    ⟨(stateAt 0), ?_⟩,
    ⟨(stateAt 1), ?_⟩,
    ⟨(stateAt 0), ({ tRet0 := 127795, tRet1 := 127796, eyes := [], stored := true }), ?_⟩,
    ⟨(stateAt 18), ({ tRet0 := 127795, tRet1 := 127796, eyes := [], stored := true }), ?_, ?_,⟩,
    ⟨(stateAt 3), ({ tRet0 := 127795, tRet1 := 127796, eyes := [], stored := true }), ?_⟩,
    ⟨(stateAt 18), ({ tRet0 := 127795, tRet1 := 127796, eyes := [], stored := true }), ?_, ?_, ?_, 100, ?_⟩,
    ⟨(stateAt 3), ({ tRet0 := 127795, tRet1 := 127796, eyes := [], stored := true }), ?_, ?_, 1, ?_⟩,
    ⟨(stateAt 3), ({ tRet0 := 127795, tRet1 := 127796, eyes := [], stored := true }), ?_⟩,
    ⟨(stateAt 3), ({ tRet0 := 40000, tRet1 := 1000, eyes := [(3, 7)], stored := false }), ?_⟩,
    ⟨(stateAt 21), ({ tRet0 := 127795, tRet1 := 127796, eyes := [], stored := true }), ?_, ?_, 40, ?_⟩,
    ⟨(stateAt 3), ({ tRet0 := 127795, tRet1 := 127796, eyes := [], stored := true }), ?_⟩,
    ⟨(stateAt 0), (false), 0, 0, ?_⟩,
    ⟨(stateAt 1), (false), 999, 0, ?_⟩,
    ⟨(stateAt 1), (false), 0, 0, ?_⟩,
    ⟨(stateAt 9), (true), 0, 0, ?_⟩,
    ⟨(stateAt 8), (false), ?_⟩,
    ⟨(stateAt 0), (false), ?_⟩,
    ⟨(stateAt 0), (false), ?_⟩,
    ⟨(stateAt 8), (true), ?_⟩,
    ⟨(stateAt 0), ?_, (-880), ?_⟩,
    ⟨(stateAt 0), ?_, 2320, ?_⟩,
    ⟨(stateAt 0), ?_, (-880), ?_⟩,
    ⟨(stateAt 0), ?_, 2000, ?_⟩,
    ⟨(stateAt 12), ?_, 2128, ?_⟩,
    ⟨(stateAt 0), ?_, (-880), ?_⟩,
    ⟨(stateAt 0), ?_, 2240, ?_⟩,
    ⟨(stateAt 0), 0, 2801, ?_, ?_, ?_, 1, ?_⟩,
    ⟨(stateAt 0), ?_⟩,
    ⟨(stateAt 14), 0, ?_⟩,
    ⟨(stateAt 0), 0, ?_⟩,
    ⟨(nvw (wit (fun d => (u d).fbit Reg.age_COMPUTING true)) (fun n => { n with hours := 10000, trends := [⟨10000, 1, 0, 550⟩, ⟨0, 1, 0, 450⟩] })), 100, ?_⟩⟩ <;>
    first | (unfold Dev.TakesCmd; decide +kernel) | (unfold Dev.AssayIdle; decide +kernel) | (unfold Dev.TakesFrame; decide +kernel) | (unfold Dev.Outstanding; decide +kernel) | (unfold khzOut maxKhz; cases Config.partBE <;> decide +kernel) | decide +kernel

end P21

end Sys2Proof.Tests
end

section
/-!
Frames, discarded writes, folds, and the words and control state of tables: rules that the proofs below share.
-/

namespace Sys2Proof.Machine

/-! ### Frames of the whole machine -/

theorem State.Framed.refl (s : State) : State.Framed [] [] s s := ⟨.refl _, rfl, rfl, rfl⟩

theorem State.Framed.mono {ps ps' : List Part} {ks ks' : List Nat} {s t : State} (h : State.Framed ps ks s t) (hp : ps ⊆ ps')
    (hk : ks ⊆ ks') : State.Framed ps' ks' s t := ⟨h.dev.mono hp hk, h.pending, h.nv, h.hbm⟩

theorem State.Framed.trans {ps : List Part} {ks : List Nat} {s t u : State} (h : State.Framed ps ks s t) (g : State.Framed ps ks t u) :
    State.Framed ps ks s u :=
  ⟨h.dev.trans g.dev, g.pending.trans h.pending, g.nv.trans h.nv, g.hbm.trans h.hbm⟩

theorem State.Framed.withDev {ps : List Part} {ks : List Nat} {s : State} {d : Dev} (h : Dev.Framed ps ks s.dev d) :
    State.Framed ps ks s { s with dev := d } := ⟨h, rfl, rfl, rfl⟩

/-- A change of the device after a framed change stays in the frame. -/
theorem State.Framed.onDev_after {ps : List Part} {ks : List Nat} {s t : State} {f : Dev → Dev} (h : State.Framed ps ks s t)
    (hf : Dev.Framed ps ks t.dev (f t.dev)) : State.Framed ps ks s (t.onDev f) := h.trans (.onDev hf)

/-! ### CFG_EPOCH and discarded writes (R475, R514) -/

@[simp] theorem Dev.fget_cfgEpoch (d : Dev) (p : Nat) :
    (d.cfgEpoch p).fget Reg.hdr_CFG_EPOCH p = (d.fget Reg.hdr_CFG_EPOCH p + 1) % 2 ^ 32 := Dev.fget_fset_same _ _ _ _

theorem Dev.fget_cfgEpoch_other (d : Dev) {p i : Nat} {f : Field} (h : f.key i ≠ Reg.hdr_CFG_EPOCH.key p) :
    (d.cfgEpoch p).fget f i = d.fget f i := by
  unfold Dev.cfgEpoch
  rw [Dev.fget_fset, if_neg h]

theorem Requester.code_lt (who : Requester) : who.code < 3 := by cases who <;> decide

/-- The record of a discarded write (R514), where the value is a register's word. -/
theorem Dev.logDiscard_held (d : Dev) (who : Requester) (p off : Nat) {val : Nat} (hv : val < 2 ^ 32) :
    (d.logDiscard who p off val).ErrHeld p 0xF0 (off % 4096 + 4096 * who.code) val := by
  have h := d.logErr_held p 0xF0 (off % 4096 + 4096 * who.code) val
  have hw := Requester.code_lt who
  rwa [Nat.mod_eq_of_lt (a := 0xF0) (by decide), Nat.mod_eq_of_lt (a := off % 4096 + _) (by omega), Nat.mod_eq_of_lt hv] at h

/-- The register of CFG_EPOCH is none of the error log's. -/
theorem Dev.ErrHeld.cfgEpoch {d : Dev} {p code detail0 detail1 : Nat} (h : d.ErrHeld p code detail0 detail1) :
    (d.cfgEpoch p).ErrHeld p code detail0 detail1 := by
  refine h.congr fun k hk => ?_
  have hne : k ≠ Reg.hdr_CFG_EPOCH.key p := by
    rintro rfl
    simp only [errKeys, List.mem_cons, List.not_mem_nil, or_false, Field.key, Reg.hdr_CFG_EPOCH, Reg.hdr_ERR_CODE, Reg.hdr_ERR_INJECTED,
      Reg.hdr_ERR_OVERWRITTEN, Reg.hdr_ERR_VALID, Reg.hdr_ERR_COUNT, Reg.hdr_ERR_DETAIL0, Reg.hdr_ERR_DETAIL1, Reg.hdr_ERR_TIME] at hk
    omega
  unfold Dev.cfgEpoch
  rw [Dev.find_fset, if_neg hne]

theorem State.discard_framed (s : State) (who : Requester) (p off val : Nat) :
    s.Framed [] (errKeys p) (s.onDev fun d => d.logDiscard who p off val) :=
  .onDev ((Dev.Framed.refl _).logDiscard (List.Subset.refl _))

/-! ### Folds in which one element alone acts -/

theorem foldl_of_fixed {α β : Type} {f : β → α → β} {b : β} {l : List α} (h : ∀ x ∈ l, f b x = b) : l.foldl f b = b := by
  induction l with
  | nil => rfl
  | cons x xs ih =>
    rw [List.foldl_cons, h x List.mem_cons_self]
    exact ih fun y hy => h y (List.mem_cons_of_mem _ hy)

/-- A fold over distinct elements of which `a` alone changes the value is the step of `a`. -/
theorem foldl_of_only {α β : Type} {f : β → α → β} {b : β} {l : List α} {a : α} (hl : l.Nodup) (ha : a ∈ l)
    (hb : ∀ x ∈ l, x ≠ a → f b x = b) (hf : ∀ x ∈ l, x ≠ a → f (f b a) x = f b a) : l.foldl f b = f b a := by
  induction l with
  | nil => cases ha
  | cons x xs ih =>
    obtain ⟨hx, hxs⟩ := List.nodup_cons.mp hl
    rw [List.foldl_cons]
    by_cases hxa : x = a
    · subst hxa
      exact foldl_of_fixed fun y hy => hf y (List.mem_cons_of_mem _ hy) fun e => hx (e ▸ hy)
    · rw [hb x List.mem_cons_self hxa]
      exact ih hxs ((List.mem_cons.mp ha).resolve_left (Ne.symm hxa)) (fun y hy => hb y (List.mem_cons_of_mem _ hy))
        fun y hy => hf y (List.mem_cons_of_mem _ hy)

/-! ### Words of a table and its control state -/

theorem Dev.tctlOf_tctlSet (d : Dev) (p sel : Nat) (c : TableCtl) (q k : Nat) :
    (d.tctlSet p sel c).tctlOf q k = if q * 32 + k = p * 32 + sel then c else d.tctlOf q k := KMap.at_put _ _ _ _ _

@[simp] theorem Dev.tctlOf_tctlSet_same (d : Dev) (p sel : Nat) (c : TableCtl) : (d.tctlSet p sel c).tctlOf p sel = c := by
  simp [Dev.tctlOf_tctlSet]

theorem Dev.tctlOf_tctlSet_other (d : Dev) {p sel k : Nat} (c : TableCtl) (h : k ≠ sel) :
    (d.tctlSet p sel c).tctlOf p k = d.tctlOf p k := by
  rw [Dev.tctlOf_tctlSet, if_neg (by omega)]

theorem Dev.tctlSet_framed (d : Dev) (p sel : Nat) (c : TableCtl) : Dev.Framed [.tctl] [] d (d.tctlSet p sel c) :=
  (Dev.Framed.refl d).ofTctl (by simp)

/-- What a table word holds before any write depends on the loaded calibration bank alone. -/
theorem Dev.tableBase_congr {d d' : Dev} (h : d'.assay = d.assay) : d'.tableBase = d.tableBase := by
  funext p sel a
  unfold Dev.tableBase
  rw [h]

theorem Dev.tget_congr {d d' : Dev} {p sel b a : Nat} (ha : d'.assay = d.assay)
    (ht : KMap.find d'.tabs (tkey p sel b a) = KMap.find d.tabs (tkey p sel b a)) : d'.tget p sel b a = d.tget p sel b a := by
  unfold Dev.tget
  rw [Dev.tableBase_congr ha, KMap.at_congr _ ht]

@[simp] theorem Dev.tget_tset_same (d : Dev) (p sel b a v : Nat) : (d.tset p sel b a v).tget p sel b a = v % 2 ^ 32 :=
  KMap.at_put_same _ _ _ _

theorem Dev.tset_tabFramed (d : Dev) (p sel b a v : Nat) : d.TabFramed [tkey p sel b a] (d.tset p sel b a v) := fun k hk =>
  KMap.find_put_other _ _ (by simpa using hk)

theorem Dev.TabFramed.trans {ks : List Nat} {d e f : Dev} (h : d.TabFramed ks e) (g : e.TabFramed ks f) : d.TabFramed ks f :=
  fun k hk => (g k hk).trans (h k hk)

theorem Dev.TabFramed.mono {ks ls : List Nat} {d e : Dev} (h : d.TabFramed ks e) (hk : ks ⊆ ls) : d.TabFramed ls e :=
  fun k hn => h k fun hm => hn (hk hm)

/-- Words of one table share a key only where bank and address agree, for addresses that a table has. -/
theorem tkey_inj {p sel b b' a a' : Nat} (ha : a < 2 ^ 25) (ha' : a' < 2 ^ 25) (h : tkey p sel b a = tkey p sel b' a') :
    b = b' ∧ a = a' := by
  unfold tkey at h
  omega

section SameBank

/-! A change of a table's control state that keeps its bank changes no word that is read. -/

variable {d : Dev} {p sel : Nat} {c : TableCtl} (hc : c.bank = (d.tctlOf p sel).bank)
include hc

theorem Dev.bank_tctlSet (q k : Nat) : ((d.tctlSet p sel c).tctlOf q k).bank = (d.tctlOf q k).bank := by
  rw [Dev.tctlOf_tctlSet]
  split
  · next h => simpa [Dev.tctlOf, h] using hc
  · rfl

theorem Dev.tactive_tctlSet : (d.tctlSet p sel c).tactive = d.tactive := by
  funext q k a
  unfold Dev.tactive
  rw [Dev.bank_tctlSet hc]
  rfl

theorem Dev.tshadow_tctlSet : (d.tctlSet p sel c).tshadow = d.tshadow := by
  funext q k a
  unfold Dev.tshadow
  rw [Dev.bank_tctlSet hc]
  rfl

theorem Dev.destOk_tctlSet : (d.tctlSet p sel c).destOk = d.destOk := by
  funext loc len
  unfold Dev.destOk Dev.spillUnits Dev.spillExtents
  rw [Dev.tactive_tctlSet hc]
  rfl

end SameBank

section SameBankState

variable {s : State} {p sel : Nat} {c : TableCtl} (hc : c.bank = (s.dev.tctlOf p sel).bank)
include hc

theorem State.tableWords_tctlSet : (s.onDev fun d => d.tctlSet p sel c).tableWords = s.tableWords := by
  funext q k
  have hw : (s.onDev fun d => d.tctlSet p sel c).tableWord q k = s.tableWord q k := by
    funext a
    unfold State.tableWord
    dsimp only
    rw [State.onDev_dev, Dev.tshadow_tctlSet hc]
    rfl
  unfold State.tableWords
  rw [hw]
  rfl

theorem State.admitStatus_tctlSet : (s.onDev fun d => d.tctlSet p sel c).admitStatus = s.admitStatus := by
  funext t cls grant segs
  unfold State.admitStatus
  dsimp only
  rw [State.onDev_dev, Dev.destOk_tctlSet hc]
  rfl

/-- The owners' checks of a swap read the tables' words, not their control state. -/
theorem State.swapBad_tctlSet : (s.onDev fun d => d.tctlSet p sel c).swapBad = s.swapBad := by
  funext q k
  unfold State.swapBad Dev.tseqSwapBad Dev.vernSwapBad Dev.spillMapBad Dev.auxTableBad Dev.neighbourBad State.bindingBad Dev.xaccBad
  rw [State.admitStatus_tctlSet hc]
  simp only [State.onDev_dev, Dev.tshadow_tctlSet hc]
  rfl

end SameBankState
end Sys2Proof.Machine
end

section
/-!
The actions of TABLE_CTRL: CRCs, copies and swap requests (R482, R484, R485).
-/

namespace Sys2Proof.Machine

/-! ### Writes of TABLE_CTRL (R473, R481) -/

theorem State.tableCtrl_frozen {s : State} {p : Nat} (hf : s.dev.flag Reg.hdr_FREEZE p = true) (who : Requester) (val : Nat)
    (act : TableDef → Nat → State → State) :
    s.tableCtrl who p val act = s.onDev fun d => d.logDiscard who p 0xC0C val := by
  unfold State.tableCtrl
  rw [if_pos hf]

theorem State.tableCtrl_open {s : State} {who : Requester} {p : Nat} {td : TableDef} (hf : s.dev.flag Reg.hdr_FREEZE p = false)
    (htd : s.dev.tableDef p (s.dev.tableSel who p) = some td) (val : Nat) (act : TableDef → Nat → State → State) :
    s.tableCtrl who p val act = (act td (s.dev.tableSel who p) s).onDev fun d => d.cfgEpoch p := by
  unfold State.tableCtrl
  rw [if_neg (by simp [hf]), htd]

/-- An action of TABLE_CTRL on a frozen page is discarded and recorded (R473, R514). -/
theorem State.tableCtrl_discarded {s : State} {p : Nat} (hf : s.dev.flag Reg.hdr_FREEZE p = true) (who : Requester) {val : Nat}
    (hv : val < 2 ^ 32) (act : TableDef → Nat → State → State) :
    (s.tableCtrl who p val act).dev.ErrHeld p 0xF0 (0xC0C + 4096 * who.code) val ∧
      s.Framed [] (errKeys p) (s.tableCtrl who p val act) := by
  rw [State.tableCtrl_frozen hf]
  exact ⟨Dev.logDiscard_held _ _ _ _ hv, State.discard_framed _ _ _ _ _⟩

/-! ### CRC of a table (R485) -/

theorem State.crcStart_tctl (s : State) (p sel k : Nat) : (s.crcStart p sel).dev.tctlOf p k =
    if k = sel ∧ (s.dev.tctlOf p sel).crcBusy = false then
      { s.dev.tctlOf p sel with crcBusy := true, crcNext := crc32c (s.tableWords p sel) }
    else s.dev.tctlOf p k := by
  unfold State.crcStart
  dsimp only
  split
  · next h => simp [h]
  · next h =>
    rw [State.onDev_dev, Dev.tctlOf_tctlSet]
    simp [h]

theorem State.crcStart_framed (s : State) (p sel : Nat) : s.Framed [.tctl] [] (s.crcStart p sel) := by
  unfold State.crcStart
  dsimp only
  split
  · exact (State.Framed.refl s).mono (by simp) (by simp)
  · exact .onDev (Dev.tctlSet_framed _ _ _ _)

theorem State.crcDoneOf_idle {s : State} {p sel : Nat} (h : (s.dev.tctlOf p sel).crcBusy = false) : s.crcDoneOf p sel = s := by
  unfold State.crcDoneOf
  simp [h]

/-- What CRC_DONE leaves in a table's control state. -/
def TableCtl.crcShown (c : TableCtl) : TableCtl := { c with crcBusy := false, crc := c.crcNext, held := [] }

theorem State.crcDoneOf_busy {s : State} {p sel : Nat} (h : (s.dev.tctlOf p sel).crcBusy = true) :
    s.crcDoneOf p sel = (s.dev.tctlOf p sel).held.foldl (fun (s : State) w => s.tablePut p sel w.1 w.2)
      (s.onDev fun d => d.tctlSet p sel (s.dev.tctlOf p sel).crcShown) := by
  unfold State.crcDoneOf
  simp only [h, if_true]
  rfl

theorem State.tablePut_banked {s : State} {p sel : Nat} {td : TableDef} (htd : s.dev.tableDef p sel = some td)
    (hk : td.kind = .banked) (a v : Nat) : s.tablePut p sel a v =
    s.onDev fun d => d.tset p sel (1 - (d.tctlOf p sel).bank) a (heldWord p sel a v) := by
  unfold State.tablePut
  rw [htd]
  simp only [hk]

/-- Stores in a banked table change its shadow bank's words at the addresses stored to, and nothing else. -/
theorem State.foldl_tablePut_banked {p sel : Nat} {td : TableDef} (hk : td.kind = .banked) (ws : List (Nat × Nat)) {s : State}
    (htd : s.dev.tableDef p sel = some td) :
    let t := ws.foldl (fun (s : State) w => s.tablePut p sel w.1 w.2) s
    t.dev.tctl = s.dev.tctl ∧ t.dev.tableDef p sel = some td ∧ s.Framed [.tabs] [] t ∧
      s.dev.TabFramed (ws.map fun w => tkey p sel (1 - (s.dev.tctlOf p sel).bank) w.1) t.dev := by
  induction ws generalizing s with
  | nil => exact ⟨rfl, htd, (State.Framed.refl s).mono (by simp) (by simp), fun _ _ => rfl⟩
  | cons w ws ih =>
    rw [List.foldl_cons, State.tablePut_banked htd hk]
    obtain ⟨hctl, hdef, hframe, htabs⟩ := ih (s := s.onDev fun d => d.tset p sel (1 - (d.tctlOf p sel).bank) w.1 (heldWord p sel w.1 w.2)) htd
    exact ⟨hctl, hdef, .trans (.onDev ((Dev.Framed.refl _).ofTabs (by simp))) hframe,
      ((Dev.tset_tabFramed _ _ _ _ _ _).mono (by simp)).trans (htabs.mono (List.subset_cons_self _ _))⟩

/-- The word stored last is the one that the shadow bank then holds. -/
theorem State.foldl_tablePut_last {p sel a v : Nat} {td : TableDef} (hk : td.kind = .banked) (ws : List (Nat × Nat)) {s : State}
    (htd : s.dev.tableDef p sel = some td) :
    ((ws ++ [(a, v)]).foldl (fun (s : State) w => s.tablePut p sel w.1 w.2) s).dev.tshadow p sel a = heldWord p sel a v % 2 ^ 32 := by
  rw [List.foldl_append]
  obtain ⟨-, hdef, -, -⟩ := State.foldl_tablePut_banked hk ws htd
  rw [List.foldl_cons, List.foldl_nil, State.tablePut_banked hdef hk]
  exact Dev.tget_tset_same _ _ _ _ _ _

/-- Where one table alone has a CRC under way, CRC_DONE is the completion of that one. -/
theorem State.crcDone_of_only {s : State} {p : Nat} {sel : Nat} (hsel : sel < 32)
    (hbusy : ∀ k < 32, (s.dev.tctlOf p k).crcBusy = decide (k = sel))
    (hafter : ∀ k < 32, k ≠ sel → (s.crcDoneOf p sel).dev.tctlOf p k = s.dev.tctlOf p k) : s.crcDone p = s.crcDoneOf p sel := by
  have hidle : ∀ k < 32, k ≠ sel → (s.dev.tctlOf p k).crcBusy = false := fun k hk hne => by rw [hbusy k hk]; simp [hne]
  refine foldl_of_only List.nodup_range (List.mem_range.mpr hsel) (fun k hk hne => ?_) fun k hk hne => ?_
  · exact State.crcDoneOf_idle (hidle k (List.mem_range.mp hk) hne)
  · rw [List.mem_range] at hk
    exact State.crcDoneOf_idle (by rw [hafter k hk hne, hidle k hk hne])

/-! ### Copies (R482) -/

/-- A table that is not banked, or has at most 2,048 words. -/
def TableDef.small (td : TableDef) : Bool := td.kind != .banked || decide (td.len ≤ 2048)

theorem Dev.tableDef_small (d : Dev) (p sel : Nat) : (d.tableDef p sel).all TableDef.small = true := by
  unfold Dev.tableDef
  repeat' refine iteInduction (motive := fun o : Option TableDef => o.all TableDef.small = true) (fun _ => ?_) fun _ => ?_
  all_goals rfl

theorem Dev.tableDef_banked_len {d : Dev} {p sel : Nat} {td : TableDef} (h : d.tableDef p sel = some td) (hk : td.kind = .banked) :
    td.len ≤ 2048 := by
  simpa [h, hk, TableDef.small] using d.tableDef_small p sel

/-- A copy of `n` words: the shadow bank has the active bank's words, which stand, and nothing else has changed. -/
theorem Dev.copyBank_spec (d : Dev) (p sel : Nat) {n : Nat} (hn : n ≤ 2 ^ 25) :
    let e := d.copyBank p sel n
    (∀ a < n, e.tshadow p sel a = d.tactive p sel a % 2 ^ 32) ∧
      d.TabFramed ((List.range n).map fun a => tkey p sel (1 - (d.tctlOf p sel).bank) a) e ∧ Dev.Framed [.tabs] [] d e := by
  induction n with
  | zero => exact ⟨fun a ha => absurd ha (Nat.not_lt_zero a), fun _ _ => rfl, .refl d⟩
  | succ n ih =>
    obtain ⟨hwords, htabs, hframe⟩ := ih (by omega)
    have hstep : d.copyBank p sel (n + 1) = (d.copyBank p sel n).tset p sel (1 - ((d.copyBank p sel n).tctlOf p sel).bank) n
        ((d.copyBank p sel n).tactive p sel n) := by
      simp [Dev.copyBank, List.range_succ]
    have hctl : (d.copyBank p sel n).tctl = d.tctl := hframe.parts .tctl (by simp)
    have hbank : (d.copyBank p sel n).tctlOf p sel = d.tctlOf p sel := by unfold Dev.tctlOf; rw [hctl]
    have hactive : (d.copyBank p sel n).tactive p sel n = d.tactive p sel n := by
      unfold Dev.tactive
      rw [hbank]
      refine Dev.tget_congr (hframe.parts .assay (by simp)) (htabs _ fun hm => ?_)
      obtain ⟨a, ha, hkey⟩ := List.mem_map.mp hm
      have := tkey_inj (by rw [List.mem_range] at ha; omega) (by omega) hkey
      omega
    rw [hstep, hactive, hbank]
    refine ⟨fun a ha => ?_, ?_, hframe.ofTabs (by simp)⟩
    · have hshadow : ∀ e : Dev, e.tctl = d.tctl → e.tshadow p sel a = e.tget p sel (1 - (d.tctlOf p sel).bank) a := fun e he => by
        unfold Dev.tshadow Dev.tctlOf
        rw [he]
      refine (hshadow (Dev.tset _ _ _ _ _ _) hctl).trans ?_
      by_cases han : a = n
      · subst han
        exact Dev.tget_tset_same _ _ _ _ _ _
      · rw [← hwords a (by omega), hshadow _ hctl]
        refine Dev.tget_congr rfl (Dev.tset_tabFramed _ _ _ _ _ _ _ fun hm => ?_)
        have := tkey_inj (by omega) (by omega) (List.mem_singleton.mp hm)
        omega
    · refine (htabs.mono (List.map_subset _ fun a ha => ?_)).trans ((Dev.tset_tabFramed _ _ _ _ _ _).mono ?_)
      · simp only [List.mem_range] at ha ⊢
        omega
      · simp only [List.cons_subset, List.nil_subset, and_true, List.mem_map, List.mem_range]
        exact ⟨n, by omega, rfl⟩

theorem State.tableCopyOf_eq (s : State) (who : Requester) (p sel : Nat) (td : TableDef) (val : Nat) :
    s.tableCopyOf who p sel td val =
      if td.kind != .banked then s
      else if (td.expert && !s.dev.expertOpen p) || (s.dev.tctlOf p sel).swapPending || (s.dev.tctlOf p sel).loadBusy then
        s.onDev fun d => d.logDiscard who p 0xC0C val
      else s.onDev fun d => d.copyBank p sel td.len := by
  unfold State.tableCopyOf State.onDev
  dsimp only
  split
  · rfl
  · split <;> rfl

/-! ### Swap requests (R484) -/

theorem State.swapRequest_pending {s : State} {p sel : Nat} (h : (s.dev.tctlOf p sel).swapPending = true) : s.swapRequest p sel = s := by
  unfold State.swapRequest
  rw [if_pos h]

/-- The request itself: SWAP_PENDING. -/
def State.swapAsked (s : State) (p sel : Nat) : State :=
  s.onDev fun d => d.tctlSet p sel { s.dev.tctlOf p sel with swapPending := true }

theorem State.swapRequest_new {s : State} {p sel : Nat} (h : (s.dev.tctlOf p sel).swapPending = false) : s.swapRequest p sel =
    if (s.dev.tctlOf p sel).checkEn then (s.swapAsked p sel).crcStart p sel else s.swapAsked p sel := by
  unfold State.swapRequest
  rw [if_neg (by simp [h])]
  rfl

theorem State.swapAsked_tctl (s : State) (p sel k : Nat) : (s.swapAsked p sel).dev.tctlOf p k =
    if k = sel then { s.dev.tctlOf p sel with swapPending := true } else s.dev.tctlOf p k := by
  unfold State.swapAsked
  rw [State.onDev_dev, Dev.tctlOf_tctlSet]
  simp

theorem State.swapAsked_tableWords (s : State) (p sel : Nat) : (s.swapAsked p sel).tableWords = s.tableWords :=
  State.tableWords_tctlSet rfl

theorem State.swapRequest_tctl (s : State) (p sel k : Nat) : (s.swapRequest p sel).dev.tctlOf p k =
    if k = sel then
      if (s.dev.tctlOf p sel).swapPending then s.dev.tctlOf p sel
      else if (s.dev.tctlOf p sel).checkEn && !(s.dev.tctlOf p sel).crcBusy then { s.dev.tctlOf p sel with
        swapPending := true, crcBusy := true, crcNext := crc32c (s.tableWords p sel) }
      else { s.dev.tctlOf p sel with swapPending := true }
    else s.dev.tctlOf p k := by
  cases hpend : (s.dev.tctlOf p sel).swapPending
  case true =>
    rw [State.swapRequest_pending hpend]
    split <;> simp_all
  case false =>
    rw [State.swapRequest_new hpend]
    by_cases hk : k = sel
    · subst hk
      cases hcheck : (s.dev.tctlOf p k).checkEn <;> cases hbusy : (s.dev.tctlOf p k).crcBusy <;>
        simp [State.crcStart_tctl, State.swapAsked_tctl, State.swapAsked_tableWords, hcheck, hbusy]
    · split <;> simp [State.crcStart_tctl, State.swapAsked_tctl, hk]

theorem State.swapRequest_framed (s : State) (p sel : Nat) : s.Framed [.tctl] [] (s.swapRequest p sel) := by
  have hasked : s.Framed [.tctl] [] (s.swapAsked p sel) := .onDev (Dev.tctlSet_framed _ _ _ _)
  cases hpend : (s.dev.tctlOf p sel).swapPending
  case true =>
    rw [State.swapRequest_pending hpend]
    exact (State.Framed.refl s).mono (by simp) (by simp)
  case false =>
    rw [State.swapRequest_new hpend]
    split
    · exact hasked.trans (State.crcStart_framed _ _ _)
    · exact hasked

end Sys2Proof.Machine
end

section
/-!
Swaps that take effect or are refused (R484).
-/

namespace Sys2Proof.Machine

/-! ### Loads are no part of an event's route -/

theorem Dev.emit_qm (d : Dev) (o : Output) : (d.emit o).qm = d.qm := by
  unfold Dev.emit Dev.linkBusy
  split
  · rfl
  · split
    · split <;> rfl
    · rfl

theorem Dev.msix_qm (d : Dev) (v : Nat) : (d.msix v).qm = d.qm := by
  unfold Dev.msix
  split
  · rfl
  · exact d.emit_qm _

theorem Dev.signalIfDue_loads (d : Dev) (q : Nat) : (d.signalIfDue q).qm.loads = d.qm.loads := by
  unfold Dev.signalIfDue
  dsimp only
  split
  · rw [Dev.msix_qm]
    rfl
  · rfl

theorem Dev.pushEntry_loads (d : Dev) (q : Nat) (ws : List Nat) : (d.pushEntry q ws).qm.loads = d.qm.loads := by
  unfold Dev.pushEntry
  dsimp only
  rw [Dev.signalIfDue_loads, Dev.qset_qm, Dev.emit_qm]

theorem Dev.postEvent_loads (d : Dev) (p new q : Nat) : (d.postEvent p new q).1.qm.loads = d.qm.loads := by
  unfold Dev.postEvent
  dsimp only
  split
  · rfl
  · split
    · exact (Dev.pushEntry_loads _ _ _).trans rfl
    · split <;> rfl

theorem Dev.route_loads (d : Dev) (p new : Nat) : (d.route p new).1.qm.loads = d.qm.loads := by
  have hpost : ∀ w, (if bitAt w 12 then d.postEvent p new (bitField w 16 16) else (d, false)).1.qm.loads = d.qm.loads := by
    intro w
    split
    · exact d.postEvent_loads _ _ _
    · rfl
  have hmsix : ∀ (e : Dev) w, (if bitAt w 11 then e.msix (bitField w 0 11) else e).qm = e.qm := by
    intro e w
    split
    · exact e.msix_qm _
    · rfl
  have hpme : ∀ (e : Dev) (c : Bool), (if c then { e with pcie := { e.pcie with pmeStatus := true } } else e).qm = e.qm := by
    intro e c
    split <;> rfl
  exact (congrArg QmState.loads ((hpme _ _).trans (hmsix _ _))).trans (hpost _)

theorem Dev.setAndRoute_loads (d : Dev) (p mask : Nat) : (d.setAndRoute p mask).1.qm.loads = d.qm.loads := by
  have hset : (d.setEvent p mask).1.qm = d.qm := by
    unfold Dev.setEvent
    dsimp only
    split <;> rfl
  unfold Dev.setAndRoute
  dsimp only
  split
  · rw [hset]
  · rw [Dev.route_loads, hset]

theorem Dev.egressFull_loads (d : Dev) (n : Nat) : (d.egressFull n).qm.loads = d.qm.loads := by
  unfold Dev.egressFull
  split
  · rfl
  · exact (Dev.setAndRoute_loads _ _ _).trans rfl

theorem Dev.raise_loads (d : Dev) (p b : Nat) : (d.raise p b).qm.loads = d.qm.loads := by
  unfold Dev.raise Dev.raiseMask
  dsimp only
  split
  · rw [Dev.egressFull_loads, Dev.setAndRoute_loads, Dev.setAndRoute_loads]
  · exact d.setAndRoute_loads _ _

/-- Without loads there is none to tell of a swap. -/
theorem Dev.noteSwap_of_no_loads {d : Dev} (h : d.qm.loads = []) (p sel : Nat) (refused : Bool) : d.noteSwap p sel refused = d := by
  unfold Dev.noteSwap
  rw [h, List.map_nil, ← h]

theorem Dev.loadsComplete_of_no_loads {d : Dev} (h : d.qm.loads = []) : d.loadsComplete = d := by
  unfold Dev.loadsComplete
  rw [h]
  rfl

/-! ### Which swaps SWAP_TAKE_EFFECT resolves (R484) -/

theorem State.swapResolve_idle {s : State} {p sel : Nat} (h : (s.dev.tctlOf p sel).swapPending = false) : s.swapResolve p sel = s := by
  unfold State.swapResolve
  simp [h]

theorem swapPages_nodup (p : Nat) : (swapPages p).Nodup := by
  unfold swapPages
  split
  · decide
  · simp

theorem mem_swapPages (p : Nat) : p ∈ swapPages p := by
  unfold swapPages
  split
  · next h => simp only [List.mem_cons, List.not_mem_nil, or_false]; omega
  · simp

/-- Of all tables whose swaps take effect with page `p`'s, that of `p` at `sel` alone has one pending. -/
def Dev.OnlySwap (d : Dev) (p sel : Nat) : Prop :=
  ∀ q ∈ swapPages p, ∀ k < 32, (d.tctlOf q k).swapPending = (decide (q = p) && decide (k = sel))

theorem Dev.OnlySwap.idle {d : Dev} {p sel q k : Nat} (h : d.OnlySwap p sel) (hq : q ∈ swapPages p) (hk : k < 32)
    (hne : q = p → k ≠ sel) : (d.tctlOf q k).swapPending = false := by
  rw [h q hq k hk]
  simpa using hne

/-- Where one swap alone is pending and no load waits, SWAP_TAKE_EFFECT is the resolution of that swap. -/
theorem State.swapTakeEffect_of_only {s : State} {p sel : Nat} (hsel : sel < 32) (h : s.dev.OnlySwap p sel)
    (hctl : ∀ q k, q * 32 + k ≠ p * 32 + sel → (s.swapResolve p sel).dev.tctlOf q k = s.dev.tctlOf q k)
    (hdone : ((s.swapResolve p sel).dev.tctlOf p sel).swapPending = false) (hloads : (s.swapResolve p sel).dev.qm.loads = []) :
    s.swapTakeEffect p = s.swapResolve p sel := by
  have hafter : ∀ q ∈ swapPages p, ∀ k < 32, ((s.swapResolve p sel).dev.tctlOf q k).swapPending = false := by
    intro q hq k hk
    by_cases he : q = p ∧ k = sel
    · rw [he.1, he.2]
      exact hdone
    · rw [hctl q k (by omega)]
      exact h.idle hq hk fun hqp hks => he ⟨hqp, hks⟩
  have hpage : (List.range 32).foldl (fun (s : State) k => s.swapResolve p k) s = s.swapResolve p sel :=
    foldl_of_only List.nodup_range (List.mem_range.mpr hsel)
      (fun k hk hne => State.swapResolve_idle (h.idle (mem_swapPages p) (List.mem_range.mp hk) fun _ => hne))
      fun k hk _ => State.swapResolve_idle (hafter p (mem_swapPages p) k (List.mem_range.mp hk))
  have hfold : (swapPages p).foldl (fun (s : State) q => (List.range 32).foldl (fun (s : State) k => s.swapResolve q k) s) s =
      s.swapResolve p sel := by
    refine (foldl_of_only (swapPages_nodup p) (mem_swapPages p) (fun q hq hne => ?_) fun q hq _ => ?_).trans hpage
    · exact foldl_of_fixed fun k hk => State.swapResolve_idle (h.idle hq (List.mem_range.mp hk) fun e => absurd e hne)
    · rw [hpage]
      exact foldl_of_fixed fun k hk => State.swapResolve_idle (hafter q hq k (List.mem_range.mp hk))
  unfold State.swapTakeEffect
  rw [hfold]
  unfold State.onDev
  rw [Dev.loadsComplete_of_no_loads hloads]

/-! ### What the resolution of a swap leaves (R484) -/

/-- A pending swap reaches its point: with CHECK_EN the shadow's CRC is shown. -/
def State.swapChecked (s : State) (p sel : Nat) : State :=
  if (s.dev.tctlOf p sel).checkEn then
    s.onDev fun d => d.tctlSet p sel { s.dev.tctlOf p sel with crc := crc32c (s.tableWords p sel) }
  else s

theorem State.swapResolve_due {s : State} {p sel : Nat} (hpend : (s.dev.tctlOf p sel).swapPending = true)
    (hbusy : (s.dev.tctlOf p sel).crcBusy = false) : s.swapResolve p sel =
    if ((s.dev.tctlOf p sel).checkEn && crc32c (s.tableWords p sel) != (s.dev.tctlOf p sel).expect) || (s.swapChecked p sel).swapBad p sel then
      (s.swapChecked p sel).onDev fun d => (d.swapRefused p sel).noteSwap p sel true
    else (s.swapChecked p sel).onDev fun d => (d.exchange p sel).noteSwap p sel false := by
  unfold State.swapResolve
  rw [if_neg (by simp [hpend, hbusy])]
  rfl

theorem State.swapChecked_swapBad (s : State) (p sel : Nat) : (s.swapChecked p sel).swapBad = s.swapBad := by
  unfold State.swapChecked
  split
  · exact State.swapBad_tctlSet rfl
  · rfl

theorem State.swapChecked_framed (s : State) (p sel : Nat) : s.Framed [.tctl] [] (s.swapChecked p sel) := by
  unfold State.swapChecked
  split
  · exact .onDev (Dev.tctlSet_framed _ _ _ _)
  · exact (State.Framed.refl s).mono (by simp) (by simp)

theorem State.swapChecked_tctl_other (s : State) {p sel q k : Nat} (h : q * 32 + k ≠ p * 32 + sel) :
    (s.swapChecked p sel).dev.tctlOf q k = s.dev.tctlOf q k := by
  unfold State.swapChecked
  split
  · rw [State.onDev_dev, Dev.tctlOf_tctlSet, if_neg h]
  · rfl

theorem State.swapChecked_bank (s : State) (p sel : Nat) :
    ((s.swapChecked p sel).dev.tctlOf p sel).bank = (s.dev.tctlOf p sel).bank := by
  unfold State.swapChecked
  split
  · rw [State.onDev_dev, Dev.tctlOf_tctlSet_same]
  · rfl

/-- A table's control state once its swap has taken effect. -/
def TableCtl.swapped (c : TableCtl) : TableCtl := { c with bank := 1 - c.bank, swapPending := false, lastRefused := false }

/-- A table's control state once its swap has been refused. -/
def TableCtl.unswapped (c : TableCtl) : TableCtl := { c with swapPending := false, lastRefused := true }

theorem Dev.firSwapped_eq (d : Dev) (c : Nat) (old : List Int) : ∃ x, d.firSwapped c old = { d with chains := x } := by
  unfold Dev.firSwapped
  dsimp only
  split
  · exact ⟨d.chains, rfl⟩
  · exact ⟨_, rfl⟩

/-- An exchange of banks: the table's control state, CFG_EPOCH, and for a FIR of the decimators their chains. -/
theorem Dev.exchange_eq (d : Dev) (p sel : Nat) : ∃ x, (p ≠ 24 → x = d.chains) ∧
    d.exchange p sel = { (d.tctlSet p sel (d.tctlOf p sel).swapped).cfgEpoch p with chains := x } := by
  unfold Dev.exchange
  dsimp only
  split
  · next h =>
    obtain ⟨x, hx⟩ := Dev.firSwapped_eq ((d.tctlSet p sel (d.tctlOf p sel).swapped).cfgEpoch p) sel (d.firTaps sel)
    exact ⟨x, fun hne => absurd h hne, hx⟩
  · exact ⟨d.chains, fun _ => rfl, rfl⟩

theorem Dev.exchange_tctl (d : Dev) (p sel q k : Nat) : (d.exchange p sel).tctlOf q k =
    if q * 32 + k = p * 32 + sel then (d.tctlOf p sel).swapped else d.tctlOf q k := by
  obtain ⟨x, -, hx⟩ := d.exchange_eq p sel
  rw [hx]
  exact Dev.tctlOf_tctlSet _ _ _ _ _ _

/-- The parts that an exchange of a table's banks may change. -/
def exchangeParts (p : Nat) : List Part := if p = 24 then [.tctl, .chains] else [.tctl]

theorem Dev.exchange_framed (d : Dev) (p sel : Nat) : Dev.Framed (exchangeParts p) [Reg.hdr_CFG_EPOCH.key p] d (d.exchange p sel) := by
  obtain ⟨x, hne, hx⟩ := d.exchange_eq p sel
  rw [hx]
  have hctl : Part.tctl ∈ exchangeParts p := by unfold exchangeParts; split <;> simp
  have hmain : Dev.Framed (exchangeParts p) [Reg.hdr_CFG_EPOCH.key p] d ((d.tctlSet p sel (d.tctlOf p sel).swapped).cfgEpoch p) :=
    ((Dev.Framed.refl d).ofTctl hctl).cfgEpoch (by simp)
  by_cases hp : p = 24
  · exact hmain.ofChains (by simp [exchangeParts, hp])
  · rw [hne hp]
    exact hmain

theorem Dev.exchange_qm (d : Dev) (p sel : Nat) : (d.exchange p sel).qm = d.qm := by
  obtain ⟨x, -, hx⟩ := d.exchange_eq p sel
  rw [hx]
  rfl

theorem Dev.exchange_tget (d : Dev) (p sel : Nat) : (d.exchange p sel).tget = d.tget := by
  obtain ⟨x, -, hx⟩ := d.exchange_eq p sel
  rw [hx]
  rfl

theorem Dev.exchange_cfgEpoch (d : Dev) (p sel : Nat) :
    (d.exchange p sel).fget Reg.hdr_CFG_EPOCH p = (d.fget Reg.hdr_CFG_EPOCH p + 1) % 2 ^ 32 := by
  obtain ⟨x, -, hx⟩ := d.exchange_eq p sel
  rw [hx]
  exact Dev.fget_cfgEpoch (d.tctlSet p sel (d.tctlOf p sel).swapped) p

theorem tableRefusedBit_lt {p b : Nat} (h : tableRefusedBit p = some b) : b < 32 := by
  unfold tableRefusedBit at h
  repeat' split at h
  all_goals cases h
  all_goals decide

theorem Dev.swapRefused_tctl (d : Dev) (p sel q k : Nat) : (d.swapRefused p sel).tctlOf q k =
    if q * 32 + k = p * 32 + sel then (d.tctlOf p sel).unswapped else d.tctlOf q k := by
  have hset := Dev.tctlOf_tctlSet d p sel (d.tctlOf p sel).unswapped q k
  unfold Dev.swapRefused
  dsimp only
  split
  · rw [← hset]
    unfold Dev.tctlOf
    rw [(Dev.raise_ev _ _ _).tctl]
    rfl
  · exact hset

theorem Dev.swapRefused_loads (d : Dev) (p sel : Nat) : (d.swapRefused p sel).qm.loads = d.qm.loads := by
  unfold Dev.swapRefused
  dsimp only
  split
  · rw [Dev.raise_loads]
    rfl
  · rfl

theorem Dev.swapRefused_framed (d : Dev) (p sel : Nat) : Dev.Framed (.tctl :: eventParts) (eventKeys p) d (d.swapRefused p sel) := by
  have hset : Dev.Framed (.tctl :: eventParts) (eventKeys p) d (d.tctlSet p sel (d.tctlOf p sel).unswapped) :=
    (Dev.tctlSet_framed _ _ _ _).mono (by simp) (by simp)
  unfold Dev.swapRefused
  dsimp only
  split
  · exact hset.raise (List.subset_cons_self _ _) (List.Subset.refl _)
  · exact hset

theorem Dev.swapRefused_raised (d : Dev) {p b : Nat} (sel : Nat) (h : tableRefusedBit p = some b) : (d.swapRefused p sel).Raised p b := by
  unfold Dev.swapRefused
  rw [h]
  exact Dev.raise_raised _ _ _ (tableRefusedBit_lt h)

/-- A pending swap that passes its checks. -/
theorem State.swapTakeEffect_taken {s : State} {p sel : Nat} (hsel : sel < 32) (h : s.dev.OnlySwap p sel) (hloads : s.dev.qm.loads = [])
    (hbusy : (s.dev.tctlOf p sel).crcBusy = false)
    (hcrc : (s.dev.tctlOf p sel).checkEn = true → crc32c (s.tableWords p sel) = (s.dev.tctlOf p sel).expect)
    (hgood : s.swapBad p sel = false) : s.swapTakeEffect p = (s.swapChecked p sel).onDev fun d => d.exchange p sel := by
  have hpend : (s.dev.tctlOf p sel).swapPending = true := by simpa using h p (mem_swapPages p) sel hsel
  have hl : ((s.swapChecked p sel).dev.exchange p sel).qm.loads = [] := by
    rw [Dev.exchange_qm, (s.swapChecked_framed p sel).dev.parts .qm (by simp), hloads]
  have hres : s.swapResolve p sel = (s.swapChecked p sel).onDev fun d => d.exchange p sel := by
    rw [State.swapResolve_due hpend hbusy, if_neg (by simpa [State.swapChecked_swapBad, hgood] using hcrc)]
    exact congrArg (fun d => { s.swapChecked p sel with dev := d }) (Dev.noteSwap_of_no_loads hl _ _ _)
  rw [← hres]
  refine State.swapTakeEffect_of_only hsel h (fun q k hne => ?_) ?_ (by rw [hres]; exact hl)
  · rw [hres, State.onDev_dev, Dev.exchange_tctl, if_neg hne, State.swapChecked_tctl_other _ hne]
  · rw [hres, State.onDev_dev, Dev.exchange_tctl, if_pos rfl]
    rfl

/-- A pending swap that fails CHECK_EN or its owner's check. -/
theorem State.swapTakeEffect_refused {s : State} {p sel : Nat} (hsel : sel < 32) (h : s.dev.OnlySwap p sel) (hloads : s.dev.qm.loads = [])
    (hbusy : (s.dev.tctlOf p sel).crcBusy = false)
    (hbad : (s.dev.tctlOf p sel).checkEn = true ∧ crc32c (s.tableWords p sel) ≠ (s.dev.tctlOf p sel).expect ∨
      (s.dev.tctlOf p sel).checkEn = false ∧ s.swapBad p sel = true) :
    s.swapTakeEffect p = (s.swapChecked p sel).onDev fun d => d.swapRefused p sel := by
  have hpend : (s.dev.tctlOf p sel).swapPending = true := by simpa using h p (mem_swapPages p) sel hsel
  have hl : ((s.swapChecked p sel).dev.swapRefused p sel).qm.loads = [] := by
    rw [Dev.swapRefused_loads, (s.swapChecked_framed p sel).dev.parts .qm (by simp), hloads]
  have hres : s.swapResolve p sel = (s.swapChecked p sel).onDev fun d => d.swapRefused p sel := by
    rw [State.swapResolve_due hpend hbusy, if_pos]
    · exact congrArg (fun d => { s.swapChecked p sel with dev := d }) (Dev.noteSwap_of_no_loads hl _ _ _)
    · rw [State.swapChecked_swapBad]
      rcases hbad with ⟨hcheck, hcrc⟩ | ⟨-, howner⟩
      · simp [hcheck, hcrc]
      · simp [howner]
  rw [← hres]
  refine State.swapTakeEffect_of_only hsel h (fun q k hne => ?_) ?_ (by rw [hres]; exact hl)
  · rw [hres, State.onDev_dev, Dev.swapRefused_tctl, if_neg hne, State.swapChecked_tctl_other _ hne]
  · rw [hres, State.onDev_dev, Dev.swapRefused_tctl, if_pos rfl]
    rfl

end Sys2Proof.Machine
end

section
/-!
TableCrcCopySwap.
-/

namespace Sys2Proof.Machine

/-! ### The clauses of TableCrcCopySwap -/

/-- CRC_CHECK on a page that is not frozen. -/
theorem execCrcCheck_open {s : State} {who : Requester} {p : Fin 128} (hon : s.dev.fore.off = false)
    (hf : s.dev.flag Reg.hdr_FREEZE p = false) (hdef : (s.dev.tableDef p (s.dev.tableSel who p)).isSome = true) :
    let sel := s.dev.tableSel who p
    ∃ t, exec (.crcCheck who p) s = .next t ∧
      t.dev.tctlOf p sel = (if (s.dev.tctlOf p sel).crcBusy then s.dev.tctlOf p sel else { s.dev.tctlOf p sel with
        crcBusy := true, crcNext := crc32c (s.tableWords p sel) }) ∧
      (∀ k < 32, k ≠ sel → t.dev.tctlOf p k = s.dev.tctlOf p k) ∧
      t.dev.fget Reg.hdr_CFG_EPOCH p = (s.dev.fget Reg.hdr_CFG_EPOCH p + 1) % 2 ^ 32 ∧
      s.Framed [.tctl] [Reg.hdr_CFG_EPOCH.key p] t := by
  intro sel
  obtain ⟨td, htd⟩ := Option.isSome_iff_exists.mp hdef
  have hrun : s.crcCheck who p = (s.crcStart p sel).onDev fun d => d.cfgEpoch p := State.tableCtrl_open hf htd _ _
  have hframe := s.crcStart_framed p sel
  refine ⟨_, congrArg Host.Outcome.next (State.live_on hon _), ?_⟩
  rw [hrun]
  refine ⟨(s.crcStart_tctl p sel sel).trans ?_, fun k _ hk => (s.crcStart_tctl p sel k).trans (by simp [hk]), ?_, ?_⟩
  · cases (s.dev.tctlOf p sel).crcBusy <;> simp
  · exact (Dev.fget_cfgEpoch _ _).trans (by rw [Dev.fget_congr _ _ (hframe.dev.regs _ (by simp))])
  · exact ((hframe.mono (List.Subset.refl _) (by simp)).onDev_after ((Dev.Framed.refl _).cfgEpoch (by simp))).alertNote

/-- The completion of a CRC: the result is shown. -/
theorem State.crcDoneOf_ctl {s : State} {p sel : Nat}
    (hkeep : (s.crcDoneOf p sel).dev.tctl = (s.onDev fun d => d.tctlSet p sel (s.dev.tctlOf p sel).crcShown).dev.tctl) (k : Nat) :
    (s.crcDoneOf p sel).dev.tctlOf p k = if k = sel then (s.dev.tctlOf p sel).crcShown else s.dev.tctlOf p k := by
  have h := congrArg (fun m => KMap.at m {} (p * 32 + k)) hkeep
  exact h.trans ((Dev.tctlOf_tctlSet s.dev p sel _ p k).trans (by simp))

/-- CRC_DONE of a banked table: the CRC is shown, and the writes held meanwhile are in the shadow bank. -/
theorem execCrcDone_banked {s : State} {p : Fin 128} {sel : Fin 32} {td : TableDef} (hon : s.dev.fore.off = false)
    (honly : ∀ k < 32, (s.dev.tctlOf p k).crcBusy = decide (k = sel.val)) (htd : s.dev.tableDef p sel = some td) (hk : td.kind = .banked) :
    let held := (s.dev.tctlOf p sel).held
    ∃ t, exec (.crcDone p) s = .next t ∧ t.dev.tctlOf p sel = (s.dev.tctlOf p sel).crcShown ∧
      (∀ k < 32, k ≠ sel.val → t.dev.tctlOf p k = s.dev.tctlOf p k) ∧
      (∀ l a v, held = l ++ [(a, v)] → t.dev.tshadow p sel a = heldWord p sel a v % 2 ^ 32) ∧
      s.dev.TabFramed (held.map fun w => tkey p sel (1 - (s.dev.tctlOf p sel).bank) w.1) t.dev ∧ s.Framed [.tctl, .tabs] [] t := by
  intro held
  have hbusy : (s.dev.tctlOf p sel).crcBusy = true := by simpa using honly sel sel.isLt
  have hdone := State.crcDoneOf_busy hbusy
  obtain ⟨hctl, -, hframe, htabs⟩ := State.foldl_tablePut_banked hk held
    (s := s.onDev fun d => d.tctlSet p sel (s.dev.tctlOf p sel).crcShown) htd
  rw [← hdone] at hctl hframe htabs
  have hafter := State.crcDoneOf_ctl hctl
  have hrun : s.crcDone p = s.crcDoneOf p sel :=
    State.crcDone_of_only sel.isLt honly fun k _ hne => (hafter k).trans (if_neg hne)
  refine ⟨_, congrArg Host.Outcome.next (State.live_on hon _), ?_⟩
  rw [hrun]
  refine ⟨(hafter sel).trans (if_pos rfl), fun k _ hne => (hafter k).trans (if_neg hne), fun l a v hheld => ?_, ?_, ?_⟩
  · have hlast := State.foldl_tablePut_last (a := a) (v := v) hk l
      (s := s.onDev fun d => d.tctlSet p sel (s.dev.tctlOf p sel).crcShown) htd
    rw [← hheld, ← hdone] at hlast
    exact hlast
  · rw [State.onDev_dev, Dev.tctlOf_tctlSet_same] at htabs
    exact htabs
  · exact (((State.Framed.onDev (Dev.tctlSet_framed _ _ _ _)).mono (by simp) (by simp)).trans
      (hframe.mono (by simp) (by simp))).alertNote

/-- CRC_DONE of a table without held writes, of whatever kind: the CRC is shown. -/
theorem execCrcDone_unheld {s : State} {p : Fin 128} {sel : Fin 32} (hon : s.dev.fore.off = false)
    (honly : ∀ k < 32, (s.dev.tctlOf p k).crcBusy = decide (k = sel.val)) (hheld : (s.dev.tctlOf p sel).held = []) :
    ∃ t, exec (.crcDone p) s = .next t ∧ t.dev.tctlOf p sel = (s.dev.tctlOf p sel).crcShown ∧
      (∀ k < 32, k ≠ sel.val → t.dev.tctlOf p k = s.dev.tctlOf p k) ∧ s.Framed [.tctl] [] t := by
  have hbusy : (s.dev.tctlOf p sel).crcBusy = true := by simpa using honly sel sel.isLt
  have hdone : s.crcDoneOf p sel = s.onDev fun d => d.tctlSet p sel (s.dev.tctlOf p sel).crcShown := by
    rw [State.crcDoneOf_busy hbusy, hheld]
    rfl
  have hafter := State.crcDoneOf_ctl (by rw [hdone])
  have hrun : s.crcDone p = s.crcDoneOf p sel :=
    State.crcDone_of_only sel.isLt honly fun k _ hne => (hafter k).trans (if_neg hne)
  refine ⟨_, congrArg Host.Outcome.next (State.live_on hon _), ?_⟩
  rw [hrun]
  refine ⟨(hafter sel).trans (if_pos rfl), fun k _ hne => (hafter k).trans (if_neg hne), ?_⟩
  rw [hdone]
  exact (State.Framed.onDev (Dev.tctlSet_framed _ _ _ _)).alertNote

section OpenPage

/-! A page that is not frozen, with a table selected. -/

variable {s : State} {who : Requester} {p : Fin 128} {td : TableDef} (hon : s.dev.fore.off = false)
  (hf : s.dev.flag Reg.hdr_FREEZE p = false) (htd : s.dev.tableDef p (s.dev.tableSel who p) = some td)
include hon hf htd

theorem execCopy_open : exec (.copy who p) s =
    .next ((s.tableCopyOf who p (s.dev.tableSel who p) td 4).onDev fun d => d.cfgEpoch p).alertNote := by
  have hrun : s.tableCopy who p = (s.tableCopyOf who p (s.dev.tableSel who p) td 4).onDev fun d => d.cfgEpoch p :=
    State.tableCtrl_open hf htd _ _
  rw [← hrun]
  exact congrArg Host.Outcome.next (State.live_on hon _)

theorem execSwap_open : exec (.swap who p) s =
    .next ((if td.kind == .banked then s.swapRequest p (s.dev.tableSel who p) else s).onDev fun d => d.cfgEpoch p).alertNote := by
  have hrun : s.tableSwap who p =
      (if td.kind == .banked then s.swapRequest p (s.dev.tableSel who p) else s).onDev fun d => d.cfgEpoch p :=
    State.tableCtrl_open hf htd _ _
  rw [← hrun]
  exact congrArg Host.Outcome.next (State.live_on hon _)

theorem execCopy_taken (hk : td.kind = .banked) (hexpert : td.expert = true → s.dev.expertOpen p = true)
    (hpend : (s.dev.tctlOf p (s.dev.tableSel who p)).swapPending = false)
    (hload : (s.dev.tctlOf p (s.dev.tableSel who p)).loadBusy = false) :
    let sel := s.dev.tableSel who p
    ∃ t, exec (.copy who p) s = .next t ∧ (∀ a < td.len, t.dev.tshadow p sel a = s.dev.tactive p sel a % 2 ^ 32) ∧
      s.dev.TabFramed ((List.range td.len).map fun a => tkey p sel (1 - (s.dev.tctlOf p sel).bank) a) t.dev ∧
      t.dev.fget Reg.hdr_CFG_EPOCH p = (s.dev.fget Reg.hdr_CFG_EPOCH p + 1) % 2 ^ 32 ∧
      s.Framed [.tabs] [Reg.hdr_CFG_EPOCH.key p] t := by
  intro sel
  have hcopy : s.tableCopyOf who p sel td 4 = s.onDev fun d => d.copyBank p sel td.len := by
    have hopen : (td.expert && !s.dev.expertOpen p) = false := by
      cases he : td.expert <;> simp_all
    rw [State.tableCopyOf_eq]
    simp [hk, sel, hpend, hload, hopen]
  have hlen := Dev.tableDef_banked_len htd hk
  obtain ⟨hwords, htabs, hframe⟩ := s.dev.copyBank_spec p sel (n := td.len) (by omega)
  refine ⟨_, execCopy_open hon hf htd, ?_⟩
  rw [hcopy]
  refine ⟨hwords, htabs, ?_, ?_⟩
  · exact (Dev.fget_cfgEpoch _ _).trans (by rw [State.onDev_dev, Dev.fget_congr _ _ (hframe.regs _ (by simp))])
  · exact (((State.Framed.onDev hframe).mono (List.Subset.refl _) (by simp)).onDev_after
      ((Dev.Framed.refl _).cfgEpoch (by simp))).alertNote

theorem execCopy_discarded (hk : td.kind = .banked) (hshut : (td.expert = true ∧ s.dev.expertOpen p = false) ∨
      (s.dev.tctlOf p (s.dev.tableSel who p)).swapPending = true ∨ (s.dev.tctlOf p (s.dev.tableSel who p)).loadBusy = true) :
    ∃ t, exec (.copy who p) s = .next t ∧ t.dev.ErrHeld p 0xF0 (0xC0C + 4096 * who.code) 4 ∧
      s.Framed [] (Reg.hdr_CFG_EPOCH.key p :: errKeys p) t := by
  have hcopy : s.tableCopyOf who p (s.dev.tableSel who p) td 4 = s.onDev fun d => d.logDiscard who p 0xC0C 4 := by
    rw [State.tableCopyOf_eq, if_neg (by simp [hk]), if_pos]
    rcases hshut with ⟨h1, h2⟩ | h | h <;> simp [*]
  refine ⟨_, execCopy_open hon hf htd, ?_⟩
  rw [hcopy]
  refine ⟨(s.dev.logDiscard_held who p 0xC0C (by decide)).cfgEpoch, ?_⟩
  exact (((s.discard_framed who p 0xC0C 4).mono (by simp) (List.subset_cons_self _ _)).onDev_after
    ((Dev.Framed.refl _).cfgEpoch List.mem_cons_self)).alertNote

theorem execSwap_banked (hk : td.kind = .banked) :
    let sel := s.dev.tableSel who p
    let c := s.dev.tctlOf p sel
    ∃ t, exec (.swap who p) s = .next t ∧
      t.dev.tctlOf p sel = (if c.swapPending then c else if c.checkEn && !c.crcBusy then { c with
        swapPending := true, crcBusy := true, crcNext := crc32c (s.tableWords p sel) } else { c with swapPending := true }) ∧
      (∀ k < 32, k ≠ sel → t.dev.tctlOf p k = s.dev.tctlOf p k) ∧ s.Framed [.tctl] [Reg.hdr_CFG_EPOCH.key p] t := by
  intro sel c
  refine ⟨_, execSwap_open hon hf htd, ?_⟩
  rw [if_pos (by simp [hk])]
  refine ⟨(s.swapRequest_tctl p sel sel).trans (if_pos rfl), fun k _ hne => (s.swapRequest_tctl p sel k).trans (if_neg hne), ?_⟩
  exact (((s.swapRequest_framed p sel).mono (List.Subset.refl _) (by simp)).onDev_after ((Dev.Framed.refl _).cfgEpoch (by simp))).alertNote

/-- SWAP and COPY do nothing to a direct or read-only table, but are counted in CFG_EPOCH. -/
theorem execSwap_execCopy_unbanked (hk : td.kind ≠ .banked) :
    (∃ t, exec (.swap who p) s = .next t ∧ s.Framed [] [Reg.hdr_CFG_EPOCH.key p] t) ∧
      ∃ t, exec (.copy who p) s = .next t ∧ s.Framed [] [Reg.hdr_CFG_EPOCH.key p] t := by
  have hcopy : s.tableCopyOf who p (s.dev.tableSel who p) td 4 = s := by
    rw [State.tableCopyOf_eq, if_pos (by simpa using hk)]
  have hcount : s.Framed [] [Reg.hdr_CFG_EPOCH.key p] (s.onDev fun d => d.cfgEpoch p) :=
    .onDev ((Dev.Framed.refl _).cfgEpoch (by simp))
  refine ⟨⟨_, execSwap_open hon hf htd, ?_⟩, _, execCopy_open hon hf htd, ?_⟩
  · rw [if_neg (by simpa using hk)]
    exact hcount.alertNote
  · rw [hcopy]
    exact hcount.alertNote

end OpenPage

/-- Actions of TABLE_CTRL on a frozen page are discarded and recorded. -/
theorem execTableCtrl_frozen {s : State} (who : Requester) {p : Fin 128} (hon : s.dev.fore.off = false)
    (hf : s.dev.flag Reg.hdr_FREEZE p = true) :
    (∃ t, exec (.crcCheck who p) s = .next t ∧ t.dev.ErrHeld p 0xF0 (0xC0C + 4096 * who.code) 2 ∧ s.Framed [] (errKeys p) t) ∧
      (∃ t, exec (.copy who p) s = .next t ∧ t.dev.ErrHeld p 0xF0 (0xC0C + 4096 * who.code) 4 ∧ s.Framed [] (errKeys p) t) ∧
      ∃ t, exec (.swap who p) s = .next t ∧ t.dev.ErrHeld p 0xF0 (0xC0C + 4096 * who.code) 1 ∧ s.Framed [] (errKeys p) t := by
  have hshut := fun {val : Nat} (hv : val < 2 ^ 32) act =>
    And.imp_right State.Framed.alertNote (State.tableCtrl_discarded hf who hv act)
  exact ⟨⟨_, congrArg Host.Outcome.next (State.live_on hon _), hshut (by decide) _⟩,
    ⟨_, congrArg Host.Outcome.next (State.live_on hon _), hshut (by decide) _⟩,
    ⟨_, congrArg Host.Outcome.next (State.live_on hon _), hshut (by decide) _⟩⟩

section OnePending

/-! One swap is pending where SWAP_TAKE_EFFECT looks, and no load waits for it. -/

variable {s : State} {p : Fin 128} {sel : Fin 32} (hon : s.dev.fore.off = false) (hloads : s.dev.qm.loads = [])
  (honly : s.dev.OnlySwap p sel) (hbusy : (s.dev.tctlOf p sel).crcBusy = false)
include hon hloads honly hbusy

theorem execSwapTakeEffect_taken (hbank : (s.dev.tctlOf p sel).bank < 2)
    (hcrc : (s.dev.tctlOf p sel).checkEn = true → crc32c (s.tableWords p sel) = (s.dev.tctlOf p sel).expect)
    (hgood : s.swapBad p sel = false) :
    ∃ t, exec (.swapTakeEffect p) s = .next t ∧ (t.dev.tctlOf p sel).bank = 1 - (s.dev.tctlOf p sel).bank ∧
      (t.dev.tctlOf p sel).swapPending = false ∧ (t.dev.tctlOf p sel).lastRefused = false ∧
      (∀ a < 4096, t.dev.tactive p sel a = s.dev.tshadow p sel a ∧ t.dev.tshadow p sel a = s.dev.tactive p sel a) ∧
      (∀ k < 32, k ≠ sel.val → t.dev.tctlOf p k = s.dev.tctlOf p k) ∧
      t.dev.fget Reg.hdr_CFG_EPOCH p = (s.dev.fget Reg.hdr_CFG_EPOCH p + 1) % 2 ^ 32 ∧
      s.Framed (if p.val = 24 then [.tctl, .chains] else [.tctl]) [Reg.hdr_CFG_EPOCH.key p] t := by
  have hchecked := s.swapChecked_framed p sel
  have hctl : ((s.swapChecked p sel).dev.exchange p sel).tctlOf p sel = ((s.swapChecked p sel).dev.tctlOf p sel).swapped := by
    rw [Dev.exchange_tctl, if_pos rfl]
  have hswapped : (((s.swapChecked p sel).dev.exchange p sel).tctlOf p sel).bank = 1 - (s.dev.tctlOf p sel).bank := by
    rw [hctl, ← s.swapChecked_bank p sel]
    rfl
  have htget : ((s.swapChecked p sel).dev.exchange p sel).tget = s.dev.tget := by
    rw [Dev.exchange_tget]
    funext q k b a
    refine Dev.tget_congr (hchecked.dev.parts .assay (by simp)) ?_
    rw [show (s.swapChecked p sel).dev.tabs = s.dev.tabs from hchecked.dev.parts .tabs (by simp)]
  have hparts : [Part.tctl] ⊆ exchangeParts p := by
    unfold exchangeParts
    split <;> simp
  refine ⟨_, congrArg Host.Outcome.next (State.live_on hon _), ?_⟩
  rw [State.swapTakeEffect_taken sel.isLt honly hloads hbusy hcrc hgood]
  refine ⟨hswapped, congrArg TableCtl.swapPending hctl, congrArg TableCtl.lastRefused hctl, fun a _ => ⟨?_, ?_⟩, fun k _ hne => ?_, ?_, ?_⟩
  · show ((s.swapChecked p sel).dev.exchange p sel).tactive p sel a = _
    unfold Dev.tactive Dev.tshadow
    rw [hswapped, htget]
  · show ((s.swapChecked p sel).dev.exchange p sel).tshadow p sel a = _
    unfold Dev.tactive Dev.tshadow
    rw [hswapped, htget, show 1 - (1 - (s.dev.tctlOf p sel).bank) = (s.dev.tctlOf p sel).bank by omega]
  · have hkey : p.val * 32 + k ≠ p.val * 32 + sel.val := by omega
    exact (Dev.exchange_tctl _ _ _ _ _).trans ((if_neg hkey).trans (s.swapChecked_tctl_other hkey))
  · exact (Dev.exchange_cfgEpoch _ _ _).trans (by rw [Dev.fget_congr _ _ (hchecked.dev.regs _ (by simp))])
  · exact ((hchecked.mono hparts (by simp)).onDev_after (Dev.exchange_framed _ _ _)).alertNote

theorem execSwapTakeEffect_refused (hbad : (s.dev.tctlOf p sel).checkEn = true ∧
        crc32c (s.tableWords p sel) ≠ (s.dev.tctlOf p sel).expect ∨
      (s.dev.tctlOf p sel).checkEn = false ∧ s.swapBad p sel = true) :
    ∃ t, exec (.swapTakeEffect p) s = .next t ∧ (t.dev.tctlOf p sel).bank = (s.dev.tctlOf p sel).bank ∧
      (t.dev.tctlOf p sel).swapPending = false ∧ (t.dev.tctlOf p sel).lastRefused = true ∧
      (∀ k < 32, k ≠ sel.val → t.dev.tctlOf p k = s.dev.tctlOf p k) ∧
      (∀ b, tableRefusedBit p = some b → t.dev.Raised p b) ∧ s.Framed (.tctl :: eventParts) (eventKeys p) t := by
  have hctl : ((s.swapChecked p sel).dev.swapRefused p sel).tctlOf p sel = ((s.swapChecked p sel).dev.tctlOf p sel).unswapped := by
    rw [Dev.swapRefused_tctl, if_pos rfl]
  refine ⟨_, congrArg Host.Outcome.next (State.live_on hon _), ?_⟩
  rw [State.swapTakeEffect_refused sel.isLt honly hloads hbusy hbad]
  refine ⟨(congrArg TableCtl.bank hctl).trans (s.swapChecked_bank p sel), congrArg TableCtl.swapPending hctl,
    congrArg TableCtl.lastRefused hctl, fun k _ hne => ?_, fun b hb => Dev.swapRefused_raised _ _ hb, ?_⟩
  · have hkey : p.val * 32 + k ≠ p.val * 32 + sel.val := by omega
    exact (Dev.swapRefused_tctl _ _ _ _ _).trans ((if_neg hkey).trans (s.swapChecked_tctl_other hkey))
  · exact (((s.swapChecked_framed p sel).mono (by simp) (by simp)).onDev_after (Dev.swapRefused_framed _ _ _)).alertNote

end OnePending
end Sys2Proof.Machine
end

section
open Sys2Proof Sys2Proof.Machine

/-- Settles O19: each command's clause is that command's lemma. -/
theorem tableCrcCopySwap : Obligations.TableCrcCopySwap := by
  unfold Obligations.TableCrcCopySwap
  refine ⟨fun s who p hon hf hdef => execCrcCheck_open hon hf hdef, fun s who p hon hf => execTableCtrl_frozen who hon hf,
    fun s p sel td hon honly htd hk => execCrcDone_banked hon honly htd hk, fun s p sel hon honly hheld => execCrcDone_unheld hon honly hheld,
    fun s who p td hon hf htd hk => ⟨fun hexpert hpend hload => execCopy_taken hon hf htd hk hexpert hpend hload,
      fun hshut => execCopy_discarded hon hf htd hk hshut⟩,
    fun s who p td hon hf htd hk => execSwap_banked hon hf htd hk,
    fun s who p td hon hf htd hk => execSwap_execCopy_unbanked hon hf htd hk,
    fun s p sel hon hloads honly hbusy hbank hcrc hgood => execSwapTakeEffect_taken hon hloads honly hbusy hbank hcrc hgood,
    fun s p sel hon hloads honly hbusy hbad => execSwapTakeEffect_refused hon hloads honly hbusy hbad⟩
end

section
/-!
RegisterWrites.
-/

namespace Sys2Proof.Machine

/-! ### The way of a register write (R11, R473) -/

/-- A write to a frozen page, but for PAGE_CTRL, EVENT and EVENT_MASK, is discarded and recorded. -/
theorem State.bar0Write_frozen {s : State} {p o : Nat} (who : Requester) (val : Nat) (hp : p ≤ 70) (hp' : p ≠ 31) (ho : o < 4096)
    (h8 : o ≠ 0x08) (h10 : o ≠ 0x10) (h14 : o ≠ 0x14) (hf : s.dev.flag Reg.hdr_FREEZE p = true) :
    s.bar0Write who (4096 * p + o) val = s.onDev fun d => d.logDiscard who p o val := by
  have hpage : (4096 * p + o) / 4096 = p := by omega
  have hoff : (4096 * p + o) % 4096 = o := by omega
  unfold State.bar0Write
  dsimp only
  rw [hpage, hoff, if_neg (by omega), if_neg (by simp [Dev.mdiagShut, hp']), if_neg (by omega), if_neg (by simp [hasHeader, hp]),
    if_pos ⟨hf, h8, h10, h14⟩]

/-- A write to a page that is not frozen, beyond its header and below its table window. -/
theorem State.bar0Write_page {s : State} {p o : Nat} (who : Requester) (val : Nat) (hp : p ≤ 70) (hp' : p ≠ 31) (ho : 0x40 ≤ o)
    (ho' : o < 0xC00) (hf : s.dev.flag Reg.hdr_FREEZE p = false) :
    s.bar0Write who (4096 * p + o) val = s.pageWrite who p o val := by
  have hpage : (4096 * p + o) / 4096 = p := by omega
  have hoff : (4096 * p + o) % 4096 = o := by omega
  unfold State.bar0Write
  dsimp only
  rw [hpage, hoff, if_neg (by omega), if_neg (by simp [Dev.mdiagShut, hp']), if_neg (by omega), if_neg (by simp [hasHeader, hp]),
    if_neg (by simp [hf]), if_neg (by omega), if_neg (by omega)]

/-! ### FE_x's 0x040: FS_TRIM and BUF_FORCE_ON (R16, R70, R477) -/

theorem regFields_feTrim (x : Fin 4) : regFields (0x8040 + 4096 * x) = [(Reg.fe_FS_TRIM, x.val), (Reg.fe_BUF_FORCE_ON, x.val)] := by
  decide +revert

theorem multiOf_feTrim (x : Fin 4) : multiOf (0x8040 + 4096 * x) = none := by
  decide +revert

theorem ofSigned_lt (w : Nat) (i : Int) : ofSigned w i < 2 ^ w := by
  unfold ofSigned
  have hpos : (0 : Int) < (2 ^ w : Nat) := Int.natCast_pos.mpr (Nat.two_pow_pos w)
  have hlow := Int.emod_nonneg i (Int.ne_of_gt hpos)
  have hhigh := Int.emod_lt_of_pos i hpos
  omega

section WriteField

variable {p val i : Nat} {w : Wrote} {f : Field}

/-- An unlocked RW field that may be written takes its value. -/
theorem writeField_taken (hacc : f.acc = .rw) (hbase : hbmBase f = false) (hopen : f.level = .e → w.dev.expertOpen p = true) :
    writeField p val noLock w f i = { w with dev := w.dev.fset f (f.held (f.bitsOf val)) i, accepted := true } := by
  have hgate : (f.level == .e && !w.dev.expertOpen p) = false := by
    cases hl : f.level
    · rfl
    · simp [hopen hl]
  unfold writeField
  simp [hacc, hgate, noLock, Field.outside, hbase]

/-- An E field without permission stays; a write that would have changed it is discarded (R16, R477). -/
theorem writeField_shut (hacc : f.acc = .rw) (hlevel : f.level = .e) (hshut : w.dev.expertOpen p = false) :
    writeField p val noLock w f i = { w with discarded := w.discarded || f.bitsOf val != w.dev.fget f i } := by
  unfold writeField
  simp [hacc, hlevel, hshut]

end WriteField

/-- The values that a write of FE_x's 0x040 offers to its two fields. -/
def feTrimVal (val : Nat) : Nat := ofSigned 8 (clampInt (-100) 100 (toSigned 8 (val % 256)))

def feForceVal (val : Nat) : Nat := val / 65536 % 2

theorem feTrimVal_eq (val : Nat) : Reg.fe_FS_TRIM.held (Reg.fe_FS_TRIM.bitsOf val) = feTrimVal val := by
  show ofSigned 8 (clampInt (-100) 100 (toSigned 8 (val / 1 % 256))) = _
  rw [Nat.div_one]
  rfl

/-- The device once FS_TRIM has taken its value. -/
def Dev.feTrimmed (d : Dev) (x val : Nat) : Dev := d.fset Reg.fe_FS_TRIM (feTrimVal val) x

theorem Dev.feTrimmed_expertOpen (d : Dev) (x val p : Nat) : (d.feTrimmed x val).expertOpen p = d.expertOpen p := by
  unfold Dev.feTrimmed Dev.expertOpen Dev.flag
  rw [Dev.fget_fset, Dev.fget_fset, Dev.fget_fset, if_neg, if_neg, if_neg] <;>
    simp only [Field.key, Reg.fe_FS_TRIM, Reg.hdr_EXPERT, Reg.top_OPEN, Reg.life_EXPERT_PERMIT] <;> omega

theorem Dev.feTrimmed_force (d : Dev) (x val : Nat) : (d.feTrimmed x val).fget Reg.fe_BUF_FORCE_ON x = d.fget Reg.fe_BUF_FORCE_ON x := by
  unfold Dev.feTrimmed
  rw [Dev.fget_fset, if_neg]
  simp only [Field.key, Reg.fe_FS_TRIM, Reg.fe_BUF_FORCE_ON]
  omega

/-- What a write of FE_x's 0x040 makes of its fields. -/
theorem Dev.writeFields_feTrim (d : Dev) (who : Requester) (x : Fin 4) (val : Nat) :
    d.writeFields who (0x8040 + 4096 * x) val (fun _ => false) noLock =
      (if d.expertOpen (8 + x) then (d.feTrimmed x val).fset Reg.fe_BUF_FORCE_ON (feForceVal val) x
       else if feForceVal val = d.fget Reg.fe_BUF_FORCE_ON x then d.feTrimmed x val
       else (d.feTrimmed x val).logDiscard who (8 + x) (0x8040 + 4096 * x) val, true) := by
  have hpage : (0x8040 + 4096 * x.val) / 4096 = 8 + x.val := by omega
  have htrim : writeField (8 + x) val noLock { dev := d } Reg.fe_FS_TRIM x = { dev := d.feTrimmed x val, accepted := true } := by
    rw [writeField_taken rfl rfl (by simp [Reg.fe_FS_TRIM]), feTrimVal_eq]
    rfl
  have hforce : Reg.fe_BUF_FORCE_ON.bitsOf val = feForceVal val := rfl
  unfold Dev.writeFields
  dsimp only
  rw [regFields_feTrim, hpage]
  simp only [List.foldl_cons, List.foldl_nil, htrim, Bool.false_eq_true, if_false]
  cases hopen : d.expertOpen (8 + x)
  case true =>
    rw [writeField_taken rfl rfl (by simp [Dev.feTrimmed_expertOpen, hopen])]
    rfl
  case false =>
    rw [writeField_shut rfl rfl (by simp [Dev.feTrimmed_expertOpen, hopen]), hforce]
    simp [Dev.feTrimmed_force]

/-- A write of FE_x's 0x040 on a page that is not frozen counts in CFG_EPOCH. -/
theorem feWrite_trim {d : Dev} (who : Requester) (x : Fin 4) (val : Nat) (hf : d.flag Reg.hdr_FREEZE (8 + x) = false) :
    feWrite who x 0x40 val d = (d.writeFields who (0x8040 + 4096 * x) val (fun _ => false) noLock).1.cfgEpoch (8 + x) := by
  have hoff : (8 + x.val) * 4096 + 0x40 = 0x8040 + 4096 * x.val := by omega
  have hpage : (0x8040 + 4096 * x.val) / 4096 = 8 + x.val := by omega
  have htakes : takesWrites (0x8040 + 4096 * x) = true := by
    unfold takesWrites
    rw [regFields_feTrim]
    rfl
  unfold feWrite
  dsimp only
  rw [if_neg (by decide), hoff]
  unfold Dev.writeWord
  rw [htakes, multiOf_feTrim]
  dsimp only
  unfold Dev.writePlain
  dsimp only
  rw [hpage, hf, Dev.writeFields_feTrim]
  rfl

theorem State.pageWrite_fe (s : State) (who : Requester) (x : Fin 4) (val : Nat) :
    s.pageWrite who (8 + x) 0x40 val = s.onDev (feWrite who x 0x40 val) := by
  unfold State.pageWrite
  rw [if_neg (by omega), if_neg (by omega), if_neg (by omega), if_neg (by omega), if_neg (by omega), if_pos (by omega),
    if_neg (by omega), Nat.add_sub_cancel_left]

/-! ### The multi-word value PPS_LOAD (R21, R22) -/

theorem regFields_ppsW0 : regFields 0x6070 = [(Reg.tbase_PPS_LOAD_W0, 0)] := by decide

theorem regFields_ppsW1 : regFields 0x6074 = [(Reg.tbase_PPS_LOAD_W1, 0)] := by decide

/-- Neither word of PPS_LOAD is an expert field. -/
theorem Dev.shutBy_pps (d : Dev) (off val : Nat) (hoff : off = 0x6070 ∨ off = 0x6074) : d.shutBy off val noLock = false := by
  unfold Dev.shutBy Dev.changesLocked
  rcases hoff with rfl | rfl
  · rw [regFields_ppsW0]
    rfl
  · rw [regFields_ppsW1]
    rfl

/-- A write of W1 is staged for its requester and counts in CFG_EPOCH. -/
theorem tbaseWrite_ppsW1 (d : Dev) (who : Requester) (val : Nat) :
    tbaseWrite who 0x74 val d = (d.stage who 0x6074 val).cfgEpoch 6 := by
  have htakes : takesWrites 0x6074 = true := by decide
  have hmulti : multiOf 0x6074 = some (0x6070, 2) := by decide
  have hwritable : writable 0x6074 = true := by decide
  show d.writeWord who 0x6074 val noLock id = _
  unfold Dev.writeWord
  rw [htakes, hmulti]
  simp only [Bool.not_true, Bool.false_eq_true, if_false, if_neg (show ¬ 0x6074 = 0x6070 by decide)]
  unfold Dev.stageWrite
  rw [Dev.shutBy_pps _ _ _ (.inr rfl), hwritable]
  rfl

/-- The staged W1 of a requester takes effect, where there is one. -/
def Dev.ppsCommitted (d : Dev) (who : Requester) : Dev := d.commitStaged who [0x6074]

theorem Dev.ppsCommitted_none {d : Dev} {who : Requester} (h : KMap.find d.bus.staged (stageKey who 0x6074) = none) :
    d.ppsCommitted who = d := by
  unfold Dev.ppsCommitted Dev.commitStaged
  rw [List.foldl_cons, h]
  rfl

theorem Dev.ppsCommitted_some {d : Dev} {who : Requester} {v : Nat} (h : KMap.find d.bus.staged (stageKey who 0x6074) = some v) :
    d.ppsCommitted who = { d with bus.staged := KMap.del d.bus.staged (stageKey who 0x6074) }.fset Reg.tbase_PPS_LOAD_W1 (v % 2 ^ 32) := by
  have hheld : Reg.tbase_PPS_LOAD_W1.held (Reg.tbase_PPS_LOAD_W1.bitsOf v) = v % 2 ^ 32 := by
    show v / 1 % 2 ^ 32 = _
    rw [Nat.div_one]
  unfold Dev.ppsCommitted Dev.commitStaged
  rw [List.foldl_cons, h, List.foldl_nil, regFields_ppsW1, ← hheld]
  rfl

theorem Dev.ppsCommitted_framed (d : Dev) (who : Requester) :
    Dev.Framed [.bus] [Reg.tbase_PPS_LOAD_W1.key 0] d (d.ppsCommitted who) := by
  cases h : KMap.find d.bus.staged (stageKey who 0x6074)
  case none =>
    rw [Dev.ppsCommitted_none h]
    exact .refl d
  case some v =>
    rw [Dev.ppsCommitted_some h]
    exact ((Dev.Framed.refl d).ofBus (by simp)).fset (by simp)

/-- A write of W0 on a page that is not frozen commits both words and counts in CFG_EPOCH. -/
theorem tbaseWrite_ppsW0 {d : Dev} (who : Requester) (val : Nat) (hf : d.flag Reg.hdr_FREEZE 6 = false) :
    tbaseWrite who 0x70 val d = ((d.ppsCommitted who).fset Reg.tbase_PPS_LOAD_W0 (val % 2 ^ 32)).cfgEpoch 6 := by
  have htakes : takesWrites 0x6070 = true := by decide
  have hmulti : multiOf 0x6070 = some (0x6070, 2) := by decide
  have hfrozen : (d.ppsCommitted who).flag Reg.hdr_FREEZE 6 = false := by
    unfold Dev.flag at hf ⊢
    rw [Dev.fget_congr _ _ ((d.ppsCommitted_framed who).regs _ (by decide))]
    exact hf
  have hheld : Reg.tbase_PPS_LOAD_W0.held (Reg.tbase_PPS_LOAD_W0.bitsOf val) = val % 2 ^ 32 := by
    show val / 1 % 2 ^ 32 = _
    rw [Nat.div_one]
  show d.writeWord who 0x6070 val noLock id = _
  unfold Dev.writeWord
  rw [htakes, hmulti]
  simp only [Bool.not_true, Bool.false_eq_true, if_false, if_true]
  unfold Dev.commitWrite
  rw [Dev.shutBy_pps _ _ _ (.inl rfl), if_neg (by decide)]
  show (d.ppsCommitted who).writePlain who 0x6070 val noLock id = _
  unfold Dev.writePlain Dev.writeFields
  dsimp only
  rw [regFields_ppsW0, if_neg (by simpa using hfrozen)]
  simp only [List.foldl_cons, List.foldl_nil, Bool.false_eq_true, if_false]
  rw [writeField_taken rfl rfl (by simp [Reg.tbase_PPS_LOAD_W0]), hheld]
  rfl

/-! ### The clauses of RegisterWrites -/

/-- A write that does not enable all four bytes changes nothing (R15). -/
theorem execRegisterWrite_partial {s : State} (who : Requester) (off : Nat) {be : BitVec 4} (val : Word) (hon : s.dev.fore.off = false)
    (hbe : be ≠ 15) : ∃ t, exec (.registerWrite who off be val) s = .next t ∧ s.Framed [] [] t := by
  refine ⟨_, congrArg Host.Outcome.next (State.live_on hon _), ?_⟩
  rw [if_neg fun h => hbe h.1]
  exact (State.Framed.refl s).alertNote

/-- A write that enables all four bytes of an aligned register. -/
theorem execRegisterWrite_full {s : State} (who : Requester) {off : Nat} (val : Word) (hon : s.dev.fore.off = false) (hoff : off % 4 = 0) :
    exec (.registerWrite who off 15 val) s = .next (s.bar0Write who off val.toNat).alertNote := by
  refine (congrArg Host.Outcome.next (State.live_on hon _)).trans ?_
  rw [if_pos ⟨rfl, hoff⟩]

theorem execRegisterWrite_frozen {s : State} (who : Requester) {p o : Nat} (val : Word) (hon : s.dev.fore.off = false) (hp : p ≤ 70)
    (hp' : p ≠ 31) (ho : o < 4096) (ho4 : o % 4 = 0) (h8 : o ≠ 0x08) (h10 : o ≠ 0x10) (h14 : o ≠ 0x14)
    (hf : s.dev.flag Reg.hdr_FREEZE p = true) :
    ∃ t, exec (.registerWrite who (4096 * p + o) 15 val) s = .next t ∧ t.dev.ErrHeld p 0xF0 (o + 4096 * who.code) val.toNat ∧
      s.Framed [] (errKeys p) t := by
  refine ⟨_, execRegisterWrite_full who val hon (by omega), ?_⟩
  rw [State.bar0Write_frozen who _ hp hp' ho h8 h10 h14 hf]
  have hheld := s.dev.logDiscard_held who p o val.isLt
  rw [Nat.mod_eq_of_lt ho] at hheld
  exact ⟨hheld, (s.discard_framed who p o val.toNat).alertNote⟩

/-- FS_TRIM's key is none of BUF_FORCE_ON's, CFG_EPOCH's and the error log's, nor is CFG_EPOCH's one of the fields' or the log's. -/
theorem feTrim_keys (x : Nat) :
    Reg.fe_FS_TRIM.key x ∉ Reg.hdr_CFG_EPOCH.key (8 + x) :: Reg.fe_BUF_FORCE_ON.key x :: errKeys (8 + x) ∧
      Reg.hdr_CFG_EPOCH.key (8 + x) ∉ Reg.fe_FS_TRIM.key x :: Reg.fe_BUF_FORCE_ON.key x :: errKeys (8 + x) ∧
      Reg.fe_BUF_FORCE_ON.key x ≠ Reg.hdr_CFG_EPOCH.key (8 + x) := by
  simp only [errKeys, List.mem_cons, List.not_mem_nil, or_false, Field.key, Reg.fe_FS_TRIM, Reg.fe_BUF_FORCE_ON, Reg.hdr_CFG_EPOCH,
    Reg.hdr_ERR_CODE, Reg.hdr_ERR_INJECTED, Reg.hdr_ERR_OVERWRITTEN, Reg.hdr_ERR_VALID, Reg.hdr_ERR_COUNT, Reg.hdr_ERR_DETAIL0,
    Reg.hdr_ERR_DETAIL1, Reg.hdr_ERR_TIME]
  omega

/-- Once FS_TRIM has its value, the rest of the write touches BUF_FORCE_ON or the error log alone. -/
theorem Dev.writeFields_feTrim_framed (d : Dev) (who : Requester) (x : Fin 4) (val : Nat) :
    Dev.Framed [] (Reg.fe_BUF_FORCE_ON.key x :: errKeys (8 + x)) (d.feTrimmed x val)
      (d.writeFields who (0x8040 + 4096 * x) val (fun _ => false) noLock).1 := by
  rw [Dev.writeFields_feTrim]
  refine Dev.Framed.ofIf _ (fun _ => ?_) fun _ => Dev.Framed.ofIf _ (fun _ => ?_) fun _ => ?_
  · exact (Dev.Framed.refl _).fset List.mem_cons_self
  · exact .refl _
  · exact (Dev.Framed.refl _).logDiscard (List.subset_cons_self _ _)

theorem execRegisterWrite_feTrim {s : State} (who : Requester) (x : Fin 4) (val : Word) (hon : s.dev.fore.off = false)
    (hf : s.dev.flag Reg.hdr_FREEZE (8 + x) = false) : exec (.registerWrite who (0x8040 + 4096 * x) 15 val) s =
      .next (State.alertNote { s with
        dev := (s.dev.writeFields who (0x8040 + 4096 * x) val.toNat (fun _ => false) noLock).1.cfgEpoch (8 + x) }) := by
  have hoff : 4096 * (8 + x.val) + 0x40 = 0x8040 + 4096 * x.val := by omega
  rw [execRegisterWrite_full who val hon (by omega), ← hoff,
    State.bar0Write_page who _ (by omega) (by omega) (by decide) (by decide) hf, State.pageWrite_fe, hoff]
  unfold State.onDev
  rw [feWrite_trim who x _ hf]

/-- A write of FE_x's 0x040: FS_TRIM takes its value, and BUF_FORCE_ON where R16 permits it. -/
theorem feTrim_effect {s : State} (who : Requester) (x : Fin 4) (val : Word) (hon : s.dev.fore.off = false)
    (hf : s.dev.flag Reg.hdr_FREEZE (8 + x) = false) :
    ∃ t, exec (.registerWrite who (0x8040 + 4096 * x) 15 val) s = .next t ∧ t.dev.fget Reg.fe_FS_TRIM x = feTrimVal val.toNat ∧
      t.dev.fget Reg.hdr_CFG_EPOCH (8 + x) = (s.dev.fget Reg.hdr_CFG_EPOCH (8 + x) + 1) % 2 ^ 32 ∧
      (s.dev.expertOpen (8 + x) = true → t.dev.fget Reg.fe_BUF_FORCE_ON x = feForceVal val.toNat ∧
        s.Framed [] [Reg.fe_FS_TRIM.key x, Reg.fe_BUF_FORCE_ON.key x, Reg.hdr_CFG_EPOCH.key (8 + x)] t) ∧
      (s.dev.expertOpen (8 + x) = false → feForceVal val.toNat = s.dev.fget Reg.fe_BUF_FORCE_ON x →
        s.Framed [] [Reg.fe_FS_TRIM.key x, Reg.hdr_CFG_EPOCH.key (8 + x)] t) ∧
      (s.dev.expertOpen (8 + x) = false → feForceVal val.toNat ≠ s.dev.fget Reg.fe_BUF_FORCE_ON x →
        t.dev.ErrHeld (8 + x) 0xF0 (0x40 + 4096 * who.code) val.toNat ∧
        s.Framed [] (Reg.fe_FS_TRIM.key x :: Reg.hdr_CFG_EPOCH.key (8 + x) :: errKeys (8 + x)) t) := by
  obtain ⟨hktrim, hkepoch, hkforce⟩ := feTrim_keys x
  have hrest := s.dev.writeFields_feTrim_framed who x val.toNat
  have htrimmed : ∀ ks, Reg.fe_FS_TRIM.key x ∈ ks → Dev.Framed [] ks s.dev (s.dev.feTrimmed x val.toNat) :=
    fun ks hk => (Dev.Framed.refl _).fset hk
  refine ⟨_, execRegisterWrite_feTrim who x val hon hf, ?_, ?_, fun hopen => ?_, fun hopen hsame => ?_, fun hopen hdiff => ?_⟩
  · have hlast : Dev.Framed [] (Reg.hdr_CFG_EPOCH.key (8 + x) :: Reg.fe_BUF_FORCE_ON.key x :: errKeys (8 + x)) (s.dev.feTrimmed x val.toNat)
        ((s.dev.writeFields who (0x8040 + 4096 * x) val.toNat (fun _ => false) noLock).1.cfgEpoch (8 + x)) :=
      (hrest.mono (List.Subset.refl _) (List.subset_cons_self _ _)).cfgEpoch List.mem_cons_self
    refine (Dev.fget_congr _ _ (hlast.regs _ hktrim)).trans ?_
    exact (Dev.fget_fset_same _ _ _ _).trans (Nat.mod_eq_of_lt (ofSigned_lt 8 _))
  · have hboth : Dev.Framed [] (Reg.fe_FS_TRIM.key x :: Reg.fe_BUF_FORCE_ON.key x :: errKeys (8 + x)) s.dev
        (s.dev.writeFields who (0x8040 + 4096 * x) val.toNat (fun _ => false) noLock).1 :=
      (htrimmed _ List.mem_cons_self).trans (hrest.mono (List.Subset.refl _) (List.subset_cons_self _ _))
    exact (Dev.fget_cfgEpoch _ _).trans (by rw [Dev.fget_congr _ _ (hboth.regs _ hkepoch)])
  · rw [Dev.writeFields_feTrim, if_pos hopen]
    refine ⟨(Dev.fget_cfgEpoch_other _ hkforce).trans ((Dev.fget_fset_same _ _ _ _).trans (Nat.mod_mod _ _)), ?_⟩
    exact (State.Framed.withDev (((htrimmed _ (by simp)).fset (by simp)).cfgEpoch (by simp))).alertNote
  · rw [Dev.writeFields_feTrim, if_neg (by simp [hopen]), if_pos hsame]
    exact (State.Framed.withDev ((htrimmed _ (by simp)).cfgEpoch (by simp))).alertNote
  · rw [Dev.writeFields_feTrim, if_neg (by simp [hopen]), if_neg hdiff]
    have hheld := (s.dev.feTrimmed x val.toNat).logDiscard_held who (8 + x) (0x8040 + 4096 * x) val.isLt
    rw [show (0x8040 + 4096 * x.val) % 4096 = 0x40 by omega] at hheld
    refine ⟨hheld.cfgEpoch, (State.Framed.withDev ?_).alertNote⟩
    exact ((htrimmed _ (by simp)).logDiscard fun k hk => by simp [hk]).cfgEpoch (by simp)

/-! Writes of PPS_LOAD on a page that is not frozen. -/

theorem execStagedHighWordWrite_pps {s : State} (who : Requester) (val : Word) (hon : s.dev.fore.off = false)
    (hf : s.dev.flag Reg.hdr_FREEZE 6 = false) :
    ∃ t, exec (.stagedHighWordWrite who 0x6074 val) s = .next t ∧
      t.dev.bus = { s.dev.bus with staged := KMap.put s.dev.bus.staged (stageKey who 0x6074) val.toNat } ∧
      s.Framed [.bus] [Reg.hdr_CFG_EPOCH.key 6] t := by
  have hwrite : s.bar0Write who 0x6074 val.toNat = s.onDev (tbaseWrite who 0x74 val.toNat) :=
    State.bar0Write_page (p := 6) (o := 0x74) who _ (by decide) (by decide) (by decide) (by decide) hf
  refine ⟨_, congrArg Host.Outcome.next (State.live_on hon _), ?_⟩
  rw [if_pos (by decide), hwrite]
  unfold State.onDev
  rw [tbaseWrite_ppsW1]
  exact ⟨rfl, (State.Framed.withDev (((Dev.Framed.refl _).ofBus (by simp)).cfgEpoch (by simp))).alertNote⟩

theorem execMultiwordW0Write_pps {s : State} (who : Requester) (val : Word) (hon : s.dev.fore.off = false)
    (hf : s.dev.flag Reg.hdr_FREEZE 6 = false) :
    ∃ t, exec (.multiwordW0Write who 0x6070 val) s = .next t ∧ t.dev.fget Reg.tbase_PPS_LOAD_W0 = val.toNat ∧
      (∀ v, KMap.find s.dev.bus.staged (stageKey who 0x6074) = some v →
        t.dev.fget Reg.tbase_PPS_LOAD_W1 = v % 2 ^ 32 ∧
        t.dev.bus = { s.dev.bus with staged := KMap.del s.dev.bus.staged (stageKey who 0x6074) }) ∧
      (KMap.find s.dev.bus.staged (stageKey who 0x6074) = none →
        t.dev.fget Reg.tbase_PPS_LOAD_W1 = s.dev.fget Reg.tbase_PPS_LOAD_W1 ∧ t.dev.bus = s.dev.bus) ∧
      s.Framed [.bus] [Reg.tbase_PPS_LOAD_W0.key 0, Reg.tbase_PPS_LOAD_W1.key 0, Reg.hdr_CFG_EPOCH.key 6] t := by
  have hwrite : s.bar0Write who 0x6070 val.toNat = s.onDev (tbaseWrite who 0x70 val.toNat) :=
    State.bar0Write_page (p := 6) (o := 0x70) who _ (by decide) (by decide) (by decide) (by decide) hf
  have hw1 : ∀ d : Dev, ((d.fset Reg.tbase_PPS_LOAD_W0 (val.toNat % 2 ^ 32)).cfgEpoch 6).fget Reg.tbase_PPS_LOAD_W1 =
      d.fget Reg.tbase_PPS_LOAD_W1 := fun d => by
    rw [Dev.fget_cfgEpoch_other _ (by decide), Dev.fget_fset, if_neg (by decide)]
  refine ⟨_, congrArg Host.Outcome.next (State.live_on hon _), ?_⟩
  rw [if_pos (by decide), hwrite]
  unfold State.onDev
  rw [tbaseWrite_ppsW0 who _ hf]
  refine ⟨?_, fun v hv => ?_, fun hnone => ?_, (State.Framed.withDev ?_).alertNote⟩
  · refine (Dev.fget_cfgEpoch_other _ (by decide)).trans ((Dev.fget_fset_same _ _ _ _).trans ((Nat.mod_mod _ _).trans ?_))
    exact Nat.mod_eq_of_lt val.isLt
  · rw [Dev.ppsCommitted_some hv]
    exact ⟨(hw1 _).trans ((Dev.fget_fset_same _ _ _ _).trans (Nat.mod_mod _ _)), rfl⟩
  · rw [Dev.ppsCommitted_none hnone]
    exact ⟨hw1 _, rfl⟩
  · exact (((s.dev.ppsCommitted_framed who).mono (List.Subset.refl _) (by simp)).fset (by simp)).cfgEpoch (by simp)

end Sys2Proof.Machine
end

section
open Sys2Proof Sys2Proof.Machine

/-- Settles O7: each kind of write is that write's lemma. -/
theorem registerWrites : Obligations.RegisterWrites := by
  unfold Obligations.RegisterWrites
  exact ⟨⟨fun s who off be val hon hbe => execRegisterWrite_partial who off val hon hbe,
      fun s who p o val hon hp hp' ho ho4 h8 h10 h14 hf => execRegisterWrite_frozen who val hon hp hp' ho ho4 h8 h10 h14 hf⟩,
    fun s who x val hon hf => feTrim_effect who x val hon hf,
    fun s who val hon hf => execStagedHighWordWrite_pps who val hon hf,
    fun s who val hon hf => execMultiwordW0Write_pps who val hon hf⟩
end

section
/-!
RegisterReads and SlicesRetiredAndFailed, refuted.
-/

namespace Sys2Proof.Machine

/-! ### Fields beyond their widths

A state keeps a register field as a number. Dev.fset cuts what it stores to the field's width, but a statement about every state speaks also of
states whose numbers no width has cut. -/

/-- The device right after cold reset but for one register field. -/
def State.resetBut (f : Field) (i v : Nat) : State := { State.reset with dev := { regs := [(f.key i, v)] } }

/-- What a command that completes has left with a requester. -/
def answerAfter (who : Requester) : Host.Outcome State Fault Refusal → Option Nat
  | .next t => some (KMap.at t.dev.bus.data 0 who.code)
  | _ => none

/-- A field after a command that completes. -/
def fieldAfter (f : Field) (i : Nat) : Host.Outcome State Fault Refusal → Option Nat
  | .next t => some (t.dev.fget f i)
  | _ => none

/-- With EPOCH at 2^16, one beyond its 16 bits, W0 of NOW reads the overflow in the fraction. -/
theorem answerAfter_now_wideEpoch :
    answerAfter .host (exec (.multiwordW0Read .host 0x6050) (.resetBut Reg.tbase_EPOCH 0 65536)) = some 65536 := by
  decide +kernel

/-- With SPARES_LEFT at 5, beyond its 2 bits, the standby's failure leaves 4 cut to 2 bits. -/
theorem fieldAfter_spares_wide :
    fieldAfter Reg.loom_SPARES_LEFT 0 (exec (.idleSpareFail 33) (.resetBut Reg.loom_SPARES_LEFT 0 5)) = some 0 := by
  decide +kernel

end Sys2Proof.Machine
end

section
open Sys2Proof Sys2Proof.Machine

/-- Refutes O8: the statement cuts EPOCH to 16 bits in W0 of NOW and the model does not, which tells where a state holds an EPOCH of 2^16: the read
returns 65,536, the statement says 0. -/
theorem not_registerReads : ¬ Obligations.RegisterReads := by
  unfold Obligations.RegisterReads
  rintro ⟨⟨hnow, -⟩, -⟩
  obtain ⟨t, ht, hdata, -⟩ := hnow (.resetBut Reg.tbase_EPOCH 0 65536) .host rfl
  have hread := answerAfter_now_wideEpoch
  rw [ht] at hread
  have hclaim : KMap.at t.dev.bus.data 0 Requester.host.code = 0 := hdata.trans (by decide +kernel)
  simp [answerAfter, hclaim] at hread

/-- Refutes O28: the statement takes 1 from SPARES_LEFT and the model cuts what remains to the field's 2 bits, which tells where a state holds a
SPARES_LEFT of 5: the failure of the standby, slice 33, leaves 0, the statement says 4. -/
theorem not_slicesRetiredAndFailed : ¬ Obligations.SlicesRetiredAndFailed := by
  unfold Obligations.SlicesRetiredAndFailed
  rintro ⟨-, -, -, -, hstandby, -⟩
  obtain ⟨t, ht, -, -, -, -, hspares, -⟩ := hstandby (.resetBut Reg.loom_SPARES_LEFT 0 5) 33 rfl (by decide +kernel)
    (by unfold Dev.AssayIdle; decide +kernel) rfl
  have hleft := fieldAfter_spares_wide
  rw [ht] at hleft
  have hclaim : t.dev.fget Reg.loom_SPARES_LEFT 0 = 4 := hspares.trans (by decide +kernel)
  simp [fieldAfter, hclaim] at hleft
end

section
/-!
Handshake channels: transfers are delivered once, an expiry is counted and recorded (R27, R28, R412, R514).
-/

namespace Sys2Proof.Machine

/-! ### Counters that saturate (R12, R412) -/

theorem satAdd_lt (w a b : Nat) : satAdd w a b < 2 ^ w := by
  have := Nat.two_pow_pos w
  unfold satAdd
  omega

@[simp] theorem Dev.fget_finc_same (d : Dev) (f : Field) (n i : Nat) : (d.finc f n i).fget f i = satAdd f.width (d.fget f i) n :=
  (Dev.fget_fset_same _ _ _ _).trans (Nat.mod_eq_of_lt (satAdd_lt _ _ _))

theorem Dev.fget_finc_other (d : Dev) {f g : Field} {n i j : Nat} (h : g.key j ≠ f.key i) : (d.finc f n i).fget g j = d.fget g j :=
  (Dev.fget_fset _ _ _ _ _ _).trans (if_neg h)

/-- A page's error record leaves every field outside its log. -/
theorem Dev.fget_logErr_other (d : Dev) {p code a b i : Nat} {f : Field} (h : f.key i ∉ errKeys p) :
    (d.logErr p code a b).fget f i = d.fget f i :=
  Dev.fget_congr _ _ (((Dev.Framed.refl (ps := []) d).logErr (List.Subset.refl _)).regs _ h)

/-- The counts of a page are apart from one another and from its error log. -/
theorem pageCounts_apart (p : Nat) : Reg.hdr_TIMEOUT_COUNT.key p ∉ errKeys p ∧ Reg.hdr_RECOVERY_COUNT.key p ∉ errKeys p ∧
    Reg.hdr_TIMEOUT_COUNT.key p ≠ Reg.hdr_RECOVERY_COUNT.key p := by
  simp only [errKeys, List.mem_cons, List.not_mem_nil, or_false, Field.key, Reg.hdr_TIMEOUT_COUNT, Reg.hdr_RECOVERY_COUNT, Reg.hdr_ERR_CODE,
    Reg.hdr_ERR_INJECTED, Reg.hdr_ERR_OVERWRITTEN, Reg.hdr_ERR_VALID, Reg.hdr_ERR_COUNT, Reg.hdr_ERR_DETAIL0, Reg.hdr_ERR_DETAIL1,
    Reg.hdr_ERR_TIME]
  omega

/-! ### Handshake channels (R27, R28) -/

@[simp] theorem Dev.channel_setChannel (d : Dev) (ch : Nat) (c : Channel) : (d.setChannel ch c).channel ch = c := KMap.at_put_same _ _ _ _

theorem Dev.setChannel_framed (d : Dev) (ch : Nat) (c : Channel) : Dev.Framed [.fore] [] d (d.setChannel ch c) :=
  (Dev.Framed.refl d).ofFore (by simp) rfl rfl

@[simp] theorem State.alertNote_channel (s : State) (ch : Nat) : s.alertNote.dev.channel ch = s.dev.channel ch := rfl

/-- A channel after a transfer with a sequence value: accepted and counted where the value is new. -/
def Channel.transferred (c : Channel) (seq : Bool) (payload : Nat) (acked : Bool) : Channel :=
  { c with
    sent := seq
    accepted := seq
    count := if seq = c.accepted then c.count else c.count + 1
    retained := if acked then none else some payload
    resent := if acked then false else c.resent }

theorem handshakeTransfer_eq (ch : Nat) (seq : Bool) (payload : Nat) (acked : Bool) (d : Dev) :
    handshakeTransfer ch seq payload acked d = d.setChannel ch ((d.channel ch).transferred seq payload acked) := rfl

theorem Channel.transferred_count (c : Channel) (seq : Bool) (payload : Nat) (acked : Bool) :
    (c.transferred seq payload acked).count = c.count + Bool.bit (seq != c.accepted) := by
  unfold Channel.transferred
  by_cases h : seq = c.accepted
  · simp [h, Bool.bit]
  · simp [h, Bool.bit]

/-- The same transfer once more is not counted. -/
theorem Channel.transferred_again (c : Channel) (seq : Bool) (payload : Nat) (acked : Bool) :
    ((c.transferred seq payload acked).transferred seq payload acked).count = (c.transferred seq payload acked).count := if_pos rfl

/-- What an expiry leaves (R28, R412, R514): the channel resends, its page counts and records. -/
def Dev.channelExpired (d : Dev) (ch p : Nat) : Dev :=
  (((d.setChannel ch { d.channel ch with resent := !(d.channel ch).resent }).countTimeout p).countRecovery p).logErr p 0xF1 ch 0

theorem handshakeTimeout_retained {d : Dev} {ch : Nat} (p : Nat) (h : (d.channel ch).retained.isSome = true) :
    handshakeTimeout ch p d = d.channelExpired ch p := by
  unfold handshakeTimeout
  exact if_neg (by simpa [Option.isSome_iff_ne_none] using h)

theorem Dev.channelExpired_channel (d : Dev) (ch p : Nat) :
    (d.channelExpired ch p).channel ch = { d.channel ch with resent := !(d.channel ch).resent } := d.channel_setChannel ch _

theorem Dev.channelExpired_timeouts (d : Dev) (ch p : Nat) :
    (d.channelExpired ch p).fget Reg.hdr_TIMEOUT_COUNT p = satAdd 32 (d.fget Reg.hdr_TIMEOUT_COUNT p) 1 := by
  obtain ⟨htimeout, -, hne⟩ := pageCounts_apart p
  unfold Dev.channelExpired
  rw [Dev.fget_logErr_other _ htimeout]
  exact (Dev.fget_finc_other _ hne).trans (Dev.fget_finc_same _ _ _ _)

theorem Dev.channelExpired_recoveries (d : Dev) (ch p : Nat) :
    (d.channelExpired ch p).fget Reg.hdr_RECOVERY_COUNT p = satAdd 32 (d.fget Reg.hdr_RECOVERY_COUNT p) 1 := by
  obtain ⟨-, hrecovery, hne⟩ := pageCounts_apart p
  unfold Dev.channelExpired
  rw [Dev.fget_logErr_other _ hrecovery]
  exact (Dev.fget_finc_same _ _ _ _).trans (congrArg (satAdd 32 · 1) (Dev.fget_finc_other _ hne.symm))

theorem Dev.channelExpired_framed (d : Dev) (ch p : Nat) :
    Dev.Framed [.fore] (Reg.hdr_TIMEOUT_COUNT.key p :: Reg.hdr_RECOVERY_COUNT.key p :: errKeys p) d (d.channelExpired ch p) :=
  ((((d.setChannel_framed ch _).mono (List.Subset.refl _) (List.nil_subset _)).countTimeout (by simp)).countRecovery (by simp)).logErr
    fun k hk => by simp [hk]

/-! ### The clauses of HandshakeChannels -/

theorem execHandshakeTransfer_live {s : State} (ch : Nat) (seq : Bool) (v : Nat) (acked : Bool) (hon : s.dev.fore.off = false) :
    exec (.handshakeTransfer ch seq v acked) s =
      .next (s.onDev fun d => d.setChannel ch ((d.channel ch).transferred seq v acked)).alertNote :=
  congrArg Host.Outcome.next (State.live_on hon _)

/-- A transfer (R27): its effect, and that sending it again delivers nothing. -/
theorem execHandshakeTransfer_effect {s : State} (ch : Nat) (seq : Bool) (v : Nat) (acked : Bool) (hon : s.dev.fore.off = false) :
    ∃ t, exec (.handshakeTransfer ch seq v acked) s = .next t ∧ (t.dev.channel ch).accepted = seq ∧
      (t.dev.channel ch).count = (s.dev.channel ch).count + Bool.bit (seq != (s.dev.channel ch).accepted) ∧
      (t.dev.channel ch).retained = (if acked then none else some v) ∧
      (∃ u, exec (.handshakeTransfer ch seq v acked) t = .next u ∧ (u.dev.channel ch).count = (t.dev.channel ch).count) ∧
      s.Framed [.fore] [] t := by
  refine ⟨_, execHandshakeTransfer_live ch seq v acked hon, ?_⟩
  simp only [State.alertNote_channel, State.onDev_dev, Dev.channel_setChannel]
  refine ⟨rfl, Channel.transferred_count _ _ _ _, rfl, ⟨_, execHandshakeTransfer_live ch seq v acked hon, ?_⟩,
    (State.Framed.onDev (s.dev.setChannel_framed ch _)).alertNote⟩
  simp only [State.alertNote_channel, State.onDev_dev, Dev.channel_setChannel, Channel.transferred_again]

/-- An expiry over a retained transfer (R28). -/
theorem execHandshakeTimeout_effect {s : State} (ch : Nat) (p : Fin 128) (hon : s.dev.fore.off = false)
    (hretained : (s.dev.channel ch).retained.isSome = true) :
    ∃ t, exec (.handshakeTimeout ch p) s = .next t ∧
      t.dev.channel ch = { s.dev.channel ch with resent := !(s.dev.channel ch).resent } ∧
      t.dev.fget Reg.hdr_TIMEOUT_COUNT p = satAdd 32 (s.dev.fget Reg.hdr_TIMEOUT_COUNT p) 1 ∧
      t.dev.fget Reg.hdr_RECOVERY_COUNT p = satAdd 32 (s.dev.fget Reg.hdr_RECOVERY_COUNT p) 1 ∧
      t.dev.ErrHeld p 0xF1 (ch % 2 ^ 32) 0 ∧
      s.Framed [.fore] (Reg.hdr_TIMEOUT_COUNT.key p :: Reg.hdr_RECOVERY_COUNT.key p :: errKeys p) t := by
  have heq := handshakeTimeout_retained p hretained
  refine ⟨_, congrArg Host.Outcome.next (State.live_on hon _), ?_, ?_, ?_, ?_, (State.Framed.onDev ?_).alertNote⟩
  · rw [State.alertNote_channel, State.onDev_dev, heq, Dev.channelExpired_channel]
  · rw [State.alertNote_fget, State.onDev_dev, heq, Dev.channelExpired_timeouts]
  · rw [State.alertNote_fget, State.onDev_dev, heq, Dev.channelExpired_recoveries]
  · refine State.alertNote_errHeld _ _ _ _ _ ?_
    rw [State.onDev_dev, heq]
    exact Dev.logErr_held _ _ _ _ _
  · rw [heq]
    exact s.dev.channelExpired_framed ch p

end Sys2Proof.Machine
end

section
open Sys2Proof Sys2Proof.Machine

/-- Settles O12: a transfer and an expiry, each by its lemma. -/
theorem handshakeChannels : Obligations.HandshakeChannels := by
  unfold Obligations.HandshakeChannels
  exact ⟨fun s ch seq v acked hon => execHandshakeTransfer_effect ch seq v acked hon,
    fun s ch p hon hretained => execHandshakeTimeout_effect ch p hon hretained⟩
end

section
/-!
SampleClockAndIslands, ArmingAndStopping and AcquisitionCommands, refuted.
-/

namespace Sys2Proof.Machine

/-! ### What a statement leaves out

Each of the three statements holds something unchanged that the model changes in a state that meets its hypotheses and has every field within its
width. -/

/-- What a command that completes leaves of a field outside its frame. -/
theorem fieldAfter_framed {s t : State} {ps : List Part} {ks : List Nat} {f : Field} {i : Nat} (h : s.Framed ps ks t) (hk : f.key i ∉ ks) :
    fieldAfter f i (.next t) = some (s.dev.fget f i) := congrArg some (Dev.fget_congr f i (h.dev.regs _ hk))

/-- The dither register of a DLL after a command that completes. -/
def lfsrAfter (g : Nat) : Host.Outcome State Fault Refusal → Option Nat
  | .next t => some (t.dev.dll g).lfsr
  | _ => none

/-- A stream run in progress on CLK_S: the tick of the next weft has been sampled, DLL_0 is locked and applies dither. -/
def State.ditheredRun : State :=
  { State.reset with
    dev := ({
      clk := { dlls := [(0, { phase := .locked, dither := true, lfsr := 1 })], seen := true }
      loom := { run := some 70, everRun := true, cur := some { samples := [] } } } : Dev).fbit Reg.clk_CLKS_PRESENT true }

/-- As CLK_S is lost the sampled tick passes (R511), and the dither register steps with it (R49). -/
theorem lfsrAfter_clksLost_ditheredRun : lfsrAfter 0 (exec .clksLost .ditheredRun) = some 3 := by
  decide +kernel

/-- An arm waits for its boundary. Ring 0 stored nine wefts in an earlier arm and streams to its spill ring, which has none of them yet; a million
ticks have passed, so that the arm's first index lies beyond them by more than the ring's capacity. -/
def State.rearmedLate : State :=
  { State.reset with
    dev := (((({
      acq := { armPending := true, rings := [(0, { issued := 1152, write := 1152, pos := 1728, fresh := false })] }
      loom := { run := some 70, everRun := true, tick := 1000000 } } : Dev).fbit Reg.acq_ARMED true).fset Reg.acq_ring_SIZE 1024).fset
        Reg.acq_ring_SPILL_SIZE 64).fbit Reg.acq_ring_STREAM_EN true }

/-- The arm boundary loses what the spill ring has not had, and counts the gap (R222). -/
theorem spillGapsAfter_armBoundary_rearmedLate : fieldAfter Reg.ledg_SPILL_GAP_COUNT 0 (exec .armBoundary .rearmedLate) = some 1 := by
  decide +kernel

/-- The link has entered L1 between the doorbell and the consumption of an entry that waits in the admin queue. -/
def State.entryInL1 : State :=
  { State.reset with
    dev := (({
      fore := { running := true }
      qm := { ctx := [(0, { typ := 1, cls := 1, log2 := 4, state := 1, tail := 1, cq := 1 }), (1, { typ := 2, cls := 1, log2 := 4, state := 1 })] }
      } : Dev).fbit Reg.pcie_BME true).fbit Reg.pcie_IN_L1 true }

/-- The entry of a STOP. -/
def stopEntry : List Word := [0x11]

theorem takesCmd_stopEntry : State.entryInL1.dev.TakesCmd 0 0x11 (entryWords stopEntry) := by
  unfold Dev.TakesCmd
  decide +kernel

/-- The completion of the STOP goes out to the host and brings the link out of L1 (R369). -/
theorem inL1After_stop_entryInL1 : fieldAfter Reg.pcie_IN_L1 0 (exec (.stop 0 stopEntry) .entryInL1) = some 0 := by
  decide +kernel

end Sys2Proof.Machine
end

section
open Sys2Proof Sys2Proof.Machine

/-- Refutes O23: the statement says that the loss of CLK_S leaves the dither register of every DLL as it was. Where a tick has been sampled and not
yet emitted, the model lets that tick pass first, and the dither registers step: the register of DLL_0 goes from 1 to 3. -/
theorem not_sampleClockAndIslands : ¬ Obligations.SampleClockAndIslands := by
  unfold Obligations.SampleClockAndIslands
  rintro ⟨⟨hlost, -⟩, -⟩
  obtain ⟨t, ht, -, -, -, -, -, -, hdll, -⟩ := hlost .ditheredRun rfl (by decide +kernel)
  have hstepped := lfsrAfter_clksLost_ditheredRun
  rw [ht] at hstepped
  have hclaim : (t.dev.dll 0).lfsr = 1 := congrArg Dll.lfsr (hdll 0 (by decide))
  simp [lfsrAfter, hclaim] at hstepped

/-- Refutes O37: the statement's frame of the arm boundary shuts the spill tier out. Where a ring that streams to its spill ring is armed again so late
that the new indices pass what is not yet spilled, the model loses that and records the gap: SPILL_GAP_COUNT goes from 0 to 1. -/
theorem not_armingAndStopping : ¬ Obligations.ArmingAndStopping := by
  unfold Obligations.ArmingAndStopping
  rintro ⟨⟨-, hboundary⟩, -⟩
  obtain ⟨t, ht, -, -, -, -, -, -, hframe⟩ := hboundary .rearmedLate rfl rfl rfl (by decide +kernel) rfl (by decide +kernel) (by decide +kernel)
  have hgap := spillGapsAfter_armBoundary_rearmedLate
  rw [ht, fieldAfter_framed hframe (by decide)] at hgap
  exact absurd hgap (by decide +kernel)

/-- Refutes O46: the statement's frame of a completed command holds every field but CMDS_OUT. Where the link has entered L1 after the doorbell, the
completion's write to the host brings it out, and IN_L1 goes from 1 to 0. -/
theorem not_acquisitionCommands : ¬ Obligations.AcquisitionCommands := by
  unfold Obligations.AcquisitionCommands
  rintro ⟨-, hstop, -⟩
  obtain ⟨t, ht, hidle, -⟩ := hstop .entryInL1 0 stopEntry rfl takesCmd_stopEntry
  obtain ⟨-, hframe⟩ := hidle (by decide +kernel)
  have hawake := inL1After_stop_entryInL1
  rw [ht, fieldAfter_framed hframe (by decide)] at hawake
  exact absurd hawake (by decide +kernel)
end

section
/-!
LfsrStep.
-/

namespace Sys2Proof.Machine

theorem bitField_one (w i : Nat) : bitField w i 1 = (w.testBit i).toNat := (Nat.toNat_testBit w i).symm

theorem toNat_xor_toNat (a b : Bool) : a.toNat ^^^ b.toNat = (a ^^ b).toNat := by
  decide +revert

/-- The bit that a step shifts in (R507). -/
def lfsrFeedback (w : Nat) : Bool := ((w.testBit 31 ^^ w.testBit 21) ^^ w.testBit 1) ^^ w.testBit 0

/-- A step drops the old bit 31 and puts the feedback under the bits that remain. -/
theorem lfsrStep_eq (w : Nat) : lfsrStep w = 2 * (w % 2 ^ 31) + (lfsrFeedback w).toNat := by
  unfold lfsrStep
  rw [bitField_one, bitField_one, bitField_one, bitField_one, toNat_xor_toNat, toNat_xor_toNat, toNat_xor_toNat]
  unfold lfsrFeedback
  omega

/-- Below bits that are shifted up by one, a bit stands at place 0. -/
theorem testBit_two_mul_add_toNat_zero (n : Nat) (b : Bool) : (2 * n + b.toNat).testBit 0 = b := by
  cases b <;> simp only [Nat.testBit_zero, Bool.toNat_false, Bool.toNat_true, decide_eq_true_eq, decide_eq_false_iff_not] <;> omega

/-- A bit that is shifted in below does not show at the places above it. -/
theorem testBit_two_mul_add_toNat_succ (n i : Nat) (b : Bool) : (2 * n + b.toNat).testBit (i + 1) = n.testBit i := by
  have hb : b.toNat < 2 := Bool.toNat_lt b
  rw [Nat.testBit_succ, show (2 * n + b.toNat) / 2 = n by omega]

end Sys2Proof.Machine
end

section
open Sys2Proof Sys2Proof.Machine

/-- Settles O22: the step as the shifted register with the feedback under it, read bit by bit. -/
theorem lfsrStep : Obligations.LfsrStep := by
  unfold Obligations.LfsrStep
  intro w i _
  rw [lfsrStep_eq]
  cases i with
  | zero => exact testBit_two_mul_add_toNat_zero _ _
  | succ i =>
    rw [testBit_two_mul_add_toNat_succ, Nat.testBit_mod_two_pow, if_neg (Nat.succ_ne_zero i), Nat.add_sub_cancel]
    by_cases h : i < 31
    · rw [if_pos (by omega), decide_eq_true h, Bool.true_and]
    · rw [if_neg (by omega), decide_eq_false h, Bool.false_and]
end

section
/-!
Dlls, Timebase, WeftEmitTicks and ForegroundRuns, refuted.
-/

namespace Sys2Proof.Machine

/-! ### What a statement leaves out

Each of the four statements holds something unchanged that the model changes in a state that meets its hypotheses. The
states for WeftEmitTicks and ForegroundRuns are of a kind that commands bring about; those for Dlls and Timebase are values of the state's type that no
premise rules out. -/

/-- The note of an answered alert after a command that completes. -/
def alertAfter : Host.Outcome State Fault Refusal → Option (Option (Bool × Bool))
  | .next t => some t.dev.fore.alertAnswered
  | _ => none

/-- The numbers of the edges that are kept after a command that completes. -/
def edgesAfter : Host.Outcome State Fault Refusal → Option (List Nat)
  | .next t => some (t.dev.vern.edges.map (·.id))
  | _ => none

/-- DLL_0 is locked without a frequency reference, and the Assayer's list of runs names a group 4, beyond the four there are: a state keeps the
group of a run as a number. -/
def State.runOfGroupFour : State :=
  { State.reset with
    dev := {
      clk := { dlls := [(0, { phase := .locked })], seen := true }
      assay := { runs := [(4, { phys := 0, pos := none, phase := .live, temp := 0 })] } } }

/-- As the DLL loses lock every live run that is listed waits for STEADY (R56, R102). -/
theorem waitSteadyAfter_dllUnlock_runOfGroupFour :
    fieldAfter Reg.assay_WAIT_STEADY 4 (exec (.dllUnlock 0) .runOfGroupFour) = some 1 := by
  decide +kernel

/-- The device right after cold reset, but for the note of an alert that was answered while both conditions of SMB_ALERT_N held. -/
def State.alertOutdated : State := { State.reset with dev := { fore := { alertAnswered := some (true, true) } } }

/-- Any command drops a note that the conditions do not bear out any more (R500). -/
theorem alertAfter_disciplineSourceValid_alertOutdated :
    alertAfter (exec (.disciplineSourceValid true (0, 0)) .alertOutdated) = some none := by
  decide +kernel

/-- A stream run has sampled its first tick, which is tick 10 since cold reset; the pool still lists an edge of tick 3, from an earlier
run, that was not sent to be converted. -/
def State.edgeOfEarlierRun : State :=
  { State.reset with
    dev := ({
      clk := { dlls := [(0, { phase := .locked })], seen := true }
      loom := { tick := 10, run := some 1, everRun := true, cur := some { samples := [] } }
      vern := {
        edges := [{ id := 0, src := 0, rising := true, tick := 3, tu := 0, acc := 0, inc := 4294967296, epochs := 1 }]
        nextEdge := 1 } } : Dev).fbit Reg.clk_CLKS_PRESENT true }

/-- The tick's evaluation forgets an edge that neither a waiting tick nor the TIC needs. -/
theorem edgesAfter_weftEmit_edgeOfEarlierRun : edgesAfter (exec (.weftEmit []) .edgeOfEarlierRun) = some [] := by
  decide +kernel

/-- A CALIBRATE that is outstanding. -/
def calibrateCmd : Cmd :=
  { id := 1, opcode := 0x20, sq := 0, cq := 1, tag := 0, sqHead := 1, entry := [], result := none }

/-- The link has entered L1 while a CALIBRATE is outstanding, whose group 0 waits for a quiet check. -/
def State.calibrateInL1 : State :=
  { State.reset with
    dev := (({
      assay := { fgWait := 1, cmds := [{ cmd := 1, groups := 1 }] }
      qm := { ctx := [(1, { typ := 2, cls := 1, log2 := 4, state := 1 })], cmds := [calibrateCmd] } } : Dev).fbit Reg.pcie_BME true).fbit
        Reg.pcie_IN_L1 true }

theorem outstanding_calibrateInL1 : State.calibrateInL1.dev.Outstanding calibrateCmd := by
  unfold Dev.Outstanding
  decide +kernel

/-- The completion of the CALIBRATE goes out to the host and brings the link out of L1 (R369). -/
theorem inL1After_cancel_calibrateInL1 : fieldAfter Reg.pcie_IN_L1 0 (exec (.cancel .smbus) .calibrateInL1) = some 0 := by
  decide +kernel

end Sys2Proof.Machine
end

section
open Sys2Proof Sys2Proof.Machine

/-- Refutes O21: the statement's frame of a DLL's unlock has WAIT_STEADY of the four groups alone, for every state, and no premise keeps the runs that
a state lists to them. Where a live run is listed under 4, the model has it wait too: WAIT_STEADY at 4 goes from 0 to 1. -/
theorem not_dlls : ¬ Obligations.Dlls := by
  unfold Obligations.Dlls
  rintro ⟨-, hunlock, -⟩
  obtain ⟨t, ht, -, -, -, -, -, hunmeasured⟩ := hunlock .runOfGroupFour 0 rfl rfl
  obtain ⟨-, hframe⟩ := hunmeasured (by decide +kernel)
  have hwaits := waitSteadyAfter_dllUnlock_runOfGroupFour
  rw [ht, fieldAfter_framed hframe (by decide)] at hwaits
  exact absurd hwaits (by decide +kernel)

/-- Refutes O24: the statement says that DISCIPLINE_SOURCE_VALID without a source leaves the state itself. Every command of the model ends with a look
at the note of an answered alert, which every frame leaves out and this clause does not: where the note does not fit the conditions, it is dropped. -/
theorem not_timebase : ¬ Obligations.Timebase := by
  unfold Obligations.Timebase
  rintro ⟨⟨-, -, hnosource, -⟩, -⟩
  have hdropped := alertAfter_disciplineSourceValid_alertOutdated
  rw [hnosource .alertOutdated true 0 0 rfl (by decide +kernel)] at hdropped
  exact absurd hdropped (by decide)

/-- Refutes O26: the statement's frame of a tick in the first 64 of a run holds the vernier pool unchanged. Where the pool lists an edge of an earlier
tick that nothing waits for, the model forgets it as the tick is handed over. -/
theorem not_weftEmitTicks : ¬ Obligations.WeftEmitTicks := by
  unfold Obligations.WeftEmitTicks
  rintro ⟨-, -, -, hearly, -⟩
  obtain ⟨t, ht, -, -, -, -, -, -, -, -, -, -, hframe⟩ := hearly .edgeOfEarlierRun [] 1 { samples := [] } rfl (by decide +kernel) rfl rfl
    (by decide) rfl (by decide)
  have hvern : t.dev.vern = State.edgeOfEarlierRun.dev.vern := hframe.dev.parts .vern (by decide)
  have hforgotten := edgesAfter_weftEmit_edgeOfEarlierRun
  rw [ht] at hforgotten
  simp [edgesAfter, hvern, State.edgeOfEarlierRun, Dev.fbit, Dev.fset] at hforgotten

/-- Refutes O30: the statement's frame of CANCEL with a calibration command outstanding has, of the fields that a completion may write, CMDS_OUT
alone. Where the link has entered L1 meanwhile, the completion's write to the host brings it out, and IN_L1 goes from 1 to 0. -/
theorem not_foregroundRuns : ¬ Obligations.ForegroundRuns := by
  unfold Obligations.ForegroundRuns
  rintro ⟨-, -, -, -, -, hcancel⟩
  obtain ⟨t, ht, -, -, -, hframe⟩ := hcancel .calibrateInL1 .smbus { cmd := 1, groups := 1 } calibrateCmd rfl (by decide +kernel) rfl rfl
    outstanding_calibrateInL1
  have hawake := inL1After_cancel_calibrateInL1
  rw [ht, fieldAfter_framed hframe (by decide)] at hawake
  exact absurd hawake (by decide +kernel)
end

section
/-!
What reset leaves; wefts with correction bypassed, and the rounding of the correction (R73, R79, R81, R83, R85, R87).
-/

namespace Sys2Proof.Machine

/-! ### The device right after reset (R75, R445, Table 21.1) -/

/-- Nothing is written at reset: every field reads what its Reset column gives. -/
@[simp] theorem State.reset_fget (f : Field) (i : Nat) : State.reset.dev.fget f i = f.rstAt i := rfl

@[simp] theorem State.reset_isDegraded (p : Nat) : State.reset.dev.isDegraded p = false := rfl

@[simp] theorem State.reset_isContained (p : Nat) : State.reset.dev.isContained p = false := by
  simp [Dev.isContained, State.reset, andNot]

/-- Out of reset, with nothing forced, not failed and no page that reports a fault, FAULT_N is high (R420). -/
theorem State.reset_faultLow : State.reset.dev.faultLow = false := by
  have hrunning : State.reset.dev.inReset = false := rfl
  simp [Dev.faultLow, hrunning, Dev.flag, Field.rstAt, Reg.inj_FORCE_FAULT, Reg.top_FAILED]

/-- A slice that is no spare has its physical index as its position (R75). -/
theorem State.reset_logicalPos {s : Nat} (h : s % 34 < 32) : State.reset.dev.fget Reg.slice_LOGICAL_POS s = s % 34 :=
  Nat.mod_eq_of_lt h

/-! ### Values held at limits -/

theorem le_clampInt {lo hi : Int} (h : lo ≤ hi) (v : Int) : lo ≤ clampInt lo hi v ∧ clampInt lo hi v ≤ hi := by
  unfold clampInt
  omega

theorem clampInt_of_mem {lo hi v : Int} (h1 : lo ≤ v) (h2 : v ≤ hi) : clampInt lo hi v = v := by
  unfold clampInt
  omega

/-! ### Offset and gain (R83) -/

/-- The rounding of the product lies within half a unit of 2^-23 of it. -/
theorem fdiv_round_bounds (m : Int) :
    2 * m - 4194304 < 8388608 * (2 * m + 4194304).fdiv 8388608 ∧ 8388608 * (2 * m + 4194304).fdiv 8388608 ≤ 2 * m + 4194304 := by
  rw [Int.fdiv_eq_ediv_of_nonneg _ (by decide)]
  omega

theorem offsetGain_bounds (x offset : Int) (gain : Nat) : -131072 ≤ offsetGain x offset gain ∧ offsetGain x offset gain ≤ 131071 :=
  le_clampInt (by decide) _

/-- Without offset, at a gain of 1, the corrected value is the code in 1/16 LSB. -/
theorem offsetGain_identity {x : Int} (h1 : -2048 ≤ x) (h2 : x ≤ 2047) : offsetGain x 0 (2 ^ 22) = 16 * x := by
  have hround : (2 * ((x * 16 - 0) * ((2 ^ 22 : Nat) : Int)) + 4194304).fdiv 8388608 = 16 * x := by
    rw [Int.fdiv_eq_ediv_of_nonneg _ (by decide)]
    omega
  unfold offsetGain
  rw [hround, clampInt_of_mem (by omega) (by omega)]

/-! ### A tick's samples (R73, R79, R85) -/

/-- A position that is not patched, in a loom whose correction is bypassed, gives its raw code with the identity as its FIR. -/
theorem Dev.sampleOf_bypassed {d : Dev} {g p : Nat} (x : Int) (hbypass : d.flag Reg.loom_CORR_BYPASS g = true) (hplace : d.patched g p = false) :
    d.sampleOf g p x = { b := 16 * x, clip := x == -2048 || x == 2047 } := by
  simp [Dev.sampleOf, Dev.firOf, hbypass, hplace]

/-- The samples of a sampled input's stream come from the 128 slots. -/
theorem sampleSlot_lt {mode x j : Nat} (hmode : mode < 3) (hx : x ∈ sampledInputs mode) (hj : j < samplesPer mode) :
    sampleSlot mode x j < 128 := by
  obtain rfl | rfl | rfl : mode = 0 ∨ mode = 1 ∨ mode = 2 := by omega
  all_goals
    simp only [sampledInputs, samplesPer, sampleSlot, firstLoom, loomsPer, reduceIte, Nat.reduceEqDiff, List.mem_cons, List.not_mem_nil,
      or_false] at hx hj ⊢
    omega

@[simp] theorem TickData.length_stream (t : TickData) (mode x : Nat) : (t.stream mode x).length = samplesPer mode := by
  simp [TickData.stream]

/-- A sample of a stream, as the slices have just sampled it (R73). -/
theorem Dev.getElem_stream_sampleTick (d : Dev) (raw : List (BitVec 12)) {mode x j : Nat} (hslot : sampleSlot mode x j < 128)
    (hj : j < ((d.sampleTick raw).stream mode x).length) :
    ((d.sampleTick raw).stream mode x)[j] =
      d.sampleOf (sampleSlot mode x j / 32) (sampleSlot mode x j % 32) (raw.getD (sampleSlot mode x j) 0).toInt := by
  simp [TickData.stream, Dev.sampleTick, hslot]

/-! ### The patch stage (R81) -/

@[simp] theorem length_patchStage (free : Int) (old : Option (Nat × Int)) (before l : List Sample) :
    (patchStage free old before l).length = l.length := by
  induction l generalizing before with
  | nil => rfl
  | cons s t ih => simp [patchStage, ih]

/-- A sample that is not patched passes the patch stage as it is. -/
theorem getElem_patchStage_of_unpatched (free : Int) (old : Option (Nat × Int)) {l : List Sample} (before : List Sample) {j : Nat}
    (hj : j < l.length) (hown : l[j].patch = false) :
    ((patchStage free old before l)[j]'(by simpa using hj)).b = l[j].b := by
  induction l generalizing before j with
  | nil => cases hj
  | cons s t ih =>
    cases j with
    | zero =>
      have hs : s.patch = false := hown
      simp [patchStage, patchValue, hs]
    | succ j => exact ih (s :: before) (Nat.lt_of_succ_lt_succ hj) hown

/-! ### The FIR stage (R83) -/

@[simp] theorem length_firAll (l : List Sample) (bs : List Int) : (firAll l bs).length = l.length := by
  induction l generalizing bs with
  | nil => rfl
  | cons s t ih => simp [firAll, ih]

/-- Output j is the FIR of sample j over the 16 values from the seventh before it on. -/
theorem getElem_firAll (l : List Sample) (bs : List Int) {j : Nat} (hj : j < l.length) :
    (firAll l bs)[j]'(by simpa using hj) = firStage l[j].taps ((bs.drop j).take 16) := by
  induction l generalizing bs j with
  | nil => cases hj
  | cons s t ih =>
    cases j with
    | zero => rfl
    | succ j =>
      have hrest := ih (bs.drop 1) (Nat.lt_of_succ_lt_succ hj)
      rw [List.drop_drop, Nat.add_comm] at hrest
      exact hrest

/-- The identity FIR rounds a value of whole LSBs back to its code. -/
theorem firStage_identity {support : List Int} {x : Int} (hx : support.getD 7 0 = 16 * x) (h1 : -2048 ≤ x) (h2 : x ≤ 2047) :
    (firStage none support).1 = x := by
  have hround : (16 * x + 8).fdiv 16 = x := by
    rw [Int.fdiv_eq_ediv_of_nonneg _ (by decide)]
    omega
  simp only [firStage, hx, hround]
  exact clampInt_of_mem h1 h2

/-! ### Wefts (R86, R87, R511) -/

/-- The seven values before a weft's first sample: those of the tick before, or its own first value where the run has none. -/
def earlierValues (mode x : Nat) (prev : Option TickData) (ps : List Sample) : List Int :=
  match prev with
  | some t => ((t.stream mode x).drop (samplesPer mode - 7)).map (·.b)
  | none => List.replicate 7 (ps.headD {}).b

theorem seven_le_samplesPer (mode : Nat) : 7 ≤ samplesPer mode := by
  unfold samplesPer loomsPer
  repeat' split
  all_goals omega

@[simp] theorem length_earlierValues (mode x : Nat) (prev : Option TickData) (ps : List Sample) : (earlierValues mode x prev ps).length = 7 := by
  have hn := seven_le_samplesPer mode
  cases prev with
  | none => simp [earlierValues]
  | some t =>
    simp only [earlierValues, List.length_map, List.length_drop, TickData.length_stream]
    omega

/-- The samples of the tick `cur` and of the next one after the patch stage. -/
def patchedStream (mode x tick : Nat) (free : Int) (good : KMap (Nat × Int)) (prev : Option TickData) (cur next : TickData) : List Sample :=
  patchStage free (oldGood mode good x (tick - 1)) (prev.elim [] fun t => t.stream mode x).reverse (cur.stream mode x ++ next.stream mode x)

@[simp] theorem length_patchedStream (mode x tick : Nat) (free : Int) (good : KMap (Nat × Int)) (prev : Option TickData) (cur next : TickData) :
    (patchedStream mode x tick free good prev cur next).length = samplesPer mode + samplesPer mode := by
  simp [patchedStream]

/-- A weft's samples are the FIR stage's outputs over the patch stage's values (R83). -/
theorem weftOf_samples (mode x tick : Nat) (free : Int) (good : KMap (Nat × Int)) (prev : Option TickData) (cur next : TickData) :
    let ps := patchedStream mode x tick free good prev cur next
    (weftOf mode x tick free good prev cur next).samples =
      (firAll (cur.stream mode x) (earlierValues mode x prev ps ++ (ps.take (samplesPer mode + 8)).map (·.b))).map Prod.fst := by
  cases prev <;> rfl

/-- The middle value of the support of sample j is that of sample j. -/
theorem support_middle {before : List Int} (hbefore : before.length = 7) {ps : List Sample} {n j : Nat} (hj : j < n) (hps : j < ps.length) :
    (((before ++ (ps.take (n + 8)).map (·.b)).drop j).take 16).getD 7 0 = ps[j].b := by
  have hbeyond : before.length ≤ j + 7 := by omega
  rw [List.getD_eq_getElem?_getD, List.getElem?_take_of_lt (by decide), List.getElem?_drop, List.getElem?_append_right hbeyond, hbefore,
    Nat.add_sub_cancel, List.getElem?_map, List.getElem?_take_of_lt (by omega), List.getElem?_eq_getElem hps, Option.map_some, Option.getD_some]

/-- Where sample j of a tick is not patched and has the identity as its FIR, and its value is a code in whole LSBs, the weft carries that code. -/
theorem weftOf_sample_identity {mode x tick j : Nat} {free : Int} {good : KMap (Nat × Int)} {prev : Option TickData} {cur next : TickData}
    {code : Int} (hj : j < (cur.stream mode x).length) (hown : (cur.stream mode x)[j].patch = false)
    (htaps : (cur.stream mode x)[j].taps = none) (hcode : (cur.stream mode x)[j].b = 16 * code) (h1 : -2048 ≤ code) (h2 : code ≤ 2047) :
    (weftOf mode x tick free good prev cur next).samples[j]? = some code := by
  have happ : j < (cur.stream mode x ++ next.stream mode x).length := by
    rw [List.length_append]
    omega
  have hps : j < (patchedStream mode x tick free good prev cur next).length := by
    rw [length_patchedStream]
    simpa using happ
  have hvalue : (patchedStream mode x tick free good prev cur next)[j].b = 16 * code := by
    rw [← hcode, ← List.getElem_append_left hj]
    exact getElem_patchStage_of_unpatched _ _ _ happ (by rwa [List.getElem_append_left hj])
  rw [weftOf_samples, List.getElem?_map, List.getElem?_eq_getElem (by simpa using hj), getElem_firAll _ _ hj, htaps]
  refine congrArg some (firStage_identity ?_ h1 h2)
  rw [support_middle (length_earlierValues ..) (by simpa using hj) hps, hvalue]

@[simp] theorem length_weftOf_samples (mode x tick : Nat) (free : Int) (good : KMap (Nat × Int)) (prev : Option TickData) (cur next : TickData) :
    (weftOf mode x tick free good prev cur next).samples.length = samplesPer mode := by
  simp [weftOf_samples]

/-- A raw code is a signed value of 12 bits. -/
theorem rawCode_bounds (c : BitVec 12) : -2048 ≤ c.toInt ∧ c.toInt ≤ 2047 := by
  have hlow := BitVec.le_toInt c
  have hhigh := BitVec.toInt_lt (x := c)
  omega

/-- With every loom's correction bypassed and no position patched a weft carries the raw codes in stream order. -/
theorem weftOf_bypassed {d : Dev} {raw : List (BitVec 12)} {x : Nat} (tick : Nat) (free : Int) (good : KMap (Nat × Int))
    (prev : Option TickData) (next : TickData) (hmode : d.mode < 3) (hbypass : ∀ g < 4, d.flag Reg.loom_CORR_BYPASS g = true)
    (hplace : ∀ g < 4, ∀ p < 32, d.patched g p = false) (hx : x ∈ sampledInputs d.mode) :
    (weftOf d.mode x tick free good prev (d.sampleTick raw) next).samples =
      (List.range (samplesPer d.mode)).map fun j => (raw.getD (sampleSlot d.mode x j) 0).toInt := by
  refine List.ext_getElem (by simp) fun j hj _ => ?_
  rw [length_weftOf_samples] at hj
  have hslot := sampleSlot_lt hmode hx hj
  have hstream : j < ((d.sampleTick raw).stream d.mode x).length := by simpa using hj
  have hsample := d.getElem_stream_sampleTick raw hslot hstream
  rw [Dev.sampleOf_bypassed _ (hbypass _ (by omega)) (hplace _ (by omega) _ (by omega))] at hsample
  obtain ⟨hlow, hhigh⟩ := rawCode_bounds (raw.getD (sampleSlot d.mode x j) 0)
  have hcode := weftOf_sample_identity (tick := tick) (free := free) (good := good) (prev := prev) (next := next) hstream
    (by rw [hsample]) (by rw [hsample]) (by rw [hsample]) hlow hhigh
  rw [List.getElem_map, List.getElem_range]
  exact (List.getElem?_eq_some_iff.mp hcode).2

end Sys2Proof.Machine
end

section
open Sys2Proof Sys2Proof.Machine

/-- Settles O25: the weft by its samples, the corrected value by the rounding of its product. -/
theorem weftCarriesRawCodes : Obligations.WeftCarriesRawCodes := by
  unfold Obligations.WeftCarriesRawCodes
  refine ⟨fun d raw x tick free good prev next hmode hbypass hplace hx _ => weftOf_bypassed tick free good prev next hmode hbypass hplace hx,
    fun x h1 h2 => offsetGain_identity h1 h2, fun x offset gain => ?_⟩
  obtain ⟨hlow, hhigh⟩ := offsetGain_bounds x offset gain
  refine ⟨hlow, hhigh, fun h1 h2 => ?_⟩
  rw [offsetGain, clampInt_of_mem h1 h2]
  exact fdiv_round_bounds _

/-- Settles O2: the device right after reset has nothing written, so that each part reads its default (log entries 2 and 32). -/
theorem resetState : Obligations.ResetState := by
  unfold Obligations.ResetState
  exact ⟨rfl, rfl, rfl, State.reset_fget, fun p => ⟨rfl, rfl, rfl, State.reset_isDegraded p, State.reset_isContained p⟩,
    State.reset_faultLow, rfl, rfl, fun s _ => ⟨rfl, State.reset_logicalPos⟩, rfl, rfl⟩
end

section
/-!
InputModesAndQuietChecks, refuted.
-/

namespace Sys2Proof.Machine

/-! ### What the statement leaves out -/

/-- A counter of the Tally after a command that completes. -/
def countAfter (c : Nat) : Host.Outcome State Fault Refusal → Option Nat
  | .next t => some (KMap.at t.dev.tally.count 0 c)
  | _ => none

/-- The stream that was armed has stopped. Its one segment comes from a trigger on a candidate of unit 0, which is still outstanding (R167): a stop
resolves no candidate (R202). -/
def State.candidateOutstanding : State :=
  { State.reset with
    dev := {
      acq := {
        segs := [(0, {
          num := 0, start := 0, odd := false, ring := 0, state := 1, rings := 1, length := 1024, trigIndex := 512, first := 0, last := 1023,
          stamp := [0, 4, 0], cause := 0, flags := 1, auxSeq := 0 })]
        nextSeg := 1 }
      tseq := { provs := [{ id := 0, kind := .cand 0 0, seg := some 0, deadline := 65536, origin := 0, seqT := 0, stamp := 262144 }] } } }

/-- The change to MODE 1 fails the candidate (R137), and the Tally counts the cancelled trigger: counter 3 of its group 1. -/
theorem countAfter_modeWrite_candidateOutstanding : countAfter 67 (exec (.modeWrite .host 1) .candidateOutstanding) = some 1 := by
  decide +kernel

end Sys2Proof.Machine
end

section
open Sys2Proof Sys2Proof.Machine

/-- Refutes O27: the statement says that an accepted mode change leaves the Tally as it was. Where a candidate is outstanding, the mode change reports
it as failed, and the Tally counts the provisional trigger that is cancelled: the count goes from 0 to 1. -/
theorem not_inputModesAndQuietChecks : ¬ Obligations.InputModesAndQuietChecks := by
  unfold Obligations.InputModesAndQuietChecks
  rintro ⟨⟨-, -, hchange, -⟩, -⟩
  obtain ⟨t, ht, -, -, -, -, -, -, -, -, -, -, -, -, hparts, -⟩ := hchange .candidateOutstanding .host 1 rfl rfl (by decide) rfl (by decide) rfl
  have htally : t.dev.tally = State.candidateOutstanding.dev.tally := hparts .tally (by decide)
  have hcounted := countAfter_modeWrite_candidateOutstanding
  rw [ht, countAfter, htally] at hcounted
  exact absurd hcounted (by decide)
end

section
/-!
TableWindowAccess, BackgroundRuns, BankCommits and VernierPool, refuted.
-/

namespace Sys2Proof.Machine

/-! ### What a statement leaves out

Each of the four statements says of every state what the model does in the states that a run reaches. The counterexamples are values of the state's
type that no premise of theirs rules out: an outdated note, table words beyond 32 bits, a reason of DEGRADED that no command gives the page. -/

/-- A write of TABLE_SEL on a page without tables does nothing itself, but drops a note that the conditions do not bear out any more (R500). -/
theorem alertAfter_tableSelWrite_alertOutdated : alertAfter (exec (.tableSelWrite .host 127 0) .alertOutdated) = some none := by
  decide +kernel

/-- A word of SLICE_QUALITY after a command that completes. -/
def qualityAfter (n w : Nat) : Host.Outcome State Fault Refusal → Option Nat
  | .next t => some (t.dev.quality n w)
  | _ => none

/-- A run in place of slice 32, the calibration spare of group 0, has its results; they were taken at 0 °C. -/
def spareRun : AssayRun := { phys := 32, pos := none, phase := .returning, temp := 0, results := true }

/-- The run is about to end, and word 1 of the slice's SLICE_QUALITY entry holds 2^32, beyond its 32 bits. -/
def State.wideTemperatures : State :=
  { State.reset with dev := { tabs := [(tkey 17 0 0 129, 2 ^ 32)], assay := { runs := [(0, spareRun)] } } }

/-- Figures with an offset residual beyond OFFSET_LIMIT. -/
def offsetOut : QualityFigures := { offsetResid := 32767, gainResid := 0, skewResid := 0 }

/-- The figures' record cuts the word to 32 bits as it stores T_LAST in it. -/
theorem qualityAfter_assayRunReturn_wideTemperatures :
    qualityAfter 32 1 (exec (.assayRunReturn 0 offsetOut) .wideTemperatures) = some 0 := by
  decide +kernel

/-- A commit is asked for, and the offset of slice 0 in the active bank of SLICE_CORR holds 2^32, beyond its 32 bits. -/
def State.wideOffset : State :=
  { State.reset with dev := { tabs := [(tkey 12 0 0 0, 2 ^ 32)], assay := { commitReq := true, loaded := some { base := .identity } } } }

/-- The words of a commit's image do not depend on its SEQ. -/
theorem Dev.bankImage_word_seq (d : Dev) (nv : NonVolatile) (seq w : Nat) : (d.bankImage nv seq).word w = (d.bankImage nv 0).word w := rfl

/-- The image of a commit takes the word as it stands. -/
theorem bankImage_word_wideOffset (seq : Nat) : (State.wideOffset.dev.bankImage State.wideOffset.nv seq).word 0 = 2 ^ 32 := by
  rw [Dev.bankImage_word_seq]
  decide +kernel

/-- What is shown as FAULT_CONTAINED of a page after a command that completes. -/
def containedAfter (p : Nat) : Host.Outcome State Fault Refusal → Option Bool
  | .next t => some (t.dev.isContained p)
  | _ => none

/-- An edge that unit 0 of the vernier pool converts for the trigger. -/
def convertedEdge : Edge := { id := 0, src := 0, rising := true, tick := 0, tu := 0, acc := 0, inc := 0, epochs := 0, unitT := some 0 }

/-- The last conversion of unit 0 has timed out, the next one is running, and the page of the pool is degraded for reason 1. The model gives that page
reason 0 alone, for its retired units. -/
def State.poolDegradedOtherwise : State :=
  { State.reset with
    dev := {
      vern := { jobs := [(0, { edge := 0, tic := false })], timeouts := [(0, 1)], edges := [convertedEdge], nextEdge := 1 }
      fore := { degraded := [(20, 2)] } } }

/-- The unit retires, as the first one: no fault before it took a unit, so that none is contained (R41). -/
theorem containedAfter_convTimeout_poolDegradedOtherwise :
    containedAfter 20 (exec (.convTimeout 0) .poolDegradedOtherwise) = some false := by
  decide +kernel

end Sys2Proof.Machine
end

section
open Sys2Proof Sys2Proof.Machine

/-- Refutes O18: the statement says that on a page without tables a write of TABLE_SEL leaves the state itself. Every command of the model ends with a
look at the note of an answered alert, which every frame leaves out and this clause does not: where the note does not fit the conditions, it is
dropped. -/
theorem not_tableWindowAccess : ¬ Obligations.TableWindowAccess := by
  unfold Obligations.TableWindowAccess
  rintro ⟨-, -, -, -, -, -, -, -, hnotables⟩
  obtain ⟨hsame, -⟩ := hnotables .alertOutdated .host 127 0 0 rfl (by decide +kernel)
  have hdropped := alertAfter_tableSelWrite_alertOutdated
  rw [hsame] at hdropped
  exact absurd hdropped (by decide)

/-- Refutes O29: the statement keeps T_NOW's part of word 1 of a SLICE_QUALITY entry as it stands at the end of a run, and the model cuts the word to
its 32 bits, which tells where a state holds 2^32 there: the word reads 0 afterwards, the statement says 2^32. -/
theorem not_backgroundRuns : ¬ Obligations.BackgroundRuns := by
  unfold Obligations.BackgroundRuns
  rintro ⟨⟨-, -, -, -, -, hreturn, -⟩, -⟩
  obtain ⟨t, ht, -, -, -, -, -, -, -, hword, -⟩ := hreturn .wideTemperatures 0 spareRun offsetOut rfl rfl rfl rfl rfl (by decide +kernel) rfl
    (by decide) rfl (by decide) (by decide)
  have hcut := qualityAfter_assayRunReturn_wideTemperatures
  rw [ht] at hcut
  have hclaim : t.dev.quality 32 1 = 2 ^ 32 := hword.trans (by decide +kernel)
  simp [qualityAfter, hclaim] at hcut

/-- Refutes O31: the statement cuts an offset of SLICE_CORR to 32 bits in the image of a commit and the model does not, which tells where a state holds
2^32 there: the image holds 2^32, the statement says 0. -/
theorem not_bankCommits : ¬ Obligations.BankCommits := by
  unfold Obligations.BankCommits
  rintro ⟨-, hstart, -⟩
  obtain ⟨t, -, -, -, -, hwords, -⟩ := hstart .wideOffset 1 rfl rfl rfl rfl rfl (by decide +kernel)
  have hclaim := hwords 0 (by decide) 0 (by decide) (2 ^ 32) (by decide +kernel) (Or.inl (by decide +kernel))
  exact absurd ((bankImage_word_wideOffset _).symm.trans hclaim) (by decide)

/-- Refutes O33: the statement has a retirement of a unit contained wherever the page is DEGRADED, whatever holds it so. The model contains it where
units retired before hold it (R41): where reason 1 alone holds DEGRADED, FAULT_CONTAINED stays 0. -/
theorem not_vernierPool : ¬ Obligations.VernierPool := by
  unfold Obligations.VernierPool
  rintro ⟨-, htimeout, -⟩
  obtain ⟨t, ht, -, -, -, -, -, -, -, hretire, -⟩ := htimeout .poolDegradedOtherwise 0 { edge := 0, tic := false } convertedEdge rfl rfl rfl rfl
    rfl rfl (by decide)
  obtain ⟨-, -, -, hcontained, -⟩ := hretire (by decide)
  have hclaim : t.dev.isContained 20 = true := hcontained (by decide)
  have hopen := containedAfter_convTimeout_poolDegradedOtherwise
  rw [ht] at hopen
  simp [containedAfter, hclaim] at hopen
end

section
/-!
StateSources and ConditionsAndAutoLevels, refuted.
-/

namespace Sys2Proof.Machine

/-! ### What a statement leaves out

A conversion keeps the SRC_OFFSET of its source from its start (R158, R165), and a write of AUTO_CFG that finds AUTO_EN set does not set it (R141,
R509). -/

/-- The conversion that a unit of the vernier pool runs after a command that completes. -/
def jobAfter (u : Nat) : Host.Outcome State Fault Refusal → Option VernJob
  | .next t => KMap.find t.dev.vern.jobs u
  | _ => none

/-- A stream run is in progress, CMP_A is enabled with its output low, and the SRC_OFFSET of CMP_A is 1,250 fs. -/
def State.offsetSource : State :=
  { State.reset with
    dev := (({ loom := { run := some 70, everRun := true } } : Dev).fbit Reg.trig_cmp_EN true).fset Reg.vern_SRC_OFFSET 1250 }

/-- A rising edge of CMP_A starts a conversion on unit 0, which keeps the offset (R165). -/
theorem jobAfter_comparatorEdge_offsetSource :
    jobAfter 0 (exec (.comparatorEdge 0 true 0) .offsetSource) = some { edge := 0, tic := false, offset := 1250 } := by
  decide

/-- Three writes after reset: AUTO_EN is set on unit 0 of the conditions while its TYPE is 0; COND_CFG gives the unit, which is not enabled, TYPE 1,
outside the list of R139; the second write of AUTO_EN finds it set and is accepted, so that no event of the page is raised. -/
theorem eventAfter_autoEnWrite_typeUnlisted :
    ∃ s t, exec (.autoEnWrite .host 0 1) .reset = .next s ∧ exec (.condCfgWrite .host 0 2) s = .next t ∧ t.dev.fore.off = false ∧
      t.dev.flag Reg.hdr_FREEZE 18 = false ∧ t.dev.autoListed 0 = false ∧
      fieldAfter Reg.hdr_EVENT 18 (exec (.autoEnWrite .host 0 1) t) = some 0 :=
  ⟨_, _, rfl, rfl, by decide⟩

end Sys2Proof.Machine
end

section
open Sys2Proof Sys2Proof.Machine

/-- Refutes O32: the statement gives every conversion that an edge starts the offset 0. The model gives it the SRC_OFFSET of its source, which R158
subtracts as it places the edge: where CMP_A has 1,250 fs, its edge starts a conversion with that offset. -/
theorem not_stateSources : ¬ Obligations.StateSources := by
  unfold Obligations.StateSources
  rintro ⟨-, hedge, -⟩
  obtain ⟨t, ht, -, -, -, htaken⟩ := hedge .offsetSource 0 true 0 rfl (by decide) rfl rfl (by decide)
  obtain ⟨hjob, -⟩ := htaken (by decide) rfl (by decide)
  have hfree : State.offsetSource.dev.vernFree.headD 0 = 0 := by decide
  rw [hfree] at hjob
  have hoffset := jobAfter_comparatorEdge_offsetSource
  have hclaim := hjob.symm.trans ((congrArg (jobAfter 0) ht).symm.trans hoffset)
  exact absurd (congrArg VernJob.offset (Option.some.inj hclaim)) (by decide)

/-- Refutes O34: the statement has every write of AUTO_EN = 1 on a unit outside the list refused with CFG_REFUSED. The model refuses one that sets
AUTO_EN: where the unit's type left the list while its loop was on, the write finds AUTO_EN set, and EVENT stays 0. -/
theorem not_conditionsAndAutoLevels : ¬ Obligations.ConditionsAndAutoLevels := by
  unfold Obligations.ConditionsAndAutoLevels
  rintro ⟨-, hwrite, -⟩
  obtain ⟨-, s, -, -, hon, hopen, hunlisted, hevent⟩ := eventAfter_autoEnWrite_typeUnlisted
  obtain ⟨t, ht, hrefused, -⟩ := hwrite s .host 0 1 hon hopen
  obtain ⟨hraised, -⟩ := hrefused (by decide) hunlisted
  rw [ht] at hevent
  have hclaim : t.dev.fget Reg.hdr_EVENT 18 = 0 := Option.some.inj hevent
  have hset : bitAt 0 Ev.trig_CFG_REFUSED = true := hclaim ▸ hraised
  exact absurd hset (by decide)
end

section
/-!
SequencerTimersAndOutputs, refuted.
-/

namespace Sys2Proof.Machine

/-! ### What the statement leaves out

The start of a pulse on TRIG_OUT_n is source 9 + n of the time-interval counter (R177, Table 07.1), which is told of it when the pulse begins (log
entry 27). -/

/-- The instants of the events on their way to a channel of the time-interval counter after a command that completes. -/
def ticInstantsAfter (n : Nat) : Host.Outcome State Fault Refusal → Option (List Int)
  | .next t => some ((t.dev.ticc n).evs.map (·.at32))
  | _ => none

/-- The pulse of a trigger confirmed at tick 100: it starts 112 ticks later, at tick 212, and has the 8 ticks of WIDTH's reset value (R171). -/
def confirmedPulse : Pulse := { start := 8 * 212, stop := 8 * 220 }

/-- A stream run is in progress, and the next tick is the one at which TRIG_OUT_0 begins its pulse. Channel 0 of the time-interval counter runs in
mode TIMESTAMP on source 9, the pulse starts of TRIG_OUT_0. -/
def State.pulseTimestamped : State :=
  { State.reset with
    dev := ((({
      loom := { tick := 212, run := some 200, everRun := true }
      trig := { pulses := [(0, [confirmedPulse])] }
      tic := { ch := [(0, { running := true })] } } : Dev).fset Reg.tic_ch_MODE 6).fset Reg.tic_ch_SRC_A 9).fsetBit Reg.tic_RUNNING 0 true }

/-- As the pulse begins, the channel has its start, tick 212, as an event (R177). -/
theorem ticInstantsAfter_trigOutPulse_pulseTimestamped :
    ticInstantsAfter 0 (exec (.trigOutPulse 0) .pulseTimestamped) = some [212 * 2 ^ 32] := by
  decide +kernel

end Sys2Proof.Machine
end

section
open Sys2Proof Sys2Proof.Machine

/-- Refutes O35: the statement's frame of a pulse that begins shuts the time-interval counter out. Where a channel of it runs on the pulse starts of
that output, the model gives the channel the start as an event, which R177 asks for: the channel has one event instead of none. -/
theorem not_sequencerTimersAndOutputs : ¬ Obligations.SequencerTimersAndOutputs := by
  unfold Obligations.SequencerTimersAndOutputs
  rintro ⟨-, -, -, -, hpulse, -⟩
  obtain ⟨t, ht, -, -, -, -, hframe⟩ := hpulse .pulseTimestamped 0 confirmedPulse [] rfl rfl rfl (by decide)
  have htic : t.dev.tic = State.pulseTimestamped.dev.tic := hframe.dev.parts .tic (by decide)
  have htold := ticInstantsAfter_trigOutPulse_pulseTimestamped
  rw [ht, ticInstantsAfter, Dev.ticc, htic] at htold
  exact absurd htold (by decide)
end

section
/-!
TimeIntervalCounter, refuted.
-/

namespace Sys2Proof.Machine

/-! ### What the statement leaves out

The records of a channel that wait for its STREAM queue are staged in the channel's FIFO (R190): they share its 64 places with the results. -/

/-- The results in the FIFO of a channel of the time-interval counter after a command that completes. -/
def ticResultsAfter (n : Nat) : Host.Outcome State Fault Refusal → Option (List (Nat × Nat))
  | .next t => some (t.dev.ticc n).fifo
  | _ => none

/-- The record of a FREQUENCY gate of channel 0 that held no edge: 0 with NO_SIGNAL, result k since the arm (R186, Table 07.4). -/
def noSignalRecord (k : Nat) : StreamRec :=
  ticRecord 0 (0, ticW2 { noSignal := true } false false false false 3 k)

/-- Channel 0 measured the frequency of TRIG_OUT_0's pulses with TO_QUEUE at 1; there was no pulse, and 64 results wait for queue 0, which nobody
made. The channel was then stopped, which keeps what is stored (R187), and runs again with TO_QUEUE at 0: no result is in its FIFO, and its first
gate has lapsed. -/
def State.fifoStaged : State :=
  { State.reset with
    dev := ((({
      loom := { tick := 200000000, run := some 200, everRun := true }
      qm := { streams := [(0, (List.range 64).map noSignalRecord)] }
      tic := { ch := [(0, { running := true, lapsed := true })] } } : Dev).fset Reg.tic_ch_MODE 3).fset Reg.tic_ch_SRC_A 9).fsetBit Reg.tic_RUNNING 0
        true }

/-- The result of the lapsed gate finds the FIFO full of staged records and is lost, which LOST_COUNT shows (R189). -/
theorem ticResultsAfter_ticNoSignal_fifoStaged :
    ticResultsAfter 0 (exec (.ticNoSignal 0) .fifoStaged) = some [] ∧
      fieldAfter Reg.tic_ch_LOST_COUNT 0 (exec (.ticNoSignal 0) .fifoStaged) = some 1 := by
  decide

end Sys2Proof.Machine
end

section
open Sys2Proof Sys2Proof.Machine

/-- Refutes O36: the statement has the result of a lapsed gate stored wherever fewer than 64 results are in the FIFO. The model, by R190, has the
records that wait for the queue take places of the FIFO too: where 64 of them wait, the result is lost and the FIFO stays empty. -/
theorem not_timeIntervalCounter : ¬ Obligations.TimeIntervalCounter := by
  unfold Obligations.TimeIntervalCounter
  rintro ⟨-, -, -, -, -, hlapsed, -⟩
  obtain ⟨t, ht, hstored, -⟩ := hlapsed .fifoStaged 0 rfl rfl rfl (by decide) (by decide)
  have hlost : (t.dev.ticc (0 : Fin 8)).fifo = [] := by
    have hresults := ticResultsAfter_ticNoSignal_fifoStaged.1
    rw [ht] at hresults
    exact Option.some.inj hresults
  rw [hlost] at hstored
  exact absurd hstored (by decide)
end

section
/-!
CaptureAndLedger and SpillTier, refuted.
-/

namespace Sys2Proof.Machine

/-! ### What the statements leave out

A chain that restarts forgets the FIR swaps it has seen (R227, R234). A write to the spill tier is a write to the host, which brings the link out of
L1 (R194, R369). -/

/-- The FIR swaps that the outputs of a decimator chain still reach behind, after a command that completes. -/
def firSwapsAfter (c : Nat) : Host.Outcome State Fault Refusal → Option (List (Nat × List Int))
  | .next t => some (t.dev.chain c).banks
  | _ => none

/-- The taps of a FIR at cold reset: h[31] = 2^14, every other tap 0 (R234). -/
def unitTaps : List Int := List.replicate 31 0 ++ 16384 :: List.replicate 32 0

/-- Chain 0 filters the stream of IN_A on a device that is not armed. It has received wefts since its restart, and its FIR table was swapped at tick
100: outputs that began before that tick keep the taps of reset. -/
def State.firJustSwapped : State :=
  { State.reset with
    dev := (((({
      loom := { tick := 100, run := some 70, everRun := true }
      chains := [(0, { r0 := some 0, next := 12800 })] } : Dev).fbit Reg.deci_dch_EN true).fset Reg.deci_dch_MODE 4).fset
        Reg.deci_dch_RATIO_M1 15).firSwapped 0 unitTaps }

/-- An accepted write of RATIO_M1 restarts the chain: what it knew of swaps before the restart is gone (R227). -/
theorem firSwapsAfter_chainConfigWrite_firJustSwapped :
    (State.firJustSwapped.dev.chain 0).banks = [(100, unitTaps)] ∧
      firSwapsAfter 0 (exec (.chainConfigWrite .host 0x104 31) .firJustSwapped) = some [] := by
  decide

/-- A device that is no longer armed: ring 4 stored one write block, 16 extremes of chain 0, and streams to its spill ring, the first 2 MiB of the one
extent of SPILL_MAP, which has not had the block yet. Not armed, the device may ask for L1 (R369), and the link has entered it. -/
def State.streamInL1 : State :=
  { State.reset with
    dev := (((((((({
      acq := { rings := [(4, { issued := 16, write := 16, pos := 48, fresh := false })] } } : Dev).fset Reg.deci_dch_MODE 1).fset
        Reg.deci_dch_RATIO_M1 1).fset Reg.acq_ring_SIZE 1024 4).fset Reg.acq_ring_SPILL_SIZE 1 4).fbit Reg.acq_ring_STREAM_EN true 4).tsetWords
          23 0 0 0 [0x100000, 0, 1, 1]).fbit Reg.pcie_DL_UP true).fbit Reg.pcie_IN_L1 true }

/-- The block goes out to the host's memory and brings the link out of L1 (R369). -/
theorem inL1After_spillStreamWrite_streamInL1 :
    State.streamInL1.dev.fget Reg.pcie_IN_L1 = 1 ∧
      fieldAfter Reg.pcie_IN_L1 0 (exec (.spillStreamWrite 4 16) .streamInL1) = some 0 := by
  decide

end Sys2Proof.Machine
end

section
open Sys2Proof Sys2Proof.Machine

/-- Refutes O38: the statement has a chain that restarts keep the FIR swaps it has seen since the restart before. The model forgets them: where the
FIR table was swapped once, a new ratio leaves none of that. -/
theorem not_captureAndLedger : ¬ Obligations.CaptureAndLedger := by
  rintro ⟨-, -, hchain⟩
  obtain ⟨t, ht, -, hrestart⟩ := hchain .firJustSwapped .host 0 31 rfl (by decide) rfl
  obtain ⟨-, hkept, -⟩ := hrestart (by decide)
  obtain ⟨hbefore, hafter⟩ := firSwapsAfter_chainConfigWrite_firJustSwapped
  have hclaim : (t.dev.chain 0).banks = [(100, unitTaps)] := (congrArg Chain.banks hkept).trans hbefore
  have hlost : (t.dev.chain 0).banks = [] := Option.some.inj ((congrArg (firSwapsAfter 0) ht).symm.trans hafter)
  exact absurd (hclaim.symm.trans hlost) (List.cons_ne_nil _ _)

/-- Refutes O39: the statement's frame of a spill stream's write holds every field. Where the link has entered L1, the write to the host brings it out,
and IN_L1 goes from 1 to 0. -/
theorem not_spillTier : ¬ Obligations.SpillTier := by
  rintro ⟨-, -, -, hstream, -⟩
  obtain ⟨t, ht, -, -, hframe⟩ := hstream .streamInL1 4 16 rfl (by decide) (by decide) (by decide) rfl rfl (by decide) (by decide)
  obtain ⟨hasleep, hawake⟩ := inL1After_spillStreamWrite_streamInL1
  have hkept : fieldAfter Reg.pcie_IN_L1 0 (.next t) = some 1 := (fieldAfter_framed hframe (by decide)).trans (congrArg some hasleep)
  exact absurd (hkept.symm.trans ((congrArg (fieldAfter Reg.pcie_IN_L1 0) ht).symm.trans hawake)) (by decide)
end

section
/-!
TillPartitions and TillDumpsAndLoads, refuted.
-/

namespace Sys2Proof.Machine

/-! ### What the statements leave out

The Till has 96 units, and a write to ALLOC of an idle partition is taken whatever it holds: BASE_UNIT and UNITS are judged as RUN is set (R249,
R270). Until then a partition may stand on a unit that the Till does not have. No bank holds its points, and they read 0 whatever is stored. -/

/-- Word w of partition k's image, of shape sh, after a command that completes. -/
def imageWordAfter (k : Nat) (sh : TillShape) (w : Nat) : Host.Outcome State Fault Refusal → Option Nat
  | .next t => some (t.tillGet k sh w)
  | _ => none

/-- The shape of an ENVELOPE partition with the POINTS and UNITS of reset, on unit 96: the Till's last is 95. -/
def shapeBeyondTill : TillShape := { mode := 1, points := 1024, rows := 0, units := 1, base := 96 }

/-- Two writes after reset, of ALLOC and of CFG with RUN at 0, give partition 0 that shape. CLEAR is taken, as the partition is idle, and point 0
reads 0 after it. -/
theorem imageWordAfter_clear_beyondTill :
    ∃ s t, exec (.registerWrite .host 0x19104 15 0x160) .reset = .next s ∧ exec (.registerWrite .host 0x19100 15 2) s = .next t ∧
      t.dev.fore.off = false ∧ t.dev.flag Reg.hdr_FREEZE 25 = false ∧ t.dev.partIs 0 = 0 ∧ t.dev.shape 0 = shapeBeyondTill ∧
      imageWordAfter 0 shapeBeyondTill 0 (exec (.clear .host 0) t) = some 0 :=
  ⟨_, _, rfl, rfl, by decide⟩

/-- After the same writes a clearing snapshot is requested; its sweep falls due at once, as no record is being read (R267). The sweep starts, and point
0 reads 0 after it. -/
theorem imageWordAfter_dumpSweepStart_beyondTill :
    ∃ s t u, exec (.registerWrite .host 0x19104 15 0x160) .reset = .next s ∧ exec (.registerWrite .host 0x19100 15 2) s = .next t ∧
      exec (.snap .host 0 true) t = .next u ∧ u.dev.fore.off = false ∧ (u.dev.part 0).due = some (false, true) ∧ (u.dev.part 0).sweep = none ∧
      u.dev.shape 0 = shapeBeyondTill ∧ imageWordAfter 0 shapeBeyondTill 0 (exec (.dumpSweepStart 0) u) = some 0 :=
  ⟨_, _, _, rfl, rfl, rfl, by decide⟩

/-- The clear value of an ENVELOPE partition's point is not 0 (Table 10.2). -/
theorem imageWordAfter_ne_zero_of_cleared {sh : TillShape} {s t : State} (hmode : sh.mode = 1)
    (hword : t.tillGet 0 sh 0 = (sh.cleared 0).getD (s.tillGet 0 sh 0)) : imageWordAfter 0 sh 0 (.next t) ≠ some 0 := by
  have hcleared : sh.cleared 0 = some 0x80007FFF := if_pos hmode
  rw [hcleared, Option.getD_some] at hword
  intro hread
  exact absurd (hword.symm.trans (Option.some.inj hread)) (by decide)

end Sys2Proof.Machine
end

section
open Sys2Proof Sys2Proof.Machine

/-- Refutes O40: the statement has CLEAR give every point of an idle partition its clear value, wherever the partition stands. Where BASE_UNIT names
unit 96, which R249 forbids and R270 refuses only as RUN is set, nothing holds the points: point 0 of an ENVELOPE partition reads 0 after CLEAR, the
statement says 0x80007FFF. -/
theorem not_tillPartitions : ¬ Obligations.TillPartitions := by
  rintro ⟨⟨-, -, hclear, -⟩, -⟩
  obtain ⟨-, s, -, -, hon, hopen, hidle, hshape, hread⟩ := imageWordAfter_clear_beyondTill
  obtain ⟨t, ht, -, hcleared⟩ := hclear s .host 0 hon hopen
  rw [show s.dev.shape (0 : Fin 16) = shapeBeyondTill from hshape] at hcleared
  obtain ⟨-, -, -, -, -, -, -, hwords, -⟩ := hcleared hidle (.inr (by decide))
  exact imageWordAfter_ne_zero_of_cleared rfl (hwords 0 (by decide)) (ht ▸ hread)

/-- Refutes O41: the statement has a clearing sweep leave every point at its clear value, wherever the partition stands. Of an idle ENVELOPE partition
whose BASE_UNIT names unit 96 a clearing snapshot may be requested all the same (R267), and point 0 reads 0 after its sweep has started, the
statement says 0x80007FFF. -/
theorem not_tillDumpsAndLoads : ¬ Obligations.TillDumpsAndLoads := by
  rintro ⟨hsweep, -⟩
  obtain ⟨-, -, s, -, -, -, hon, hdue, hfree, hshape, hread⟩ := imageWordAfter_dumpSweepStart_beyondTill
  have hstarted := hsweep s 0 false true hon hdue hfree
  rw [show s.dev.shape (0 : Fin 16) = shapeBeyondTill from hshape] at hstarted
  obtain ⟨t, ht, -, -, -, -, hclears⟩ := hstarted (.inr (by decide))
  obtain ⟨-, hwords, -⟩ := hclears rfl
  exact imageWordAfter_ne_zero_of_cleared rfl (hwords 0 (by decide)) (ht ▸ hread)
end

section
/-!
TicketsAdmittedAndDispatched: a ticket entry is presented, admitted and dispatched (R279 to R281, R284, R299, R302, R311).
-/

namespace Sys2Proof.Machine

/-! ### What follows the ticket store (Table 11.8) -/

/-- TICKETS_OUT counts the stored tickets. -/
theorem Dev.ticketsOut_benchStatus (d : Dev) :
    d.benchStatus.fget Reg.benchg_TICKETS_OUT = d.bench.tickets.length % 2 ^ Reg.benchg_TICKETS_OUT.width := by
  unfold Dev.benchStatus
  rw [Dev.fget_fset, if_neg (by decide), Dev.fget_fset, if_neg (by decide), Dev.fget_fset_same]

theorem Dev.Framed.benchStatus {ps : List Part} {ks : List Nat} {d e : Dev} (h : Dev.Framed ps ks d e) (hk : ticketKeys ⊆ ks) :
    Dev.Framed ps ks d e.benchStatus := by
  unfold Dev.benchStatus
  exact ((h.fset (hk (by simp [ticketKeys]))).fset (hk (by simp [ticketKeys]))).fset (hk (by simp [ticketKeys]))

/-! ### Readers of segments (R212, R281) -/

theorem Dev.readSeg_eq (d : Dev) (n : Nat) (more : Bool) : ∃ a, d.readSeg n more = { d with acq := a } := by
  unfold Dev.readSeg
  cases d.seg n with
  | none => exact ⟨d.acq, rfl⟩
  | some g => exact ⟨_, rfl⟩

/-- Holding segments changes the capture state alone. -/
theorem Dev.foldl_readSeg_eq (l : List Nat) (d : Dev) (more : Bool) :
    ∃ a, l.foldl (fun (d : Dev) n => d.readSeg n more) d = { d with acq := a } := by
  induction l generalizing d with
  | nil => exact ⟨d.acq, rfl⟩
  | cons n ns ih =>
    obtain ⟨a, ha⟩ := d.readSeg_eq n more
    rw [List.foldl_cons, ha]
    exact ih _

/-! ### TICKET (R279, R311) -/

/-- Whether an entry of a queue is presented: the queue is a WORK queue, or a running SUBMIT queue that holds it, the entry is a ticket, and the queue
has presented none that waits. -/
def Dev.presents (d : Dev) (q : Nat) (ws : List Nat) : Prop :=
  (isWork q = true ∨ (d.qctx q).typ = 1 ∧ (d.qctx q).state = 1 ∧ (d.qctx q).used ≠ 0 ∧ d.fetches q = true) ∧ ws.headD 0 % 256 = 0x80 ∧
    ∀ p ∈ d.bench.offered, p.1 ≠ q

theorem offerTicket_of_presents {d : Dev} {q : Nat} {ws : List Nat} (h : d.presents q ws) :
    offerTicket q ws d =
      { d with bench.offered := d.bench.offered ++ [(q, (List.range 16).map fun k => ws.getD k 0 % 2 ^ 32)] } := by
  refine if_pos ?_
  obtain ⟨hqueue, hop, hnew⟩ := h
  simp only [Bool.and_eq_true, Bool.or_eq_true, beq_iff_eq, bne_iff_ne, Bool.not_eq_true', List.any_eq_false]
  exact ⟨⟨hqueue.imp id fun ⟨htyp, hstate, hused, hfetch⟩ => ⟨⟨⟨htyp, hstate⟩, hused⟩, hfetch⟩, hop⟩, hnew⟩

theorem offerTicket_of_not_presents {d : Dev} {q : Nat} {ws : List Nat} (h : ¬ d.presents q ws) : offerTicket q ws d = d := by
  refine if_neg fun hc => h ?_
  simp only [Bool.and_eq_true, Bool.or_eq_true, beq_iff_eq, bne_iff_ne, Bool.not_eq_true', List.any_eq_false] at hc
  obtain ⟨⟨hqueue, hop⟩, hnew⟩ := hc
  exact ⟨hqueue.imp id fun ⟨⟨⟨htyp, hstate⟩, hused⟩, hfetch⟩ => ⟨htyp, hstate, hused, hfetch⟩, hop, fun p hp => hnew p hp⟩

/-- The words of an entry are 32 bits wide. -/
theorem getD_toNat_mod (entry : List Word) (k : Nat) :
    (entry.map BitVec.toNat).getD k 0 % 2 ^ 32 = (entry.map BitVec.toNat).getD k 0 := by
  refine Nat.mod_eq_of_lt ?_
  rw [List.getD_eq_getElem?_getD, List.getElem?_map]
  cases entry[k]? with
  | none => decide
  | some w => exact w.isLt

theorem execTicket_effect (s : State) (q : Nat) (entry : List Word) (hon : s.dev.fore.off = false) :
    let ok := s.dev.presents q (entry.map BitVec.toNat)
    ∃ t, exec (.ticket q entry) s = .next t ∧ (¬ ok → s.Framed [] [] t) ∧
      (ok → t.dev.bench = { s.dev.bench with
          offered := s.dev.bench.offered ++ [(q, (List.range 16).map fun k => (entry.map BitVec.toNat).getD k 0)] } ∧
        s.Framed [.bench] [] t) := by
  refine ⟨_, congrArg Host.Outcome.next (State.live_on hon _), fun hno => State.Framed.alertNote (.onDev ?_),
    fun hok => ⟨?_, State.Framed.alertNote (.onDev ?_)⟩⟩
  · rw [offerTicket_of_not_presents hno]
    exact .refl _
  · rw [State.alertNote_bench, State.onDev_dev, offerTicket_of_presents hok]
    simp only [getD_toNat_mod]
  · rw [offerTicket_of_presents hok]
    exact (Dev.Framed.refl _).ofBench (by simp)

/-! ### TICKET_ADMIT (R279 to R281, R302) -/

/-- The ticket that admission stores for words with a status: it gets the next numbers of the store and of its order stream, and one that may run
holds those of its segments whose windows are held (R281, R302). -/
def Dev.admitted (d : Dev) (ws : List Nat) (sq sqHead st : Nat) : Ticket :=
  let w : TicketWords := { ws := ws }
  { id := d.bench.nextId
    words := ws
    sq := sq
    sqHead := sqHead
    seq := KMap.at d.bench.nextSeq 0 w.destQ
    holds := if st = 0 then w.segs.filter fun n => (d.seg n).any fun g => g.held else []
    out := if st = 0 then none else some { status := st, result := 0 } }

/-- The store with one more ticket. -/
def Dev.storeTicket (d : Dev) (x : Ticket) : Dev :=
  { d with
    bench.tickets := d.bench.tickets ++ [x]
    bench.nextId := d.bench.nextId + 1
    bench.nextSeq := KMap.put d.bench.nextSeq x.stream (x.seq + 1) }.benchStatus

/-- A ticket enters the store and holds its segments. -/
def Dev.takeIn (d : Dev) (x : Ticket) : Dev := x.holds.foldl (fun (d : Dev) n => d.readSeg n true) (d.storeTicket x)

theorem Dev.takeIn_eq (d : Dev) (x : Ticket) : ∃ a, (x.holds = [] → a = d.acq) ∧ d.takeIn x = { d.storeTicket x with acq := a } := by
  obtain ⟨a, ha⟩ := Dev.foldl_readSeg_eq x.holds (d.storeTicket x) true
  refine ⟨a, fun hnone => ?_, ha⟩
  rw [hnone] at ha
  exact (congrArg Dev.acq ha).symm

/-- Admission with a check of the segments stores the ticket of its status (R279, R281). -/
theorem State.takeTicket_eq (s : State) (ws : List Nat) (sq sqHead cls grant : Nat) :
    s.takeTicket ws sq sqHead cls grant true =
      s.onDev fun d => d.takeIn (s.dev.admitted ws sq sqHead (s.admitStatus { ws := ws } cls grant true)) := by
  have hheld : (fun n => match s.dev.seg n with | some g => g.held || !true | none => false) = fun n => (s.dev.seg n).any fun g => g.held := by
    funext n
    cases s.dev.seg n with
    | none => rfl
    | some g => exact Bool.or_false _
  exact congrArg (fun held : Nat → Bool =>
    let x := s.dev.admitted ws sq sqHead (s.admitStatus { ws := ws } cls grant true)
    s.onDev fun d => d.takeIn { x with holds := if s.admitStatus { ws := ws } cls grant true = 0 then x.t.segs.filter held else [] }) hheld

/-- The device once a presented entry is consumed: none is presented, and the queues stand as `qm`. -/
def Dev.consumedEntry (d : Dev) (qm : QmState) : Dev := { d with bench.offered := [], qm := qm }

theorem Dev.consumedEntry_framed (d : Dev) (qm : QmState) : Dev.Framed [.bench, .qm, .acq] ticketKeys d (d.consumedEntry qm) :=
  ((Dev.Framed.refl (ps := [.bench, .qm, .acq]) (ks := ticketKeys) d).ofBench (x := { d.bench with offered := [] }) (by simp)).ofQm (by simp)

/-- The checks of Table 11.2 look at no queue and at no presented entry. -/
theorem State.admitStatus_consumedEntry (s : State) (qm : QmState) (w : TicketWords) (cls grant : Nat) :
    (s.onDev fun d => d.consumedEntry qm).admitStatus w cls grant true = s.admitStatus w cls grant true := rfl

/-- Admission of a ticket once its entry is consumed (R280). -/
theorem State.takeTicket_consumedEntry (s : State) (qm : QmState) (ws : List Nat) (sq sqHead cls grant : Nat) :
    let x := s.dev.admitted ws sq sqHead (s.admitStatus { ws := ws } cls grant true)
    let t := (s.onDev fun d => d.consumedEntry qm).takeTicket ws sq sqHead cls grant true
    t.dev.bench.tickets = s.dev.bench.tickets ++ [x] ∧ t.dev.bench.offered = [] ∧ t.dev.bench.nextId = s.dev.bench.nextId + 1 ∧
      KMap.at t.dev.bench.nextSeq 0 x.stream = x.seq + 1 ∧ t.dev.qm = qm ∧
      t.dev.fget Reg.benchg_TICKETS_OUT = (s.dev.bench.tickets.length + 1) % 2 ^ Reg.benchg_TICKETS_OUT.width ∧
      (x.holds = [] → t.dev.acq = s.dev.acq) ∧ s.Framed [.bench, .qm, .acq] ticketKeys t := by
  intro x t
  obtain ⟨a, hacq, ha⟩ := (s.dev.consumedEntry qm).takeIn_eq x
  have ht : t = { s with dev := { (s.dev.consumedEntry qm).storeTicket x with acq := a } } := by
    rw [← ha]
    show State.takeTicket _ _ _ _ _ _ _ = _
    rw [State.takeTicket_eq, State.admitStatus_consumedEntry]
    rfl
  rw [ht]
  refine ⟨rfl, rfl, rfl, KMap.at_put_same _ _ _ _, rfl, ?_, hacq, .withDev ?_⟩
  · exact (Dev.ticketsOut_benchStatus _).trans (congrArg (· % _) List.length_append)
  · exact (((s.dev.consumedEntry_framed qm).ofBench (by simp)).benchStatus (List.Subset.refl _)).ofAcq (by simp)

/-- The one presented ticket, where there is room for it: its entry is consumed, of a SUBMIT queue by an advance of HEAD, and it is checked with that
queue's class and grant. -/
theorem State.ticketAdmit_eq {s : State} {q : Nat} {ws : List Nat} (hoffered : s.dev.bench.offered = [(q, ws)])
    (hroom : s.dev.admitWaits ({ ws := ws } : TicketWords).destQ = false) :
    let c := s.dev.qctx q
    let head := if isWork q then 0 else (c.head + 1) % 2 ^ 32
    let qm := if isWork q then s.dev.qm else { s.dev.qm with ctx := KMap.put s.dev.qm.ctx q { c with head := head } }
    s.ticketAdmit = (s.onDev fun d => d.consumedEntry qm).takeTicket ws q head (if isWork q then 0 else c.cls) (if isWork q then 0 else c.grant)
      true := by
  unfold State.ticketAdmit
  simp only [hoffered, List.find?_cons, hroom, Bool.not_false]
  simp only [State.onDev, hoffered, List.filter_cons, List.filter_nil, bne_self_eq_false]
  by_cases hwork : isWork q = true
  · simp only [hwork, if_true]
    rfl
  · simp only [hwork]
    rfl

theorem execTicketAdmit_effect (s : State) (q : Nat) (ws : List Nat) (hon : s.dev.fore.off = false) (hoffered : s.dev.bench.offered = [(q, ws)])
    (hroom : s.dev.admitWaits ({ ws := ws } : TicketWords).destQ = false) :
    let c := s.dev.qctx q
    let head := if isWork q then 0 else (c.head + 1) % 2 ^ 32
    let st := if isWork q then s.admitStatus { ws := ws } 0 0 true else s.admitStatus { ws := ws } c.cls c.grant true
    let x := s.dev.admitted ws q head st
    ∃ t, exec .ticketAdmit s = .next t ∧ t.dev.bench.tickets = s.dev.bench.tickets ++ [x] ∧ t.dev.bench.offered = [] ∧
      t.dev.bench.nextId = s.dev.bench.nextId + 1 ∧ KMap.at t.dev.bench.nextSeq 0 x.stream = x.seq + 1 ∧
      t.dev.qm = (if isWork q then s.dev.qm else { s.dev.qm with ctx := KMap.put s.dev.qm.ctx q { c with head := head } }) ∧
      t.dev.fget Reg.benchg_TICKETS_OUT = (s.dev.bench.tickets.length + 1) % 2 ^ Reg.benchg_TICKETS_OUT.width ∧
      (x.holds = [] → t.dev.acq = s.dev.acq) ∧ s.Framed [.bench, .qm, .acq] ticketKeys t := by
  intro c head st x
  have hst : s.admitStatus { ws := ws } (if isWork q then 0 else c.cls) (if isWork q then 0 else c.grant) true = st := by
    unfold st
    split <;> rfl
  have hadmitted := s.takeTicket_consumedEntry
    (if isWork q then s.dev.qm else { s.dev.qm with ctx := KMap.put s.dev.qm.ctx q { c with head := head } }) ws q head
    (if isWork q then 0 else c.cls) (if isWork q then 0 else c.grant)
  rw [hst, ← State.ticketAdmit_eq hoffered hroom] at hadmitted
  obtain ⟨htickets, hnone, hid, hseq, hqm, hcount, hacq, hframe⟩ := hadmitted
  exact ⟨s.ticketAdmit.alertNote, congrArg Host.Outcome.next (State.live_on hon _), htickets, hnone, hid, hseq, hqm, hcount, hacq,
    hframe.alertNote⟩

/-! ### TICKET_DISPATCH (R284, R299) -/

theorem Dev.deque_setDeque (d : Dev) (j : Nat) (ids : List Nat) (k : Nat) :
    (d.setDeque j ids).deque k = if k = j then ids else d.deque k := KMap.at_put _ _ _ _ _

/-- The shortest deque is one of those looked at. -/
theorem Dev.shortest_mem {d : Dev} {js : List Nat} {j : Nat} (h : d.shortest js = some j) : j ∈ js := by
  induction js generalizing j with
  | nil => cases h
  | cons a as ih =>
    unfold Dev.shortest at h
    cases hrest : d.shortest as with
    | none =>
      rw [hrest] at h
      exact Option.some.inj h ▸ List.mem_cons_self
    | some k =>
      simp only [hrest] at h
      split at h
      · exact Option.some.inj h ▸ List.mem_cons_of_mem _ (ih hrest)
      · exact Option.some.inj h ▸ List.mem_cons_self

theorem Dev.shortest_congr {d d' : Dev} (h : ∀ k, d'.deque k = d.deque k) (js : List Nat) : d'.shortest js = d.shortest js := by
  induction js with
  | nil => rfl
  | cons a as ih => simp only [Dev.shortest, ih, h]

/-- A fold that keeps what it has, or takes what it meets, ends with one of them. -/
theorem foldl_picks {α : Type} {f : Option α → α → Option α} (hf : ∀ o b, f o b = o ∨ f o b = some b) {l : List α} {o : Option α} {a : α}
    (h : l.foldl f o = some a) : o = some a ∨ a ∈ l := by
  induction l generalizing o with
  | nil => exact .inl h
  | cons b bs ih =>
    rcases ih h with hfirst | hrest
    · rcases hf o b with hkept | htaken
      · exact .inl (hkept.symm.trans hfirst)
      · exact .inr (Option.some.inj (htaken.symm.trans hfirst) ▸ List.mem_cons_self)
    · exact .inr (List.mem_cons_of_mem _ hrest)

/-- The bench chosen for a ticket takes dispatches, and the ticket may run on it. -/
theorem Dev.chooseBench_spec {d : Dev} {t : TicketWords} {b : Nat} (h : d.chooseBench t = some b) :
    b < 32 ∧ d.benchTakes b = true ∧ d.mayRun t b = true := by
  have hmem := (foldl_picks (fun o a => ?_) h).resolve_left (Option.some_ne_none b).symm
  case refine_1 =>
    cases o with
    | none => exact .inr rfl
    | some c =>
      by_cases hmore : d.room c < d.room a
      · exact .inr (if_pos hmore)
      · exact .inl (if_neg hmore)
  simp only [List.mem_filter, List.mem_map, List.mem_range, Bool.and_eq_true] at hmem
  obtain ⟨⟨n, -, rfl⟩, ⟨htakes, hmay⟩, -⟩ := hmem
  exact ⟨Nat.mod_lt _ (by decide), htakes, hmay⟩

/-- The ticket to dispatch next waits in the store, and is not done. -/
theorem Dev.nextTicket_spec {d : Dev} {x : Ticket} (h : d.nextTicket = some x) : x.place = .store ∧ x.out = none := by
  have hpool := List.mem_of_find?_eq_some h
  have hmem : x ∈ d.bench.tickets.filter d.ticketEligible := by
    split at hpool
    · exact hpool
    · exact (List.mem_filter.mp hpool).1
  have heligible := (List.mem_filter.mp hmem).2
  simp only [Dev.ticketEligible, Bool.and_eq_true, beq_iff_eq, Option.isNone_iff_eq_none] at heligible
  exact heligible.1

/-- A journeyman of a bench whose deque has room. -/
theorem Dev.mem_openJms {d : Dev} {b j : Nat} (h : j ∈ d.openJms b) :
    j / 16 = b ∧ d.jmRetired j = false ∧ (d.deque j).length < 64 := by
  simp only [Dev.openJms, Dev.benchJms, List.mem_filter, List.mem_map, List.mem_range, decide_eq_true_eq, Bool.not_eq_true'] at h
  obtain ⟨⟨⟨n, hn, rfl⟩, hretired⟩, hroom⟩ := h
  exact ⟨by omega, hretired, hroom⟩

/-- The device with its turn at an order stream. -/
def Dev.servingStream (d : Dev) (q : Nat) : Dev := { d with bench.lastStream := q }

theorem Dev.chooseBench_servingStream (d : Dev) (q : Nat) (t : TicketWords) : (d.servingStream q).chooseBench t = d.chooseBench t := rfl

theorem Dev.shortest_servingStream (d : Dev) (q : Nat) (js : List Nat) : (d.servingStream q).shortest js = d.shortest js :=
  Dev.shortest_congr (d := d) (d' := d.servingStream q) (fun _ => rfl) js

/-- The device with ticket x at the near end of deque j, chosen on bench b (R299). -/
def Dev.dispatched (d : Dev) (x : Ticket) (b j : Nat) : Dev :=
  ({ d.servingStream x.stream with bench.lastBench := b }.setDeque j (d.deque j ++ [x.id])).setTicket { x with place := .deque j }

theorem ticketDispatch_idle {d : Dev} (h : d.flag Reg.benchg_DISPATCH_EN = false ∨ d.nextTicket = none) : ticketDispatch d = d := by
  unfold ticketDispatch
  rcases h with hoff | hnone
  · simp [hoff]
  · simp [hnone]

theorem ticketDispatch_eq {d : Dev} {x : Ticket} {b j : Nat} (hen : d.flag Reg.benchg_DISPATCH_EN = true) (hnext : d.nextTicket = some x)
    (hbench : d.chooseBench x.t = some b) (hdeque : d.shortest (d.openJms b) = some j) :
    ticketDispatch d = (d.dispatched x b j).notePin x.t := by
  have hbench' := (d.chooseBench_servingStream x.stream x.t).trans hbench
  have hdeque' := (d.shortest_servingStream x.stream _).trans hdeque
  unfold ticketDispatch
  rw [if_neg (by simp [hen]), hnext]
  dsimp only
  split
  · next hnone => exact absurd (hnone.symm.trans hbench') nofun
  · next b' hsome =>
    obtain rfl : b' = b := Option.some.inj (hsome.symm.trans hbench')
    split
    · next hnone => exact absurd (hnone.symm.trans hdeque') nofun
    · next j' hsome' =>
      obtain rfl : j' = j := Option.some.inj (hsome'.symm.trans hdeque')
      rfl

/-- What a dispatch writes beside the events. -/
def dispatchKeys (j : Nat) : List Nat := Reg.bench_jm_DEQUE_LEN.key (j / 16 * 256 + j % 16) :: ticketKeys

theorem Dev.dispatched_framed (d : Dev) (x : Ticket) (b j : Nat) : Dev.Framed [.bench] (dispatchKeys j) d (d.dispatched x b j) :=
  (((((Dev.Framed.refl d).ofBench (by simp)).ofBench (by simp)).fset (by simp [dispatchKeys])).ofBench (by simp)).benchStatus
    fun _ hk => List.mem_cons_of_mem _ hk

/-- Whether a ticket's mask is broken depends on the masks and on the benches in service alone (R301). -/
theorem Dev.pinBroken_framed {d d' : Dev} {ps : List Part} {ks : List Nat} (h : Dev.Framed ps ks d d')
    (hpin : ∀ r < 12, Reg.benchg_PIN.key r ∉ ks) (hservice : Reg.benchg_IN_SERVICE.key 0 ∉ ks) (t : TicketWords) :
    d'.pinBroken t = d.pinBroken t := by
  have hmask : d'.pinMask t = d.pinMask t := by
    unfold Dev.pinMask
    split
    · next hc =>
      simp only [Bool.and_eq_true, decide_eq_true_eq] at hc
      exact Dev.fget_congr _ _ (h.regs _ (hpin _ hc.2))
    · rfl
  unfold Dev.pinBroken
  rw [hmask, Dev.fget_congr Reg.benchg_IN_SERVICE 0 (h.regs _ hservice)]

theorem Dev.dispatched_pinBroken (d : Dev) (x : Ticket) (b j : Nat) (t : TicketWords) :
    (d.dispatched x b j).pinBroken t = d.pinBroken t := by
  refine Dev.pinBroken_framed (d.dispatched_framed x b j) (fun r hr => ?_) ?_ t
  all_goals
    simp only [dispatchKeys, ticketKeys, List.mem_cons, List.not_mem_nil, or_false, Field.key, Reg.benchg_PIN, Reg.benchg_IN_SERVICE,
      Reg.bench_jm_DEQUE_LEN, Reg.benchg_TICKETS_OUT, Reg.benchg_ORDER_ACTIVE, Reg.benchg_SLOTS_FREE]
    omega

theorem Dev.notePin_bench (d : Dev) (t : TicketWords) : (d.notePin t).bench = d.bench := by
  unfold Dev.notePin
  split
  · exact (d.raise_ev _ _).bench
  · rfl

theorem Dev.Framed.notePin {ps : List Part} {ks : List Nat} {d e : Dev} (h : Dev.Framed ps ks d e) (t : TicketWords)
    (hparts : e.pinBroken t = true → eventParts ⊆ ps) (hkeys : e.pinBroken t = true → eventKeys 29 ⊆ ks) :
    Dev.Framed ps ks d (e.notePin t) :=
  Dev.Framed.ofIf _ (fun hbroken => h.raise (hparts hbroken) (hkeys hbroken)) fun _ => h

theorem Dev.notePin_raised {d : Dev} {t : TicketWords} (h : d.pinBroken t = true) : (d.notePin t).Raised 29 Ev.benchg_PIN_BROKEN := by
  unfold Dev.notePin
  rw [if_pos h]
  exact d.raise_raised _ _ (by decide)

/-- Dispatch of an eligible ticket (R299, R301). -/
theorem ticketDispatch_effect {d : Dev} {x : Ticket} {b j : Nat} (hen : d.flag Reg.benchg_DISPATCH_EN = true) (hnext : d.nextTicket = some x)
    (hbench : d.chooseBench x.t = some b) (hdeque : d.shortest (d.openJms b) = some j) :
    let e := ticketDispatch d
    e.deque j = d.deque j ++ [x.id] ∧ (∀ k, k ≠ j → e.deque k = d.deque k) ∧
      e.bench.tickets = (d.bench.tickets.map fun y => if y.id = x.id then { x with place := .deque j } else y) ∧
      (d.pinBroken x.t = true → e.Raised 29 Ev.benchg_PIN_BROKEN) ∧
      Dev.Framed (.bench :: if d.pinBroken x.t then eventParts else []) (dispatchKeys j ++ if d.pinBroken x.t then eventKeys 29 else []) d e := by
  have hdeques (k : Nat) : ((d.dispatched x b j).notePin x.t).deque k = if k = j then d.deque j ++ [x.id] else d.deque k := by
    unfold Dev.deque
    rw [Dev.notePin_bench]
    exact Dev.deque_setDeque _ _ _ _
  have hbroken := d.dispatched_pinBroken x b j x.t
  rw [ticketDispatch_eq hen hnext hbench hdeque]
  refine ⟨(hdeques j).trans (if_pos rfl), fun k hk => (hdeques k).trans (if_neg hk), ?_, fun h => Dev.notePin_raised (hbroken.trans h), ?_⟩
  · rw [Dev.notePin_bench]
    rfl
  · refine ((d.dispatched_framed x b j).mono ?_ (List.subset_append_left _ _)).notePin x.t (fun h => ?_) fun h => ?_
    · simp
    · rw [if_pos (hbroken.symm.trans h)]
      exact List.subset_cons_self _ _
    · rw [if_pos (hbroken.symm.trans h)]
      exact List.subset_append_right _ _

theorem execTicketDispatch_effect (s : State) (hon : s.dev.fore.off = false) :
    ∃ t, exec .ticketDispatch s = .next t ∧
      (s.dev.flag Reg.benchg_DISPATCH_EN = false ∨ s.dev.nextTicket = none → s.Framed [] [] t) ∧
      (∀ x b j, s.dev.flag Reg.benchg_DISPATCH_EN = true → s.dev.nextTicket = some x → s.dev.chooseBench x.t = some b →
        s.dev.shortest (s.dev.openJms b) = some j →
        x.place = .store ∧ x.out = none ∧ s.dev.benchTakes b = true ∧ s.dev.mayRun x.t b = true ∧ j / 16 = b ∧ s.dev.jmRetired j = false ∧
          (s.dev.deque j).length < 64 ∧
        t.dev.deque j = s.dev.deque j ++ [x.id] ∧ (∀ k, k ≠ j → t.dev.deque k = s.dev.deque k) ∧
        t.dev.bench.tickets = (s.dev.bench.tickets.map fun y => if y.id = x.id then { x with place := .deque j } else y) ∧
        (s.dev.pinBroken x.t = true → t.dev.Raised 29 Ev.benchg_PIN_BROKEN) ∧
        s.Framed (.bench :: if s.dev.pinBroken x.t then eventParts else []) (dispatchKeys j ++ if s.dev.pinBroken x.t then eventKeys 29 else [])
          t) := by
  refine ⟨_, congrArg Host.Outcome.next (State.live_on hon _), fun hidle => ?_, fun x b j hen hnext hbench hdeque => ?_⟩
  · refine State.Framed.alertNote (.onDev ?_)
    rw [ticketDispatch_idle hidle]
    exact .refl _
  · obtain ⟨hplace, hout⟩ := Dev.nextTicket_spec hnext
    obtain ⟨-, htakes, hmay⟩ := Dev.chooseBench_spec hbench
    obtain ⟨hjm, hretired, hroom⟩ := Dev.mem_openJms (Dev.shortest_mem hdeque)
    obtain ⟨hnear, hothers, htickets, hraised, hframe⟩ := ticketDispatch_effect hen hnext hbench hdeque
    exact ⟨hplace, hout, htakes, hmay, hjm, hretired, hroom, hnear, hothers, htickets, hraised, State.Framed.alertNote (.onDev hframe)⟩

end Sys2Proof.Machine
end

section
open Sys2Proof Sys2Proof.Machine

/-- Settles O42: presentation, admission and dispatch, each by its lemma. -/
theorem ticketsAdmittedAndDispatched : Obligations.TicketsAdmittedAndDispatched :=
  ⟨execTicket_effect, execTicketAdmit_effect, execTicketDispatch_effect⟩
end

section
/-!
TicketAttemptsAndCommits and EntriesAndTransfers, refuted.
-/

namespace Sys2Proof.Machine

/-! ### What the statements leave out

A completion is a write to the host, which brings the link out of L1 (R319, R369). -/

/-- The admin queues of a device whose link is up. An entry waits in the SUBMIT queue. -/
def State.entryWaits : State :=
  { State.reset with
    dev := (({
      qm := { ctx := [(0, { typ := 1, cls := 1, log2 := 4, state := 1, tail := 1, cq := 1 }), (1, { typ := 2, cls := 1, log2 := 4, state := 1 })] }
      } : Dev).fbit Reg.pcie_BME true).fbit Reg.pcie_DL_UP true }

/-- A ticket with TAG 1 and DEST_Q 1 that has a reserved bit set, in word 15. -/
def reservedTicket : List Word := [0x10080, 0, 0, 0, 0, 1, 0, 0, 0, 0, 0, 0, 0, 0, 0, 1]

/-- The ticket is presented and admitted, which fails: it is done with status 1 (Table 11.2). The link idles and enters L1 before the ticket commits. Its
completion goes out to the host and brings the link out of L1. -/
theorem inL1After_ticketCommit_reservedTicket :
    ∃ s t u x o, exec (.ticket 0 reservedTicket) .entryWaits = .next s ∧ exec .ticketAdmit s = .next t ∧ exec (.l1Entry false) t = .next u ∧
      u.dev.fore.off = false ∧ u.dev.ticket 0 = some x ∧ x.out = some o ∧ o.status = 1 ∧ u.dev.committable x = true ∧ x.place = .store ∧
      x.holds = [] ∧ x.made = 0 ∧ x.t.noCompletion = false ∧ (u.dev.qctx x.t.destQ).typ = 2 ∧ u.dev.qroom x.t.destQ 1 = true ∧
      u.dev.holding = false ∧ u.dev.fget Reg.pcie_IN_L1 = 1 ∧ fieldAfter Reg.pcie_IN_L1 0 (exec (.ticketCommit 0) u) = some 0 :=
  ⟨_, _, _, _, _, rfl, rfl, rfl, rfl, rfl, rfl, by decide⟩

/-- The entry of a RESYNC. -/
def resyncEntry : List Word := [0x41]

theorem takesCmd_resyncEntry : State.entryInL1.dev.TakesCmd 0 0x41 (entryWords resyncEntry) := by
  unfold Dev.TakesCmd
  decide

/-- No hold is on: the RESYNC completes with status 1 (R367), and its completion brings the link out of L1. -/
theorem inL1After_resync_entryInL1 :
    State.entryInL1.dev.fget Reg.pcie_IN_L1 = 1 ∧ fieldAfter Reg.pcie_IN_L1 0 (exec (.resync 0 resyncEntry) .entryInL1) = some 0 := by
  decide

end Sys2Proof.Machine
end

section
open Sys2Proof Sys2Proof.Machine

/-- Refutes O43: the statement's frame of a commit holds every field but those that follow the ticket store. Where the link has entered L1 after the
ticket was done, the completion's write to the host brings it out, and IN_L1 goes from 1 to 0. -/
theorem not_ticketAttemptsAndCommits : ¬ Obligations.TicketAttemptsAndCommits := by
  rintro ⟨-, hcommit, -⟩
  obtain ⟨-, -, u, x, o, -, -, -, hon, hticket, hout, hstatus, hnext, hplace, hholds, hmade, hposts, htyp, hroom, hopen, hasleep, hawake⟩ :=
    inL1After_ticketCommit_reservedTicket
  obtain ⟨t, ht, hposted, -⟩ := hcommit u 0 x o hon hticket hout hnext hplace hholds hmade hposts htyp hroom hopen
  obtain ⟨-, hframe⟩ := hposted (.inl (by simp [hstatus]))
  have hkept : fieldAfter Reg.pcie_IN_L1 0 (.next t) = some 1 := (fieldAfter_framed hframe (by decide)).trans (congrArg some hasleep)
  exact absurd (hkept.symm.trans ((congrArg (fieldAfter Reg.pcie_IN_L1 0) ht).symm.trans hawake)) (by decide)

/-- Refutes O49: the statement's frame of a completed command holds every field but CMDS_OUT. Where the link has entered L1 after the doorbell, the
completion's write to the host brings it out, and IN_L1 goes from 1 to 0. -/
theorem not_entriesAndTransfers : ¬ Obligations.EntriesAndTransfers := by
  rintro ⟨-, -, -, -, hresync, -⟩
  obtain ⟨t, ht, -, hframe⟩ := hresync .entryInL1 0 resyncEntry rfl takesCmd_resyncEntry
  obtain ⟨hasleep, hawake⟩ := inL1After_resync_entryInL1
  have hkept : fieldAfter Reg.pcie_IN_L1 0 (.next t) = some 1 := (fieldAfter_framed hframe (by decide)).trans (congrArg some hasleep)
  exact absurd (hkept.symm.trans ((congrArg (fieldAfter Reg.pcie_IN_L1 0) ht).symm.trans hawake)) (by decide)
end
